-- ==== Sys2Proof/Word.lean ====
section
/-! DEFINITION. The word types of the device: 32-bit register words (R9, R13), bytes, angles (R6), the 40-bit
loop-engine accumulator (R5) and the 64-bit time counter (R418). -/

namespace Sys2Proof

/-- A register word, an address or a bus word. -/
abbrev Word := BitVec 32

/-- One byte of memory. -/
abbrev Byte := BitVec 8

/-- A 16-bit sample or Q1.15 word. -/
abbrev Half := BitVec 16

end Sys2Proof

namespace Sys2Proof.Machine

/-! What the environment says in an event's operand. -/

/-- The code and range flags of an input (R202, R214): the input as a code, or below 0 V, or above V_REF. -/
inductive Analog where
  | below | code (c : BitVec 14) | above
  deriving DecidableEq, Repr

/-- What the comparator or the voter finds at a retirement (R350, R358): the environment's own statement, since a
difference arises from a fault of the hardware. -/
inductive Vote where
  /-- Every copy agrees. -/
  | agree
  /-- The copies of a pair differ, or no two of a triad's copies agree. -/
  | differ
  /-- One triad copy differs from the others. -/
  | odd (j : Fin 3)
  deriving DecidableEq, Repr

/-- A register of a datapath that a debugger writes (R247, R368), with its new value. -/
inductive DbgReg where
  | v (i : Fin 16) (x : Half)
  | acc (i : Fin 4) (x : BitVec 40)
  | flags (z n v l : Bool)
  | pc (x : BitVec 14)
  deriving DecidableEq, Repr

/-- The header of a received Vernier frame (R483) and the port it came through. -/
structure VHdr where
  port : Fin 2
  src : BitVec 5
  /-- 0 to 31, or 0xFF for all. -/
  dst : BitVec 8
  ringB : Bool
  wrapped : Bool
  hops : BitVec 8
  seq : Word
  deriving DecidableEq, Repr

/-- Why a Vernier frame or code group is discarded (R499). -/
inductive VBad where
  | code | crc | format | hops | seq
  deriving DecidableEq, Repr

/-- Where a host access goes (R506, R508): an offset of a PCI Express BAR, or a device address over the xSPI target. -/
inductive HostAddr where
  | bar0 (ofs : BitVec 24)
  | bar2 (ofs : BitVec 26)
  | xspi (a : Word)
  deriving DecidableEq, Repr

/-- An enable field (R556): CTRL.EN of the page with a page index (R510), SCTRL.EN of a stage, DCFG.EN of a drive. -/
inductive EnField where
  | ctrl (page : BitVec 8)
  | sctrl (k : BitVec 4)
  | dcfg (k : BitVec 4)
  deriving DecidableEq, Repr

/-- The upper word that a read of a time register latches (R418, R533). -/
inductive TimeReg where
  | counter
  | gptp (p : Fin 2)
  deriving DecidableEq, Repr

/-- What a boot pass meets outside the model (R452 to R458): the checks of hardware and of services, and the measured
times. -/
structure BootObs where
  /-- The level of the TEST_EN pin (R538). -/
  testEn : Bool
  /-- The ROM digest agrees; the flash can be read. -/
  romOk : Bool
  flashOk : Bool
  /-- Time from the start of REF_EXT to ready in 100 µs; none when it never becomes ready in the pass. -/
  xoReady : Option (BitVec 16)
  /-- Highest die diode in 1/16 °C, signed. -/
  diode : BitVec 16
  /-- Fresh training passes; the stored set passes its check; worst read-eye margin in ps. -/
  trainOk : Bool
  storedOk : Bool
  margin : BitVec 24
  /-- Targets whose signature differs, and the signatures (R441, R443). -/
  bist : BitVec 16
  sigs : Vector (BitVec 32) 16
  /-- The in-field programme verifies, and its version (R439). -/
  progOk : Bool
  progVersion : BitVec 16
  /-- Gnomon's self-test and handshake; the patch verifies; patch level. -/
  gnOk : Bool
  patchOk : Bool
  patchLevel : BitVec 15
  /-- The services start; library programs loaded when one of them does not. -/
  almOk : Bool
  libs : BitVec 8
  /-- The host link comes up within 1,000 ms; time to link up in ms; PCI Express speed and width codes. -/
  linkUp : Bool
  linkMs : BitVec 16
  speed : BitVec 2
  width : BitVec 2
  romVersion : BitVec 16
  /-- End of each step from the start of the pass, in 100 µs. -/
  elapsed : Vector (BitVec 16) 9
  deriving DecidableEq, Repr

end Sys2Proof.Machine
end

