-- ==== Sys2Proof/Syntax.lean ====
section
/-! DEFINITION. The commands of the block: one constructor per row of the opcode table. `dt` is the time in TCLK that
passes from the command before until the event (log entry 8). The remaining operands name the instance and say what the
environment presents; a `HostAddr` says which interface carries a host access. -/

namespace Sys2Proof

open Machine in
/-- The rows of the opcode table. -/
inductive Instr where
  -- common rows of the register pages (R11 to R25, R371)
  /-- REGISTER_WRITE (R11). A host write to a register field that has no row of its own acts according to the field's access type. -/
  | registerWrite (at_ : HostAddr) (be : BitVec 4) (w : Word)
  /-- UNMAPPED_ACCESS (R9). A host access to an unmapped device address reads 0, ignores a write and stores HOST_UNMAPPED. -/
  | unmappedAccess (at_ : HostAddr) (wr : Option (BitVec 4 × Word))
  /-- ENABLE_WRITE (R556). Writing 1 to an enable field of a disabled block runs the block's enable check; the enable either takes effect or is refused. -/
  | enableWrite (f : EnField)
  /-- DISABLE_WRITE (R556). Writing 0 to an enable field disables the block, for example stopping a stage counter and setting its legs to OFF. -/
  | disableWrite (f : EnField)
  /-- IRQ_FLAG_CLEAR (R17). Writing 1 to a bit of IRQ_FLAG clears that bit in IRQ_RAW, unless the event recurs in the same cycle. -/
  | irqFlagClear (p : BitVec 8) (mask again : Word)
  /-- IRQ_FORCE (R17). Writing 1 to a bit of IRQ_FORCE sets the bit in IRQ_RAW as the event would, without any action other than the interrupt. -/
  | irqForce (p : BitVec 8) (mask : Word)
  /-- IRQ_EN_WRITE (R18). Enabling a bit whose IRQ_RAW bit is already set raises the interrupt at once. -/
  | irqEnWrite (p : BitVec 8) (w : Word)
  /-- ERRCODE_CLR (R21). Writing ERRCODE.CLR clears CODE, ORIGIN and LOST. -/
  | errcodeClr (p : BitVec 8) (again : Option (BitVec 16 × BitVec 8))
  /-- LOCK_SET (R23). Writing LOCK.LOCKED makes every RWL field of the page read-only until a device reset. -/
  | lockSet (p : BitVec 8)
  /-- COMMIT_REQ (R25). A COMMIT write with REQ = 1 arms the commit of the block's commit group with the WHEN of that write. -/
  | commitReq (p : BitVec 8) (when : BitVec 2)
  /-- COMMIT_LOAD (R24). At the armed boundary every RWS field of the commit group loads in one TCLK. -/
  | commitLoad (dt : Nat) (g : Option (Fin 16))
  /-- PAIRING_WINDOW_CLOSE (R371). When the 1,024-TCLK pairing window of a duplicate-image word closes with MISMATCH still set, the mismatch becomes reactive. -/
  | pairingWindowClose (dt : Nat)
  -- the Almanac and self-test slices (R51 to R89, R355 to R357, R444, R445)
  /-- CHECK (R80). The ADM_CMD CHECK command runs check groups 1 to 9 and writes a placement record without applying the set. -/
  | check
  /-- ADMIT (R80). The ADM_CMD ADMIT command copies and checks a declaration set, then releases the old set and applies the new one. -/
  | admitSet
  /-- RELEASE (R81). The ADM_CMD RELEASE command resets every OWNER and RWA field of the admitted set and frees its resources. -/
  | release
  /-- ADM_CMD_RESERVED (R89). A reserved ADM_CMD code is ignored and stores ADM_CMD_CODE. -/
  | admCmdReserved (code : BitVec 3)
  /-- ADMISSION_COMPLETE (R54). The Almanac finishes its checks and, for ADMIT, the apply steps, then raises DONE or REFUSED. -/
  | admissionComplete (dt : Nat)
  /-- SLICE_TIME_0 (R355). At the first instant after the scheduled slice start at which Pc and Fc are idle, the roles rotate and the Fc contexts move to h(c). -/
  | sliceTime0 (dt : Nat) (c : Fin 4) (recovery : Bool)
  /-- SLICE_SKIP (R357). When the next scheduled slice start arrives before time 0, the slice is skipped and SKIP_CNT is incremented. -/
  | sliceSkip (dt : Nat) (c : Fin 4)
  /-- SLICE_BIST_ENTRY (R444). At 2 µs after time 0 the datapath under test is isolated and starts its BIST segment. -/
  | sliceBistEntry (dt : Nat) (c : Fin 4)
  /-- SLICE_END (R445). At 52 µs the last pattern is captured and the signature is compared; a failure retires the datapath. -/
  | sliceEnd (dt : Nat) (c : Fin 4) (sig : Word) (pass : Bool)
  /-- SLICE_HANDBACK (R76). At 54 µs the Fc contexts dispatch on their own finder again. -/
  | sliceHandback (dt : Nat) (c : Fin 4)
  /-- BACKGROUND_PROMOTION (R79). A background request that has waited for its staleness bound is promoted to the urgent band for one service. -/
  | backgroundPromotion (dt : Nat) (id : BitVec 8)
  -- position and speed feedback (R94 to R122)
  /-- QUADRATURE_COUNT (R94). A filtered sample in which exactly one of A and B changes counts +1 or −1 and updates COUNT and TURN_POS. -/
  | quadratureCount (dt : Nat) (n : Fin 8) (a b : Bool)
  /-- HALL_SECTOR_CHANGE (R97). A change of the Hall state counts ±1, or is illegal, and loads ANGLE with the boundary crossed. -/
  | hallSectorChange (dt : Nat) (n : Fin 8) (u v w : Bool)
  /-- INDEX_EVENT (R101). A rising edge of filtered Z captures O and E and applies the index check under IDX_POLICY. -/
  | indexEvent (dt : Nat) (n : Fin 8)
  /-- SET_COUNT (R99). A write of SET_COUNT loads COUNT, and in quadrature mode also TURN_POS, and references the interface. -/
  | setCount (n : Fin 8) (w : Word)
  /-- WINDOW (R105). At the end of each speed window, SPEED and SPD_STAT are loaded with QUAL, and WINDOW is raised. -/
  | window (dt : Nat) (n : Fin 8)
  /-- SNAP_TAKE (R107). SNAP.TAKE copies COUNT, ANGLE, SPEED and SPD_STAT into the snapshot registers in one TCLK. -/
  | snapTake (n : Fin 8)
  /-- PROBE_EDGE (R108). A selected filtered probe edge latches ANGLE, COUNT, SRC_OK and TIME of its source. -/
  | probeEdge (dt : Nat) (n : Fin 8) (rising : Bool)
  /-- PRB_CFG_WRITE (R109). A PRB_CFG write takes effect at once and clears both VALID bits. -/
  | prbCfgWrite (n : Fin 8) (w : Word)
  /-- PRB_REARM (R109). Writing 1 to a VALID bit of PRB_STAT re-arms that latch. -/
  | prbRearm (n : Fin 8) (w : Word)
  /-- ILL_CNT_CLR (R122). ILL_CNT.CLR clears the illegal-transition count. -/
  | illCntClr (n : Fin 8)
  /-- IDX_STAT_CLR (R122). IDX_STAT.CLR clears MISS_CNT. -/
  | idxStatClr (n : Fin 8)
  /-- RESOLVER_SAMPLE (R112). A demodulated sine and cosine sample pair advances the resolver tracking loop and checks its faults. -/
  | resolverSample (dt : Nat) (n : Fin 4)
  /-- SSI_REQUEST (R114). A periodic or stage-zero request starts an SSI frame, or is dropped when a frame or TM_MIN is still running. -/
  | ssiRequest (dt : Nat) (n : Fin 4) (dat : Bool)
  /-- SSI_FRAME (R115). A complete frame is decoded into ST and MT and is accepted or rejected. -/
  | ssiFrame (dt : Nat) (n : Fin 4) (w : Word)
  /-- SSI_TIMEOUT (R114). SSIn_DAT not returning high within TM_MAX discards the value and stores SSI_TIMEOUT. -/
  | ssiTimeout (dt : Nat) (n : Fin 4)
  /-- EMU_STEP (R118). When the gap count expires and the backlog is non-zero, one emulated quadrature step is emitted. -/
  | emuStep (dt : Nat) (m : Fin 4)
  -- the Ephemeris table and angle-domain scheduling (R123 to R149)
  /-- ENTRY_FIRE (R137). An Ephemeris entry whose angle θ̂ passes fires its LEG_EDGE, SAMPLE, LOOP or EVENT action. -/
  | entryFire (dt : Nat) (k : Fin 16)
  /-- EPH_LOAD (R135). LOAD with GO = 1 and a library chart number starts loading that chart into the idle bank, or is refused. -/
  | ephLoad (k : Fin 16) (chart : BitVec 16)
  /-- EPH_VALIDATE_IN_PLACE (R135). LOAD with CHART = 0xFFFF validates in place the first COUNT entries written into the idle bank. -/
  | ephValidateInPlace (k : Fin 16) (count : BitVec 11)
  /-- LOAD_DONE (R135). A load or in-place validation completes; a valid chart sets IDLE_LOADED. -/
  | loadDone (dt : Nat) (k : Fin 16)
  /-- EPH_WINDOW_WRITE (R135). A host write to the Ephemeris window is accepted into an idle bank, clearing IDLE_LOADED, or refused with EPH_ACTIVE_WRITE. -/
  | ephWindowWrite (j : Fin 6144) (whole : Bool) (w : Word)
  /-- SWITCHED (R142). When CROSS_ANGLE passes with a switch armed, the banks swap within the TCLK. -/
  | switched (dt : Nat) (k : Fin 16)
  /-- FALLBACK (R146). When a fallback condition holds in RUN, the stage stops firing and restarts on its fallback set. -/
  | fallback (dt : Nat) (k : Fin 16)
  /-- RETURN (R147). After the return conditions have held for RET_TIME, the stage returns to RUN at the next fallback zero event. -/
  | returnRun (dt : Nat) (k : Fin 16)
  /-- EPH_CNT_CLR (R149). CNT_CLR clears CNT_A and CNT_B of a stage. -/
  | ephCntClr (k : Fin 16)
  -- stage timebases, legs and current measurement (R150 to R177, R230 to R246)
  /-- ZERO_EVENT (R150). The TCLK after x = P − 1 is a zero event; the carrier restarts at x = 0 and the new period comes into force. -/
  | zeroEvent (dt : Nat) (k : Fin 16)
  /-- PERIOD_EVENT (R150). The counter reaches the period-event position of its counting mode. -/
  | periodEvent (dt : Nat) (k : Fin 16)
  /-- STAGE_COMPARE_EVENT (R164). Stage compare j raises the CMPj event once per carrier. -/
  | stageCompareEvent (dt : Nat) (k : Fin 16) (j : Fin 4)
  /-- SYNC_START (R153). A stage waiting in WAIT_SYNC starts its carrier at its source's zero event, or at the array epoch, with x = SYNC_OFS. -/
  | syncStart (dt : Nat) (k : Fin 16)
  /-- LEG_EDGE (R159). A leg's ON or OFF edge is taken at its position and changes the commanded level. -/
  | legEdge (dt : Nat) (n : Fin 64)
  /-- TURN_ON (R170). A pending turn-on takes effect when its dead time has elapsed, subject to the interlock. -/
  | turnOn (dt : Nat) (n : Fin 64) (high : Bool)
  /-- MIN_O_EXPIRY (R173). After MIN_O in level O, a three-level pair starts the second step of an H-to-L or L-to-H change. -/
  | minOExpiry (dt : Nat) (n : Fin 64)
  /-- OFF_GAP_EXPIRY (R173). OFF_GAP after an outer switch turns off, the inner switch of the pair turns off. -/
  | offGapExpiry (dt : Nat) (n : Fin 64)
  /-- DEBUG_HALT (R368). A debugger halt stops the main copy, with the checker following, and freezes blocks with HALT_FREEZE = 1. -/
  | debugHalt (dt : Nat) (c : Fin 4) (st : Fin 3)
  /-- FREEZE_END (R155). When a freeze ends, a frozen stage restarts at x = 0 with a zero event. -/
  | freezeEnd (dt : Nat)
  /-- STG_CNT_CLR (R176). STG CNT_CLR clears CLIP_CNT and SPLIT_CNT. -/
  | stgCntClr (k : Fin 16)
  /-- LEG_CNT_CLR (R177). LEG CNT_CLR clears CANCEL_CNT and LATE_CNT. -/
  | legCntClr (n : Fin 64)
  /-- RECON_TRIGGER (R237). The measurement unit triggers instant 0 at E0 and instant 1 at E1 of a RECON carrier. -/
  | reconTrigger (dt : Nat) (k : Fin 16) (second : Bool)
  /-- CM_PUBLISH (R238). In TCLK H + 70 a RECON stage reconstructs and publishes its current set with its status. -/
  | cmPublish (dt : Nat) (k : Fin 16)
  /-- INLINE_PUBLISH (R241). 3 TCLK after the last word of a star, an in-line stage publishes its phase currents. -/
  | inlinePublish (dt : Nat) (k : Fin 16)
  /-- CM_CNT_CLR (R246). CM_CNT_CLR clears SHIFT_CNT and NOWIN_CNT. -/
  | cmCntClr (k : Fin 16)
  -- converters and sigma-delta inputs (R202 to R229)
  /-- INJ_REQUEST (R210). A trigger of an injected entry reaches the group and queues a request on its converter. -/
  | injRequest (dt : Nat) (b : Fin 4) (r : Fin 32)
  /-- CONVERSION_START (R206). A free converter starts the highest-priority waiting request: injected, housekeeping or sequence. -/
  | conversionStart (dt : Nat) (b : Fin 4) (cv : Fin 3)
  /-- CONVERSION_RESULT (R203). In TCLK s + 52 the code is written to its result register and to the sample latch. -/
  | conversionResult (dt : Nat) (b : Fin 4) (cv : Fin 3) (x : Analog)
  /-- CAL_GO (R218). A CAL.GO write requests calibration of the converters in its mask. -/
  | calGo (b : Fin 4) (mask : BitVec 3)
  /-- CAL_START (R218). Calibration starts once no injected request is pending and the masked converters are free. -/
  | calStart (dt : Nat) (b : Fin 4)
  /-- CAL_DONE (R217). Calibration ends after t_CAL; READY or CAL_DONE is set and the held requests are served. -/
  | calDone (dt : Nat) (b : Fin 4)
  /-- CLAMP (R215). A pin's clamp detector becomes active and marks the group's conversions DIST. -/
  | clamp (dt : Nat) (b : Fin 4) (p : Fin 16)
  /-- SLOT_WRITE (R207). A SLOT write takes effect at the next start of the slot, or is refused while enabled with AVG or SHIFT above 8. -/
  | slotWrite (b : Fin 4) (j : Fin 16) (w : Word)
  /-- ADC_CNT_CLR (R228). ADCG CNT_CLR clears LATE_CNT and OVR_CNT. -/
  | adcCntClr (b : Fin 4)
  /-- SDI_WORD (R222). At a word boundary the sinc3 filter produces a DATA word with VALID, SAT and BAD. -/
  | sdiWord (dt : Nat) (n : Fin 24)
  /-- OC (R224). The sinc2 overcurrent flag becomes active and drives its trip source. -/
  | oc (dt : Nat) (n : Fin 24) (first second : BitVec 2)
  /-- STUCK (R225). STUCK_N identical samples set STREAM_FAULT and store SDI_STUCK. -/
  | stuck (dt : Nat) (n : Fin 24)
  /-- CLK_LOSS (R225). No received clock edge for 2 × DIV TCLK in format 1 sets CLK_LOSS and STREAM_FAULT. -/
  | clkLoss (dt : Nat) (n : Fin 24)
  /-- SDI_ERR_CLR (R229). ERR_CLR clears the ΣΔ error counters. -/
  | sdiErrClr (n : Fin 24)
  -- trips, interlocks and comparator tests (R178 to R201)
  /-- TRIP_SOURCE_ACTIVE (R182). A filtered, enabled and owned source becomes active: FLAG and TRIP set, and the targeted legs enter their trip state in the action TCLK. -/
  | tripSourceActive (dt : Nat) (j : Fin 168) (x : Int) (held : Nat)
  /-- TRIP_SOURCE_INACTIVE (R187). A filtered source becomes inactive; a cycle-by-cycle trip awaits its release zero event. -/
  | tripSourceInactive (dt : Nat) (j : Fin 168) (x : Int) (held : Nat)
  /-- TRIP_RELEASE (R189). At the release zero event, a leg with no unreleased trip moves to its commanded level. -/
  | tripRelease (dt : Nat) (k : Fin 16)
  /-- FLAG_CLEAR (R188). A W1C write to FLAGj clears trip flags, unless the source is still active or is GNOMON. -/
  | flagClear (j : Fin 6) (mask : Word)
  /-- TRIP_REQ (R178). A TRIP_REQ write activates the HOST source for the named stages. -/
  | tripReq (sel : BitVec 2) (stages : BitVec 16)
  /-- INTLK_CLR (R193). INTLK_CLR clears a leg's interlock fault when the leg's stage is disabled, and is refused otherwise. -/
  | intlkClr (n : Fin 64)
  /-- CRC_CHECK (R194). Every 1 ms after lock, the CRC of SRC_CFG is compared with CFG_CRC_REF, and CRC_FAIL is updated. -/
  | crcCheck (dt : Nat)
  /-- COMPARATOR_TEST_START (R195). Each INTERVAL ÷ 16 the next comparator's self-test starts with the steps of the spare. -/
  | comparatorTestStart (dt : Nat) (b : Fin 4)
  /-- COMPARATOR_TEST_STEP (R195). A timed step of a comparator test loads, joins, steps or releases the spare or the comparator. -/
  | comparatorTestStep (dt : Nat) (b : Fin 4)
  /-- COMPARATOR_TEST_VERDICT (R196). At the end of a test, the comparator passes, fails, or is inconclusive. -/
  | comparatorTestVerdict (dt : Nat) (b : Fin 4) (spare comp : BitVec 4)
  -- loop engines: jobs and instructions (R247 to R288)
  /-- JOB_RELEASE (R251). L_in after its trigger, a loop's job is released at the next ACLK edge. -/
  | jobRelease (dt : Nat)
  /-- DISPATCH (R252). A free stream dispatches its highest-ranked ready job: it latches the bank, takes the input snapshot and clears the registers. -/
  | dispatch (dt : Nat) (c : Fin 4) (st : Fin 3)
  /-- NOP (R270). Does nothing. -/
  | nop (dt : Nat) (c : Fin 4) (st : Fin 3) (v : Vote)
  /-- LDI (R270). Loads an immediate into Vd. -/
  | ldi (dt : Nat) (c : Fin 4) (st : Fin 3) (v : Vote)
  /-- MOV (R270). Copies Va to Vd. -/
  | mov (dt : Nat) (c : Fin 4) (st : Fin 3) (v : Vote)
  /-- ADD (R265). Adds with saturation, or with wrap in class A. -/
  | add (dt : Nat) (c : Fin 4) (st : Fin 3) (v : Vote)
  /-- SUB (R265). Subtracts with saturation, or with wrap in class A. -/
  | sub (dt : Nat) (c : Fin 4) (st : Fin 3) (v : Vote)
  /-- NEG (R265). Negates Va. -/
  | neg (dt : Nat) (c : Fin 4) (st : Fin 3) (v : Vote)
  /-- ABS (R265). Takes the absolute value of Va. -/
  | abs (dt : Nat) (c : Fin 4) (st : Fin 3) (v : Vote)
  /-- MIN (R270). Takes the minimum of Va and Vb. -/
  | min (dt : Nat) (c : Fin 4) (st : Fin 3) (v : Vote)
  /-- MAX (R270). Takes the maximum of Va and Vb. -/
  | max (dt : Nat) (c : Fin 4) (st : Fin 3) (v : Vote)
  /-- MUL (R270). Multiplies Va by Vb, shifts and narrows the result. -/
  | mul (dt : Nat) (c : Fin 4) (st : Fin 3) (v : Vote)
  /-- MAC (R266). Adds the product Va × Vb to an accumulator. -/
  | mac (dt : Nat) (c : Fin 4) (st : Fin 3) (v : Vote)
  /-- MSU (R266). Subtracts the product Va × Vb from an accumulator. -/
  | msu (dt : Nat) (c : Fin 4) (st : Fin 3) (v : Vote)
  /-- ACLR (R270). Clears or loads an accumulator. -/
  | aclr (dt : Nat) (c : Fin 4) (st : Fin 3) (v : Vote)
  /-- RND (R270). Rounds an accumulator into Vd. -/
  | rnd (dt : Nat) (c : Fin 4) (st : Fin 3) (v : Vote)
  /-- ASH (R270). Shifts an accumulator. -/
  | ash (dt : Nat) (c : Fin 4) (st : Fin 3) (v : Vote)
  /-- LD (R271). Loads a word from space S, C, I or T. -/
  | ld (dt : Nat) (c : Fin 4) (st : Fin 3) (v : Vote)
  /-- ST (R271). Stores to space S. -/
  | st (dt : Nat) (c : Fin 4) (st : Fin 3) (v : Vote)
  /-- LDA (R271). Loads an accumulator from two S words. -/
  | lda (dt : Nat) (c : Fin 4) (st : Fin 3) (v : Vote)
  /-- STA (R271). Stores an accumulator to two S words. -/
  | sta (dt : Nat) (c : Fin 4) (st : Fin 3) (v : Vote)
  /-- BR (R273). Branches on a condition. -/
  | br (dt : Nat) (c : Fin 4) (st : Fin 3) (v : Vote)
  /-- LOOP (R273). Repeats a bounded body N times. -/
  | loop (dt : Nat) (c : Fin 4) (st : Fin 3) (v : Vote)
  /-- STAGE (R268). Marks a program-stage boundary and renormalises in block floating point. -/
  | stage (dt : Nat) (c : Fin 4) (st : Fin 3) (v : Vote)
  /-- END (R255). Ends the job, publishes the mailbox and checks the deadline. -/
  | jobEnd (dt : Nat) (c : Fin 4) (st : Fin 3) (v : Vote)
  /-- CLAMP_OP (R282). The CLAMP instruction clamps Va and optionally records the excess of a slot. -/
  | clampOp (dt : Nat) (c : Fin 4) (st : Fin 3) (v : Vote)
  /-- SAT (R270). Saturates Va to ±IMM. -/
  | sat (dt : Nat) (c : Fin 4) (st : Fin 3) (v : Vote)
  /-- RAMP (R283). Advances a ramp slot towards its target. -/
  | ramp (dt : Nat) (c : Fin 4) (st : Fin 3) (v : Vote)
  /-- INTEG (R281). Advances an integrator within its limits, with optional back-calculation. -/
  | integ (dt : Nat) (c : Fin 4) (st : Fin 3) (v : Vote)
  /-- CLARKE (R275). Computes the Clarke transform. -/
  | clarke (dt : Nat) (c : Fin 4) (st : Fin 3) (v : Vote)
  /-- PARK (R275). Computes the Park transform. -/
  | park (dt : Nat) (c : Fin 4) (st : Fin 3) (v : Vote)
  /-- IPARK (R275). Computes the inverse Park transform. -/
  | ipark (dt : Nat) (c : Fin 4) (st : Fin 3) (v : Vote)
  /-- SINCOS (R276). Computes the cosine and sine of an angle by CORDIC. -/
  | sincos (dt : Nat) (c : Fin 4) (st : Fin 3) (v : Vote)
  /-- SVM (R277). Computes three centred duties by space-vector modulation. -/
  | svm (dt : Nat) (c : Fin 4) (st : Fin 3) (v : Vote)
  /-- PSEL (R280). Selects an optimised-pattern chart from a table. -/
  | psel (dt : Nat) (c : Fin 4) (st : Fin 3) (v : Vote)
  /-- GTL (R278). Interpolates the gain table at the error. -/
  | gtl (dt : Nat) (c : Fin 4) (st : Fin 3) (v : Vote)
  /-- TL1 (R279). Looks up a one-dimensional table. -/
  | tl1 (dt : Nat) (c : Fin 4) (st : Fin 3) (v : Vote)
  /-- TL2 (R279). Looks up a two-dimensional table bilinearly. -/
  | tl2 (dt : Nat) (c : Fin 4) (st : Fin 3) (v : Vote)
  /-- OUT (R272). Writes to a stage register or to the mailbox staging copy. -/
  | out (dt : Nat) (c : Fin 4) (st : Fin 3) (v : Vote)
  /-- OUTC (R272). Arms the commit of the output stage. -/
  | outc (dt : Nat) (c : Fin 4) (st : Fin 3) (v : Vote)
  /-- RESERVED_OPCODE (R264). An instruction with a reserved OP, SPACE or field raises CTX_OPCODE. -/
  | reservedOpcode (dt : Nat) (c : Fin 4) (st : Fin 3) (v : Vote)
  /-- RUN_WRITE (R262). A CCTL.RUN write starts or stops a context; RUN = 1 sets the ramp initialisation flags and clears FAULT. -/
  | runWrite (x : BitVec 6) (run : Bool)
  /-- RAMP_RESTART (R283). RAMP_RESTART sets every ramp initialisation flag of the context. -/
  | rampRestart (x : BitVec 6)
  /-- CONTEXT_MEMORY_WRITE (R259). A host write to context memory or the gain pool is accepted or refused by the memory guard. -/
  | contextMemoryWrite (at_ : HostAddr) (be : BitVec 4) (w : Word)
  /-- CTX_CNT_CLR (R288). CTX CNT_CLR clears the counters of one context or of all of them. -/
  | ctxCntClr (all : Bool) (x : BitVec 6)
  /-- CLU_CNT_CLR (R287). CLU CNT_CLR clears the stall, peak and busy counters. -/
  | cluCntClr (c : Fin 4)
  -- commutation and field control (R289 to R314)
  /-- START (R300). DCMD START begins a drive start, or is refused. -/
  | start (k : Fin 16)
  /-- STOP (R302). DCMD STOP forces every leg OFF, clears RUN, restores PERIOD and sets PHASE to IDLE. -/
  | stop (k : Fin 16)
  /-- MEASURE_TRIPLE (R303). Every SAMPLE µs in MEASURE, the three terminal voltages are converted as one triple. -/
  | measureTriple (dt : Nat) (k : Fin 16)
  /-- MEAS_DONE (R304). At the end of the measurement window the fit is made and the start is decided. -/
  | measDone (dt : Nat) (k : Fin 16)
  /-- IPD_VECTOR (R306). A timed step of the IPD sequence applies a vector, a return vector or a gap. -/
  | ipdVector (dt : Nat) (k : Fin 16)
  /-- IPD_DONE (R307). The six responses give θ_0, or a refusal for ambiguity, and IPD_DONE is raised. -/
  | ipdDone (dt : Nat) (k : Fin 16)
  /-- BEMF_SAMPLE (R309). Every 1 ms the back-EMF monitor takes a sample from the mailbox. -/
  | bemfSample (dt : Nat) (k : Fin 16)
  /-- T_MAG_WRITE (R310). A write of T_MAG updates the magnet temperature and clears STALE. -/
  | tMagWrite (k : Fin 16) (w : BitVec 16)
  /-- STALE (R310). T_MAG not written for AGE × 100 ms sets STALE. -/
  | stale (dt : Nat) (k : Fin 16)
  /-- NEW_MACHINE (R311). DCLR.NEW_MACHINE clears WRONG_MACHINE and FIRST_DONE. -/
  | newMachine (k : Fin 16)
  /-- CLR_DEMAG (R311). DCLR.CLR_DEMAG clears DEMAG. -/
  | clrDemag (k : Fin 16)
  -- the energy ledger and active discharge (R315 to R333)
  /-- LEDGER_TICK (R315). Every 100 µs the ledger measures, updates its models and runs the chopper check, escalation and discharge. -/
  | ledgerTick (dt : Nat)
  /-- CHOP_FAULT (R322). The count of rising ticks reaching CHOP_T sets CHOP_FAULT. -/
  | chopFault (dt : Nat)
  /-- DIS_LATE (R327). T_DIS elapsing with the link still above U_LIM raises DIS_LATE once. -/
  | disLate (dt : Nat)
  /-- DIS_REQ (R326). DIS_CMD.REQ starts an active discharge. -/
  | disReq
  /-- DIS_ABORT (R327). DIS_CMD.ABORT stops a running discharge. -/
  | disAbort
  /-- ESC_CLR (R325). ESC_CLR returns the escalation to state 0 when U is valid, below U_REARM and RES_HOT is clear. -/
  | escClr
  -- thermal models and the housekeeping round (R334 to R348)
  /-- HK_ROUND_START (R334). At each HK_PERIOD the housekeeping channels are queued, or the start is skipped. -/
  | hkRoundStart (dt : Nat)
  /-- HK_ROUND_COMPLETE (R335). When its last conversion has a result, the round's values are published and the models re-anchored. -/
  | hkRoundComplete (dt : Nat)
  /-- THM_MODEL_UPDATE (R337). Every 100 µs the die and module models are updated and the thresholds are judged. -/
  | thmModelUpdate (dt : Nat) (pdie : Word)
  /-- LIMIT_RAMP (R343). Every 1 ms g moves towards its target, and I_LIM is written to state word 246. -/
  | limitRamp (dt : Nat)
  -- redundant execution (R349 to R376)
  /-- MM_CLR (R354). MM_CLR starts the recovery tests of a latched cluster, or is refused. -/
  | mmClr (c : Fin 4)
  /-- RECOVERY_END (R354). When the recovery slices end, the latch clears or the cluster continues reduced. -/
  | recoveryEnd (dt : Nat) (c : Fin 4)
  /-- MODE_REQ (R362). CLU MODE_REQ GO requests a redundancy mode change, or is refused. -/
  | modeReq (c : Fin 4) (to_ when : BitVec 2) (stage : BitVec 4)
  /-- MODE_CHECK_DONE (R363). The Almanac's placement check of the mode change ends ARMED or refused. -/
  | modeCheckDone (dt : Nat) (c : Fin 4)
  /-- MODE_BOUNDARY (R364). At its boundary an armed change stops new dispatch on the cluster. -/
  | modeBoundary (dt : Nat) (c : Fin 4)
  /-- MODE_HANDOVER (R364). When every stream is idle, CFG is written and the new streams dispatch within 2 µs. -/
  | modeHandover (dt : Nat) (c : Fin 4)
  /-- EXCHANGE_POINT (R366). At each exchange point values are copied, compared and released to the ACLK side. -/
  | exchangePoint (dt : Nat) (c : Fin 4) (bad : List (BitVec 16))
  /-- CTEST (R369). Every 1 ms the comparator or voter is tested in a free cycle. -/
  | ctest (dt : Nat) (c : Fin 4) (pass : Bool)
  -- Gnomon and the safe channel (R377 to R405)
  /-- SUB_TICK (R380). Every 10 µs Gnomon's firmware acts on the causes it detects and drives GDEN. -/
  | subTick (dt : Nat)
  /-- SAFETY_TICK (R388). Every 100 µs Gnomon counts discrepancy, samples SRST_REQ and reads the torque monitors. -/
  | safetyTick (dt : Nat) (srst : Bool)
  /-- STO_CHANNEL_CHANGE (R385). A filtered STO channel changes state after STO_FILT. -/
  | stoChannelChange (dt : Nat) (chB demand : Bool) (held : Nat)
  /-- OUTPUT_ENABLE_RESTORE (R387). GDEN_SETTLE after GDEN goes active, the output enables are restored. -/
  | outputEnableRestore (dt : Nat)
  /-- DISC_FAULT (R388). The discrepancy count exceeding N latches a lock-out with cause DISC. -/
  | discFault (dt : Nat)
  /-- CORE_FAULT (R389). A core-pair difference or an uncorrectable Gnomon ECC error latches lock-out CORE. -/
  | coreFault (dt : Nat)
  /-- GDEN_READBACK_FAULT (R389). GDEN readback differing for more than 100 µs latches lock-out GDEN. -/
  | gdenReadbackFault (dt : Nat) (a b : Bool) (held : Nat)
  /-- CFG_CRC_RECHECK (R389). Every 10 ms the active configuration's CRC is recomputed; a difference latches lock-out CFG_CRC. -/
  | cfgCrcRecheck (dt : Nat) (bad : Bool)
  /-- HEARTBEAT_LOSS (R389). Three consecutive missed supervisor heartbeats latch lock-out SUPERVISOR. -/
  | heartbeatLoss (dt : Nat) (lost : Bool)
  /-- VDD_GN_WINDOW (R389). VDD_GN outside its window latches lock-out SUPPLY. -/
  | vddGnWindow (dt : Nat) (inside : Bool)
  /-- DEBUG_ATTACH (R389). Attaching a debugger to Gnomon in ANALYSIS latches lock-out DEBUG. -/
  | debugAttach (dt : Nat)
  /-- RESET_EDGE (R390). A valid reset edge clears the lock-out when every condition holds, and is refused otherwise. -/
  | resetEdge (dt : Nat)
  /-- CFG_LOAD (R382). SREQ CFG_LOAD copies a safety configuration block into Gnomon as LOADED, or is refused. -/
  | cfgLoad
  /-- CFG_CONFIRM (R383). SREQ CFG_CONFIRM activates the loaded block when its CRC matches. -/
  | cfgConfirm
  /-- CFG_TIMEOUT (R383). A loaded block unconfirmed for 10 s is discarded with GN_CFG_TIMEOUT. -/
  | cfgTimeout (dt : Nat)
  /-- LOCK (R389). SREQ LOCK latches a lock-out with cause HOST. -/
  | lock
  /-- CLR_SSAT (R394). SREQ CLR_SSAT makes Gnomon clear S_SAT and SAT_CNT of a class S context. -/
  | clrSsat (x : BitVec 6)
  /-- CLR_GTRIP (R394). SREQ CLR_GTRIP clears the GNOMON trip flag when no request is active. -/
  | clrGtrip
  /-- SREQ_RESERVED (R405). A reserved SREQ command is refused with GN_REQ. -/
  | sreqReserved (cmd : BitVec 4)
  /-- APPLICATION_EVENT (R393). Gnomon receives an application event and applies the reaction that REACT assigns. -/
  | applicationEvent (dt : Nat)
  /-- TORQUE_SAMPLE (R395). At each safety tick a torque monitor judges its mailbox sample inside or outside. -/
  | torqueSample (dt : Nat) (n : Fin 8)
  /-- TORQUE_REACT (R395). TIME × 10 consecutive outside samples make the torque monitor react. -/
  | torqueReact (dt : Nat) (n : Fin 8)
  /-- SAFE_COPY_RECEIVED (R397). A safe-channel command copy arrives on a path and is queued or discarded. -/
  | safeCopyReceived (dt : Nat) (pathB : Bool) (bytes : List Byte)
  /-- PAIRING_EVALUATION (R398). Every 50 µs Gnomon pairs the queued copies and accepts a pair or faults. -/
  | pairingEvaluation (dt : Nat)
  /-- SN_MISSING (R398). An unpaired copy older than W_P, or a fifth queued copy, latches lock-out SNET. -/
  | snMissing (dt : Nat)
  /-- SN_WATCHDOG (R398). No pair accepted for WD latches lock-out SNET. -/
  | snWatchdog (dt : Nat)
  /-- STATUS_PDU_TX (R400). Gnomon transmits a status PDU on both paths every TX_PERIOD, or on a FLAGS change. -/
  | statusPduTx (dt : Nat)
  -- clocks, power modes and resets (R406 to R438)
  /-- MONITOR_WINDOW (R409). A monitor window ends and passes or fails; failures are attributed to an oscillator. -/
  | monitorWindow (dt : Nat) (m : Fin 3) (count : BitVec 24) (late : Bool)
  /-- REF_READY (R408). REF_EXT becomes ready after its delay and the passing monitor windows. -/
  | refReady (dt : Nat)
  /-- HOLDOVER (R411). A missing REF edge puts the PLLs in holdover within 2 REF periods. -/
  | holdover (dt : Nat) (missing : Bool)
  /-- HOLDOVER_EXPIRY (R412). Holdover lasting 1 ms enters clock hold with cause PLL0. -/
  | holdoverExpiry (dt : Nat)
  /-- XO_RESTART (R412). 10 ms after an XO failure, the XO is restarted. -/
  | xoRestart (dt : Nat)
  /-- PLL0_UNLOCK (R416). PLL0_LOCK clears and clock hold follows. -/
  | pll0Unlock (dt : Nat)
  /-- HOLD_EXIT (R414). When a reference is ready, the PLLs and DLL lock and the clocks restart. -/
  | holdExit (dt : Nat)
  /-- RETURN_WRITE (R413). REF_CFG.RETURN switches back to REF_EXT when it is ready, or stores CLK_XO_NOT_READY. -/
  | returnWrite
  /-- DLL_UNLOCK (R422). The DLL loses lock, and edges fall to tap 0. -/
  | dllUnlock (dt : Nat)
  /-- DLL_RELOCK (R422). The DLL locks again without host action. -/
  | dllRelock (dt : Nat)
  /-- DLL_CAL_GO (R423). DLL_CAL.GO starts a tap calibration. -/
  | dllCalGo
  /-- TAPCAL_DONE (R423). After 4,096 TCLK the new tap table loads and WORST is reported. -/
  | tapcalDone (dt : Nat) (worst : BitVec 16)
  /-- SS_CFG_WRITE (R421). An SS_CFG write takes effect at the next modulation period, or is refused. -/
  | ssCfgWrite (w : Word)
  /-- OP_REQ (R425). A host operating-point request sets the host target, or is refused. -/
  | opReq (op : BitVec 2)
  /-- OP_CHANGE_START (R426). After the 1 ms spacing the sequencer starts a change towards the target. -/
  | opChangeStart (dt : Nat)
  /-- VDD_OK (R426). VDD reaching its target allows the re-lock of a faster change to proceed. -/
  | vddOk (dt : Nat)
  /-- V_TIMEOUT (R426). VDD_OK not reached within V_TIMEOUT returns VSEL and abandons the change. -/
  | vTimeout (dt : Nat)
  /-- PLL1_LOCK (R427). PLL1 locks at its new division during a re-lock. -/
  | pll1Lock (dt : Nat)
  /-- RELOCK_SWITCH (R427). 1 µs after lock, ACLK switches from IRC to PLL1, OP_ACT updates and OP_DONE is raised. -/
  | relockSwitch (dt : Nat)
  /-- SLEEP_REQUEST (R428). A MODE_REQ for SLEEP enters SLEEP, or is refused with PWR_MODE_BUSY. -/
  | sleepRequest
  /-- DEEP_SLEEP_REQUEST (R428). A MODE_REQ for DEEP_SLEEP stops the PLLs and optionally the XO, or is refused. -/
  | deepSleepRequest
  /-- WAKE (R428). An enabled wake event returns the device to RUN at its previous point. -/
  | wake (dt : Nat) (src : Fin 5)
  /-- WAKE_TIMER (R428). Expiry of WAKE_TIMER is a wake event. -/
  | wakeTimer (dt : Nat)
  /-- POWER_ON (R433). VDD or VDD_T rising through its power-on threshold gives a device reset. -/
  | powerOn (dt : Nat)
  /-- RESET_PIN (R433). RESET_N held low for 1 µs gives a device reset. -/
  | resetPin (dt : Nat)
  /-- BROWN_OUT (R433). A supply below its brown-out threshold for 2 µs gives a device reset. -/
  | brownOut (dt : Nat) (supplies : BitVec 5)
  /-- WATCHDOG (R433). A supervisor watchdog not serviced for 10 ms gives a device reset. -/
  | watchdog (dt : Nat)
  /-- SOFT_RST (R433). SOFT_RST with the key 0x52A7 gives a device reset; another key stores PWR_KEY. -/
  | softRst (key : BitVec 16)
  /-- PERST (R433). Assertion of PERST# resets the PCIE block. -/
  | perst (dt : Nat) (asserted : Bool) (inFlight : BitVec 16)
  /-- BLK_RST (R433). A BLK_RST bit holds its clock group in reset. -/
  | blkRst (w : Word) (inFlight : Vector (BitVec 16) 8)
  /-- PARTNER_FLUSH (R434). When the partner leaves reset, both sides flush and exchange the handshake, and PARTNER clears. -/
  | partnerFlush (dt : Nat) (j : Fin 8)
  /-- CLKEN_WRITE (R432). A CLKEN_RUN write gates groups, and loads 1 where gating is refused. -/
  | clkenWrite (which : Fin 3) (w : Word)
  -- boot, self-test runs, images and the life cycle (R439 to R477)
  /-- BOOT_PASS (R452). After a device reset, the boot pass runs steps BS0 to BS8 and writes journal records. -/
  | bootPass (dt : Nat) (o : BootObs)
  /-- RUN_REQ (R447). BIST RUN_REQ starts a host-requested self-test run, or is refused. -/
  | runReq (t : BitVec 4) (prog : BitVec 2) (signed : Bool)
  /-- RUN_DONE (R447). A host run ends and writes the target's RESULT and SIG. -/
  | runDone (dt : Nat) (sig : Word) (pass : Bool)
  /-- RETRY (R454). A BOOT RETRY bit clears that step's ALT flag at the next pass. -/
  | retry (bits : BitVec 9)
  /-- VERIFY_CFG (R466). SEC VERIFY_CFG verifies a configuration image and locks its range. -/
  | verifyCfg
  /-- RELEASE_CFG (R466). SEC RELEASE_CFG releases the verified configuration range. -/
  | releaseCfg
  /-- ATTEST (R470). SEC ATTEST writes a doubly signed attestation report. -/
  | attest
  /-- GET_KEYS (R470). SEC GET_KEYS writes the device key endorsement. -/
  | getKeys
  /-- SVN_COMMIT (R465). SEC SVN_COMMIT raises FW_SVN to the running image's SVN. -/
  | svnCommit
  /-- SEC_CMD_RESERVED (R477). A reserved SEC command is refused with SEC_CMD. -/
  | secCmdReserved (cmd : BitVec 3)
  /-- TOKEN_GO (R469). TOKEN_CMD.GO verifies a life-cycle token and starts its burn, or refuses it. -/
  | tokenGo
  /-- TOKEN_DONE (R469). The burn completes, PENDING and TARGET are set and TOKEN_DONE is raised. -/
  | tokenDone (dt : Nat)
  -- the Vernier link and array operation (R478 to R503)
  /-- PORT_LOSS (R481). No valid code group for 10 µs takes a Vernier port DOWN. -/
  | portLoss (dt : Nat) (p : Fin 2)
  /-- COMMA_ALIGNMENT (R481). Comma alignment gained takes a port to TRAINING. -/
  | commaAlignment (dt : Nat) (p : Fin 2)
  /-- PORT_UP (R481). 1,024 error-free idles take a port UP. -/
  | portUp (dt : Nat) (p : Fin 2)
  /-- PORT_DEGRADED (R481). Errors beyond ERR_TH within 1 ms degrade a port and wrap its traffic. -/
  | portDegraded (dt : Nat) (p : Fin 2)
  /-- PORT_RECOVERED (R481). 100 ms without error return a degraded port to UP. -/
  | portRecovered (dt : Nat) (p : Fin 2)
  /-- ENUM (R482). ARRAY_CMD ENUM sends an ENUM frame round ring A. -/
  | enum
  /-- ENUM_FRAME (R482). A device receiving ENUM adds its ID; the manager loads MEMBERS from the result. -/
  | enumFrame (dt : Nat) (h : VHdr) (ids : List (BitVec 5))
  /-- PREPARE (R495). ARRAY_CMD PREPARE opens a transaction and sends PREPARE frames. -/
  | prepare (btype : Bool) (stage : BitVec 4)
  /-- ARRAY_ABORT (R497). ARRAY_CMD ABORT sends ABORT for the open transaction. -/
  | arrayAbort
  /-- SYNC_SEND (R487). Every 100 µs the manager sends a SYNC frame on both rings. -/
  | syncSend (dt : Nat)
  /-- SYNC_RECEIVED (R487). A worker forms the offset from a SYNC frame and corrects it by step or slew. -/
  | syncReceived (dt : Nat) (h : VHdr) (tM : BitVec 64) (corr : Word) (frac : BitVec 12) (residence : Word)
  /-- DELAY_REQ_SEND (R486). Every 10 ms each UP port sends a DELAY_REQ. -/
  | delayReqSend (dt : Nat) (frac : Vector (BitVec 5) 2)
  /-- DELAY_REQ (R486). A received DELAY_REQ is answered with a DELAY_RESP carrying the turnaround. -/
  | delayReq (dt : Nat) (h : VHdr) (turnaround : Word)
  /-- DELAY_RESP (R486). A received DELAY_RESP updates LINK_DLY. -/
  | delayResp (dt : Nat) (h : VHdr) (turnaround : Word) (frac : BitVec 5)
  /-- MAILBOX (R493). A DATA MAILBOX frame mirrors a guest's mailbox words. -/
  | mailbox (dt : Nat) (h : VHdr) (home ctx loop : Byte) (words : Vector Half 8)
  /-- CONTEXT (R493). A DATA CONTEXT frame carries a segment of a moved context image. -/
  | context (dt : Nat) (h : VHdr) (seg : List Byte)
  /-- PREPARE_FRAME (R496). A received PREPARE is answered READY or REFUSE. -/
  | prepareFrame (dt : Nat) (h : VHdr) (txn : Byte) (btype : Bool) (stage : BitVec 4) (bound : BitVec 64) (parts : Word)
  /-- COMMIT_FRAME (R497). A received COMMIT marks the transaction to apply at its boundary. -/
  | commitFrame (dt : Nat) (h : VHdr) (txn : Byte)
  /-- ABORT_FRAME (R497). A received ABORT clears PENDING of the transaction's commits. -/
  | abortFrame (dt : Nat) (h : VHdr) (txn : Byte)
  /-- HOLD_FRAME (R498). A received HOLD latches a hold with cause MANAGER. -/
  | holdFrame (dt : Nat) (h : VHdr) (txn : Byte)
  /-- READY (R497). The manager records a READY acknowledgement. -/
  | ready (dt : Nat) (h : VHdr) (txn : Byte)
  /-- REFUSE (R497). A REFUSE acknowledgement makes the manager abort the transaction. -/
  | refuse (dt : Nat) (h : VHdr) (txn : Byte) (code : Half)
  /-- APPLIED (R498). The manager records an APPLIED acknowledgement. -/
  | applied (dt : Nat) (h : VHdr) (txn : Byte)
  /-- NOT_APPLIED (R498). The manager records a NOT_APPLIED acknowledgement. -/
  | notApplied (dt : Nat) (h : VHdr) (txn : Byte)
  /-- NAK (R499). A NAK reports a partner violation to the sender. -/
  | nak (dt : Nat) (h : VHdr) (code : Half)
  /-- ISOLATED (R491). No SYNC for ISO_TIME sets ISOLATED and may request the ARRAY source. -/
  | isolated (dt : Nat)
  /-- VOTE_TIMEOUT (R497). Not all READY within T_VOTE aborts the transaction with VLK_TIMEOUT. -/
  | voteTimeout (dt : Nat)
  /-- ARRAY_BOUNDARY (R497). At the boundary a participant with COMMIT loads its groups, and one without latches a hold. -/
  | arrayBoundary (dt : Nat)
  /-- ACK_TIMEOUT (R498). T_ACK after the boundary the manager sets the maps and sends HOLD if any participant did not apply. -/
  | ackTimeout (dt : Nat)
  /-- HOLD_CLR (R498). HOLD_CLR ends a latched hold unless ISOLATED is set. -/
  | holdClr
  /-- PLACE (R492). PLACE asks to move a compute-only context to another device. -/
  | place (ctx : BitVec 6) (target : BitVec 5)
  /-- PLACE_DONE (R493). The target accepts, and the context image is moved to it. -/
  | placeDone (dt : Nat) (accept : Bool)
  /-- GUEST_LOST (R494). A failed path between home and target stops the guest. -/
  | guestLost (dt : Nat) (ctx : BitVec 6)
  /-- VLK_CNT_CLR (R503). VLK CNT_CLR clears ERR_CNT. -/
  | vlkCntClr (p : Fin 2)
  -- host interfaces, memory, communication and the recorder (R504 to R533)
  /-- HOST_MEMORY_WRITE (R511). A host write to SRAM or DRAM is accepted or refused by area. -/
  | hostMemoryWrite (at_ : HostAddr) (be : BitVec 4) (w : Word)
  /-- PCIE_POISON (R507). A poisoned write TLP is discarded. -/
  | pciePoison (bytes : List Byte)
  /-- PCIE_TLP (R507). A malformed or unsupported request is answered as the Base Specification requires. -/
  | pcieTlp
  /-- XSPI_READ (R508). The xSPI READ command reads registers, the Ephemeris or SRAM. -/
  | xspiRead (a : Word) (n : BitVec 9)
  /-- XSPI_READ_SLOW (R508). The xSPI READ_SLOW command reads any region. -/
  | xspiReadSlow (a : Word) (n : BitVec 9)
  /-- XSPI_WRITE (R508). The xSPI WRITE command writes 4 to 256 bytes. -/
  | xspiWrite (a : Word) (bytes : List Byte)
  /-- XSPI_RESERVED_OPCODE (R509). A reserved xSPI opcode is ignored and stores XSPI_PROTOCOL. -/
  | xspiReservedOpcode (op : Half)
  /-- PROMOTION_CHECK (R515). Every 1 ms the slice of a speed-promoted table is computed and requested after 10 equal results. -/
  | promotionCheck (dt : Nat) (r : Fin 32)
  /-- SLICE_COPY_DONE (R516). A slice copy into the loading SRAM slice completes, and the slice becomes ready to activate. -/
  | sliceCopyDone (dt : Nat) (r : Fin 32)
  /-- SRAM_SCRUB (R517). Every 60 s firmware scrubs SRAM. -/
  | sramScrub (dt : Nat) (ce ue : List Word)
  /-- DRAM_SCRUB (R517). Every 600 s firmware scrubs DRAM. -/
  | dramScrub (dt : Nat) (ce ue : List Word)
  /-- ETH_RX_FRAME (R518). A received Ethernet frame is classified to Gnomon, 802.1AS, wake, the receive ring or discard. -/
  | ethRxFrame (dt : Nat) (p : Fin 2) (frame : List Byte) (fcsOk : Bool) (age : Half) (sync : Option (BitVec 64 × Word))
  /-- TX_TAIL_WRITE (R519). A TX_TAIL write hands transmit descriptors to the device. -/
  | txTailWrite (p : Fin 2) (tail : BitVec 12)
  /-- ETH_TX_DONE (R519). A frame is sent and its descriptor is returned with OWN = 0. -/
  | ethTxDone (dt : Nat) (p : Fin 2) (age : Half)
  /-- PTP_SYNC_LOSS (R520). No Sync for 3 intervals clears PTP_LOCKED. -/
  | ptpSyncLoss (dt : Nat) (p : Fin 2)
  /-- CAN_RX_FRAME (R521). A received CAN FD frame is routed to Gnomon, wake, the FIFO or discard. -/
  | canRxFrame (dt : Nat) (c : Fin 4) (xtd : Bool) (id : BitVec 29) (dlc : Word) (data : List Byte)
  /-- CAN_TX_REQ (R521). TX_REQ requests transmission of buffers. -/
  | canTxReq (c : Fin 4) (bits : Byte)
  /-- CAN_TX_DONE (R521). A CAN buffer has been transmitted. -/
  | canTxDone (dt : Nat) (c : Fin 4)
  /-- CAN_RECOVER (R521). After 128 occurrences of 11 recessive bits, a bus-off controller rejoins. -/
  | canRecover (dt : Nat) (c : Fin 4)
  /-- RX_POP (R533). RX_POP removes the head of the CAN receive FIFO. -/
  | rxPop (c : Fin 4)
  /-- FL_READ (R522). The FL_CMD READ command reads the boot flash into the host area. -/
  | flRead
  /-- FL_PROGRAM (R522). The FL_CMD PROGRAM command programs the boot flash. -/
  | flProgram
  /-- FL_ERASE (R522). The FL_CMD ERASE command erases 64 KiB of the boot flash. -/
  | flErase
  /-- FL_DONE (R522). A flash command completes. -/
  | flDone (dt : Nat)
  /-- VECMAP_WRITE (R523). A VECMAP write routes a page to a vector, and is refused for vector 0 except for CLK. -/
  | vecmapWrite (j : Fin 64) (w : Word)
  /-- VLATCH_CLEAR (R524). A W1C write to VLATCH clears the latch unless the vector's request is still 1. -/
  | vlatchClear (j : Fin 2) (w : Word)
  /-- CAP_ARM (R526). CAP ARM starts recording, or is refused. -/
  | capArm
  /-- CAP_STOP (R527). CAP STOP returns the recorder to IDLE. -/
  | capStop
  /-- TRIG_SW (R528). CMD.TRIG_SW is a software trigger source of the recorder. -/
  | trigSw
  /-- CAP_RECORD (R525). At each record time the recorder writes one record into its ring. -/
  | capRecord (dt : Nat)
  /-- CAP_DONE (R527). POST_REC records after the trigger, the recorder enters DONE. -/
  | capDone (dt : Nat)
  /-- UNROLLED (R527). Firmware has rotated the buffer so that the window starts at BUF_ADDR. -/
  | unrolled (dt : Nat)
  -- the rows that stand last in the table: further resets, link changes and debugger commands
  /-- SNET_CNT_CLR (R405). SNET CNT_CLR clears the path and pair counters. -/
  | snetCntClr
  /-- GNOMON_RESET (R379). VDD_GN falling below or rising through its power-on threshold resets Gnomon, makes every output enable inactive, and restarts Gnomon with lock-out cause CONFIG. -/
  | gnomonReset (dt : Nat) (running : Bool) (inFlight : Half)
  /-- FRAME_DISCARDED (R499). A Vernier frame or code group received with a code, disparity or CRC error, a reserved TYPE, SUB or FLAGS bit, LEN above 256, HOPS at 0 or a stale SEQ is discarded, counted and journalled, with a NAK where the table gives one. -/
  | frameDiscarded (dt : Nat) (h : VHdr) (why : VBad) (bytes : List Byte)
  /-- CLAMP_INACTIVE (R215). A pin's clamp detector becomes inactive, and the group is back within specification 50 TCLK after the last detector of the group becomes inactive. -/
  | clampInactive (dt : Nat) (b : Fin 4) (p : Fin 16)
  /-- CLOCK_LOSS_END (R225). In format 1 a received modulator clock edge returns after a clock loss, and CLK_LOSS clears. -/
  | clockLossEnd (dt : Nat) (n : Fin 24)
  /-- SEC_DONE (R470). A running SEC command (VERIFY_CFG, ATTEST, GET_KEYS) completes, clears BUSY, writes CMD_STAT and raises DONE or REFUSED. -/
  | secDone (dt : Nat)
  /-- ETH_LINK_CHANGE (R533). The 1000BASE-X link of an Ethernet port comes up or goes down, with auto-negotiation completing, and LINK and AN_DONE change. -/
  | ethLinkChange (dt : Nat) (p : Fin 2) (up anDone : Bool)
  /-- PCIE_LINK_CHANGE (R533). The PCI Express link comes up or goes down after boot, updating LINK_UP, SPEED and WIDTH and raising LINK_UP or LINK_DOWN. -/
  | pcieLinkChange (dt : Nat) (up : Bool) (speed width : BitVec 2)
  /-- CAN_BUS_ERROR (R521). A CAN FD controller detects a bus error or receives an error frame, updates TEC and REC, stores CAN_PROTOCOL and may enter error-passive or bus-off. -/
  | canBusError (dt : Nat) (c : Fin 4) (tec rec : Byte) (busOff : Bool)
  /-- TIME_LO_READ (R418). A read of TIME_LO, or of GPTP_NS_LO, latches the upper word for the following read of TIME_HI or GPTP_NS_HI. -/
  | timeLoRead (r : TimeReg)
  /-- HOST_MEMORY_READ (R517). A host read of SRAM or DRAM that meets an uncorrectable ECC error returns poisoned data or all-ones, increments ECC_UE_CNT and stores MEM_ECC_UE. -/
  | hostMemoryRead (at_ : HostAddr)
  /-- DEBUG_STEP (R368). A debugger single step on a halted main copy is executed and replayed on the checker or the other triad datapaths with the same delay. -/
  | debugStep (dt : Nat) (c : Fin 4) (st : Fin 3) (v : Vote)
  /-- DEBUG_WRITE (R368). A debugger register write to the main copy is replayed on the checker or other triad datapaths, and a write that cannot be replayed identically shows as a mismatch. -/
  | debugWrite (dt : Nat) (c : Fin 4) (st : Fin 3) (r : DbgReg) (v : Vote)
  /-- DEBUG_DETACH (R389). A debugger detaches from Gnomon in ANALYSIS, so that cause DEBUG is gone for the next reset edge. -/
  | debugDetach (dt : Nat)
  deriving DecidableEq, Repr

end Sys2Proof
end

