-- ==== Sys2Proof/Machine/RegMap.lean ====
section
/-! DEFINITION. The register pages (R9, R10, R510): for each kind of page its base, its instances, its block type
code, and every register with its fields, access types (R11) and reset values, transcribed from the register tables of
the chapters. A field whose reset the spec calls "per boot", "per die" or "per reset" stands here with 0
(DESIGN CHOICE, log entry 3). -/

namespace Sys2Proof.Machine

/-- The kinds of register page, in the order of R510's table. -/
inductive PageKind where
  | clk | pwr | boot | lcs | sec | alm | eph | trip | ctx | fld | nrg | thm | gnm | snet | bist | cap | stg | leg | cmpb | adcg | clu | vlk | xspi | dbg | sdi | pos | rsv | ssi | emu | pcie | eth | can
  deriving DecidableEq, Repr

/-- The access types of R11. -/
inductive Access where
  | rw | ro | wo | w1c | w1s | rws | rwl | rwa
  deriving DecidableEq, Repr

/-- One field of a register: lowest bit, width, access type, reset value. -/
structure FieldDesc where
  name : String
  lo : Nat
  width : Nat
  acc : Access
  reset : Nat
  deriving DecidableEq, Repr

/-- One register, or an array of `count` registers `stride` bytes apart. -/
structure RegDesc where
  name : String
  off : Nat
  stride : Nat
  count : Nat
  fields : List FieldDesc
  deriving DecidableEq, Repr

/-- A place of a field on a page: register offset, distance to the next array element, lowest bit, width. -/
structure Fld where
  off : Nat
  stride : Nat
  lo : Nat
  width : Nat
  deriving DecidableEq, Repr

/-- A run of configuration words with their duplicate-copy images (R26). -/
structure DupDesc where
  off : Nat
  stride : Nat
  count : Nat
  image : Nat
  deriving DecidableEq, Repr

/-- One row of R510's page map. -/
structure PageDesc where
  kind : PageKind
  base : Nat
  count : Nat
  typeCode : Nat
  deriving DecidableEq, Repr

/-- R510, with the block type codes of the chapters. -/
def pageMap : List PageDesc := [
  ⟨.clk, 0x40000000, 1, 0xC1⟩,
  ⟨.pwr, 0x40001000, 1, 0xC2⟩,
  ⟨.boot, 0x40002000, 1, 0xD1⟩,
  ⟨.lcs, 0x40003000, 1, 0xD2⟩,
  ⟨.sec, 0x40004000, 1, 0xD3⟩,
  ⟨.alm, 0x40005000, 1, 0x11⟩,
  ⟨.eph, 0x40006000, 1, 0x31⟩,
  ⟨.trip, 0x40007000, 1, 0x51⟩,
  ⟨.ctx, 0x40008000, 1, 0x72⟩,
  ⟨.fld, 0x40009000, 1, 0x81⟩,
  ⟨.nrg, 0x4000A000, 1, 0x91⟩,
  ⟨.thm, 0x4000B000, 1, 0x92⟩,
  ⟨.gnm, 0x4000C000, 1, 0xB1⟩,
  ⟨.snet, 0x4000D000, 1, 0xB2⟩,
  ⟨.bist, 0x4000E000, 1, 0xA1⟩,
  ⟨.cap, 0x4000F000, 1, 0xF5⟩,
  ⟨.stg, 0x40010000, 16, 0x41⟩,
  ⟨.leg, 0x40020000, 64, 0x42⟩,
  ⟨.cmpb, 0x40060000, 4, 0x52⟩,
  ⟨.adcg, 0x40064000, 4, 0x61⟩,
  ⟨.clu, 0x40068000, 4, 0x71⟩,
  ⟨.vlk, 0x4006C000, 2, 0xE1⟩,
  ⟨.xspi, 0x4006E000, 1, 0xF2⟩,
  ⟨.dbg, 0x4006F000, 1, 0xF6⟩,
  ⟨.sdi, 0x40070000, 24, 0x62⟩,
  ⟨.pos, 0x40088000, 8, 0x21⟩,
  ⟨.rsv, 0x40090000, 4, 0x22⟩,
  ⟨.ssi, 0x40094000, 4, 0x23⟩,
  ⟨.emu, 0x40098000, 4, 0x24⟩,
  ⟨.pcie, 0x4009C000, 1, 0xF1⟩,
  ⟨.eth, 0x4009D000, 2, 0xF3⟩,
  ⟨.can, 0x400A0000, 4, 0xF4⟩]

/-- The common registers of R15 to R25, STATUS apart (its upper half is the block's own). The OWNER register and the
interrupt registers stand here too; the bits an interrupt register implements come from the block's list. -/
def commonRegs : List RegDesc := [
  ⟨"CTRL", 0x8, 0, 1, [⟨"HALT_FREEZE", 1, 1, .rw, 0⟩, ⟨"EN", 0, 1, .rw, 0⟩]⟩,
  ⟨"ERRCODE", 0x20, 0, 1, [⟨"CLR", 31, 1, .wo, 0⟩, ⟨"LOST", 24, 7, .ro, 0⟩, ⟨"ORIGIN", 16, 8, .ro, 0⟩, ⟨"CODE", 0, 16, .ro, 0⟩]⟩,
  ⟨"OWNER", 0x24, 0, 1, [⟨"DEVICE", 11, 5, .rwa, 0⟩, ⟨"KIND", 8, 3, .rwa, 0⟩, ⟨"CTX", 0, 6, .rwa, 0⟩]⟩,
  ⟨"LOCK", 0x28, 0, 1, [⟨"LOCKED", 0, 1, .w1s, 0⟩]⟩]

/-- The COMMIT register of R24, of the pages that have a commit group. -/
def commitReg : RegDesc :=
  ⟨"COMMIT", 0x2C, 0, 1, [⟨"WHEN", 4, 2, .rw, 0⟩, ⟨"PENDING", 1, 1, .ro, 0⟩, ⟨"REQ", 0, 1, .w1s, 0⟩]⟩

/-- The block-specific registers of the CLK page. -/
def clkRegs : List RegDesc := [
  ⟨"STATUS", 0xC, 0, 1, [⟨"ALIGN", 25, 1, .ro, 0⟩, ⟨"HOLD", 24, 1, .ro, 0⟩, ⟨"DLL_LOCK", 23, 1, .ro, 0⟩, ⟨"PLL1_LOCK", 22, 1, .ro, 0⟩, ⟨"PLL0_LOCK", 21, 1, .ro, 0⟩, ⟨"ON_FALLBACK", 20, 1, .ro, 0⟩, ⟨"REF_READY", 19, 1, .ro, 0⟩, ⟨"LRC_FAIL", 18, 1, .ro, 0⟩, ⟨"IRC_FAIL", 17, 1, .ro, 0⟩, ⟨"XO_FAIL", 16, 1, .ro, 0⟩]⟩,
  ⟨"REF_CFG", 0x40, 0, 1, [⟨"REF_SRC", 30, 2, .ro, 0⟩, ⟨"XO_DEEP_OFF", 29, 1, .rw, 0⟩, ⟨"RETURN", 28, 1, .w1s, 0⟩, ⟨"XO_DELAY", 0, 9, .ro, 0⟩]⟩,
  ⟨"MON", 0x44, 4, 3, [⟨"FAIL", 31, 1, .ro, 0⟩, ⟨"RUN", 24, 7, .ro, 0⟩, ⟨"COUNT", 0, 24, .ro, 0⟩]⟩,
  ⟨"HOLD_REC", 0x50, 0, 1, [⟨"CAUSE", 30, 2, .ro, 0⟩, ⟨"DURATION", 0, 24, .ro, 0⟩]⟩,
  ⟨"HOLD_CNT", 0x54, 0, 1, [⟨"COUNT", 0, 32, .ro, 0⟩]⟩,
  ⟨"SS_CFG", 0x58, 0, 1, [⟨"SS_EN", 31, 1, .rw, 0⟩, ⟨"DEPTH", 29, 2, .rw, 0⟩, ⟨"SEED", 0, 16, .rw, 1⟩]⟩,
  ⟨"TIME_LO", 0x5C, 0, 1, [⟨"VALUE", 0, 32, .ro, 0⟩]⟩,
  ⟨"TIME_HI", 0x60, 0, 1, [⟨"VALUE", 0, 32, .ro, 0⟩]⟩,
  ⟨"DLL_CAL", 0x64, 0, 1, [⟨"GO", 31, 1, .w1s, 0⟩, ⟨"BUSY", 30, 1, .ro, 0⟩, ⟨"WORST", 0, 16, .ro, 0⟩]⟩,
  ⟨"IRC_TRIM", 0x68, 0, 1, [⟨"TEMP", 8, 8, .ro, 0⟩, ⟨"FACTORY", 0, 8, .ro, 0⟩]⟩]

/-- The block-specific registers of the PWR page. -/
def pwrRegs : List RegDesc := [
  ⟨"STATUS", 0xC, 0, 1, [⟨"OP_ACT", 22, 2, .ro, 2⟩, ⟨"MODE", 20, 2, .ro, 0⟩, ⟨"SEQ_BUSY", 19, 1, .ro, 0⟩, ⟨"VDD_OK", 18, 1, .ro, 0⟩, ⟨"THM_LIMITED", 17, 1, .ro, 0⟩, ⟨"DEFERRED", 16, 1, .ro, 0⟩]⟩,
  ⟨"OP_REQ", 0x40, 0, 1, [⟨"GO", 31, 1, .w1s, 0⟩, ⟨"OP", 0, 2, .rw, 0⟩]⟩,
  ⟨"OP_STAT", 0x44, 0, 1, [⟨"TARGET", 30, 2, .ro, 2⟩, ⟨"HOST", 28, 2, .ro, 2⟩, ⟨"THM", 26, 2, .ro, 0⟩, ⟨"CHANGES", 0, 16, .ro, 0⟩]⟩,
  ⟨"V_CFG", 0x48, 0, 1, [⟨"V_TIMEOUT", 0, 10, .rwl, 200⟩]⟩,
  ⟨"MODE_REQ", 0x4C, 0, 1, [⟨"GO", 31, 1, .w1s, 0⟩, ⟨"MODE", 0, 2, .rw, 0⟩]⟩,
  ⟨"WAKE_EN", 0x50, 0, 1, [⟨"SRC", 0, 5, .rw, 1⟩]⟩,
  ⟨"WAKE_TIMER", 0x54, 0, 1, [⟨"MS", 0, 32, .rw, 0⟩]⟩,
  ⟨"CLKEN_RUN", 0x58, 0, 1, [⟨"GROUP", 0, 20, .rw, 1048575⟩]⟩,
  ⟨"CLKEN_SLEEP", 0x5C, 0, 1, [⟨"GROUP", 0, 20, .rw, 96768⟩]⟩,
  ⟨"CLKEN_DEEP", 0x60, 0, 1, [⟨"GROUP", 0, 20, .rw, 20480⟩]⟩,
  ⟨"BLK_RST", 0x64, 0, 1, [⟨"GROUP", 0, 20, .rw, 0⟩]⟩,
  ⟨"RST_CAUSE", 0x68, 0, 1, [⟨"CAUSE", 0, 9, .w1c, 0⟩]⟩,
  ⟨"SOFT_RST", 0x6C, 0, 1, [⟨"KEY", 16, 16, .wo, 0⟩]⟩,
  ⟨"XSTAT", 0x70, 0, 1, [⟨"PARTNER", 0, 8, .ro, 0⟩]⟩,
  ⟨"XDISC", 0x80, 4, 8, [⟨"IN_FLIGHT", 16, 16, .ro, 0⟩, ⟨"REFUSED", 0, 16, .ro, 0⟩]⟩]

/-- The block-specific registers of the BOOT page. -/
def bootRegs : List RegDesc := [
  ⟨"STATUS", 0xC, 0, 1, [⟨"DONE", 24, 1, .ro, 0⟩, ⟨"HALTED", 23, 1, .ro, 0⟩, ⟨"ON_IRC", 22, 1, .ro, 0⟩, ⟨"NO_DRAM", 21, 1, .ro, 0⟩, ⟨"SECONDARY", 20, 1, .ro, 0⟩, ⟨"STEP", 16, 4, .ro, 0⟩]⟩,
  ⟨"REV", 0x40, 0, 1, [⟨"ROM", 16, 16, .ro, 0⟩, ⟨"DIE_REV", 0, 8, .ro, 66⟩]⟩,
  ⟨"BOOT_CNT", 0x44, 0, 1, [⟨"COUNT", 0, 32, .ro, 0⟩]⟩,
  ⟨"OUTCOME", 0x48, 0, 1, [⟨"STEPS", 0, 18, .ro, 0⟩]⟩,
  ⟨"ALT", 0x4C, 0, 1, [⟨"BS5_MASK", 16, 16, .ro, 0⟩, ⟨"FLAGS", 0, 9, .ro, 0⟩]⟩,
  ⟨"RETRY", 0x50, 0, 1, [⟨"PENDING", 0, 9, .w1s, 0⟩]⟩,
  ⟨"JRNL_HEAD", 0x54, 0, 1, [⟨"HEAD", 0, 6, .ro, 0⟩]⟩,
  ⟨"FW_VERSION", 0x58, 0, 1, [⟨"VERSION", 0, 32, .ro, 0⟩]⟩,
  ⟨"FW_SVN", 0x5C, 0, 1, [⟨"IMAGE", 8, 6, .ro, 0⟩, ⟨"OTP", 0, 6, .ro, 0⟩]⟩,
  ⟨"TRAIN", 0x60, 0, 1, [⟨"SOURCE", 24, 8, .ro, 0⟩, ⟨"MARGIN", 0, 24, .ro, 0⟩]⟩,
  ⟨"JRNL", 0x400, 4, 256, [⟨"WORD", 0, 32, .ro, 0⟩]⟩]

/-- The block-specific registers of the LCS page. -/
def lcsRegs : List RegDesc := [
  ⟨"STATUS", 0xC, 0, 1, [⟨"PENDING", 22, 1, .ro, 0⟩, ⟨"TARGET", 19, 3, .ro, 0⟩, ⟨"STATE", 16, 3, .ro, 0⟩]⟩,
  ⟨"TOKEN_ADDR", 0x40, 0, 1, [⟨"ADDR", 0, 32, .rw, 0⟩]⟩,
  ⟨"TOKEN_CMD", 0x44, 0, 1, [⟨"GO", 31, 1, .w1s, 0⟩]⟩,
  ⟨"TOKEN_STAT", 0x48, 0, 1, [⟨"BUSY", 31, 1, .ro, 0⟩, ⟨"CODE", 0, 16, .ro, 0⟩]⟩,
  ⟨"BOARD", 0x4C, 0, 1, [⟨"WORD", 0, 32, .ro, 0⟩]⟩,
  ⟨"KEYS", 0x50, 0, 1, [⟨"CUSTOMER", 1, 1, .ro, 0⟩, ⟨"REVOKED", 0, 1, .ro, 0⟩]⟩,
  ⟨"DEBUG", 0x54, 0, 1, [⟨"LEVEL", 0, 2, .ro, 0⟩]⟩]

/-- The block-specific registers of the SEC page. -/
def secRegs : List RegDesc := [
  ⟨"STATUS", 0xC, 0, 1, [⟨"LMS_EXHAUSTED", 18, 1, .ro, 0⟩, ⟨"CFG_VERIFIED", 17, 1, .ro, 0⟩, ⟨"BUSY", 16, 1, .ro, 0⟩]⟩,
  ⟨"CMD", 0x40, 0, 1, [⟨"GO", 31, 1, .w1s, 0⟩, ⟨"CMD", 0, 3, .rw, 0⟩]⟩,
  ⟨"ARG0", 0x44, 0, 1, [⟨"VALUE", 0, 32, .rw, 0⟩]⟩,
  ⟨"ARG1", 0x48, 0, 1, [⟨"VALUE", 0, 32, .rw, 0⟩]⟩,
  ⟨"CMD_STAT", 0x4C, 0, 1, [⟨"BUSY", 31, 1, .ro, 0⟩, ⟨"CMD", 16, 3, .ro, 0⟩, ⟨"CODE", 0, 16, .ro, 0⟩]⟩,
  ⟨"CFG_BASE", 0x50, 0, 1, [⟨"VALUE", 0, 32, .ro, 0⟩]⟩,
  ⟨"CFG_END", 0x54, 0, 1, [⟨"VALUE", 0, 32, .ro, 0⟩]⟩,
  ⟨"DEVICE_ID", 0x60, 4, 4, [⟨"ID", 0, 32, .ro, 0⟩]⟩,
  ⟨"NONCE", 0x70, 4, 8, [⟨"NONCE", 0, 32, .rw, 0⟩]⟩,
  ⟨"LMS_USED", 0x90, 0, 1, [⟨"COUNT", 0, 32, .ro, 0⟩]⟩,
  ⟨"LMS_LEFT", 0x94, 0, 1, [⟨"COUNT", 0, 32, .ro, 0⟩]⟩]

/-- The block-specific registers of the ALM page. -/
def almRegs : List RegDesc := [
  ⟨"STATUS", 0xC, 0, 1, [⟨"SLICES_STOPPED", 20, 1, .ro, 0⟩, ⟨"LAST_REFUSED", 19, 1, .ro, 0⟩, ⟨"STATE", 16, 3, .ro, 0⟩]⟩,
  ⟨"DECL_ADDR", 0x40, 0, 1, [⟨"ADDR", 2, 30, .rw, 0⟩]⟩,
  ⟨"DECL_LEN", 0x44, 0, 1, [⟨"LEN", 0, 20, .rw, 0⟩]⟩,
  ⟨"ADM_CMD", 0x48, 0, 1, [⟨"CMD", 0, 3, .wo, 0⟩]⟩,
  ⟨"SETUP_ID", 0x4C, 0, 1, [⟨"SETUP_ID", 0, 32, .ro, 0⟩]⟩,
  ⟨"REFUSE_CODE", 0x50, 0, 1, [⟨"CODE", 0, 16, .ro, 0⟩]⟩,
  ⟨"REFUSE_DECL", 0x54, 0, 1, [⟨"KIND", 30, 2, .ro, 0⟩, ⟨"INDEX", 0, 16, .ro, 0⟩]⟩,
  ⟨"REFUSE_DETAIL", 0x58, 4, 2, [⟨"DETAIL", 0, 32, .ro, 0⟩]⟩,
  ⟨"PLACE_ADDR", 0x60, 0, 1, [⟨"VALUE", 0, 32, .ro, 0⟩]⟩,
  ⟨"PLACE_LEN", 0x64, 0, 1, [⟨"VALUE", 0, 32, .ro, 0⟩]⟩,
  ⟨"FLOOR", 0x68, 0, 1, [⟨"FLOOR_OP", 30, 2, .ro, 0⟩, ⟨"RUN_OP", 28, 2, .ro, 0⟩, ⟨"F_FLOOR", 0, 20, .ro, 0⟩]⟩,
  ⟨"RETIRED", 0x6C, 0, 1, [⟨"DP", 0, 12, .ro, 0⟩]⟩,
  ⟨"REPLACE_CNT", 0x70, 0, 1, [⟨"COUNT", 0, 32, .ro, 0⟩]⟩,
  ⟨"REPLACE_LAST", 0x74, 0, 1, [⟨"REASON", 28, 4, .ro, 0⟩, ⟨"CTX", 22, 6, .ro, 0⟩, ⟨"FROM", 8, 8, .ro, 0⟩, ⟨"TO", 0, 8, .ro, 0⟩]⟩,
  ⟨"AGE_BOUND", 0x80, 4, 16, [⟨"VALID", 31, 1, .ro, 0⟩, ⟨"CTX", 24, 6, .ro, 0⟩, ⟨"BOUND", 0, 24, .ro, 0⟩]⟩,
  ⟨"AGE_PROM", 0xC0, 4, 16, [⟨"COUNT", 0, 32, .ro, 0⟩]⟩,
  ⟨"AGE_MAX", 0x100, 4, 16, [⟨"WAIT", 0, 32, .ro, 0⟩]⟩]

/-- The block-specific registers of the EPH page. -/
def ephRegs : List RegDesc := [
  ⟨"STATUS", 0xC, 0, 1, [⟨"RUN", 16, 16, .ro, 0⟩]⟩,
  ⟨"EST_CFG", 0x100, 64, 16, [⟨"SRC", 28, 4, .rw, 0⟩, ⟨"SPD_SHIFT", 25, 3, .rw, 2⟩, ⟨"SLEW_SHIFT", 22, 3, .rw, 3⟩, ⟨"GLITCH_N", 16, 6, .rw, 4⟩, ⟨"LAT_COMP", 0, 16, .rw, 0⟩]⟩,
  ⟨"GLITCH_TH", 0x104, 64, 16, [⟨"VALUE", 0, 32, .rw, 67108864⟩]⟩,
  ⟨"F_LOW", 0x108, 64, 16, [⟨"VALUE", 0, 32, .rw, 204800⟩]⟩,
  ⟨"F_HIGH", 0x10C, 64, 16, [⟨"VALUE", 0, 32, .rw, 307200⟩]⟩,
  ⟨"TIMES", 0x110, 64, 16, [⟨"RET_TIME", 16, 16, .rw, 1000⟩, ⟨"COAST_MAX", 0, 16, .rw, 500⟩]⟩,
  ⟨"LOCK_PHASE", 0x114, 64, 16, [⟨"VALUE", 0, 32, .rw, 0⟩]⟩,
  ⟨"SCTRL", 0x118, 64, 16, [⟨"FORCE_FB", 1, 1, .rw, 0⟩, ⟨"EN", 0, 1, .rw, 0⟩]⟩,
  ⟨"LOAD", 0x11C, 64, 16, [⟨"GO", 31, 1, .w1s, 0⟩, ⟨"COUNT", 16, 11, .wo, 0⟩, ⟨"CHART", 0, 16, .wo, 0⟩]⟩,
  ⟨"ARM", 0x120, 64, 16, [⟨"ARM", 0, 1, .rws, 0⟩]⟩,
  ⟨"CROSS_ANGLE", 0x124, 64, 16, [⟨"ANGLE", 0, 32, .rws, 0⟩]⟩,
  ⟨"REGION", 0x128, 64, 16, [⟨"LOCK_RATIO", 24, 8, .rwa, 0⟩, ⟨"BASE", 12, 12, .rwa, 0⟩, ⟨"LEN", 0, 12, .rwa, 0⟩]⟩,
  ⟨"TRIG_MIN", 0x12C, 64, 16, [⟨"MIN", 0, 24, .rwa, 0⟩]⟩,
  ⟨"STATE", 0x130, 64, 16, [⟨"STATE", 30, 2, .ro, 0⟩, ⟨"REASON", 27, 3, .ro, 0⟩, ⟨"DIR", 26, 1, .ro, 0⟩, ⟨"ACTIVE_BANK", 25, 1, .ro, 0⟩, ⟨"CHART_VALID", 24, 1, .ro, 0⟩, ⟨"IDLE_LOADED", 23, 1, .ro, 0⟩, ⟨"ARMED", 22, 1, .ro, 0⟩, ⟨"LOADING", 21, 1, .ro, 0⟩, ⟨"ACTIVE_CHART", 0, 16, .ro, 0⟩]⟩,
  ⟨"THETA", 0x134, 64, 16, [⟨"VALUE", 0, 32, .ro, 0⟩]⟩,
  ⟨"OMEGA", 0x138, 64, 16, [⟨"VALUE", 0, 32, .ro, 0⟩]⟩,
  ⟨"EV", 0x13C, 64, 16, [⟨"MARK", 10, 1, .w1c, 0⟩, ⟨"LOCK_LIMIT", 9, 1, .w1c, 0⟩, ⟨"OVERSPEED", 8, 1, .w1c, 0⟩, ⟨"LATE", 7, 1, .w1c, 0⟩, ⟨"STEP", 6, 1, .w1c, 0⟩, ⟨"GLITCH", 5, 1, .w1c, 0⟩, ⟨"RETURN", 4, 1, .w1c, 0⟩, ⟨"FALLBACK", 3, 1, .w1c, 0⟩, ⟨"SWITCHED", 2, 1, .w1c, 0⟩, ⟨"LOAD_FAIL", 1, 1, .w1c, 0⟩, ⟨"LOAD_DONE", 0, 1, .w1c, 0⟩]⟩,
  ⟨"LIB_ADDR", 0x500, 32, 16, [⟨"VALUE", 0, 32, .rwa, 0⟩]⟩,
  ⟨"PEND", 0x504, 32, 16, [⟨"VALUE", 0, 32, .ro, 0⟩]⟩,
  ⟨"CNT_A", 0x508, 32, 16, [⟨"REJ_CNT", 16, 16, .ro, 0⟩, ⟨"LATE_CNT", 0, 16, .ro, 0⟩]⟩,
  ⟨"CNT_B", 0x50C, 32, 16, [⟨"SKIP_CNT", 16, 16, .ro, 0⟩, ⟨"STEP_CNT", 0, 16, .ro, 0⟩]⟩,
  ⟨"LOAD_ERR", 0x510, 32, 16, [⟨"CODE", 16, 16, .ro, 0⟩, ⟨"INDEX", 0, 16, .ro, 0⟩]⟩,
  ⟨"CNT_CLR", 0x514, 32, 16, [⟨"CLR", 0, 1, .wo, 0⟩]⟩]

/-- The block-specific registers of the TRIP page. -/
def tripRegs : List RegDesc := [
  ⟨"STATUS", 0xC, 0, 1, [⟨"CRC_FAIL", 18, 1, .ro, 0⟩, ⟨"RELEASE_PENDING", 17, 1, .ro, 0⟩, ⟨"ANY_TRIP", 16, 1, .ro, 0⟩]⟩,
  ⟨"STS", 0x40, 4, 16, [⟨"MERGE", 2, 1, .rwl, 0⟩, ⟨"ASC_SIDE", 1, 1, .rwl, 0⟩, ⟨"TSTATE", 0, 1, .rwl, 0⟩]⟩,
  ⟨"LTS", 0x80, 4, 4, [⟨"OVR", 0, 32, .rwl, 0⟩]⟩,
  ⟨"CFG_CRC_REF", 0x90, 0, 1, [⟨"VALUE", 0, 32, .rwl, 0⟩]⟩,
  ⟨"CFG_CRC", 0x94, 0, 1, [⟨"VALUE", 0, 32, .ro, 0⟩]⟩,
  ⟨"TRIP_REQ", 0x98, 0, 1, [⟨"STATE_SEL", 16, 2, .wo, 0⟩, ⟨"STAGES", 0, 16, .wo, 0⟩]⟩,
  ⟨"LAST", 0x9C, 0, 1, [⟨"SRC", 0, 8, .ro, 0⟩]⟩,
  ⟨"ACTIVE", 0xA0, 4, 6, [⟨"SRC", 0, 32, .ro, 0⟩]⟩,
  ⟨"FLAG", 0xC0, 4, 6, [⟨"SRC", 0, 32, .w1c, 0⟩]⟩,
  ⟨"STAGE_TRIP", 0xE0, 0, 1, [⟨"RELEASE", 16, 16, .ro, 0⟩, ⟨"TRIPPED", 0, 16, .ro, 0⟩]⟩,
  ⟨"LEG_TRIP", 0xE4, 4, 2, [⟨"LEG", 0, 32, .ro, 0⟩]⟩,
  ⟨"INTLK_CLR", 0xEC, 0, 1, [⟨"LEG", 0, 6, .wo, 0⟩]⟩,
  ⟨"LAST_TIME", 0xF0, 0, 1, [⟨"TIME", 0, 32, .ro, 0⟩]⟩,
  ⟨"SRC_CFG", 0x100, 4, 168, [⟨"FILT", 24, 8, .rwl, 0⟩, ⟨"POL", 23, 1, .rwl, 1⟩, ⟨"EN", 22, 1, .rwl, 0⟩, ⟨"LATCH", 21, 1, .rwl, 1⟩, ⟨"STATE_SEL", 19, 2, .rwl, 0⟩, ⟨"SCOPE", 18, 1, .rwl, 0⟩, ⟨"XMASK", 0, 16, .rwl, 0⟩]⟩,
  ⟨"SRC_CFG_INT", 0x3A0, 4, 8, [⟨"VALUE", 0, 32, .ro, 6291456⟩]⟩,
  ⟨"TARGET", 0x400, 4, 176, [⟨"VALID", 31, 1, .rwa, 0⟩, ⟨"STAGE", 16, 4, .rwa, 0⟩, ⟨"IMASK", 0, 16, .ro, 0⟩]⟩,
  ⟨"FLOOR", 0x700, 4, 16, [⟨"FLOOR", 0, 10, .ro, 800⟩]⟩,
  ⟨"INTLK_STAT", 0x800, 4, 64, [⟨"FAULT", 31, 1, .ro, 0⟩, ⟨"HIT_CNT", 0, 16, .ro, 0⟩]⟩]

/-- The block-specific registers of the CTX page. -/
def ctxRegs : List RegDesc := [
  ⟨"STATUS", 0xC, 0, 1, [⟨"ANY_S_SAT", 17, 1, .ro, 0⟩, ⟨"ANY_FAULT", 16, 1, .ro, 0⟩]⟩,
  ⟨"CFG", 0x40, 0, 1, [⟨"BSTAGE", 0, 4, .rw, 0⟩]⟩,
  ⟨"POOL_ADDR", 0x44, 0, 1, [⟨"ADDR", 0, 32, .ro, 0⟩]⟩,
  ⟨"FAULT", 0x48, 4, 2, [⟨"CTX", 0, 32, .ro, 0⟩]⟩,
  ⟨"SSAT", 0x50, 4, 2, [⟨"CTX", 0, 32, .ro, 0⟩]⟩,
  ⟨"CNT_CLR", 0x58, 0, 1, [⟨"ALL", 31, 1, .wo, 0⟩, ⟨"CTX", 0, 6, .wo, 0⟩]⟩,
  ⟨"CCFG", 0x100, 32, 64, [⟨"VALID", 31, 1, .rwa, 0⟩, ⟨"CLASS", 30, 1, .rwa, 0⟩, ⟨"FORMAT", 29, 1, .rwa, 0⟩, ⟨"STREAM", 21, 8, .rwa, 0⟩, ⟨"GT_BASE", 10, 11, .rwa, 0⟩, ⟨"GT_N", 3, 7, .rwa, 0⟩]⟩,
  ⟨"CCTL", 0x104, 32, 64, [⟨"RUN", 31, 1, .rw, 0⟩, ⟨"RAMP_RESTART", 30, 1, .w1s, 0⟩, ⟨"RST_TRIP", 29, 1, .rw, 0⟩, ⟨"BANK_REQ", 0, 1, .rws, 0⟩]⟩,
  ⟨"CSTAT", 0x108, 32, 64, [⟨"RUNNING", 31, 1, .ro, 0⟩, ⟨"ACTIVE_BANK", 30, 1, .ro, 0⟩, ⟨"BANK_PENDING", 29, 1, .ro, 0⟩, ⟨"FAULT", 28, 1, .ro, 0⟩, ⟨"FAULT_KIND", 24, 4, .ro, 0⟩]⟩,
  ⟨"STICKY", 0x10C, 32, 64, [⟨"S_SAT", 31, 1, .ro, 0⟩, ⟨"A_OVF", 30, 1, .w1c, 0⟩, ⟨"A_CLAMP", 29, 1, .w1c, 0⟩, ⟨"SAT_CNT", 0, 16, .ro, 0⟩]⟩,
  ⟨"JOBS", 0x110, 32, 64, [⟨"COUNT", 0, 32, .ro, 0⟩]⟩,
  ⟨"MAX_CYC", 0x114, 32, 64, [⟨"CYCLES", 0, 32, .ro, 0⟩]⟩,
  ⟨"CNT", 0x118, 32, 64, [⟨"OVERRUN_CNT", 16, 16, .ro, 0⟩, ⟨"LATE_CNT", 0, 16, .ro, 0⟩]⟩,
  ⟨"CADDR", 0x11C, 32, 64, [⟨"ADDR", 0, 32, .rwa, 0⟩]⟩]

/-- The block-specific registers of the FLD page. -/
def fldRegs : List RegDesc := [
  ⟨"STATUS", 0xC, 0, 1, [⟨"STARTING", 16, 16, .ro, 0⟩]⟩,
  ⟨"LIB_ADDR", 0x40, 8, 5, [⟨"ADDR", 0, 32, .ro, 0⟩]⟩,
  ⟨"LIB_INFO", 0x44, 8, 5, [⟨"LEN", 16, 16, .ro, 0⟩]⟩,
  ⟨"DCFG", 0x100, 128, 16, [⟨"EN", 31, 1, .rw, 0⟩, ⟨"MTYPE", 29, 2, .rw, 0⟩, ⟨"FS_EN", 28, 1, .rw, 0⟩, ⟨"IPD_EN", 27, 1, .rw, 0⟩, ⟨"MON_EN", 26, 1, .rw, 0⟩, ⟨"CTX_CUR", 18, 6, .rw, 0⟩, ⟨"CTX_OUT", 12, 6, .rw, 0⟩, ⟨"CTX_AUX", 6, 6, .rw, 0⟩]⟩,
  ⟨"DLINK", 0x104, 128, 16, [⟨"MB_LOOP", 24, 8, .rw, 0⟩, ⟨"CATCH_HOLD", 16, 8, .rw, 4⟩, ⟨"SRC", 11, 5, .rw, 31⟩]⟩,
  ⟨"I_BASE", 0x108, 128, 16, [⟨"VALUE", 0, 32, .rw, 0⟩]⟩,
  ⟨"U_BASE", 0x10C, 128, 16, [⟨"VALUE", 0, 32, .rw, 0⟩]⟩,
  ⟨"F_BASE", 0x110, 128, 16, [⟨"VALUE", 0, 32, .rw, 0⟩]⟩,
  ⟨"PSI_NOM", 0x114, 128, 16, [⟨"VALUE", 0, 32, .rw, 0⟩]⟩,
  ⟨"RES_S", 0x118, 128, 16, [⟨"VALUE", 0, 32, .rw, 0⟩]⟩,
  ⟨"L_D", 0x11C, 128, 16, [⟨"VALUE", 0, 32, .rw, 0⟩]⟩,
  ⟨"MAG", 0x120, 128, 16, [⟨"ALPHA", 16, 16, .rw, 0⟩, ⟨"T_REF", 8, 8, .rw, 20⟩]⟩,
  ⟨"TSRC", 0x124, 128, 16, [⟨"SRC", 27, 5, .rw, 0⟩, ⟨"OFFSET", 8, 8, .rw, 0⟩, ⟨"AGE", 0, 8, .rw, 10⟩]⟩,
  ⟨"T_MAG", 0x128, 128, 16, [⟨"TEMP", 0, 16, .rw, 0⟩]⟩,
  ⟨"BAND_A", 0x12C, 128, 16, [⟨"HIGH", 16, 16, .rw, 17695⟩, ⟨"LOW", 0, 16, .rw, 15565⟩]⟩,
  ⟨"BAND_B", 0x130, 128, 16, [⟨"FLOOR", 16, 16, .rw, 12288⟩, ⟨"EST_N", 0, 8, .rw, 64⟩]⟩,
  ⟨"VSENSE", 0x134, 128, 16, [⟨"VALID", 31, 1, .rwa, 0⟩, ⟨"GROUP", 28, 2, .rwa, 0⟩, ⟨"PIN_U", 8, 4, .rwa, 0⟩, ⟨"PIN_V", 4, 4, .rwa, 0⟩, ⟨"PIN_W", 0, 4, .rwa, 0⟩]⟩,
  ⟨"VS_SCALE", 0x138, 128, 16, [⟨"SCALE", 0, 32, .rw, 0⟩]⟩,
  ⟨"FS_TIME", 0x13C, 128, 16, [⟨"MEAS_TIME", 16, 16, .rw, 400⟩, ⟨"SAMPLE", 0, 16, .rw, 20⟩]⟩,
  ⟨"EMF_MIN", 0x140, 128, 16, [⟨"VALUE", 0, 32, .rw, 1000⟩]⟩,
  ⟨"CATCH_MAX", 0x144, 128, 16, [⟨"VALUE", 0, 32, .rw, 0⟩]⟩,
  ⟨"IPD_CFG", 0x148, 128, 16, [⟨"T_P", 22, 10, .rw, 50⟩, ⟨"T_GAP", 10, 12, .rw, 50⟩]⟩,
  ⟨"IPD_LIM", 0x14C, 128, 16, [⟨"IMAX", 16, 16, .rw, 16384⟩, ⟨"SAL_MIN", 8, 8, .rw, 13⟩, ⟨"POL_MIN", 0, 8, .rw, 8⟩]⟩,
  ⟨"DCMD", 0x150, 128, 16, [⟨"CMD", 0, 2, .wo, 0⟩]⟩]
  ++ [
  ⟨"DSTAT", 0x154, 128, 16, [⟨"PHASE", 29, 3, .ro, 0⟩, ⟨"KIND", 26, 3, .ro, 0⟩, ⟨"DIR", 25, 1, .ro, 0⟩, ⟨"FIRST_DONE", 24, 1, .ro, 0⟩, ⟨"DEMAG", 23, 1, .ro, 0⟩, ⟨"WRONG_MACHINE", 22, 1, .ro, 0⟩, ⟨"STALE", 21, 1, .ro, 0⟩, ⟨"ENABLED", 20, 1, .ro, 0⟩, ⟨"LAST", 0, 16, .ro, 0⟩]⟩,
  ⟨"MEAS_ANGLE", 0x158, 128, 16, [⟨"VALUE", 0, 32, .ro, 0⟩]⟩,
  ⟨"MEAS_SPEED", 0x15C, 128, 16, [⟨"VALUE", 0, 32, .ro, 0⟩]⟩,
  ⟨"MEAS_EMF", 0x160, 128, 16, [⟨"VALUE", 0, 32, .ro, 0⟩]⟩,
  ⟨"IPD_ANGLE", 0x164, 128, 16, [⟨"VALUE", 0, 32, .ro, 0⟩]⟩,
  ⟨"T0", 0x168, 128, 16, [⟨"VALUE", 0, 32, .ro, 0⟩]⟩,
  ⟨"PSI_EST", 0x16C, 128, 16, [⟨"VALUE", 0, 32, .ro, 0⟩]⟩,
  ⟨"PSI_COMP", 0x170, 128, 16, [⟨"VALUE", 0, 32, .ro, 0⟩]⟩,
  ⟨"RATIO", 0x174, 128, 16, [⟨"RATIO", 16, 16, .ro, 0⟩, ⟨"SAL", 8, 8, .ro, 0⟩, ⟨"POL", 0, 8, .ro, 0⟩]⟩,
  ⟨"EV", 0x178, 128, 16, [⟨"STALE", 7, 1, .w1c, 0⟩, ⟨"WRONG_MACHINE", 6, 1, .w1c, 0⟩, ⟨"DEMAG", 5, 1, .w1c, 0⟩, ⟨"VERDICT", 4, 1, .w1c, 0⟩, ⟨"REFUSED", 3, 1, .w1c, 0⟩, ⟨"HANDED_OVER", 2, 1, .w1c, 0⟩, ⟨"IPD_DONE", 1, 1, .w1c, 0⟩, ⟨"MEAS_DONE", 0, 1, .w1c, 0⟩]⟩,
  ⟨"DCLR", 0x17C, 128, 16, [⟨"NEW_MACHINE", 1, 1, .wo, 0⟩, ⟨"CLR_DEMAG", 0, 1, .wo, 0⟩]⟩]

/-- The block-specific registers of the NRG page. -/
def nrgRegs : List RegDesc := [
  ⟨"STATUS", 0xC, 0, 1, [⟨"RES_HOT", 22, 1, .ro, 0⟩, ⟨"ESC", 20, 2, .ro, 0⟩, ⟨"DIS", 18, 2, .ro, 0⟩, ⟨"CHOP_FAULT", 17, 1, .ro, 0⟩, ⟨"U_VALID", 16, 1, .ro, 0⟩]⟩,
  ⟨"LINK_CFG", 0x40, 0, 1, [⟨"SDI", 27, 5, .rw, 0⟩]⟩,
  ⟨"U_FS", 0x44, 0, 1, [⟨"VALUE", 0, 32, .rw, 0⟩]⟩,
  ⟨"CAP", 0x48, 0, 1, [⟨"VALUE", 0, 32, .rw, 0⟩]⟩,
  ⟨"OV_CFG", 0x4C, 0, 1, [⟨"U_OV", 16, 16, .rw, 0⟩, ⟨"U_REARM", 0, 16, .rw, 0⟩]⟩,
  ⟨"CHOP_CFG", 0x50, 0, 1, [⟨"LEG", 26, 6, .rw, 0⟩, ⟨"CHOP_T", 16, 10, .rw, 20⟩, ⟨"D_MIN", 8, 8, .rw, 128⟩, ⟨"SLOPE_TH", 0, 8, .rw, 20⟩]⟩,
  ⟨"BR_R", 0x54, 0, 1, [⟨"VALUE", 0, 32, .rw, 0⟩]⟩,
  ⟨"BR_EMAX", 0x58, 0, 1, [⟨"VALUE", 0, 32, .rw, 0⟩]⟩,
  ⟨"BR_TAU", 0x5C, 0, 1, [⟨"VALUE", 0, 32, .rw, 0⟩]⟩,
  ⟨"DIS_R", 0x60, 0, 1, [⟨"VALUE", 0, 32, .rw, 0⟩]⟩,
  ⟨"DIS_EMAX", 0x64, 0, 1, [⟨"VALUE", 0, 32, .rw, 0⟩]⟩,
  ⟨"DIS_TAU", 0x68, 0, 1, [⟨"VALUE", 0, 32, .rw, 0⟩]⟩,
  ⟨"DIS_PMAX", 0x6C, 0, 1, [⟨"VALUE", 0, 32, .rw, 0⟩]⟩,
  ⟨"DIS_CFG", 0x70, 0, 1, [⟨"DIS_EN", 31, 1, .rw, 0⟩, ⟨"ON_STO", 30, 1, .rw, 0⟩, ⟨"STAGE", 26, 4, .rw, 0⟩, ⟨"T_DIS", 16, 10, .rw, 200⟩, ⟨"U_LIM", 0, 16, .rw, 60⟩]⟩,
  ⟨"DIS_PRE", 0x74, 0, 1, [⟨"U_DC_MAX", 16, 16, .rw, 0⟩, ⟨"E_PRE", 0, 16, .rw, 0⟩]⟩,
  ⟨"MACH_A", 0x80, 8, 8, [⟨"VALID", 31, 1, .rw, 0⟩, ⟨"STAGE", 27, 4, .rw, 0⟩, ⟨"MB_LOOP", 19, 8, .rw, 0⟩, ⟨"REF_LOOP", 11, 8, .rw, 0⟩]⟩,
  ⟨"MACH_B", 0x84, 8, 8, [⟨"PSI", 0, 32, .rw, 0⟩]⟩,
  ⟨"DIS_CMD", 0xC0, 0, 1, [⟨"ABORT", 1, 1, .w1s, 0⟩, ⟨"REQ", 0, 1, .w1s, 0⟩]⟩,
  ⟨"ESC_CLR", 0xC4, 0, 1, [⟨"CLR", 0, 1, .wo, 0⟩]⟩,
  ⟨"U_DC", 0xC8, 0, 1, [⟨"VALUE", 0, 32, .ro, 0⟩]⟩,
  ⟨"E_LINK", 0xCC, 0, 1, [⟨"VALUE", 0, 32, .ro, 0⟩]⟩,
  ⟨"P_REGEN", 0xD0, 0, 1, [⟨"VALUE", 0, 32, .ro, 0⟩]⟩,
  ⟨"E_BR", 0xD4, 0, 1, [⟨"VALUE", 0, 32, .ro, 0⟩]⟩,
  ⟨"E_DIS", 0xD8, 0, 1, [⟨"VALUE", 0, 32, .ro, 0⟩]⟩]
  ++ [
  ⟨"SLOPE", 0xDC, 0, 1, [⟨"VALUE", 0, 32, .ro, 0⟩]⟩,
  ⟨"EFF", 0xE0, 0, 1, [⟨"VALUE", 0, 32, .ro, 0⟩]⟩,
  ⟨"T_PRED", 0xE4, 0, 1, [⟨"VALUE", 0, 32, .ro, 0⟩]⟩,
  ⟨"REGEN_LIM", 0xE8, 0, 1, [⟨"VALUE", 0, 16, .ro, 32767⟩]⟩,
  ⟨"ESC_MAP", 0xEC, 0, 1, [⟨"STALE", 24, 8, .ro, 0⟩, ⟨"ASC", 8, 8, .ro, 0⟩, ⟨"OFF", 0, 8, .ro, 0⟩]⟩,
  ⟨"CHOP_DUTY", 0xF0, 0, 1, [⟨"CMD", 16, 16, .ro, 0⟩, ⟨"ON", 0, 16, .ro, 0⟩]⟩,
  ⟨"DIS_DUTY", 0xF4, 0, 1, [⟨"CMD", 16, 16, .ro, 0⟩, ⟨"ON", 0, 16, .ro, 0⟩]⟩]

/-- The block-specific registers of the THM page. -/
def thmRegs : List RegDesc := [
  ⟨"STATUS", 0xC, 0, 1, [⟨"DIE_LEVEL", 20, 2, .ro, 0⟩, ⟨"FLOOR_HELD", 19, 1, .ro, 0⟩, ⟨"NTC_ANY", 18, 1, .ro, 0⟩, ⟨"HK_LATE", 17, 1, .ro, 0⟩, ⟨"ROUND_VALID", 16, 1, .ro, 0⟩]⟩,
  ⟨"HK_CFG", 0x40, 0, 1, [⟨"HK_PERIOD", 0, 6, .rw, 10⟩]⟩,
  ⟨"DIE_THR", 0x44, 0, 1, [⟨"WARN", 24, 8, .rwl, 125⟩, ⟨"THR", 16, 8, .rwl, 135⟩, ⟨"SHUT", 8, 8, .rwl, 150⟩, ⟨"HYST", 0, 8, .rwl, 5⟩]⟩,
  ⟨"DIE_D", 0x48, 4, 4, [⟨"VALUE", 0, 32, .ro, 0⟩]⟩,
  ⟨"DIE_T", 0x58, 4, 4, [⟨"VALUE", 0, 32, .ro, 0⟩]⟩,
  ⟨"DIE_PAR", 0x68, 4, 4, [⟨"R_DIE", 16, 16, .ro, 0⟩, ⟨"TAU", 0, 16, .ro, 0⟩]⟩,
  ⟨"P_DIE", 0x78, 0, 1, [⟨"VALUE", 0, 32, .ro, 0⟩]⟩,
  ⟨"T_DIE", 0x7C, 0, 1, [⟨"VALUE", 0, 32, .ro, 0⟩]⟩,
  ⟨"SUP", 0x80, 4, 8, [⟨"VALUE", 0, 32, .ro, 0⟩]⟩,
  ⟨"REF", 0xA0, 4, 4, [⟨"VALUE", 0, 32, .ro, 0⟩]⟩,
  ⟨"ROUND_CNT", 0xB0, 0, 1, [⟨"VALUE", 0, 32, .ro, 0⟩]⟩,
  ⟨"SKIP_CNT", 0xB4, 0, 1, [⟨"VALUE", 0, 32, .ro, 0⟩]⟩,
  ⟨"MCFG", 0x200, 64, 16, [⟨"VALID", 31, 1, .rw, 0⟩, ⟨"FAULT_ACT", 30, 1, .rw, 1⟩, ⟨"STAGE", 26, 4, .rw, 0⟩, ⟨"NTC_PIN", 20, 6, .rw, 0⟩, ⟨"REF_LOOP", 12, 8, .rw, 0⟩]⟩,
  ⟨"NTC_A", 0x204, 64, 16, [⟨"B", 16, 16, .rw, 0⟩, ⟨"R25", 0, 16, .rw, 0⟩]⟩,
  ⟨"NTC_B", 0x208, 64, 16, [⟨"R_PU", 0, 32, .rw, 0⟩]⟩,
  ⟨"LOSS_A", 0x20C, 64, 16, [⟨"V0", 16, 16, .rw, 0⟩, ⟨"R0", 0, 16, .rw, 0⟩]⟩,
  ⟨"LOSS_B", 0x210, 64, 16, [⟨"ESW", 0, 32, .rw, 0⟩]⟩,
  ⟨"SCALE", 0x214, 64, 16, [⟨"I_REF", 20, 12, .rw, 0⟩, ⟨"U_REF", 8, 12, .rw, 0⟩]⟩,
  ⟨"I_FS", 0x218, 64, 16, [⟨"VALUE", 0, 32, .rw, 0⟩]⟩,
  ⟨"FR_A", 0x21C, 64, 16, [⟨"R0", 16, 16, .rw, 0⟩, ⟨"R1", 0, 16, .rw, 0⟩]⟩,
  ⟨"FR_B", 0x220, 64, 16, [⟨"R2", 16, 16, .rw, 0⟩, ⟨"R3", 0, 16, .rw, 0⟩]⟩,
  ⟨"FT_A", 0x224, 64, 16, [⟨"TAU0", 16, 16, .rw, 0⟩, ⟨"TAU1", 0, 16, .rw, 0⟩]⟩,
  ⟨"FT_B", 0x228, 64, 16, [⟨"TAU2", 16, 16, .rw, 0⟩, ⟨"TAU3", 0, 16, .rw, 0⟩]⟩,
  ⟨"DRT", 0x22C, 64, 16, [⟨"G_MIN", 16, 16, .rw, 16384⟩, ⟨"RAMP", 0, 16, .rw, 328⟩]⟩]
  ++ [
  ⟨"MTHR", 0x230, 64, 16, [⟨"WARN", 24, 8, .rw, 140⟩, ⟨"THR", 16, 8, .rw, 150⟩, ⟨"SHUT", 8, 8, .rw, 175⟩, ⟨"HYST", 0, 8, .rw, 5⟩]⟩,
  ⟨"I_NOM", 0x234, 64, 16, [⟨"I_NOM", 16, 16, .rw, 32767⟩, ⟨"I_LIM", 0, 16, .ro, 0⟩]⟩,
  ⟨"T_NTC", 0x238, 64, 16, [⟨"LEVEL", 30, 2, .ro, 0⟩, ⟨"NTC_FAULT", 29, 1, .ro, 0⟩, ⟨"T", 0, 16, .ro, 0⟩]⟩,
  ⟨"T_J", 0x23C, 64, 16, [⟨"VALUE", 0, 32, .ro, 0⟩]⟩]

/-- The block-specific registers of the GNM page. -/
def gnmRegs : List RegDesc := [
  ⟨"STATUS", 0xC, 0, 1, [⟨"CONFIG_ACTIVE", 23, 1, .ro, 0⟩, ⟨"LOCKOUT", 22, 1, .ro, 1⟩, ⟨"STO", 21, 1, .ro, 0⟩, ⟨"SN_DEMAND", 20, 1, .ro, 0⟩, ⟨"CH_B", 19, 1, .ro, 0⟩, ⟨"CH_A", 18, 1, .ro, 0⟩, ⟨"GDEN_B", 17, 1, .ro, 0⟩, ⟨"GDEN_A", 16, 1, .ro, 0⟩]⟩,
  ⟨"VERSION", 0x40, 0, 1, [⟨"ROM", 16, 16, .ro, 0⟩, ⟨"PATCH", 0, 16, .ro, 0⟩]⟩,
  ⟨"LOCK_CAUSE", 0x44, 0, 1, [⟨"FIRST", 24, 8, .ro, 0⟩, ⟨"CAUSE", 0, 13, .ro, 1⟩]⟩,
  ⟨"LOCK_TIME", 0x48, 0, 1, [⟨"TIME", 0, 32, .ro, 0⟩]⟩,
  ⟨"DISC", 0x4C, 0, 1, [⟨"RESULT", 30, 2, .ro, 0⟩, ⟨"LEN", 0, 16, .ro, 0⟩]⟩,
  ⟨"RESET_STAT", 0x50, 0, 1, [⟨"RESULT", 28, 4, .ro, 0⟩, ⟨"SRC", 27, 1, .ro, 0⟩, ⟨"COUNT", 0, 16, .ro, 0⟩]⟩,
  ⟨"CFG_STAT", 0x54, 0, 1, [⟨"STATE", 30, 2, .ro, 0⟩, ⟨"CODE", 0, 16, .ro, 0⟩]⟩,
  ⟨"CFG_CRC", 0x58, 0, 1, [⟨"CRC", 0, 32, .ro, 0⟩]⟩,
  ⟨"STO_CFG", 0x5C, 0, 1, [⟨"STO_FILT", 19, 13, .ro, 0⟩, ⟨"DISC_T", 9, 10, .ro, 0⟩, ⟨"GDEN_SETTLE", 3, 6, .ro, 0⟩]⟩,
  ⟨"REACT", 0x60, 0, 1, [⟨"REACT", 0, 8, .ro, 0⟩]⟩,
  ⟨"EVT_LAST", 0x64, 0, 1, [⟨"KIND", 28, 4, .ro, 0⟩, ⟨"REACTION", 26, 2, .ro, 0⟩, ⟨"CTX", 20, 6, .ro, 0⟩, ⟨"CLUSTER", 16, 4, .ro, 0⟩, ⟨"TYPE", 8, 8, .ro, 0⟩, ⟨"INSTANCE", 0, 8, .ro, 0⟩]⟩,
  ⟨"EVT_CNT", 0x68, 0, 1, [⟨"COUNT", 0, 32, .ro, 0⟩]⟩,
  ⟨"TQ_CFG", 0x80, 8, 8, [⟨"LOOP_ID", 24, 8, .ro, 0⟩, ⟨"STAGE", 20, 4, .ro, 0⟩, ⟨"REACT", 18, 2, .ro, 0⟩, ⟨"WINDOW", 0, 16, .ro, 0⟩]⟩,
  ⟨"TQ_STAT", 0x84, 8, 8, [⟨"OUTSIDE", 31, 1, .ro, 0⟩, ⟨"REACTED", 30, 1, .ro, 0⟩, ⟨"TIME", 16, 10, .ro, 0⟩, ⟨"RUN", 0, 16, .ro, 0⟩]⟩]

/-- The block-specific registers of the SNET page. -/
def snetRegs : List RegDesc := [
  ⟨"STATUS", 0xC, 0, 1, [⟨"SN_EN", 18, 1, .ro, 0⟩, ⟨"BASE_WAIT", 17, 1, .ro, 0⟩, ⟨"SN_DEMAND", 16, 1, .ro, 0⟩]⟩,
  ⟨"SREQ", 0x40, 0, 1, [⟨"GO", 31, 1, .w1s, 0⟩, ⟨"CMD", 24, 4, .rw, 0⟩, ⟨"CTX", 0, 6, .rw, 0⟩]⟩,
  ⟨"SREQ_ARG", 0x44, 0, 1, [⟨"ARG", 0, 32, .rw, 0⟩]⟩,
  ⟨"SREQ_STAT", 0x48, 0, 1, [⟨"BUSY", 31, 1, .ro, 0⟩, ⟨"CMD", 16, 4, .ro, 0⟩, ⟨"CODE", 0, 16, .ro, 0⟩]⟩,
  ⟨"SN_CFG", 0x4C, 0, 1, [⟨"PATH_B", 2, 1, .ro, 0⟩, ⟨"PATH_A", 1, 1, .ro, 0⟩, ⟨"EN", 0, 1, .ro, 0⟩]⟩,
  ⟨"W_P", 0x50, 0, 1, [⟨"VALUE", 0, 32, .ro, 0⟩]⟩,
  ⟨"WD", 0x54, 0, 1, [⟨"VALUE", 0, 32, .ro, 0⟩]⟩,
  ⟨"SN_ID", 0x58, 0, 1, [⟨"CONN_RX", 16, 16, .ro, 0⟩, ⟨"CONN_TX", 0, 16, .ro, 0⟩]⟩,
  ⟨"LAST_SEQ", 0x5C, 0, 1, [⟨"SEQ", 0, 32, .ro, 0⟩]⟩,
  ⟨"LAST_TIME", 0x60, 0, 1, [⟨"TIME", 0, 32, .ro, 0⟩]⟩,
  ⟨"FAULT", 0x64, 0, 1, [⟨"KIND", 29, 3, .ro, 0⟩, ⟨"PATH", 28, 1, .ro, 0⟩, ⟨"SEQ", 0, 16, .ro, 0⟩]⟩,
  ⟨"RX_DATA", 0x70, 4, 4, [⟨"DATA", 0, 32, .ro, 0⟩]⟩,
  ⟨"TX_DATA", 0x80, 4, 3, [⟨"DATA", 0, 32, .rw, 0⟩]⟩,
  ⟨"CNT_A", 0x90, 0, 1, [⟨"CRC_CNT", 16, 16, .ro, 0⟩, ⟨"DISC_CNT", 0, 16, .ro, 0⟩]⟩,
  ⟨"CNT_B", 0x94, 0, 1, [⟨"CRC_CNT", 16, 16, .ro, 0⟩, ⟨"DISC_CNT", 0, 16, .ro, 0⟩]⟩,
  ⟨"CNT_PAIR", 0x98, 0, 1, [⟨"COUNT", 0, 32, .ro, 0⟩]⟩,
  ⟨"CNT_CLR", 0x9C, 0, 1, [⟨"CLR", 0, 1, .wo, 0⟩]⟩]

/-- The block-specific registers of the BIST page. -/
def bistRegs : List RegDesc := [
  ⟨"STATUS", 0xC, 0, 1, [⟨"TARGET", 20, 4, .ro, 0⟩, ⟨"PROG_VALID", 19, 1, .ro, 0⟩, ⟨"SLICES_STOPPED", 18, 1, .ro, 0⟩, ⟨"SLICE", 17, 1, .ro, 0⟩, ⟨"BUSY", 16, 1, .ro, 0⟩]⟩,
  ⟨"RUN_REQ", 0x40, 0, 1, [⟨"GO", 31, 1, .w1s, 0⟩, ⟨"PROG", 4, 2, .rw, 0⟩, ⟨"TARGET", 0, 4, .rw, 0⟩]⟩,
  ⟨"RUN_ADDR", 0x44, 0, 1, [⟨"ADDR", 0, 32, .rw, 0⟩]⟩,
  ⟨"PROG_INFO", 0x48, 0, 1, [⟨"VERSION", 16, 16, .ro, 0⟩, ⟨"SEGMENTS", 0, 16, .ro, 0⟩]⟩,
  ⟨"SLICE_LAST", 0x4C, 0, 1, [⟨"TARGET", 28, 4, .ro, 0⟩, ⟨"RESULT", 26, 2, .ro, 0⟩, ⟨"SEG", 21, 5, .ro, 0⟩]⟩,
  ⟨"SLICE_CNT", 0x50, 0, 1, [⟨"COUNT", 0, 32, .ro, 0⟩]⟩,
  ⟨"FAIL_CNT", 0x54, 0, 1, [⟨"COUNT", 0, 32, .ro, 0⟩]⟩,
  ⟨"RESULT", 0x100, 4, 16, [⟨"STATE", 30, 2, .ro, 0⟩, ⟨"SETTING", 28, 2, .ro, 0⟩, ⟨"SEG", 16, 5, .ro, 0⟩, ⟨"PASS_CNT", 0, 16, .ro, 0⟩]⟩,
  ⟨"SIG", 0x140, 4, 16, [⟨"SIG", 0, 32, .ro, 0⟩]⟩]

/-- The block-specific registers of the CAP page. -/
def capRegs : List RegDesc := [
  ⟨"STATUS", 0xC, 0, 1, [⟨"STATE", 18, 2, .ro, 0⟩, ⟨"PRE_SHORT", 17, 1, .ro, 0⟩, ⟨"GAP", 16, 1, .ro, 0⟩]⟩,
  ⟨"CFG", 0x40, 0, 1, [⟨"MODE", 30, 2, .rw, 0⟩, ⟨"UNROLL", 29, 1, .rw, 0⟩, ⟨"RAW_MASK", 0, 24, .rw, 0⟩]⟩,
  ⟨"TRIG", 0x44, 0, 1, [⟨"TRIG_SRC", 8, 8, .rw, 0⟩, ⟨"TRIG_EN", 0, 7, .rw, 0⟩]⟩,
  ⟨"STAGE_MASK", 0x48, 0, 1, [⟨"MASK", 0, 16, .rw, 0⟩]⟩,
  ⟨"PRE_REC", 0x4C, 0, 1, [⟨"VALUE", 0, 32, .rw, 0⟩]⟩,
  ⟨"POST_REC", 0x50, 0, 1, [⟨"VALUE", 0, 32, .rw, 1⟩]⟩,
  ⟨"DEC", 0x54, 0, 1, [⟨"N_DEC", 28, 4, .rw, 0⟩, ⟨"DEC_PER", 0, 24, .rw, 400⟩]⟩,
  ⟨"CMD", 0x58, 0, 1, [⟨"TRIG_SW", 2, 1, .w1s, 0⟩, ⟨"STOP", 1, 1, .w1s, 0⟩, ⟨"ARM", 0, 1, .w1s, 0⟩]⟩,
  ⟨"BUF_ADDR", 0x5C, 0, 1, [⟨"VALUE", 0, 32, .rwa, 0⟩]⟩,
  ⟨"BUF_SIZE", 0x60, 0, 1, [⟨"VALUE", 0, 32, .rwa, 0⟩]⟩,
  ⟨"REC", 0x64, 0, 1, [⟨"REC", 0, 16, .ro, 0⟩]⟩,
  ⟨"TRIG_OFS", 0x68, 0, 1, [⟨"VALUE", 0, 32, .ro, 0⟩]⟩,
  ⟨"START_OFS", 0x6C, 0, 1, [⟨"VALUE", 0, 32, .ro, 0⟩]⟩,
  ⟨"TRIG_TIME_LO", 0x70, 0, 1, [⟨"VALUE", 0, 32, .ro, 0⟩]⟩,
  ⟨"TRIG_TIME_HI", 0x74, 0, 1, [⟨"VALUE", 0, 32, .ro, 0⟩]⟩,
  ⟨"TRIG_CAUSE", 0x78, 0, 1, [⟨"CAUSE", 0, 7, .ro, 0⟩]⟩,
  ⟨"DEC_ADDR", 0x80, 4, 16, [⟨"ADDR", 0, 32, .rw, 0⟩]⟩]

/-- The block-specific registers of the STG page. -/
def stgRegs : List RegDesc := [
  ⟨"STATUS", 0xC, 0, 1, [⟨"COARSE_ONLY", 20, 1, .ro, 0⟩, ⟨"WAIT_SYNC", 19, 1, .ro, 0⟩, ⟨"SET", 17, 2, .ro, 0⟩, ⟨"RUNNING", 16, 1, .ro, 0⟩]⟩,
  ⟨"CFG", 0x40, 0, 1, [⟨"MODE", 30, 2, .rw, 2⟩, ⟨"ABS", 29, 1, .rw, 0⟩, ⟨"BOUND", 27, 2, .rw, 0⟩, ⟨"IRQ_PRE", 23, 4, .rw, 0⟩, ⟨"SYNC_SRC", 18, 5, .rw, 31⟩]⟩,
  ⟨"SYNC_OFS", 0x44, 0, 1, [⟨"VALUE", 0, 24, .rw, 0⟩]⟩,
  ⟨"PERIOD", 0x48, 0, 1, [⟨"VALUE", 0, 24, .rws, 40000⟩]⟩,
  ⟨"FB_PERIOD", 0x4C, 0, 1, [⟨"VALUE", 0, 24, .rws, 40000⟩]⟩,
  ⟨"CMP", 0x50, 4, 4, [⟨"VALUE", 0, 32, .rws, 0⟩]⟩,
  ⟨"INST_CFG", 0x60, 0, 1, [⟨"INST3", 12, 4, .rw, 0⟩, ⟨"INST2", 8, 4, .rw, 0⟩, ⟨"INST1", 4, 4, .rw, 0⟩, ⟨"INST0", 0, 4, .rw, 0⟩]⟩,
  ⟨"LIMITS", 0x64, 0, 1, [⟨"FB_MODE", 24, 2, .rwa, 0⟩, ⟨"PERIOD_MIN", 0, 24, .rwa, 2⟩]⟩,
  ⟨"COUNTER", 0x68, 0, 1, [⟨"VALUE", 0, 24, .ro, 0⟩]⟩,
  ⟨"P_ACT", 0x6C, 0, 1, [⟨"VALUE", 0, 24, .ro, 0⟩]⟩,
  ⟨"CARRIER_CNT", 0x70, 0, 1, [⟨"VALUE", 0, 32, .ro, 0⟩]⟩,
  ⟨"CNT", 0x74, 0, 1, [⟨"CLIP_CNT", 16, 16, .ro, 0⟩, ⟨"SPLIT_CNT", 0, 16, .ro, 0⟩]⟩,
  ⟨"CNT_CLR", 0x78, 0, 1, [⟨"CLR", 0, 1, .wo, 0⟩]⟩,
  ⟨"TRIG", 0x80, 4, 16, [⟨"VALID", 31, 1, .rwa, 0⟩, ⟨"EVENT", 28, 3, .rwa, 0⟩, ⟨"PRESCALE", 24, 4, .rwa, 0⟩, ⟨"LOOP_ID", 8, 8, .rwa, 0⟩]⟩,
  ⟨"CM_CFG", 0x200, 0, 1, [⟨"SETTLE", 20, 12, .rw, 80⟩, ⟨"MAX_SHIFT", 4, 16, .rw, 0⟩]⟩,
  ⟨"CM_MODE", 0x204, 0, 1, [⟨"RECON", 31, 1, .rwa, 0⟩, ⟨"SENSING", 29, 2, .rwa, 0⟩, ⟨"STARS", 27, 2, .rwa, 0⟩]⟩,
  ⟨"CM_CH", 0x208, 4, 4, [⟨"OFS", 16, 16, .rw, 0⟩, ⟨"GAIN", 0, 16, .rw, 8192⟩]⟩,
  ⟨"CM_STAT", 0x218, 0, 1, [⟨"VALID", 31, 1, .ro, 0⟩, ⟨"SHIFTED", 30, 1, .ro, 0⟩, ⟨"NOWIN", 29, 1, .ro, 0⟩, ⟨"MISSING", 28, 1, .ro, 0⟩, ⟨"RANGE", 27, 1, .ro, 0⟩, ⟨"DIST", 26, 1, .ro, 0⟩, ⟨"LATE", 25, 1, .ro, 0⟩, ⟨"SAT", 24, 1, .ro, 0⟩, ⟨"BAD", 23, 1, .ro, 0⟩, ⟨"TRIPPED", 22, 1, .ro, 0⟩, ⟨"FORCED", 21, 1, .ro, 0⟩, ⟨"SECTOR", 18, 3, .ro, 7⟩, ⟨"SEQ", 0, 16, .ro, 0⟩]⟩,
  ⟨"CM_SHIFT", 0x21C, 0, 1, [⟨"D1", 16, 16, .ro, 0⟩, ⟨"D2", 0, 16, .ro, 0⟩]⟩,
  ⟨"CM_I", 0x220, 4, 6, [⟨"VALUE", 0, 16, .ro, 0⟩]⟩,
  ⟨"CM_TIME", 0x238, 0, 1, [⟨"TIME", 0, 32, .ro, 0⟩]⟩,
  ⟨"CM_CNT", 0x23C, 0, 1, [⟨"SHIFT_CNT", 16, 16, .ro, 0⟩, ⟨"NOWIN_CNT", 0, 16, .ro, 0⟩]⟩,
  ⟨"CM_CNT_CLR", 0x240, 0, 1, [⟨"CLR", 0, 1, .wo, 0⟩]⟩,
  ⟨"CM_TWIN", 0x244, 0, 1, [⟨"TWIN0", 16, 16, .ro, 0⟩, ⟨"TWIN1", 0, 16, .ro, 0⟩]⟩]

/-- The block-specific registers of the LEG page. -/
def legRegs : List RegDesc := [
  ⟨"STATUS", 0xC, 0, 1, [⟨"DT_PENDING", 17, 1, .ro, 0⟩, ⟨"OUT_ACTIVE", 16, 1, .ro, 0⟩]⟩,
  ⟨"CFG", 0x40, 0, 1, [⟨"POL_H", 31, 1, .rwl, 0⟩, ⟨"POL_L", 30, 1, .rwl, 0⟩, ⟨"MIN_O", 18, 12, .rwl, 0⟩, ⟨"OFF_GAP", 6, 12, .rwl, 0⟩]⟩,
  ⟨"DT_RISE", 0x44, 0, 1, [⟨"COARSE", 5, 12, .rwl, 0⟩, ⟨"FINE", 0, 5, .rwl, 0⟩]⟩,
  ⟨"DT_FALL", 0x48, 0, 1, [⟨"COARSE", 5, 12, .rwl, 0⟩, ⟨"FINE", 0, 5, .rwl, 0⟩]⟩,
  ⟨"BIND", 0x4C, 0, 1, [⟨"BOUND", 31, 1, .rwa, 0⟩, ⟨"PAIRED", 30, 1, .rwa, 0⟩, ⟨"STAGE", 24, 4, .rwa, 0⟩]⟩,
  ⟨"CMP_ON", 0x50, 0, 1, [⟨"VALUE", 0, 32, .rws, 0⟩]⟩,
  ⟨"CMP_OFF", 0x54, 0, 1, [⟨"VALUE", 0, 32, .rws, 0⟩]⟩,
  ⟨"DITHER", 0x58, 0, 1, [⟨"ON", 4, 4, .rws, 0⟩, ⟨"OFF", 0, 4, .rws, 0⟩]⟩,
  ⟨"CTL", 0x5C, 0, 1, [⟨"PAIR_POL", 3, 1, .rws, 0⟩, ⟨"FORCE", 0, 3, .rws, 0⟩]⟩,
  ⟨"PHASE", 0x60, 0, 1, [⟨"VALUE", 0, 32, .rws, 0⟩]⟩,
  ⟨"LEVEL", 0x64, 0, 1, [⟨"GATE_L", 5, 1, .ro, 0⟩, ⟨"GATE_H", 4, 1, .ro, 0⟩, ⟨"CMD", 0, 2, .ro, 3⟩]⟩,
  ⟨"CNT", 0x68, 0, 1, [⟨"CANCEL_CNT", 16, 16, .ro, 0⟩, ⟨"LATE_CNT", 0, 16, .ro, 0⟩]⟩,
  ⟨"CNT_CLR", 0x6C, 0, 1, [⟨"CLR", 0, 1, .wo, 0⟩]⟩]

/-- The block-specific registers of the CMPB page. -/
def cmpbRegs : List RegDesc := [
  ⟨"STATUS", 0xC, 0, 1, [⟨"TEST_STOPPED", 23, 1, .ro, 0⟩, ⟨"SPARE_FAILED", 22, 1, .ro, 0⟩, ⟨"SPARE_PERM", 21, 1, .ro, 0⟩, ⟨"SPARE_ACTIVE", 20, 1, .ro, 0⟩, ⟨"SPARE_PIN", 16, 4, .ro, 0⟩]⟩,
  ⟨"THR", 0x40, 4, 16, [⟨"EN_HIGH", 31, 1, .rwl, 0⟩, ⟨"EN_LOW", 30, 1, .rwl, 0⟩, ⟨"HYST", 28, 2, .rwl, 0⟩, ⟨"HIGH", 16, 10, .rwl, 1023⟩, ⟨"LOW", 0, 10, .rwl, 0⟩]⟩,
  ⟨"TEST_CFG", 0x80, 0, 1, [⟨"TEST_EN", 31, 1, .rwl, 0⟩, ⟨"FAIL_TRIP", 30, 1, .rwl, 1⟩, ⟨"INTERVAL", 0, 10, .rwl, 100⟩]⟩,
  ⟨"RESULT", 0xC0, 4, 16, [⟨"FAILED", 31, 1, .ro, 0⟩, ⟨"INCONCL", 30, 1, .ro, 0⟩, ⟨"PASS_CNT", 0, 16, .ro, 0⟩]⟩,
  ⟨"OUT", 0x100, 0, 1, [⟨"ABOVE", 16, 16, .ro, 0⟩, ⟨"BELOW", 0, 16, .ro, 0⟩]⟩]

/-- The block-specific registers of the ADCG page. -/
def adcgRegs : List RegDesc := [
  ⟨"STATUS", 0xC, 0, 1, [⟨"CAL_BUSY", 21, 3, .ro, 0⟩, ⟨"BUSY", 18, 3, .ro, 0⟩, ⟨"CLAMP", 17, 1, .ro, 0⟩, ⟨"READY", 16, 1, .ro, 0⟩]⟩,
  ⟨"CFG", 0x40, 0, 1, [⟨"REF_SEL", 31, 1, .rw, 0⟩, ⟨"SEQ_CONV", 28, 3, .rwa, 4⟩, ⟨"HK_CONV", 26, 2, .rwa, 2⟩, ⟨"N_SLOTS", 21, 5, .rw, 0⟩]⟩,
  ⟨"PULL", 0x44, 4, 2, [⟨"PULL7", 28, 3, .rw, 0⟩, ⟨"PULL6", 24, 3, .rw, 0⟩, ⟨"PULL5", 20, 3, .rw, 0⟩, ⟨"PULL4", 16, 3, .rw, 0⟩, ⟨"PULL3", 12, 3, .rw, 0⟩, ⟨"PULL2", 8, 3, .rw, 0⟩, ⟨"PULL1", 4, 3, .rw, 0⟩, ⟨"PULL0", 0, 3, .rw, 0⟩]⟩,
  ⟨"SLOT", 0x50, 4, 16, [⟨"AVG", 12, 4, .rw, 0⟩, ⟨"SHIFT", 8, 4, .rw, 0⟩, ⟨"PIN", 0, 4, .rw, 0⟩]⟩,
  ⟨"SEQ_RES", 0x90, 4, 16, [⟨"OVER", 31, 1, .ro, 0⟩, ⟨"UNDER", 30, 1, .ro, 0⟩, ⟨"DIST", 29, 1, .ro, 0⟩, ⟨"VALUE", 0, 22, .ro, 0⟩]⟩,
  ⟨"SEQ_CNT", 0xD0, 0, 1, [⟨"COUNT", 0, 32, .ro, 0⟩]⟩,
  ⟨"CAL", 0xD4, 0, 1, [⟨"GO", 0, 3, .w1s, 0⟩]⟩,
  ⟨"CLAMP_STAT", 0xD8, 0, 1, [⟨"CLAMP", 0, 16, .ro, 0⟩]⟩,
  ⟨"RANGE_FLAG", 0xDC, 0, 1, [⟨"OVER", 16, 16, .w1c, 0⟩, ⟨"UNDER", 0, 16, .w1c, 0⟩]⟩,
  ⟨"CNT", 0xE0, 0, 1, [⟨"LATE_CNT", 16, 16, .ro, 0⟩, ⟨"OVR_CNT", 0, 16, .ro, 0⟩]⟩,
  ⟨"CNT_CLR", 0xE4, 0, 1, [⟨"CLR", 0, 1, .wo, 0⟩]⟩,
  ⟨"INJ", 0x100, 4, 32, [⟨"VALID", 31, 1, .rwa, 0⟩, ⟨"LINK", 30, 1, .rwa, 0⟩, ⟨"CONV", 28, 2, .rwa, 0⟩, ⟨"PIN", 24, 4, .rwa, 0⟩, ⟨"SRC", 20, 4, .rwa, 0⟩, ⟨"INSTANT", 18, 2, .rwa, 0⟩, ⟨"KIND", 16, 2, .rwa, 0⟩, ⟨"LAT_MAX", 0, 16, .rwa, 0⟩]⟩,
  ⟨"INJ_RES", 0x180, 4, 32, [⟨"LATE", 31, 1, .ro, 0⟩, ⟨"OVER", 30, 1, .ro, 0⟩, ⟨"UNDER", 29, 1, .ro, 0⟩, ⟨"DIST", 28, 1, .ro, 0⟩, ⟨"CODE", 0, 14, .ro, 0⟩]⟩]

/-- The block-specific registers of the CLU page. -/
def cluRegs : List RegDesc := [
  ⟨"STATUS", 0xC, 0, 1, [⟨"SLICE", 26, 1, .ro, 0⟩, ⟨"LIVE", 23, 3, .ro, 7⟩, ⟨"MODE_ACT", 21, 2, .ro, 0⟩, ⟨"INFLIGHT", 16, 5, .ro, 0⟩]⟩,
  ⟨"CFG", 0x40, 0, 1, [⟨"MODE", 30, 2, .rwa, 0⟩, ⟨"MAIN", 28, 2, .rwa, 0⟩, ⟨"CHECK", 26, 2, .rwa, 1⟩, ⟨"FINDER", 24, 2, .rwa, 2⟩, ⟨"QUOTA0", 19, 5, .rwa, 10⟩, ⟨"QUOTA1", 14, 5, .rwa, 6⟩, ⟨"QUOTA2", 9, 5, .rwa, 0⟩]⟩,
  ⟨"SB", 0x44, 0, 1, [⟨"STALL_CNT", 16, 16, .ro, 0⟩, ⟨"PEAK", 0, 5, .ro, 0⟩]⟩,
  ⟨"STREAM", 0x50, 4, 3, [⟨"BUSY", 31, 1, .ro, 0⟩, ⟨"CTX", 24, 6, .ro, 0⟩, ⟨"LOOP_ID", 16, 8, .ro, 0⟩, ⟨"CODE", 0, 8, .ro, 0⟩]⟩,
  ⟨"BUSY", 0x60, 4, 3, [⟨"CYCLES", 0, 32, .ro, 0⟩]⟩,
  ⟨"CNT_CLR", 0x70, 0, 1, [⟨"CLR", 0, 1, .wo, 0⟩]⟩,
  ⟨"MODE_REQ", 0x80, 0, 1, [⟨"GO", 31, 1, .w1s, 0⟩, ⟨"STAGE", 8, 4, .rw, 0⟩, ⟨"WHEN", 4, 2, .rw, 0⟩, ⟨"MODE", 0, 2, .rw, 0⟩]⟩,
  ⟨"MODE_STAT", 0x84, 0, 1, [⟨"STATE", 29, 3, .ro, 0⟩, ⟨"TARGET", 16, 2, .ro, 0⟩, ⟨"CODE", 0, 16, .ro, 0⟩]⟩,
  ⟨"SERVED", 0x88, 0, 1, [⟨"PAIR", 16, 16, .rwa, 0⟩, ⟨"ALL", 0, 16, .rwa, 0⟩]⟩,
  ⟨"MM_INFO", 0x8C, 0, 1, [⟨"LATCHED", 31, 1, .ro, 0⟩, ⟨"RECOVERING", 30, 1, .ro, 0⟩, ⟨"KIND", 27, 3, .ro, 0⟩, ⟨"CTX", 21, 6, .ro, 0⟩, ⟨"LOOP_ID", 13, 8, .ro, 0⟩, ⟨"INDEX", 0, 13, .ro, 0⟩]⟩,
  ⟨"MM_TIME", 0x90, 0, 1, [⟨"TIME", 0, 32, .ro, 0⟩]⟩,
  ⟨"MM_CLR", 0x94, 0, 1, [⟨"CLR", 0, 1, .wo, 0⟩]⟩,
  ⟨"TRIAD", 0x98, 0, 1, [⟨"ODD", 30, 2, .ro, 3⟩, ⟨"PHASE", 28, 2, .ro, 0⟩, ⟨"RESYNC_CNT", 0, 16, .ro, 0⟩]⟩,
  ⟨"TS", 0x9C, 0, 1, [⟨"T_S", 0, 24, .rwa, 0⟩]⟩,
  ⟨"CTEST", 0xA0, 0, 1, [⟨"FAIL", 31, 1, .ro, 0⟩, ⟨"LANE", 24, 7, .ro, 0⟩, ⟨"PASS_CNT", 0, 16, .ro, 0⟩]⟩,
  ⟨"ROT", 0xA4, 0, 1, [⟨"ROT_CNT", 24, 8, .ro, 0⟩, ⟨"SKIP_CNT", 16, 8, .ro, 0⟩, ⟨"DEFER", 0, 16, .ro, 0⟩]⟩]

/-- The block-specific registers of the VLK page. -/
def vlkRegs : List RegDesc := [
  ⟨"STATUS", 0xC, 0, 1, [⟨"ALIGNED", 17, 1, .ro, 0⟩, ⟨"ISOLATED", 16, 1, .ro, 0⟩]⟩,
  ⟨"PSTAT", 0x40, 0, 1, [⟨"STATE", 30, 2, .ro, 0⟩, ⟨"TIMING", 29, 1, .ro, 0⟩, ⟨"NB_VALID", 28, 1, .ro, 0⟩, ⟨"NEIGHBOUR", 16, 5, .ro, 0⟩]⟩,
  ⟨"LINK_DLY", 0x44, 0, 1, [⟨"DELAY", 0, 32, .ro, 0⟩]⟩,
  ⟨"ERR_CNT", 0x48, 0, 1, [⟨"CODE_CNT", 16, 16, .ro, 0⟩, ⟨"CRC_CNT", 0, 16, .ro, 0⟩]⟩,
  ⟨"DEG_TH", 0x4C, 0, 1, [⟨"ERR_TH", 0, 8, .rw, 8⟩]⟩,
  ⟨"CNT_CLR", 0x50, 0, 1, [⟨"CLR", 0, 1, .wo, 0⟩]⟩,
  ⟨"ARRAY_CFG", 0x100, 0, 1, [⟨"ID", 27, 5, .rw, 0⟩, ⟨"HOLD_SEL", 25, 2, .rw, 0⟩, ⟨"ISO_HOLD", 24, 1, .rw, 1⟩, ⟨"AUTO_RETURN", 23, 1, .rw, 1⟩, ⟨"SLEW_PPM", 13, 10, .rw, 100⟩, ⟨"ISO_TIME", 3, 10, .rw, 10⟩]⟩,
  ⟨"HOLD_MASK", 0x104, 0, 1, [⟨"MASK", 0, 16, .rw, 0⟩]⟩,
  ⟨"EPOCH_PER", 0x108, 0, 1, [⟨"PER", 0, 24, .rw, 40000⟩]⟩,
  ⟨"TIMERS", 0x10C, 0, 1, [⟨"T_VOTE", 16, 16, .rw, 1000⟩, ⟨"T_ACK", 0, 16, .rw, 200⟩]⟩,
  ⟨"OFFSET", 0x110, 0, 1, [⟨"DELTA", 0, 32, .ro, 0⟩]⟩,
  ⟨"ALIGN_STAT", 0x114, 0, 1, [⟨"STEPPED", 31, 1, .ro, 0⟩, ⟨"SLEWING", 30, 1, .ro, 0⟩, ⟨"HOPS", 24, 6, .ro, 0⟩]⟩,
  ⟨"RING", 0x118, 0, 1, [⟨"STATE", 30, 2, .ro, 0⟩]⟩,
  ⟨"MEMBERS", 0x11C, 0, 1, [⟨"IDS", 0, 32, .ro, 0⟩]⟩,
  ⟨"ARRAY_CMD", 0x120, 0, 1, [⟨"GO", 31, 1, .w1s, 0⟩, ⟨"BTYPE", 8, 1, .rw, 0⟩, ⟨"STAGE", 4, 4, .rw, 0⟩, ⟨"CMD", 0, 2, .rw, 0⟩]⟩,
  ⟨"BOUND_LO", 0x124, 0, 1, [⟨"VALUE", 0, 32, .rw, 0⟩]⟩,
  ⟨"BOUND_HI", 0x128, 0, 1, [⟨"VALUE", 0, 32, .rw, 0⟩]⟩,
  ⟨"PARTS", 0x12C, 0, 1, [⟨"MASK", 0, 32, .rw, 0⟩]⟩,
  ⟨"TXN_STAT", 0x130, 0, 1, [⟨"STATE", 29, 3, .ro, 0⟩, ⟨"FIRST_REFUSER", 24, 5, .ro, 0⟩, ⟨"TXN", 16, 8, .ro, 0⟩, ⟨"CODE", 0, 16, .ro, 0⟩]⟩,
  ⟨"READY_MAP", 0x134, 0, 1, [⟨"MAP", 0, 32, .ro, 0⟩]⟩,
  ⟨"APPLIED_MAP", 0x138, 0, 1, [⟨"MAP", 0, 32, .ro, 0⟩]⟩,
  ⟨"NOTAPPL_MAP", 0x13C, 0, 1, [⟨"MAP", 0, 32, .ro, 0⟩]⟩,
  ⟨"HOLD_STAT", 0x140, 0, 1, [⟨"HELD", 31, 1, .ro, 0⟩, ⟨"CAUSE", 29, 2, .ro, 0⟩]⟩,
  ⟨"HOLD_CLR", 0x144, 0, 1, [⟨"CLR", 0, 1, .wo, 0⟩]⟩]
  ++ [
  ⟨"PLACE", 0x148, 0, 1, [⟨"GO", 31, 1, .w1s, 0⟩, ⟨"CTX", 5, 6, .rw, 0⟩, ⟨"TARGET", 0, 5, .rw, 0⟩]⟩,
  ⟨"PLACE_STAT", 0x14C, 0, 1, [⟨"BUSY", 31, 1, .ro, 0⟩, ⟨"CODE", 0, 16, .ro, 0⟩]⟩,
  ⟨"JRNL_IDX", 0x150, 0, 1, [⟨"INDEX", 0, 8, .rw, 0⟩]⟩,
  ⟨"JRNL_CNT", 0x154, 0, 1, [⟨"COUNT", 0, 32, .ro, 0⟩]⟩,
  ⟨"JRNL_D", 0x158, 4, 4, [⟨"WORD", 0, 32, .ro, 0⟩]⟩]

/-- The block-specific registers of the XSPI page. -/
def xspiRegs : List RegDesc := [
  ⟨"STATUS", 0xC, 0, 1, [⟨"SELECTED", 17, 1, .ro, 0⟩, ⟨"FL_BUSY", 16, 1, .ro, 0⟩]⟩,
  ⟨"FL_CMD", 0x40, 0, 1, [⟨"GO", 31, 1, .w1s, 0⟩, ⟨"CMD", 0, 2, .rw, 0⟩]⟩,
  ⟨"FL_OFS", 0x44, 0, 1, [⟨"VALUE", 0, 32, .rw, 0⟩]⟩,
  ⟨"FL_ADDR", 0x48, 0, 1, [⟨"VALUE", 0, 32, .rw, 0⟩]⟩,
  ⟨"FL_LEN", 0x4C, 0, 1, [⟨"VALUE", 0, 32, .rw, 0⟩]⟩,
  ⟨"FL_CODE", 0x50, 0, 1, [⟨"CODE", 0, 16, .ro, 0⟩]⟩]

/-- The block-specific registers of the DBG page. -/
def dbgRegs : List RegDesc := [
  ⟨"STATUS", 0xC, 0, 1, [⟨"LEVEL", 16, 2, .ro, 0⟩]⟩,
  ⟨"ECC_CE_CNT", 0x40, 0, 1, [⟨"VALUE", 0, 32, .ro, 0⟩]⟩,
  ⟨"ECC_UE_CNT", 0x44, 0, 1, [⟨"VALUE", 0, 32, .ro, 0⟩]⟩,
  ⟨"ECC_ADDR", 0x48, 0, 1, [⟨"VALUE", 0, 32, .ro, 0⟩]⟩,
  ⟨"PROMO", 0x100, 4, 32, [⟨"MODE", 31, 1, .rw, 0⟩, ⟨"LOADING", 30, 1, .ro, 0⟩, ⟨"ACTIVE", 16, 8, .ro, 0⟩, ⟨"REQ", 8, 8, .ro, 0⟩, ⟨"SEL", 0, 8, .rw, 0⟩]⟩]

/-- The block-specific registers of the SDI page. -/
def sdiRegs : List RegDesc := [
  ⟨"STATUS", 0xC, 0, 1, [⟨"STREAM_FAULT", 20, 1, .ro, 0⟩, ⟨"CLK_LOSS", 19, 1, .ro, 0⟩, ⟨"STUCK", 18, 1, .ro, 0⟩, ⟨"OC", 17, 1, .ro, 0⟩, ⟨"RUNNING", 16, 1, .ro, 0⟩]⟩,
  ⟨"CFG", 0x40, 0, 1, [⟨"FORMAT", 30, 2, .rw, 2⟩, ⟨"DIV", 16, 8, .rw, 16⟩, ⟨"SKEW", 8, 5, .rw, 0⟩]⟩,
  ⟨"OSR", 0x44, 0, 1, [⟨"OC_OSR", 16, 8, .rw, 8⟩, ⟨"OSR", 0, 9, .rw, 16⟩]⟩,
  ⟨"OC_THR", 0x48, 0, 1, [⟨"OC_HIGH", 16, 16, .rw, 32767⟩, ⟨"OC_LOW", 0, 16, .rw, 32768⟩]⟩,
  ⟨"ERR_CFG", 0x4C, 0, 1, [⟨"OC_ON_FAULT", 31, 1, .rw, 1⟩, ⟨"BAD_N", 16, 8, .rw, 4⟩, ⟨"STUCK_N", 0, 16, .rw, 4096⟩]⟩,
  ⟨"DATA", 0x50, 0, 1, [⟨"VALID", 31, 1, .ro, 0⟩, ⟨"SAT", 30, 1, .ro, 0⟩, ⟨"BAD", 29, 1, .ro, 0⟩, ⟨"VALUE", 0, 16, .ro, 0⟩]⟩,
  ⟨"WORD_TIME", 0x54, 0, 1, [⟨"TIME", 0, 32, .ro, 0⟩]⟩,
  ⟨"OC_VALUE", 0x58, 0, 1, [⟨"VALUE", 0, 16, .ro, 0⟩]⟩,
  ⟨"ERR_CNT", 0x5C, 0, 1, [⟨"CODE_CNT", 16, 16, .ro, 0⟩, ⟨"STUCK_CNT", 8, 8, .ro, 0⟩, ⟨"CLK_CNT", 0, 8, .ro, 0⟩]⟩,
  ⟨"ERR_CLR", 0x60, 0, 1, [⟨"CLR", 0, 1, .wo, 0⟩]⟩,
  ⟨"MAP", 0x64, 0, 1, [⟨"VALID", 31, 1, .rwa, 0⟩, ⟨"STAGE", 24, 4, .rwa, 0⟩]⟩]

/-- The block-specific registers of the POS page. -/
def posRegs : List RegDesc := [
  ⟨"STATUS", 0xC, 0, 1, [⟨"REFERENCED", 21, 1, .ro, 0⟩, ⟨"POS_VALID", 20, 1, .ro, 0⟩, ⟨"POS_FAULT", 19, 1, .ro, 0⟩, ⟨"HALL_INVALID", 18, 1, .ro, 0⟩, ⟨"IDX_PENDING", 17, 1, .ro, 0⟩, ⟨"DIR", 16, 1, .ro, 0⟩]⟩,
  ⟨"CFG", 0x40, 0, 1, [⟨"FILT", 24, 8, .rw, 0⟩, ⟨"MODE", 22, 2, .rw, 0⟩, ⟨"DIR_INV", 21, 1, .rw, 0⟩, ⟨"IDX_GATE", 20, 1, .rw, 0⟩, ⟨"IDX_POLICY", 18, 2, .rw, 0⟩, ⟨"IDX_TOL", 14, 4, .rw, 0⟩, ⟨"IDX_NEG_OFS", 10, 4, .rw, 0⟩, ⟨"PP", 4, 6, .rw, 1⟩]⟩,
  ⟨"COUNT_MOD", 0x44, 0, 1, [⟨"VALUE", 0, 24, .rw, 4096⟩]⟩,
  ⟨"INDEX_POS", 0x48, 0, 1, [⟨"VALUE", 0, 24, .rw, 0⟩]⟩,
  ⟨"ANGLE_OFS", 0x4C, 0, 1, [⟨"OFS", 0, 32, .rw, 0⟩]⟩,
  ⟨"SPD_WIN", 0x50, 0, 1, [⟨"WIN", 0, 26, .rw, 400000⟩]⟩,
  ⟨"SPD_STILL", 0x54, 0, 1, [⟨"STILL_N", 0, 8, .rw, 8⟩]⟩,
  ⟨"COUNT", 0x58, 0, 1, [⟨"VALUE", 0, 32, .ro, 0⟩]⟩,
  ⟨"TURN_POS", 0x5C, 0, 1, [⟨"VALUE", 0, 24, .ro, 0⟩]⟩,
  ⟨"SET_COUNT", 0x60, 0, 1, [⟨"VALUE", 0, 32, .wo, 0⟩]⟩,
  ⟨"ANGLE", 0x64, 0, 1, [⟨"VALUE", 0, 32, .ro, 0⟩]⟩,
  ⟨"SPEED", 0x68, 0, 1, [⟨"VALUE", 0, 32, .ro, 0⟩]⟩,
  ⟨"SPD_STAT", 0x6C, 0, 1, [⟨"DIR", 19, 1, .ro, 0⟩, ⟨"QUAL", 16, 3, .ro, 0⟩, ⟨"WIN_SEQ", 0, 16, .ro, 0⟩]⟩,
  ⟨"ILL_CNT", 0x70, 0, 1, [⟨"CLR", 31, 1, .wo, 0⟩, ⟨"COUNT", 0, 16, .ro, 0⟩]⟩,
  ⟨"IDX_OBS", 0x74, 0, 1, [⟨"VALUE", 0, 24, .ro, 0⟩]⟩,
  ⟨"IDX_EXP", 0x78, 0, 1, [⟨"VALUE", 0, 24, .ro, 0⟩]⟩,
  ⟨"IDX_STAT", 0x7C, 0, 1, [⟨"CLR", 31, 1, .wo, 0⟩, ⟨"SUSPECT", 17, 1, .ro, 0⟩, ⟨"MATCH", 16, 1, .ro, 0⟩, ⟨"MISS_CNT", 0, 16, .ro, 0⟩]⟩,
  ⟨"PRB_CFG", 0x80, 0, 1, [⟨"FILT", 24, 8, .rw, 0⟩, ⟨"SRC", 20, 4, .rw, 0⟩, ⟨"EDGE", 18, 2, .rw, 0⟩, ⟨"OVW", 17, 1, .rw, 0⟩]⟩,
  ⟨"PRB_R_ANGLE", 0x84, 0, 1, [⟨"VALUE", 0, 32, .ro, 0⟩]⟩,
  ⟨"PRB_R_COUNT", 0x88, 0, 1, [⟨"VALUE", 0, 32, .ro, 0⟩]⟩,
  ⟨"PRB_R_TIME", 0x8C, 0, 1, [⟨"VALUE", 0, 32, .ro, 0⟩]⟩,
  ⟨"PRB_F_ANGLE", 0x90, 0, 1, [⟨"VALUE", 0, 32, .ro, 0⟩]⟩,
  ⟨"PRB_F_COUNT", 0x94, 0, 1, [⟨"VALUE", 0, 32, .ro, 0⟩]⟩,
  ⟨"PRB_F_TIME", 0x98, 0, 1, [⟨"VALUE", 0, 32, .ro, 0⟩]⟩]
  ++ [
  ⟨"PRB_STAT", 0x9C, 0, 1, [⟨"F_SRC_OK", 5, 1, .ro, 0⟩, ⟨"R_SRC_OK", 4, 1, .ro, 0⟩, ⟨"F_OVR", 3, 1, .w1c, 0⟩, ⟨"R_OVR", 2, 1, .w1c, 0⟩, ⟨"F_VALID", 1, 1, .w1c, 0⟩, ⟨"R_VALID", 0, 1, .w1c, 0⟩]⟩,
  ⟨"SNAP", 0xA0, 0, 1, [⟨"TAKE", 0, 1, .w1s, 0⟩]⟩,
  ⟨"SNAP_COUNT", 0xA4, 0, 1, [⟨"VALUE", 0, 32, .ro, 0⟩]⟩,
  ⟨"SNAP_ANGLE", 0xA8, 0, 1, [⟨"VALUE", 0, 32, .ro, 0⟩]⟩,
  ⟨"SNAP_SPEED", 0xAC, 0, 1, [⟨"VALUE", 0, 32, .ro, 0⟩]⟩,
  ⟨"SNAP_SPD_STAT", 0xB0, 0, 1, [⟨"VALUE", 0, 32, .ro, 0⟩]⟩]

/-- The block-specific registers of the RSV page. -/
def rsvRegs : List RegDesc := [
  ⟨"STATUS", 0xC, 0, 1, [⟨"POS_VALID", 19, 1, .ro, 0⟩, ⟨"LOT", 18, 1, .ro, 0⟩, ⟨"DOS", 17, 1, .ro, 0⟩, ⟨"LOS", 16, 1, .ro, 0⟩]⟩,
  ⟨"CFG", 0x40, 0, 1, [⟨"BW", 30, 2, .rw, 2⟩, ⟨"E_RATIO", 24, 6, .rw, 1⟩, ⟨"EXC_DIV", 0, 10, .rw, 156⟩]⟩,
  ⟨"EXC_DELAY", 0x44, 0, 1, [⟨"DELAY", 0, 18, .rw, 0⟩]⟩,
  ⟨"EXC_AMP", 0x48, 0, 1, [⟨"AMP", 0, 16, .rw, 32768⟩]⟩,
  ⟨"PINS", 0x4C, 0, 1, [⟨"GROUP", 22, 2, .rwa, 0⟩, ⟨"SIN_CONV", 20, 2, .rwa, 0⟩, ⟨"COS_CONV", 18, 2, .rwa, 0⟩, ⟨"SIN_PIN", 12, 6, .rwa, 0⟩, ⟨"COS_PIN", 6, 6, .rwa, 0⟩]⟩,
  ⟨"AMP_TH", 0x50, 0, 1, [⟨"AMP_HIGH", 16, 16, .rw, 57344⟩, ⟨"AMP_LOW", 0, 16, .rw, 16384⟩]⟩,
  ⟨"FLT_TH", 0x54, 0, 1, [⟨"LOS_TH", 16, 16, .rw, 8192⟩, ⟨"LOT_TH", 0, 16, .rw, 512⟩]⟩,
  ⟨"ANGLE_OFS", 0x58, 0, 1, [⟨"OFS", 0, 32, .rw, 0⟩]⟩,
  ⟨"ANGLE", 0x5C, 0, 1, [⟨"VALUE", 0, 32, .ro, 0⟩]⟩,
  ⟨"MECH", 0x60, 0, 1, [⟨"VALUE", 0, 32, .ro, 0⟩]⟩,
  ⟨"SPEED", 0x64, 0, 1, [⟨"VALUE", 0, 32, .ro, 0⟩]⟩,
  ⟨"AMP", 0x68, 0, 1, [⟨"VALUE", 0, 16, .ro, 0⟩]⟩,
  ⟨"TRK_ERR", 0x6C, 0, 1, [⟨"VALUE", 0, 16, .ro, 0⟩]⟩]

/-- The block-specific registers of the SSI page. -/
def ssiRegs : List RegDesc := [
  ⟨"STATUS", 0xC, 0, 1, [⟨"BUSY", 17, 1, .ro, 0⟩, ⟨"POS_VALID", 16, 1, .ro, 0⟩]⟩,
  ⟨"CFG", 0x40, 0, 1, [⟨"BITS", 26, 6, .rw, 25⟩, ⟨"ST_BITS", 20, 6, .rw, 13⟩, ⟨"GRAY", 19, 1, .rw, 1⟩, ⟨"PP", 12, 6, .rw, 1⟩]⟩,
  ⟨"CLK", 0x44, 0, 1, [⟨"DELAY", 16, 12, .rw, 0⟩, ⟨"DIV", 0, 11, .rw, 200⟩]⟩,
  ⟨"REQ", 0x48, 0, 1, [⟨"SRC", 30, 2, .rw, 0⟩, ⟨"STAGE", 24, 4, .rw, 0⟩, ⟨"PERIOD", 0, 24, .rw, 40000⟩]⟩,
  ⟨"TM", 0x4C, 0, 1, [⟨"TM_MIN", 16, 16, .rw, 8000⟩, ⟨"TM_MAX", 0, 16, .rw, 16000⟩]⟩,
  ⟨"ANGLE_OFS", 0x50, 0, 1, [⟨"VALUE", 0, 32, .rw, 0⟩]⟩,
  ⟨"JUMP_MAX", 0x54, 0, 1, [⟨"VALUE", 0, 32, .rw, 4294967295⟩]⟩,
  ⟨"RAW", 0x58, 0, 1, [⟨"VALUE", 0, 32, .ro, 0⟩]⟩,
  ⟨"MT", 0x5C, 0, 1, [⟨"VALUE", 0, 32, .ro, 0⟩]⟩,
  ⟨"ANGLE", 0x60, 0, 1, [⟨"VALUE", 0, 32, .ro, 0⟩]⟩,
  ⟨"SPEED", 0x64, 0, 1, [⟨"VALUE", 0, 32, .ro, 0⟩]⟩,
  ⟨"TIME", 0x68, 0, 1, [⟨"VALUE", 0, 32, .ro, 0⟩]⟩,
  ⟨"ERR_CNT", 0x6C, 0, 1, [⟨"START_CNT", 24, 8, .ro, 0⟩, ⟨"TIMEOUT_CNT", 16, 8, .ro, 0⟩, ⟨"JUMP_CNT", 8, 8, .ro, 0⟩, ⟨"SKIP_CNT", 0, 8, .ro, 0⟩]⟩]

/-- The block-specific registers of the EMU page. -/
def emuRegs : List RegDesc := [
  ⟨"STATUS", 0xC, 0, 1, [⟨"OVERFLOW", 17, 1, .ro, 0⟩, ⟨"DIR", 16, 1, .ro, 0⟩]⟩,
  ⟨"CFG", 0x40, 0, 1, [⟨"SRC", 28, 4, .rw, 0⟩, ⟨"DIR_INV", 27, 1, .rw, 0⟩, ⟨"Z_EN", 26, 1, .rw, 0⟩, ⟨"MIN_GAP", 0, 12, .rw, 4⟩]⟩,
  ⟨"RATIO", 0x44, 0, 1, [⟨"N", 16, 16, .rw, 1⟩, ⟨"M", 0, 16, .rw, 1⟩]⟩,
  ⟨"OUT_COUNT", 0x48, 0, 1, [⟨"VALUE", 0, 32, .ro, 0⟩]⟩,
  ⟨"BACKLOG", 0x4C, 0, 1, [⟨"VALUE", 0, 9, .ro, 0⟩]⟩]

/-- The block-specific registers of the PCIE page. -/
def pcieRegs : List RegDesc := [
  ⟨"STATUS", 0xC, 0, 1, [⟨"SPEED", 20, 2, .ro, 0⟩, ⟨"WIDTH", 18, 2, .ro, 0⟩, ⟨"LINK_UP", 17, 1, .ro, 0⟩, ⟨"D3HOT", 16, 1, .ro, 0⟩]⟩,
  ⟨"VLATCH", 0x40, 4, 2, [⟨"VLATCH", 0, 32, .w1c, 0⟩]⟩,
  ⟨"VEN", 0x48, 4, 2, [⟨"VEN", 0, 32, .rw, 0⟩]⟩,
  ⟨"PROT_CNT", 0x50, 0, 1, [⟨"PROT_CNT", 0, 32, .ro, 0⟩]⟩,
  ⟨"VECMAP", 0x100, 4, 64, [⟨"EN3", 31, 1, .rw, 0⟩, ⟨"VECTOR3", 24, 6, .rw, 0⟩, ⟨"EN2", 23, 1, .rw, 0⟩, ⟨"VECTOR2", 16, 6, .rw, 0⟩, ⟨"EN1", 15, 1, .rw, 0⟩, ⟨"VECTOR1", 8, 6, .rw, 0⟩, ⟨"EN0", 7, 1, .rw, 0⟩, ⟨"VECTOR0", 0, 6, .rw, 0⟩]⟩]

/-- The block-specific registers of the ETH page. -/
def ethRegs : List RegDesc := [
  ⟨"STATUS", 0xC, 0, 1, [⟨"PTP_LOCKED", 18, 1, .ro, 0⟩, ⟨"AN_DONE", 17, 1, .ro, 0⟩, ⟨"LINK", 16, 1, .ro, 0⟩]⟩,
  ⟨"CFG", 0x40, 0, 1, [⟨"AN_EN", 2, 1, .rw, 1⟩, ⟨"MC_EN", 1, 1, .rw, 0⟩, ⟨"PROMISC", 0, 1, .rw, 0⟩]⟩,
  ⟨"MAC_LO", 0x44, 0, 1, [⟨"VALUE", 0, 32, .rw, 0⟩]⟩,
  ⟨"MAC_HI", 0x48, 0, 1, [⟨"VALUE", 0, 16, .rw, 0⟩]⟩,
  ⟨"RX_RING", 0x4C, 0, 1, [⟨"VALUE", 0, 32, .rw, 0⟩]⟩,
  ⟨"RX_LEN", 0x50, 0, 1, [⟨"VALUE", 0, 16, .rw, 0⟩]⟩,
  ⟨"TX_RING", 0x54, 0, 1, [⟨"VALUE", 0, 32, .rw, 0⟩]⟩,
  ⟨"TX_LEN", 0x58, 0, 1, [⟨"VALUE", 0, 16, .rw, 0⟩]⟩,
  ⟨"RX_HEAD", 0x5C, 0, 1, [⟨"VALUE", 0, 12, .ro, 0⟩]⟩,
  ⟨"TX_TAIL", 0x60, 0, 1, [⟨"VALUE", 0, 12, .rw, 0⟩]⟩,
  ⟨"GPTP_NS_LO", 0x64, 0, 1, [⟨"VALUE", 0, 32, .ro, 0⟩]⟩,
  ⟨"GPTP_NS_HI", 0x68, 0, 1, [⟨"VALUE", 0, 32, .ro, 0⟩]⟩,
  ⟨"GPTP_RATE", 0x6C, 0, 1, [⟨"VALUE", 0, 32, .ro, 0⟩]⟩,
  ⟨"CNT", 0x70, 0, 1, [⟨"ERR_CNT", 16, 16, .ro, 0⟩, ⟨"DROP_CNT", 0, 16, .ro, 0⟩]⟩]

/-- The block-specific registers of the CAN page. -/
def canRegs : List RegDesc := [
  ⟨"STATUS", 0xC, 0, 1, [⟨"STATE", 16, 2, .ro, 0⟩]⟩,
  ⟨"CFG", 0x40, 0, 1, [⟨"AUTO_RECOVER", 2, 1, .rw, 1⟩, ⟨"BRS_EN", 1, 1, .rw, 0⟩, ⟨"FD_EN", 0, 1, .rw, 0⟩]⟩,
  ⟨"NTIM", 0x44, 0, 1, [⟨"BRP", 24, 8, .rw, 0⟩, ⟨"TSEG1", 16, 8, .rw, 0⟩, ⟨"TSEG2", 8, 8, .rw, 0⟩, ⟨"SJW", 0, 8, .rw, 0⟩]⟩,
  ⟨"DTIM", 0x48, 0, 1, [⟨"BRP", 24, 8, .rw, 0⟩, ⟨"TSEG1", 16, 8, .rw, 0⟩, ⟨"TSEG2", 8, 8, .rw, 0⟩, ⟨"SJW", 0, 8, .rw, 0⟩]⟩,
  ⟨"ECR", 0x4C, 0, 1, [⟨"TEC", 24, 8, .ro, 0⟩, ⟨"REC", 16, 8, .ro, 0⟩, ⟨"TDC", 0, 16, .rw, 0⟩]⟩,
  ⟨"FIFO_CNT", 0x50, 0, 1, [⟨"COUNT", 0, 6, .ro, 0⟩]⟩,
  ⟨"RX_POP", 0x54, 0, 1, [⟨"POP", 0, 1, .w1s, 0⟩]⟩,
  ⟨"TX_REQ", 0x58, 0, 1, [⟨"REQ", 0, 8, .w1s, 0⟩]⟩,
  ⟨"FLT", 0x80, 8, 16, [⟨"XTD", 31, 1, .rw, 0⟩, ⟨"ID", 0, 29, .rw, 0⟩]⟩,
  ⟨"MASK", 0x84, 8, 16, [⟨"XTD", 31, 1, .rw, 0⟩, ⟨"ID", 0, 29, .rw, 0⟩]⟩,
  ⟨"RX_HEAD", 0x400, 4, 20, [⟨"WORD", 0, 32, .ro, 0⟩]⟩,
  ⟨"TXBUF", 0x800, 4, 160, [⟨"WORD", 0, 32, .rw, 0⟩]⟩]

/-- The block-specific registers of each kind of page. -/
def blockRegs : PageKind → List RegDesc
  | .clk => clkRegs
  | .pwr => pwrRegs
  | .boot => bootRegs
  | .lcs => lcsRegs
  | .sec => secRegs
  | .alm => almRegs
  | .eph => ephRegs
  | .trip => tripRegs
  | .ctx => ctxRegs
  | .fld => fldRegs
  | .nrg => nrgRegs
  | .thm => thmRegs
  | .gnm => gnmRegs
  | .snet => snetRegs
  | .bist => bistRegs
  | .cap => capRegs
  | .stg => stgRegs
  | .leg => legRegs
  | .cmpb => cmpbRegs
  | .adcg => adcgRegs
  | .clu => cluRegs
  | .vlk => vlkRegs
  | .xspi => xspiRegs
  | .dbg => dbgRegs
  | .sdi => sdiRegs
  | .pos => posRegs
  | .rsv => rsvRegs
  | .ssi => ssiRegs
  | .emu => emuRegs
  | .pcie => pcieRegs
  | .eth => ethRegs
  | .can => canRegs

/-- The bits that the interrupt registers of a page implement. -/
def irqMask : PageKind → BitVec 32
  | .clk => 0x3FF#32
  | .pwr => 0x1F#32
  | .boot => 0x3#32
  | .lcs => 0x3#32
  | .sec => 0xF#32
  | .alm => 0x3F#32
  | .eph => 0xFFFF#32
  | .trip => 0x3F#32
  | .ctx => 0x1F#32
  | .fld => 0xFFFF#32
  | .nrg => 0xFF#32
  | .thm => 0xFF#32
  | .gnm => 0x1FF#32
  | .snet => 0xF#32
  | .bist => 0xF#32
  | .cap => 0x7#32
  | .stg => 0x3FF#32
  | .leg => 0x7#32
  | .cmpb => 0xF#32
  | .adcg => 0x7F#32
  | .clu => 0xF#32
  | .vlk => 0x1FF#32
  | .xspi => 0x3#32
  | .dbg => 0x3#32
  | .sdi => 0x3F#32
  | .pos => 0x1FF#32
  | .rsv => 0x7#32
  | .ssi => 0xF#32
  | .emu => 0x3#32
  | .pcie => 0x7#32
  | .eth => 0x1F#32
  | .can => 0x1F#32

/-- The duplicate-copy images of the safety-relevant blocks (R26); every other block has none. -/
def dupRuns : PageKind → List DupDesc
  | .clk => []
  | .pwr => []
  | .boot => []
  | .lcs => []
  | .sec => []
  | .alm => []
  | .eph => []
  | .trip => [⟨0x40, 4, 16, 0xF00⟩, ⟨0x80, 4, 4, 0xF40⟩, ⟨0x90, 4, 1, 0xF50⟩]
  | .ctx => []
  | .fld => []
  | .nrg => [⟨0x4C, 4, 2, 0xF00⟩]
  | .thm => [⟨0x44, 4, 1, 0xF00⟩, ⟨0x230, 64, 16, 0xF04⟩]
  | .gnm => []
  | .snet => []
  | .bist => []
  | .cap => []
  | .stg => []
  | .leg => [⟨0x40, 4, 3, 0xF00⟩]
  | .cmpb => [⟨0x40, 4, 16, 0xF00⟩, ⟨0x80, 4, 1, 0xF40⟩]
  | .adcg => []
  | .clu => [⟨0x40, 4, 1, 0xF00⟩]
  | .vlk => []
  | .xspi => []
  | .dbg => []
  | .sdi => [⟨0x40, 4, 4, 0xF00⟩]
  | .pos => []
  | .rsv => []
  | .ssi => []
  | .emu => []
  | .pcie => []
  | .eth => []
  | .can => []

end Sys2Proof.Machine
end

