-- ==== Sys2Proof/Machine/Fields.lean ====
section
/-! DEFINITION. Names for the places of register fields, one namespace per page, from the register tables of the
chapters; and the page addresses of R510. -/

namespace Sys2Proof.Machine

def pgCLK : Nat := 0x40000000
def pgPWR : Nat := 0x40001000
def pgBOOT : Nat := 0x40002000
def pgLCS : Nat := 0x40003000
def pgSEC : Nat := 0x40004000
def pgALM : Nat := 0x40005000
def pgEPH : Nat := 0x40006000
def pgTRIP : Nat := 0x40007000
def pgCTX : Nat := 0x40008000
def pgFLD : Nat := 0x40009000
def pgNRG : Nat := 0x4000A000
def pgTHM : Nat := 0x4000B000
def pgGNM : Nat := 0x4000C000
def pgSNET : Nat := 0x4000D000
def pgBIST : Nat := 0x4000E000
def pgCAP : Nat := 0x4000F000
def pgSTG (n : Nat) : Nat := 0x40010000 + 0x1000 * n
def pgLEG (n : Nat) : Nat := 0x40020000 + 0x1000 * n
def pgCMPB (n : Nat) : Nat := 0x40060000 + 0x1000 * n
def pgADCG (n : Nat) : Nat := 0x40064000 + 0x1000 * n
def pgCLU (n : Nat) : Nat := 0x40068000 + 0x1000 * n
def pgVLK (n : Nat) : Nat := 0x4006C000 + 0x1000 * n
def pgXSPI : Nat := 0x4006E000
def pgDBG : Nat := 0x4006F000
def pgSDI (n : Nat) : Nat := 0x40070000 + 0x1000 * n
def pgPOS (n : Nat) : Nat := 0x40088000 + 0x1000 * n
def pgRSV (n : Nat) : Nat := 0x40090000 + 0x1000 * n
def pgSSI (n : Nat) : Nat := 0x40094000 + 0x1000 * n
def pgEMU (n : Nat) : Nat := 0x40098000 + 0x1000 * n
def pgPCIE : Nat := 0x4009C000
def pgETH (n : Nat) : Nat := 0x4009D000 + 0x1000 * n
def pgCAN (n : Nat) : Nat := 0x400A0000 + 0x1000 * n

namespace COM
def ID_TYPE : Fld := ⟨0x0, 0, 24, 8⟩
def ID_INSTANCE : Fld := ⟨0x0, 0, 16, 8⟩
def ID_MAJOR : Fld := ⟨0x0, 0, 8, 8⟩
def ID_MINOR : Fld := ⟨0x0, 0, 0, 8⟩
def ID : Fld := ⟨0x0, 0, 0, 32⟩
def CTRL_HALT_FREEZE : Fld := ⟨0x8, 0, 1, 1⟩
def CTRL_EN : Fld := ⟨0x8, 0, 0, 1⟩
def CTRL : Fld := ⟨0x8, 0, 0, 32⟩
def ST_DUP_FAULT : Fld := ⟨0xC, 0, 5, 1⟩
def ST_COMMIT_PENDING : Fld := ⟨0xC, 0, 4, 1⟩
def ST_LOCKED : Fld := ⟨0xC, 0, 3, 1⟩
def ST_OWNED : Fld := ⟨0xC, 0, 2, 1⟩
def ST_FROZEN : Fld := ⟨0xC, 0, 1, 1⟩
def ST_ENABLED : Fld := ⟨0xC, 0, 0, 1⟩
def ERRCODE_CLR : Fld := ⟨0x20, 0, 31, 1⟩
def ERRCODE_LOST : Fld := ⟨0x20, 0, 24, 7⟩
def ERRCODE_ORIGIN : Fld := ⟨0x20, 0, 16, 8⟩
def ERRCODE_CODE : Fld := ⟨0x20, 0, 0, 16⟩
def ERRCODE : Fld := ⟨0x20, 0, 0, 32⟩
def OWNER_DEVICE : Fld := ⟨0x24, 0, 11, 5⟩
def OWNER_KIND : Fld := ⟨0x24, 0, 8, 3⟩
def OWNER_CTX : Fld := ⟨0x24, 0, 0, 6⟩
def OWNER : Fld := ⟨0x24, 0, 0, 32⟩
def LOCK : Fld := ⟨0x28, 0, 0, 1⟩
def COMMIT_WHEN : Fld := ⟨0x2C, 0, 4, 2⟩
def COMMIT_PENDING : Fld := ⟨0x2C, 0, 1, 1⟩
def COMMIT_REQ : Fld := ⟨0x2C, 0, 0, 1⟩
def COMMIT : Fld := ⟨0x2C, 0, 0, 32⟩
def DUP_STATUS_WORD : Fld := ⟨0xFFC, 0, 8, 8⟩
def DUP_STATUS_LATENT_DIFF : Fld := ⟨0xFFC, 0, 1, 1⟩
def DUP_STATUS_MISMATCH : Fld := ⟨0xFFC, 0, 0, 1⟩
def DUP_STATUS : Fld := ⟨0xFFC, 0, 0, 32⟩
def IRQ_RAW_W : Fld := ⟨0x10, 0, 0, 32⟩
def IRQ_EN_W : Fld := ⟨0x14, 0, 0, 32⟩
def STATUS_W : Fld := ⟨0xC, 0, 0, 32⟩
end COM

namespace CLK
def ST_ALIGN : Fld := ⟨0xC, 0, 25, 1⟩
def ST_HOLD : Fld := ⟨0xC, 0, 24, 1⟩
def ST_DLL_LOCK : Fld := ⟨0xC, 0, 23, 1⟩
def ST_PLL1_LOCK : Fld := ⟨0xC, 0, 22, 1⟩
def ST_PLL0_LOCK : Fld := ⟨0xC, 0, 21, 1⟩
def ST_ON_FALLBACK : Fld := ⟨0xC, 0, 20, 1⟩
def ST_REF_READY : Fld := ⟨0xC, 0, 19, 1⟩
def ST_LRC_FAIL : Fld := ⟨0xC, 0, 18, 1⟩
def ST_IRC_FAIL : Fld := ⟨0xC, 0, 17, 1⟩
def ST_XO_FAIL : Fld := ⟨0xC, 0, 16, 1⟩
def IRQ_TAPCAL_DONE : Fld := ⟨0x10, 0, 9, 1⟩
def IRQ_MON : Fld := ⟨0x10, 0, 8, 1⟩
def IRQ_DLL_UNLOCK : Fld := ⟨0x10, 0, 7, 1⟩
def IRQ_PLL0_UNLOCK : Fld := ⟨0x10, 0, 6, 1⟩
def IRQ_HOLD_EXIT : Fld := ⟨0x10, 0, 5, 1⟩
def IRQ_HOLD : Fld := ⟨0x10, 0, 4, 1⟩
def IRQ_REF_READY : Fld := ⟨0x10, 0, 3, 1⟩
def IRQ_LRC_FAIL : Fld := ⟨0x10, 0, 2, 1⟩
def IRQ_IRC_FAIL : Fld := ⟨0x10, 0, 1, 1⟩
def IRQ_XO_FAIL : Fld := ⟨0x10, 0, 0, 1⟩
def REF_CFG_REF_SRC : Fld := ⟨0x40, 0, 30, 2⟩
def REF_CFG_XO_DEEP_OFF : Fld := ⟨0x40, 0, 29, 1⟩
def REF_CFG_RETURN : Fld := ⟨0x40, 0, 28, 1⟩
def REF_CFG_XO_DELAY : Fld := ⟨0x40, 0, 0, 9⟩
def REF_CFG : Fld := ⟨0x40, 0, 0, 32⟩
def MON_FAIL : Fld := ⟨0x44, 4, 31, 1⟩
def MON_RUN : Fld := ⟨0x44, 4, 24, 7⟩
def MON_COUNT : Fld := ⟨0x44, 4, 0, 24⟩
def MON : Fld := ⟨0x44, 4, 0, 32⟩
def HOLD_REC_CAUSE : Fld := ⟨0x50, 0, 30, 2⟩
def HOLD_REC_DURATION : Fld := ⟨0x50, 0, 0, 24⟩
def HOLD_REC : Fld := ⟨0x50, 0, 0, 32⟩
def HOLD_CNT : Fld := ⟨0x54, 0, 0, 32⟩
def SS_CFG_SS_EN : Fld := ⟨0x58, 0, 31, 1⟩
def SS_CFG_DEPTH : Fld := ⟨0x58, 0, 29, 2⟩
def SS_CFG_SEED : Fld := ⟨0x58, 0, 0, 16⟩
def SS_CFG : Fld := ⟨0x58, 0, 0, 32⟩
def TIME_LO : Fld := ⟨0x5C, 0, 0, 32⟩
def TIME_HI : Fld := ⟨0x60, 0, 0, 32⟩
def DLL_CAL_GO : Fld := ⟨0x64, 0, 31, 1⟩
def DLL_CAL_BUSY : Fld := ⟨0x64, 0, 30, 1⟩
def DLL_CAL_WORST : Fld := ⟨0x64, 0, 0, 16⟩
def DLL_CAL : Fld := ⟨0x64, 0, 0, 32⟩
def IRC_TRIM_TEMP : Fld := ⟨0x68, 0, 8, 8⟩
def IRC_TRIM_FACTORY : Fld := ⟨0x68, 0, 0, 8⟩
def IRC_TRIM : Fld := ⟨0x68, 0, 0, 32⟩
end CLK

namespace PWR
def ST_OP_ACT : Fld := ⟨0xC, 0, 22, 2⟩
def ST_MODE : Fld := ⟨0xC, 0, 20, 2⟩
def ST_SEQ_BUSY : Fld := ⟨0xC, 0, 19, 1⟩
def ST_VDD_OK : Fld := ⟨0xC, 0, 18, 1⟩
def ST_THM_LIMITED : Fld := ⟨0xC, 0, 17, 1⟩
def ST_DEFERRED : Fld := ⟨0xC, 0, 16, 1⟩
def IRQ_PARTNER_RST : Fld := ⟨0x10, 0, 4, 1⟩
def IRQ_WAKE : Fld := ⟨0x10, 0, 3, 1⟩
def IRQ_V_TIMEOUT : Fld := ⟨0x10, 0, 2, 1⟩
def IRQ_OP_REFUSED : Fld := ⟨0x10, 0, 1, 1⟩
def IRQ_OP_DONE : Fld := ⟨0x10, 0, 0, 1⟩
def OP_REQ_GO : Fld := ⟨0x40, 0, 31, 1⟩
def OP_REQ_OP : Fld := ⟨0x40, 0, 0, 2⟩
def OP_REQ : Fld := ⟨0x40, 0, 0, 32⟩
def OP_STAT_TARGET : Fld := ⟨0x44, 0, 30, 2⟩
def OP_STAT_HOST : Fld := ⟨0x44, 0, 28, 2⟩
def OP_STAT_THM : Fld := ⟨0x44, 0, 26, 2⟩
def OP_STAT_CHANGES : Fld := ⟨0x44, 0, 0, 16⟩
def OP_STAT : Fld := ⟨0x44, 0, 0, 32⟩
def V_CFG : Fld := ⟨0x48, 0, 0, 10⟩
def MODE_REQ_GO : Fld := ⟨0x4C, 0, 31, 1⟩
def MODE_REQ_MODE : Fld := ⟨0x4C, 0, 0, 2⟩
def MODE_REQ : Fld := ⟨0x4C, 0, 0, 32⟩
def WAKE_EN : Fld := ⟨0x50, 0, 0, 5⟩
def WAKE_TIMER : Fld := ⟨0x54, 0, 0, 32⟩
def CLKEN_RUN : Fld := ⟨0x58, 0, 0, 20⟩
def CLKEN_SLEEP : Fld := ⟨0x5C, 0, 0, 20⟩
def CLKEN_DEEP : Fld := ⟨0x60, 0, 0, 20⟩
def BLK_RST : Fld := ⟨0x64, 0, 0, 20⟩
def RST_CAUSE : Fld := ⟨0x68, 0, 0, 9⟩
def SOFT_RST : Fld := ⟨0x6C, 0, 16, 16⟩
def XSTAT : Fld := ⟨0x70, 0, 0, 8⟩
def XDISC_IN_FLIGHT : Fld := ⟨0x80, 4, 16, 16⟩
def XDISC_REFUSED : Fld := ⟨0x80, 4, 0, 16⟩
def XDISC : Fld := ⟨0x80, 4, 0, 32⟩
end PWR

namespace BOOT
def ST_DONE : Fld := ⟨0xC, 0, 24, 1⟩
def ST_HALTED : Fld := ⟨0xC, 0, 23, 1⟩
def ST_ON_IRC : Fld := ⟨0xC, 0, 22, 1⟩
def ST_NO_DRAM : Fld := ⟨0xC, 0, 21, 1⟩
def ST_SECONDARY : Fld := ⟨0xC, 0, 20, 1⟩
def ST_STEP : Fld := ⟨0xC, 0, 16, 4⟩
def IRQ_FAIL : Fld := ⟨0x10, 0, 1, 1⟩
def IRQ_DONE : Fld := ⟨0x10, 0, 0, 1⟩
def REV_ROM : Fld := ⟨0x40, 0, 16, 16⟩
def REV_DIE_REV : Fld := ⟨0x40, 0, 0, 8⟩
def REV : Fld := ⟨0x40, 0, 0, 32⟩
def BOOT_CNT : Fld := ⟨0x44, 0, 0, 32⟩
def OUTCOME : Fld := ⟨0x48, 0, 0, 18⟩
def ALT_BS5_MASK : Fld := ⟨0x4C, 0, 16, 16⟩
def ALT_FLAGS : Fld := ⟨0x4C, 0, 0, 9⟩
def ALT : Fld := ⟨0x4C, 0, 0, 32⟩
def RETRY : Fld := ⟨0x50, 0, 0, 9⟩
def JRNL_HEAD : Fld := ⟨0x54, 0, 0, 6⟩
def FW_VERSION : Fld := ⟨0x58, 0, 0, 32⟩
def FW_SVN_IMAGE : Fld := ⟨0x5C, 0, 8, 6⟩
def FW_SVN_OTP : Fld := ⟨0x5C, 0, 0, 6⟩
def FW_SVN : Fld := ⟨0x5C, 0, 0, 32⟩
def TRAIN_SOURCE : Fld := ⟨0x60, 0, 24, 8⟩
def TRAIN_MARGIN : Fld := ⟨0x60, 0, 0, 24⟩
def TRAIN : Fld := ⟨0x60, 0, 0, 32⟩
def JRNL : Fld := ⟨0x400, 4, 0, 32⟩
end BOOT

namespace LCS
def ST_PENDING : Fld := ⟨0xC, 0, 22, 1⟩
def ST_TARGET : Fld := ⟨0xC, 0, 19, 3⟩
def ST_STATE : Fld := ⟨0xC, 0, 16, 3⟩
def IRQ_TOKEN_REFUSED : Fld := ⟨0x10, 0, 1, 1⟩
def IRQ_TOKEN_DONE : Fld := ⟨0x10, 0, 0, 1⟩
def TOKEN_ADDR : Fld := ⟨0x40, 0, 0, 32⟩
def TOKEN_CMD : Fld := ⟨0x44, 0, 31, 1⟩
def TOKEN_STAT_BUSY : Fld := ⟨0x48, 0, 31, 1⟩
def TOKEN_STAT_CODE : Fld := ⟨0x48, 0, 0, 16⟩
def TOKEN_STAT : Fld := ⟨0x48, 0, 0, 32⟩
def BOARD : Fld := ⟨0x4C, 0, 0, 32⟩
def KEYS_CUSTOMER : Fld := ⟨0x50, 0, 1, 1⟩
def KEYS_REVOKED : Fld := ⟨0x50, 0, 0, 1⟩
def KEYS : Fld := ⟨0x50, 0, 0, 32⟩
def DEBUG : Fld := ⟨0x54, 0, 0, 2⟩
end LCS

namespace SEC
def ST_LMS_EXHAUSTED : Fld := ⟨0xC, 0, 18, 1⟩
def ST_CFG_VERIFIED : Fld := ⟨0xC, 0, 17, 1⟩
def ST_BUSY : Fld := ⟨0xC, 0, 16, 1⟩
def IRQ_LMS_LOW : Fld := ⟨0x10, 0, 3, 1⟩
def IRQ_ATTEST_DONE : Fld := ⟨0x10, 0, 2, 1⟩
def IRQ_REFUSED : Fld := ⟨0x10, 0, 1, 1⟩
def IRQ_DONE : Fld := ⟨0x10, 0, 0, 1⟩
def CMD_GO : Fld := ⟨0x40, 0, 31, 1⟩
def CMD_CMD : Fld := ⟨0x40, 0, 0, 3⟩
def CMD : Fld := ⟨0x40, 0, 0, 32⟩
def ARG0 : Fld := ⟨0x44, 0, 0, 32⟩
def ARG1 : Fld := ⟨0x48, 0, 0, 32⟩
def CMD_STAT_BUSY : Fld := ⟨0x4C, 0, 31, 1⟩
def CMD_STAT_CMD : Fld := ⟨0x4C, 0, 16, 3⟩
def CMD_STAT_CODE : Fld := ⟨0x4C, 0, 0, 16⟩
def CMD_STAT : Fld := ⟨0x4C, 0, 0, 32⟩
def CFG_BASE : Fld := ⟨0x50, 0, 0, 32⟩
def CFG_END : Fld := ⟨0x54, 0, 0, 32⟩
def DEVICE_ID : Fld := ⟨0x60, 4, 0, 32⟩
def NONCE : Fld := ⟨0x70, 4, 0, 32⟩
def LMS_USED : Fld := ⟨0x90, 0, 0, 32⟩
def LMS_LEFT : Fld := ⟨0x94, 0, 0, 32⟩
end SEC

namespace ALM
def ST_SLICES_STOPPED : Fld := ⟨0xC, 0, 20, 1⟩
def ST_LAST_REFUSED : Fld := ⟨0xC, 0, 19, 1⟩
def ST_STATE : Fld := ⟨0xC, 0, 16, 3⟩
def IRQ_REDUCED : Fld := ⟨0x10, 0, 5, 1⟩
def IRQ_PROMOTED : Fld := ⟨0x10, 0, 4, 1⟩
def IRQ_RETIRED : Fld := ⟨0x10, 0, 3, 1⟩
def IRQ_REPLACED : Fld := ⟨0x10, 0, 2, 1⟩
def IRQ_REFUSED : Fld := ⟨0x10, 0, 1, 1⟩
def IRQ_DONE : Fld := ⟨0x10, 0, 0, 1⟩
def DECL_ADDR : Fld := ⟨0x40, 0, 2, 30⟩
def DECL_LEN : Fld := ⟨0x44, 0, 0, 20⟩
def ADM_CMD : Fld := ⟨0x48, 0, 0, 3⟩
def SETUP_ID : Fld := ⟨0x4C, 0, 0, 32⟩
def REFUSE_CODE : Fld := ⟨0x50, 0, 0, 16⟩
def REFUSE_DECL_KIND : Fld := ⟨0x54, 0, 30, 2⟩
def REFUSE_DECL_INDEX : Fld := ⟨0x54, 0, 0, 16⟩
def REFUSE_DECL : Fld := ⟨0x54, 0, 0, 32⟩
def REFUSE_DETAIL : Fld := ⟨0x58, 4, 0, 32⟩
def PLACE_ADDR : Fld := ⟨0x60, 0, 0, 32⟩
def PLACE_LEN : Fld := ⟨0x64, 0, 0, 32⟩
def FLOOR_FLOOR_OP : Fld := ⟨0x68, 0, 30, 2⟩
def FLOOR_RUN_OP : Fld := ⟨0x68, 0, 28, 2⟩
def FLOOR_F_FLOOR : Fld := ⟨0x68, 0, 0, 20⟩
def FLOOR : Fld := ⟨0x68, 0, 0, 32⟩
def RETIRED : Fld := ⟨0x6C, 0, 0, 12⟩
def REPLACE_CNT : Fld := ⟨0x70, 0, 0, 32⟩
def REPLACE_LAST_REASON : Fld := ⟨0x74, 0, 28, 4⟩
def REPLACE_LAST_CTX : Fld := ⟨0x74, 0, 22, 6⟩
def REPLACE_LAST_FROM : Fld := ⟨0x74, 0, 8, 8⟩
def REPLACE_LAST_TO : Fld := ⟨0x74, 0, 0, 8⟩
def REPLACE_LAST : Fld := ⟨0x74, 0, 0, 32⟩
def AGE_BOUND_VALID : Fld := ⟨0x80, 4, 31, 1⟩
def AGE_BOUND_CTX : Fld := ⟨0x80, 4, 24, 6⟩
def AGE_BOUND_BOUND : Fld := ⟨0x80, 4, 0, 24⟩
def AGE_BOUND : Fld := ⟨0x80, 4, 0, 32⟩
def AGE_PROM : Fld := ⟨0xC0, 4, 0, 32⟩
def AGE_MAX : Fld := ⟨0x100, 4, 0, 32⟩
end ALM

namespace EPH
def ST_RUN : Fld := ⟨0xC, 0, 16, 16⟩
def IRQ_STAGE : Fld := ⟨0x10, 0, 0, 16⟩
def EST_CFG_SRC : Fld := ⟨0x100, 64, 28, 4⟩
def EST_CFG_SPD_SHIFT : Fld := ⟨0x100, 64, 25, 3⟩
def EST_CFG_SLEW_SHIFT : Fld := ⟨0x100, 64, 22, 3⟩
def EST_CFG_GLITCH_N : Fld := ⟨0x100, 64, 16, 6⟩
def EST_CFG_LAT_COMP : Fld := ⟨0x100, 64, 0, 16⟩
def EST_CFG : Fld := ⟨0x100, 64, 0, 32⟩
def GLITCH_TH : Fld := ⟨0x104, 64, 0, 32⟩
def F_LOW : Fld := ⟨0x108, 64, 0, 32⟩
def F_HIGH : Fld := ⟨0x10C, 64, 0, 32⟩
def TIMES_RET_TIME : Fld := ⟨0x110, 64, 16, 16⟩
def TIMES_COAST_MAX : Fld := ⟨0x110, 64, 0, 16⟩
def TIMES : Fld := ⟨0x110, 64, 0, 32⟩
def LOCK_PHASE : Fld := ⟨0x114, 64, 0, 32⟩
def SCTRL_FORCE_FB : Fld := ⟨0x118, 64, 1, 1⟩
def SCTRL_EN : Fld := ⟨0x118, 64, 0, 1⟩
def SCTRL : Fld := ⟨0x118, 64, 0, 32⟩
def LOAD_GO : Fld := ⟨0x11C, 64, 31, 1⟩
def LOAD_COUNT : Fld := ⟨0x11C, 64, 16, 11⟩
def LOAD_CHART : Fld := ⟨0x11C, 64, 0, 16⟩
def LOAD : Fld := ⟨0x11C, 64, 0, 32⟩
def ARM : Fld := ⟨0x120, 64, 0, 1⟩
def CROSS_ANGLE : Fld := ⟨0x124, 64, 0, 32⟩
def REGION_LOCK_RATIO : Fld := ⟨0x128, 64, 24, 8⟩
def REGION_BASE : Fld := ⟨0x128, 64, 12, 12⟩
def REGION_LEN : Fld := ⟨0x128, 64, 0, 12⟩
def REGION : Fld := ⟨0x128, 64, 0, 32⟩
def TRIG_MIN : Fld := ⟨0x12C, 64, 0, 24⟩
def STATE_STATE : Fld := ⟨0x130, 64, 30, 2⟩
def STATE_REASON : Fld := ⟨0x130, 64, 27, 3⟩
def STATE_DIR : Fld := ⟨0x130, 64, 26, 1⟩
def STATE_ACTIVE_BANK : Fld := ⟨0x130, 64, 25, 1⟩
def STATE_CHART_VALID : Fld := ⟨0x130, 64, 24, 1⟩
def STATE_IDLE_LOADED : Fld := ⟨0x130, 64, 23, 1⟩
def STATE_ARMED : Fld := ⟨0x130, 64, 22, 1⟩
def STATE_LOADING : Fld := ⟨0x130, 64, 21, 1⟩
def STATE_ACTIVE_CHART : Fld := ⟨0x130, 64, 0, 16⟩
def STATE : Fld := ⟨0x130, 64, 0, 32⟩
def THETA : Fld := ⟨0x134, 64, 0, 32⟩
def OMEGA : Fld := ⟨0x138, 64, 0, 32⟩
def EV_MARK : Fld := ⟨0x13C, 64, 10, 1⟩
def EV_LOCK_LIMIT : Fld := ⟨0x13C, 64, 9, 1⟩
def EV_OVERSPEED : Fld := ⟨0x13C, 64, 8, 1⟩
def EV_LATE : Fld := ⟨0x13C, 64, 7, 1⟩
def EV_STEP : Fld := ⟨0x13C, 64, 6, 1⟩
def EV_GLITCH : Fld := ⟨0x13C, 64, 5, 1⟩
def EV_RETURN : Fld := ⟨0x13C, 64, 4, 1⟩
def EV_FALLBACK : Fld := ⟨0x13C, 64, 3, 1⟩
def EV_SWITCHED : Fld := ⟨0x13C, 64, 2, 1⟩
def EV_LOAD_FAIL : Fld := ⟨0x13C, 64, 1, 1⟩
def EV_LOAD_DONE : Fld := ⟨0x13C, 64, 0, 1⟩
def EV : Fld := ⟨0x13C, 64, 0, 32⟩
def LIB_ADDR : Fld := ⟨0x500, 32, 0, 32⟩
def PEND : Fld := ⟨0x504, 32, 0, 32⟩
def CNT_A_REJ_CNT : Fld := ⟨0x508, 32, 16, 16⟩
def CNT_A_LATE_CNT : Fld := ⟨0x508, 32, 0, 16⟩
def CNT_A : Fld := ⟨0x508, 32, 0, 32⟩
def CNT_B_SKIP_CNT : Fld := ⟨0x50C, 32, 16, 16⟩
def CNT_B_STEP_CNT : Fld := ⟨0x50C, 32, 0, 16⟩
def CNT_B : Fld := ⟨0x50C, 32, 0, 32⟩
def LOAD_ERR_CODE : Fld := ⟨0x510, 32, 16, 16⟩
def LOAD_ERR_INDEX : Fld := ⟨0x510, 32, 0, 16⟩
def LOAD_ERR : Fld := ⟨0x510, 32, 0, 32⟩
def CNT_CLR : Fld := ⟨0x514, 32, 0, 1⟩
end EPH

namespace TRIP
def ST_CRC_FAIL : Fld := ⟨0xC, 0, 18, 1⟩
def ST_RELEASE_PENDING : Fld := ⟨0xC, 0, 17, 1⟩
def ST_ANY_TRIP : Fld := ⟨0xC, 0, 16, 1⟩
def IRQ_CRC_FAIL : Fld := ⟨0x10, 0, 5, 1⟩
def IRQ_INTLK_FAULT : Fld := ⟨0x10, 0, 4, 1⟩
def IRQ_INTLK_HIT : Fld := ⟨0x10, 0, 3, 1⟩
def IRQ_RELEASED : Fld := ⟨0x10, 0, 2, 1⟩
def IRQ_CLEAR_REFUSED : Fld := ⟨0x10, 0, 1, 1⟩
def IRQ_TRIP : Fld := ⟨0x10, 0, 0, 1⟩
def STS_MERGE : Fld := ⟨0x40, 4, 2, 1⟩
def STS_ASC_SIDE : Fld := ⟨0x40, 4, 1, 1⟩
def STS_TSTATE : Fld := ⟨0x40, 4, 0, 1⟩
def STS : Fld := ⟨0x40, 4, 0, 32⟩
def LTS : Fld := ⟨0x80, 4, 0, 32⟩
def CFG_CRC_REF : Fld := ⟨0x90, 0, 0, 32⟩
def CFG_CRC : Fld := ⟨0x94, 0, 0, 32⟩
def TRIP_REQ_STATE_SEL : Fld := ⟨0x98, 0, 16, 2⟩
def TRIP_REQ_STAGES : Fld := ⟨0x98, 0, 0, 16⟩
def TRIP_REQ : Fld := ⟨0x98, 0, 0, 32⟩
def LAST : Fld := ⟨0x9C, 0, 0, 8⟩
def ACTIVE : Fld := ⟨0xA0, 4, 0, 32⟩
def FLAG : Fld := ⟨0xC0, 4, 0, 32⟩
def STAGE_TRIP_RELEASE : Fld := ⟨0xE0, 0, 16, 16⟩
def STAGE_TRIP_TRIPPED : Fld := ⟨0xE0, 0, 0, 16⟩
def STAGE_TRIP : Fld := ⟨0xE0, 0, 0, 32⟩
def LEG_TRIP : Fld := ⟨0xE4, 4, 0, 32⟩
def INTLK_CLR : Fld := ⟨0xEC, 0, 0, 6⟩
def LAST_TIME : Fld := ⟨0xF0, 0, 0, 32⟩
def SRC_CFG_FILT : Fld := ⟨0x100, 4, 24, 8⟩
def SRC_CFG_POL : Fld := ⟨0x100, 4, 23, 1⟩
def SRC_CFG_EN : Fld := ⟨0x100, 4, 22, 1⟩
def SRC_CFG_LATCH : Fld := ⟨0x100, 4, 21, 1⟩
def SRC_CFG_STATE_SEL : Fld := ⟨0x100, 4, 19, 2⟩
def SRC_CFG_SCOPE : Fld := ⟨0x100, 4, 18, 1⟩
def SRC_CFG_XMASK : Fld := ⟨0x100, 4, 0, 16⟩
def SRC_CFG : Fld := ⟨0x100, 4, 0, 32⟩
def SRC_CFG_INT : Fld := ⟨0x3A0, 4, 0, 32⟩
def TARGET_VALID : Fld := ⟨0x400, 4, 31, 1⟩
def TARGET_STAGE : Fld := ⟨0x400, 4, 16, 4⟩
def TARGET_IMASK : Fld := ⟨0x400, 4, 0, 16⟩
def TARGET : Fld := ⟨0x400, 4, 0, 32⟩
def FLOOR : Fld := ⟨0x700, 4, 0, 10⟩
def INTLK_STAT_FAULT : Fld := ⟨0x800, 4, 31, 1⟩
def INTLK_STAT_HIT_CNT : Fld := ⟨0x800, 4, 0, 16⟩
def INTLK_STAT : Fld := ⟨0x800, 4, 0, 32⟩
end TRIP

namespace CTX
def ST_ANY_S_SAT : Fld := ⟨0xC, 0, 17, 1⟩
def ST_ANY_FAULT : Fld := ⟨0xC, 0, 16, 1⟩
def IRQ_SWAPPED : Fld := ⟨0x10, 0, 4, 1⟩
def IRQ_S_SAT : Fld := ⟨0x10, 0, 3, 1⟩
def IRQ_LATE : Fld := ⟨0x10, 0, 2, 1⟩
def IRQ_OVERRUN : Fld := ⟨0x10, 0, 1, 1⟩
def IRQ_FAULT : Fld := ⟨0x10, 0, 0, 1⟩
def CFG : Fld := ⟨0x40, 0, 0, 4⟩
def POOL_ADDR : Fld := ⟨0x44, 0, 0, 32⟩
def FAULT : Fld := ⟨0x48, 4, 0, 32⟩
def SSAT : Fld := ⟨0x50, 4, 0, 32⟩
def CNT_CLR_ALL : Fld := ⟨0x58, 0, 31, 1⟩
def CNT_CLR_CTX : Fld := ⟨0x58, 0, 0, 6⟩
def CNT_CLR : Fld := ⟨0x58, 0, 0, 32⟩
def CCFG_VALID : Fld := ⟨0x100, 32, 31, 1⟩
def CCFG_CLASS : Fld := ⟨0x100, 32, 30, 1⟩
def CCFG_FORMAT : Fld := ⟨0x100, 32, 29, 1⟩
def CCFG_STREAM : Fld := ⟨0x100, 32, 21, 8⟩
def CCFG_GT_BASE : Fld := ⟨0x100, 32, 10, 11⟩
def CCFG_GT_N : Fld := ⟨0x100, 32, 3, 7⟩
def CCFG : Fld := ⟨0x100, 32, 0, 32⟩
def CCTL_RUN : Fld := ⟨0x104, 32, 31, 1⟩
def CCTL_RAMP_RESTART : Fld := ⟨0x104, 32, 30, 1⟩
def CCTL_RST_TRIP : Fld := ⟨0x104, 32, 29, 1⟩
def CCTL_BANK_REQ : Fld := ⟨0x104, 32, 0, 1⟩
def CCTL : Fld := ⟨0x104, 32, 0, 32⟩
def CSTAT_RUNNING : Fld := ⟨0x108, 32, 31, 1⟩
def CSTAT_ACTIVE_BANK : Fld := ⟨0x108, 32, 30, 1⟩
def CSTAT_BANK_PENDING : Fld := ⟨0x108, 32, 29, 1⟩
def CSTAT_FAULT : Fld := ⟨0x108, 32, 28, 1⟩
def CSTAT_FAULT_KIND : Fld := ⟨0x108, 32, 24, 4⟩
def CSTAT : Fld := ⟨0x108, 32, 0, 32⟩
def STICKY_S_SAT : Fld := ⟨0x10C, 32, 31, 1⟩
def STICKY_A_OVF : Fld := ⟨0x10C, 32, 30, 1⟩
def STICKY_A_CLAMP : Fld := ⟨0x10C, 32, 29, 1⟩
def STICKY_SAT_CNT : Fld := ⟨0x10C, 32, 0, 16⟩
def STICKY : Fld := ⟨0x10C, 32, 0, 32⟩
def JOBS : Fld := ⟨0x110, 32, 0, 32⟩
def MAX_CYC : Fld := ⟨0x114, 32, 0, 32⟩
def CNT_OVERRUN_CNT : Fld := ⟨0x118, 32, 16, 16⟩
def CNT_LATE_CNT : Fld := ⟨0x118, 32, 0, 16⟩
def CNT : Fld := ⟨0x118, 32, 0, 32⟩
def CADDR : Fld := ⟨0x11C, 32, 0, 32⟩
end CTX

namespace FLD
def ST_STARTING : Fld := ⟨0xC, 0, 16, 16⟩
def IRQ_DRIVE : Fld := ⟨0x10, 0, 0, 16⟩
def LIB_ADDR : Fld := ⟨0x40, 8, 0, 32⟩
def LIB_INFO : Fld := ⟨0x44, 8, 16, 16⟩
def DCFG_EN : Fld := ⟨0x100, 128, 31, 1⟩
def DCFG_MTYPE : Fld := ⟨0x100, 128, 29, 2⟩
def DCFG_FS_EN : Fld := ⟨0x100, 128, 28, 1⟩
def DCFG_IPD_EN : Fld := ⟨0x100, 128, 27, 1⟩
def DCFG_MON_EN : Fld := ⟨0x100, 128, 26, 1⟩
def DCFG_CTX_CUR : Fld := ⟨0x100, 128, 18, 6⟩
def DCFG_CTX_OUT : Fld := ⟨0x100, 128, 12, 6⟩
def DCFG_CTX_AUX : Fld := ⟨0x100, 128, 6, 6⟩
def DCFG : Fld := ⟨0x100, 128, 0, 32⟩
def DLINK_MB_LOOP : Fld := ⟨0x104, 128, 24, 8⟩
def DLINK_CATCH_HOLD : Fld := ⟨0x104, 128, 16, 8⟩
def DLINK_SRC : Fld := ⟨0x104, 128, 11, 5⟩
def DLINK : Fld := ⟨0x104, 128, 0, 32⟩
def I_BASE : Fld := ⟨0x108, 128, 0, 32⟩
def U_BASE : Fld := ⟨0x10C, 128, 0, 32⟩
def F_BASE : Fld := ⟨0x110, 128, 0, 32⟩
def PSI_NOM : Fld := ⟨0x114, 128, 0, 32⟩
def RES_S : Fld := ⟨0x118, 128, 0, 32⟩
def L_D : Fld := ⟨0x11C, 128, 0, 32⟩
def MAG_ALPHA : Fld := ⟨0x120, 128, 16, 16⟩
def MAG_T_REF : Fld := ⟨0x120, 128, 8, 8⟩
def MAG : Fld := ⟨0x120, 128, 0, 32⟩
def TSRC_SRC : Fld := ⟨0x124, 128, 27, 5⟩
def TSRC_OFFSET : Fld := ⟨0x124, 128, 8, 8⟩
def TSRC_AGE : Fld := ⟨0x124, 128, 0, 8⟩
def TSRC : Fld := ⟨0x124, 128, 0, 32⟩
def T_MAG : Fld := ⟨0x128, 128, 0, 16⟩
def BAND_A_HIGH : Fld := ⟨0x12C, 128, 16, 16⟩
def BAND_A_LOW : Fld := ⟨0x12C, 128, 0, 16⟩
def BAND_A : Fld := ⟨0x12C, 128, 0, 32⟩
def BAND_B_FLOOR : Fld := ⟨0x130, 128, 16, 16⟩
def BAND_B_EST_N : Fld := ⟨0x130, 128, 0, 8⟩
def BAND_B : Fld := ⟨0x130, 128, 0, 32⟩
def VSENSE_VALID : Fld := ⟨0x134, 128, 31, 1⟩
def VSENSE_GROUP : Fld := ⟨0x134, 128, 28, 2⟩
def VSENSE_PIN_U : Fld := ⟨0x134, 128, 8, 4⟩
def VSENSE_PIN_V : Fld := ⟨0x134, 128, 4, 4⟩
def VSENSE_PIN_W : Fld := ⟨0x134, 128, 0, 4⟩
def VSENSE : Fld := ⟨0x134, 128, 0, 32⟩
def VS_SCALE : Fld := ⟨0x138, 128, 0, 32⟩
def FS_TIME_MEAS_TIME : Fld := ⟨0x13C, 128, 16, 16⟩
def FS_TIME_SAMPLE : Fld := ⟨0x13C, 128, 0, 16⟩
def FS_TIME : Fld := ⟨0x13C, 128, 0, 32⟩
def EMF_MIN : Fld := ⟨0x140, 128, 0, 32⟩
def CATCH_MAX : Fld := ⟨0x144, 128, 0, 32⟩
def IPD_CFG_T_P : Fld := ⟨0x148, 128, 22, 10⟩
def IPD_CFG_T_GAP : Fld := ⟨0x148, 128, 10, 12⟩
def IPD_CFG : Fld := ⟨0x148, 128, 0, 32⟩
def IPD_LIM_IMAX : Fld := ⟨0x14C, 128, 16, 16⟩
def IPD_LIM_SAL_MIN : Fld := ⟨0x14C, 128, 8, 8⟩
def IPD_LIM_POL_MIN : Fld := ⟨0x14C, 128, 0, 8⟩
def IPD_LIM : Fld := ⟨0x14C, 128, 0, 32⟩
def DCMD : Fld := ⟨0x150, 128, 0, 2⟩
def DSTAT_PHASE : Fld := ⟨0x154, 128, 29, 3⟩
def DSTAT_KIND : Fld := ⟨0x154, 128, 26, 3⟩
def DSTAT_DIR : Fld := ⟨0x154, 128, 25, 1⟩
def DSTAT_FIRST_DONE : Fld := ⟨0x154, 128, 24, 1⟩
def DSTAT_DEMAG : Fld := ⟨0x154, 128, 23, 1⟩
def DSTAT_WRONG_MACHINE : Fld := ⟨0x154, 128, 22, 1⟩
def DSTAT_STALE : Fld := ⟨0x154, 128, 21, 1⟩
def DSTAT_ENABLED : Fld := ⟨0x154, 128, 20, 1⟩
def DSTAT_LAST : Fld := ⟨0x154, 128, 0, 16⟩
def DSTAT : Fld := ⟨0x154, 128, 0, 32⟩
def MEAS_ANGLE : Fld := ⟨0x158, 128, 0, 32⟩
def MEAS_SPEED : Fld := ⟨0x15C, 128, 0, 32⟩
def MEAS_EMF : Fld := ⟨0x160, 128, 0, 32⟩
def IPD_ANGLE : Fld := ⟨0x164, 128, 0, 32⟩
def T0 : Fld := ⟨0x168, 128, 0, 32⟩
def PSI_EST : Fld := ⟨0x16C, 128, 0, 32⟩
def PSI_COMP : Fld := ⟨0x170, 128, 0, 32⟩
def RATIO_RATIO : Fld := ⟨0x174, 128, 16, 16⟩
def RATIO_SAL : Fld := ⟨0x174, 128, 8, 8⟩
def RATIO_POL : Fld := ⟨0x174, 128, 0, 8⟩
def RATIO : Fld := ⟨0x174, 128, 0, 32⟩
def EV_STALE : Fld := ⟨0x178, 128, 7, 1⟩
def EV_WRONG_MACHINE : Fld := ⟨0x178, 128, 6, 1⟩
def EV_DEMAG : Fld := ⟨0x178, 128, 5, 1⟩
def EV_VERDICT : Fld := ⟨0x178, 128, 4, 1⟩
def EV_REFUSED : Fld := ⟨0x178, 128, 3, 1⟩
def EV_HANDED_OVER : Fld := ⟨0x178, 128, 2, 1⟩
def EV_IPD_DONE : Fld := ⟨0x178, 128, 1, 1⟩
def EV_MEAS_DONE : Fld := ⟨0x178, 128, 0, 1⟩
def EV : Fld := ⟨0x178, 128, 0, 32⟩
def DCLR_NEW_MACHINE : Fld := ⟨0x17C, 128, 1, 1⟩
def DCLR_CLR_DEMAG : Fld := ⟨0x17C, 128, 0, 1⟩
def DCLR : Fld := ⟨0x17C, 128, 0, 32⟩
end FLD

namespace NRG
def ST_RES_HOT : Fld := ⟨0xC, 0, 22, 1⟩
def ST_ESC : Fld := ⟨0xC, 0, 20, 2⟩
def ST_DIS : Fld := ⟨0xC, 0, 18, 2⟩
def ST_CHOP_FAULT : Fld := ⟨0xC, 0, 17, 1⟩
def ST_U_VALID : Fld := ⟨0xC, 0, 16, 1⟩
def IRQ_U_INVALID : Fld := ⟨0x10, 0, 7, 1⟩
def IRQ_RES_HOT : Fld := ⟨0x10, 0, 6, 1⟩
def IRQ_DIS_LATE : Fld := ⟨0x10, 0, 5, 1⟩
def IRQ_DIS_STOPPED : Fld := ⟨0x10, 0, 4, 1⟩
def IRQ_DIS_DONE : Fld := ⟨0x10, 0, 3, 1⟩
def IRQ_OV_TRIP : Fld := ⟨0x10, 0, 2, 1⟩
def IRQ_REGEN_ZERO : Fld := ⟨0x10, 0, 1, 1⟩
def IRQ_CHOP_FAULT : Fld := ⟨0x10, 0, 0, 1⟩
def LINK_CFG : Fld := ⟨0x40, 0, 27, 5⟩
def U_FS : Fld := ⟨0x44, 0, 0, 32⟩
def CAP : Fld := ⟨0x48, 0, 0, 32⟩
def OV_CFG_U_OV : Fld := ⟨0x4C, 0, 16, 16⟩
def OV_CFG_U_REARM : Fld := ⟨0x4C, 0, 0, 16⟩
def OV_CFG : Fld := ⟨0x4C, 0, 0, 32⟩
def CHOP_CFG_LEG : Fld := ⟨0x50, 0, 26, 6⟩
def CHOP_CFG_CHOP_T : Fld := ⟨0x50, 0, 16, 10⟩
def CHOP_CFG_D_MIN : Fld := ⟨0x50, 0, 8, 8⟩
def CHOP_CFG_SLOPE_TH : Fld := ⟨0x50, 0, 0, 8⟩
def CHOP_CFG : Fld := ⟨0x50, 0, 0, 32⟩
def BR_R : Fld := ⟨0x54, 0, 0, 32⟩
def BR_EMAX : Fld := ⟨0x58, 0, 0, 32⟩
def BR_TAU : Fld := ⟨0x5C, 0, 0, 32⟩
def DIS_R : Fld := ⟨0x60, 0, 0, 32⟩
def DIS_EMAX : Fld := ⟨0x64, 0, 0, 32⟩
def DIS_TAU : Fld := ⟨0x68, 0, 0, 32⟩
def DIS_PMAX : Fld := ⟨0x6C, 0, 0, 32⟩
def DIS_CFG_DIS_EN : Fld := ⟨0x70, 0, 31, 1⟩
def DIS_CFG_ON_STO : Fld := ⟨0x70, 0, 30, 1⟩
def DIS_CFG_STAGE : Fld := ⟨0x70, 0, 26, 4⟩
def DIS_CFG_T_DIS : Fld := ⟨0x70, 0, 16, 10⟩
def DIS_CFG_U_LIM : Fld := ⟨0x70, 0, 0, 16⟩
def DIS_CFG : Fld := ⟨0x70, 0, 0, 32⟩
def DIS_PRE_U_DC_MAX : Fld := ⟨0x74, 0, 16, 16⟩
def DIS_PRE_E_PRE : Fld := ⟨0x74, 0, 0, 16⟩
def DIS_PRE : Fld := ⟨0x74, 0, 0, 32⟩
def MACH_A_VALID : Fld := ⟨0x80, 8, 31, 1⟩
def MACH_A_STAGE : Fld := ⟨0x80, 8, 27, 4⟩
def MACH_A_MB_LOOP : Fld := ⟨0x80, 8, 19, 8⟩
def MACH_A_REF_LOOP : Fld := ⟨0x80, 8, 11, 8⟩
def MACH_A : Fld := ⟨0x80, 8, 0, 32⟩
def MACH_B : Fld := ⟨0x84, 8, 0, 32⟩
def DIS_CMD_ABORT : Fld := ⟨0xC0, 0, 1, 1⟩
def DIS_CMD_REQ : Fld := ⟨0xC0, 0, 0, 1⟩
def DIS_CMD : Fld := ⟨0xC0, 0, 0, 32⟩
def ESC_CLR : Fld := ⟨0xC4, 0, 0, 1⟩
def U_DC : Fld := ⟨0xC8, 0, 0, 32⟩
def E_LINK : Fld := ⟨0xCC, 0, 0, 32⟩
def P_REGEN : Fld := ⟨0xD0, 0, 0, 32⟩
def E_BR : Fld := ⟨0xD4, 0, 0, 32⟩
def E_DIS : Fld := ⟨0xD8, 0, 0, 32⟩
def SLOPE : Fld := ⟨0xDC, 0, 0, 32⟩
def EFF : Fld := ⟨0xE0, 0, 0, 32⟩
def T_PRED : Fld := ⟨0xE4, 0, 0, 32⟩
def REGEN_LIM : Fld := ⟨0xE8, 0, 0, 16⟩
def ESC_MAP_STALE : Fld := ⟨0xEC, 0, 24, 8⟩
def ESC_MAP_ASC : Fld := ⟨0xEC, 0, 8, 8⟩
def ESC_MAP_OFF : Fld := ⟨0xEC, 0, 0, 8⟩
def ESC_MAP : Fld := ⟨0xEC, 0, 0, 32⟩
def CHOP_DUTY_CMD : Fld := ⟨0xF0, 0, 16, 16⟩
def CHOP_DUTY_ON : Fld := ⟨0xF0, 0, 0, 16⟩
def CHOP_DUTY : Fld := ⟨0xF0, 0, 0, 32⟩
def DIS_DUTY_CMD : Fld := ⟨0xF4, 0, 16, 16⟩
def DIS_DUTY_ON : Fld := ⟨0xF4, 0, 0, 16⟩
def DIS_DUTY : Fld := ⟨0xF4, 0, 0, 32⟩
end NRG

namespace THM
def ST_DIE_LEVEL : Fld := ⟨0xC, 0, 20, 2⟩
def ST_FLOOR_HELD : Fld := ⟨0xC, 0, 19, 1⟩
def ST_NTC_ANY : Fld := ⟨0xC, 0, 18, 1⟩
def ST_HK_LATE : Fld := ⟨0xC, 0, 17, 1⟩
def ST_ROUND_VALID : Fld := ⟨0xC, 0, 16, 1⟩
def IRQ_FLOOR_HELD : Fld := ⟨0x10, 0, 7, 1⟩
def IRQ_SUPPLY : Fld := ⟨0x10, 0, 6, 1⟩
def IRQ_NTC : Fld := ⟨0x10, 0, 5, 1⟩
def IRQ_HK_LATE : Fld := ⟨0x10, 0, 4, 1⟩
def IRQ_SHUTDOWN : Fld := ⟨0x10, 0, 3, 1⟩
def IRQ_THROTTLE : Fld := ⟨0x10, 0, 2, 1⟩
def IRQ_WARN : Fld := ⟨0x10, 0, 1, 1⟩
def IRQ_ROUND : Fld := ⟨0x10, 0, 0, 1⟩
def HK_CFG : Fld := ⟨0x40, 0, 0, 6⟩
def DIE_THR_WARN : Fld := ⟨0x44, 0, 24, 8⟩
def DIE_THR_THR : Fld := ⟨0x44, 0, 16, 8⟩
def DIE_THR_SHUT : Fld := ⟨0x44, 0, 8, 8⟩
def DIE_THR_HYST : Fld := ⟨0x44, 0, 0, 8⟩
def DIE_THR : Fld := ⟨0x44, 0, 0, 32⟩
def DIE_D : Fld := ⟨0x48, 4, 0, 32⟩
def DIE_T : Fld := ⟨0x58, 4, 0, 32⟩
def DIE_PAR_R_DIE : Fld := ⟨0x68, 4, 16, 16⟩
def DIE_PAR_TAU : Fld := ⟨0x68, 4, 0, 16⟩
def DIE_PAR : Fld := ⟨0x68, 4, 0, 32⟩
def P_DIE : Fld := ⟨0x78, 0, 0, 32⟩
def T_DIE : Fld := ⟨0x7C, 0, 0, 32⟩
def SUP : Fld := ⟨0x80, 4, 0, 32⟩
def REF : Fld := ⟨0xA0, 4, 0, 32⟩
def ROUND_CNT : Fld := ⟨0xB0, 0, 0, 32⟩
def SKIP_CNT : Fld := ⟨0xB4, 0, 0, 32⟩
def MCFG_VALID : Fld := ⟨0x200, 64, 31, 1⟩
def MCFG_FAULT_ACT : Fld := ⟨0x200, 64, 30, 1⟩
def MCFG_STAGE : Fld := ⟨0x200, 64, 26, 4⟩
def MCFG_NTC_PIN : Fld := ⟨0x200, 64, 20, 6⟩
def MCFG_REF_LOOP : Fld := ⟨0x200, 64, 12, 8⟩
def MCFG : Fld := ⟨0x200, 64, 0, 32⟩
def NTC_A_B : Fld := ⟨0x204, 64, 16, 16⟩
def NTC_A_R25 : Fld := ⟨0x204, 64, 0, 16⟩
def NTC_A : Fld := ⟨0x204, 64, 0, 32⟩
def NTC_B : Fld := ⟨0x208, 64, 0, 32⟩
def LOSS_A_V0 : Fld := ⟨0x20C, 64, 16, 16⟩
def LOSS_A_R0 : Fld := ⟨0x20C, 64, 0, 16⟩
def LOSS_A : Fld := ⟨0x20C, 64, 0, 32⟩
def LOSS_B : Fld := ⟨0x210, 64, 0, 32⟩
def SCALE_I_REF : Fld := ⟨0x214, 64, 20, 12⟩
def SCALE_U_REF : Fld := ⟨0x214, 64, 8, 12⟩
def SCALE : Fld := ⟨0x214, 64, 0, 32⟩
def I_FS : Fld := ⟨0x218, 64, 0, 32⟩
def FR_A_R0 : Fld := ⟨0x21C, 64, 16, 16⟩
def FR_A_R1 : Fld := ⟨0x21C, 64, 0, 16⟩
def FR_A : Fld := ⟨0x21C, 64, 0, 32⟩
def FR_B_R2 : Fld := ⟨0x220, 64, 16, 16⟩
def FR_B_R3 : Fld := ⟨0x220, 64, 0, 16⟩
def FR_B : Fld := ⟨0x220, 64, 0, 32⟩
def FT_A_TAU0 : Fld := ⟨0x224, 64, 16, 16⟩
def FT_A_TAU1 : Fld := ⟨0x224, 64, 0, 16⟩
def FT_A : Fld := ⟨0x224, 64, 0, 32⟩
def FT_B_TAU2 : Fld := ⟨0x228, 64, 16, 16⟩
def FT_B_TAU3 : Fld := ⟨0x228, 64, 0, 16⟩
def FT_B : Fld := ⟨0x228, 64, 0, 32⟩
def DRT_G_MIN : Fld := ⟨0x22C, 64, 16, 16⟩
def DRT_RAMP : Fld := ⟨0x22C, 64, 0, 16⟩
def DRT : Fld := ⟨0x22C, 64, 0, 32⟩
def MTHR_WARN : Fld := ⟨0x230, 64, 24, 8⟩
def MTHR_THR : Fld := ⟨0x230, 64, 16, 8⟩
def MTHR_SHUT : Fld := ⟨0x230, 64, 8, 8⟩
def MTHR_HYST : Fld := ⟨0x230, 64, 0, 8⟩
def MTHR : Fld := ⟨0x230, 64, 0, 32⟩
def I_NOM_I_NOM : Fld := ⟨0x234, 64, 16, 16⟩
def I_NOM_I_LIM : Fld := ⟨0x234, 64, 0, 16⟩
def I_NOM : Fld := ⟨0x234, 64, 0, 32⟩
def T_NTC_LEVEL : Fld := ⟨0x238, 64, 30, 2⟩
def T_NTC_NTC_FAULT : Fld := ⟨0x238, 64, 29, 1⟩
def T_NTC_T : Fld := ⟨0x238, 64, 0, 16⟩
def T_NTC : Fld := ⟨0x238, 64, 0, 32⟩
def T_J : Fld := ⟨0x23C, 64, 0, 32⟩
end THM

namespace GNM
def ST_CONFIG_ACTIVE : Fld := ⟨0xC, 0, 23, 1⟩
def ST_LOCKOUT : Fld := ⟨0xC, 0, 22, 1⟩
def ST_STO : Fld := ⟨0xC, 0, 21, 1⟩
def ST_SN_DEMAND : Fld := ⟨0xC, 0, 20, 1⟩
def ST_CH_B : Fld := ⟨0xC, 0, 19, 1⟩
def ST_CH_A : Fld := ⟨0xC, 0, 18, 1⟩
def ST_GDEN_B : Fld := ⟨0xC, 0, 17, 1⟩
def ST_GDEN_A : Fld := ⟨0xC, 0, 16, 1⟩
def IRQ_CFG : Fld := ⟨0x10, 0, 8, 1⟩
def IRQ_EVENT : Fld := ⟨0x10, 0, 7, 1⟩
def IRQ_TORQUE : Fld := ⟨0x10, 0, 6, 1⟩
def IRQ_RESET_REFUSED : Fld := ⟨0x10, 0, 5, 1⟩
def IRQ_RESET_DONE : Fld := ⟨0x10, 0, 4, 1⟩
def IRQ_LOCKOUT : Fld := ⟨0x10, 0, 3, 1⟩
def IRQ_DISC : Fld := ⟨0x10, 0, 2, 1⟩
def IRQ_STO_REL : Fld := ⟨0x10, 0, 1, 1⟩
def IRQ_STO : Fld := ⟨0x10, 0, 0, 1⟩
def VERSION_ROM : Fld := ⟨0x40, 0, 16, 16⟩
def VERSION_PATCH : Fld := ⟨0x40, 0, 0, 16⟩
def VERSION : Fld := ⟨0x40, 0, 0, 32⟩
def LOCK_CAUSE_FIRST : Fld := ⟨0x44, 0, 24, 8⟩
def LOCK_CAUSE_CAUSE : Fld := ⟨0x44, 0, 0, 13⟩
def LOCK_CAUSE : Fld := ⟨0x44, 0, 0, 32⟩
def LOCK_TIME : Fld := ⟨0x48, 0, 0, 32⟩
def DISC_RESULT : Fld := ⟨0x4C, 0, 30, 2⟩
def DISC_LEN : Fld := ⟨0x4C, 0, 0, 16⟩
def DISC : Fld := ⟨0x4C, 0, 0, 32⟩
def RESET_STAT_RESULT : Fld := ⟨0x50, 0, 28, 4⟩
def RESET_STAT_SRC : Fld := ⟨0x50, 0, 27, 1⟩
def RESET_STAT_COUNT : Fld := ⟨0x50, 0, 0, 16⟩
def RESET_STAT : Fld := ⟨0x50, 0, 0, 32⟩
def CFG_STAT_STATE : Fld := ⟨0x54, 0, 30, 2⟩
def CFG_STAT_CODE : Fld := ⟨0x54, 0, 0, 16⟩
def CFG_STAT : Fld := ⟨0x54, 0, 0, 32⟩
def CFG_CRC : Fld := ⟨0x58, 0, 0, 32⟩
def STO_CFG_STO_FILT : Fld := ⟨0x5C, 0, 19, 13⟩
def STO_CFG_DISC_T : Fld := ⟨0x5C, 0, 9, 10⟩
def STO_CFG_GDEN_SETTLE : Fld := ⟨0x5C, 0, 3, 6⟩
def STO_CFG : Fld := ⟨0x5C, 0, 0, 32⟩
def REACT : Fld := ⟨0x60, 0, 0, 8⟩
def EVT_LAST_KIND : Fld := ⟨0x64, 0, 28, 4⟩
def EVT_LAST_REACTION : Fld := ⟨0x64, 0, 26, 2⟩
def EVT_LAST_CTX : Fld := ⟨0x64, 0, 20, 6⟩
def EVT_LAST_CLUSTER : Fld := ⟨0x64, 0, 16, 4⟩
def EVT_LAST_TYPE : Fld := ⟨0x64, 0, 8, 8⟩
def EVT_LAST_INSTANCE : Fld := ⟨0x64, 0, 0, 8⟩
def EVT_LAST : Fld := ⟨0x64, 0, 0, 32⟩
def EVT_CNT : Fld := ⟨0x68, 0, 0, 32⟩
def TQ_CFG_LOOP_ID : Fld := ⟨0x80, 8, 24, 8⟩
def TQ_CFG_STAGE : Fld := ⟨0x80, 8, 20, 4⟩
def TQ_CFG_REACT : Fld := ⟨0x80, 8, 18, 2⟩
def TQ_CFG_WINDOW : Fld := ⟨0x80, 8, 0, 16⟩
def TQ_CFG : Fld := ⟨0x80, 8, 0, 32⟩
def TQ_STAT_OUTSIDE : Fld := ⟨0x84, 8, 31, 1⟩
def TQ_STAT_REACTED : Fld := ⟨0x84, 8, 30, 1⟩
def TQ_STAT_TIME : Fld := ⟨0x84, 8, 16, 10⟩
def TQ_STAT_RUN : Fld := ⟨0x84, 8, 0, 16⟩
def TQ_STAT : Fld := ⟨0x84, 8, 0, 32⟩
end GNM

namespace SNET
def ST_SN_EN : Fld := ⟨0xC, 0, 18, 1⟩
def ST_BASE_WAIT : Fld := ⟨0xC, 0, 17, 1⟩
def ST_SN_DEMAND : Fld := ⟨0xC, 0, 16, 1⟩
def IRQ_REQ_DONE : Fld := ⟨0x10, 0, 3, 1⟩
def IRQ_DISCARD : Fld := ⟨0x10, 0, 2, 1⟩
def IRQ_FAULT : Fld := ⟨0x10, 0, 1, 1⟩
def IRQ_PAIR : Fld := ⟨0x10, 0, 0, 1⟩
def SREQ_GO : Fld := ⟨0x40, 0, 31, 1⟩
def SREQ_CMD : Fld := ⟨0x40, 0, 24, 4⟩
def SREQ_CTX : Fld := ⟨0x40, 0, 0, 6⟩
def SREQ : Fld := ⟨0x40, 0, 0, 32⟩
def SREQ_ARG : Fld := ⟨0x44, 0, 0, 32⟩
def SREQ_STAT_BUSY : Fld := ⟨0x48, 0, 31, 1⟩
def SREQ_STAT_CMD : Fld := ⟨0x48, 0, 16, 4⟩
def SREQ_STAT_CODE : Fld := ⟨0x48, 0, 0, 16⟩
def SREQ_STAT : Fld := ⟨0x48, 0, 0, 32⟩
def SN_CFG_PATH_B : Fld := ⟨0x4C, 0, 2, 1⟩
def SN_CFG_PATH_A : Fld := ⟨0x4C, 0, 1, 1⟩
def SN_CFG_EN : Fld := ⟨0x4C, 0, 0, 1⟩
def SN_CFG : Fld := ⟨0x4C, 0, 0, 32⟩
def W_P : Fld := ⟨0x50, 0, 0, 32⟩
def WD : Fld := ⟨0x54, 0, 0, 32⟩
def SN_ID_CONN_RX : Fld := ⟨0x58, 0, 16, 16⟩
def SN_ID_CONN_TX : Fld := ⟨0x58, 0, 0, 16⟩
def SN_ID : Fld := ⟨0x58, 0, 0, 32⟩
def LAST_SEQ : Fld := ⟨0x5C, 0, 0, 32⟩
def LAST_TIME : Fld := ⟨0x60, 0, 0, 32⟩
def FAULT_KIND : Fld := ⟨0x64, 0, 29, 3⟩
def FAULT_PATH : Fld := ⟨0x64, 0, 28, 1⟩
def FAULT_SEQ : Fld := ⟨0x64, 0, 0, 16⟩
def FAULT : Fld := ⟨0x64, 0, 0, 32⟩
def RX_DATA : Fld := ⟨0x70, 4, 0, 32⟩
def TX_DATA : Fld := ⟨0x80, 4, 0, 32⟩
def CNT_A_CRC_CNT : Fld := ⟨0x90, 0, 16, 16⟩
def CNT_A_DISC_CNT : Fld := ⟨0x90, 0, 0, 16⟩
def CNT_A : Fld := ⟨0x90, 0, 0, 32⟩
def CNT_B_CRC_CNT : Fld := ⟨0x94, 0, 16, 16⟩
def CNT_B_DISC_CNT : Fld := ⟨0x94, 0, 0, 16⟩
def CNT_B : Fld := ⟨0x94, 0, 0, 32⟩
def CNT_PAIR : Fld := ⟨0x98, 0, 0, 32⟩
def CNT_CLR : Fld := ⟨0x9C, 0, 0, 1⟩
end SNET

namespace BIST
def ST_TARGET : Fld := ⟨0xC, 0, 20, 4⟩
def ST_PROG_VALID : Fld := ⟨0xC, 0, 19, 1⟩
def ST_SLICES_STOPPED : Fld := ⟨0xC, 0, 18, 1⟩
def ST_SLICE : Fld := ⟨0xC, 0, 17, 1⟩
def ST_BUSY : Fld := ⟨0xC, 0, 16, 1⟩
def IRQ_COVERAGE_LOST : Fld := ⟨0x10, 0, 3, 1⟩
def IRQ_FAIL : Fld := ⟨0x10, 0, 2, 1⟩
def IRQ_SLICE_DONE : Fld := ⟨0x10, 0, 1, 1⟩
def IRQ_RUN_DONE : Fld := ⟨0x10, 0, 0, 1⟩
def RUN_REQ_GO : Fld := ⟨0x40, 0, 31, 1⟩
def RUN_REQ_PROG : Fld := ⟨0x40, 0, 4, 2⟩
def RUN_REQ_TARGET : Fld := ⟨0x40, 0, 0, 4⟩
def RUN_REQ : Fld := ⟨0x40, 0, 0, 32⟩
def RUN_ADDR : Fld := ⟨0x44, 0, 0, 32⟩
def PROG_INFO_VERSION : Fld := ⟨0x48, 0, 16, 16⟩
def PROG_INFO_SEGMENTS : Fld := ⟨0x48, 0, 0, 16⟩
def PROG_INFO : Fld := ⟨0x48, 0, 0, 32⟩
def SLICE_LAST_TARGET : Fld := ⟨0x4C, 0, 28, 4⟩
def SLICE_LAST_RESULT : Fld := ⟨0x4C, 0, 26, 2⟩
def SLICE_LAST_SEG : Fld := ⟨0x4C, 0, 21, 5⟩
def SLICE_LAST : Fld := ⟨0x4C, 0, 0, 32⟩
def SLICE_CNT : Fld := ⟨0x50, 0, 0, 32⟩
def FAIL_CNT : Fld := ⟨0x54, 0, 0, 32⟩
def RESULT_STATE : Fld := ⟨0x100, 4, 30, 2⟩
def RESULT_SETTING : Fld := ⟨0x100, 4, 28, 2⟩
def RESULT_SEG : Fld := ⟨0x100, 4, 16, 5⟩
def RESULT_PASS_CNT : Fld := ⟨0x100, 4, 0, 16⟩
def RESULT : Fld := ⟨0x100, 4, 0, 32⟩
def SIG : Fld := ⟨0x140, 4, 0, 32⟩
end BIST

namespace CAP
def ST_STATE : Fld := ⟨0xC, 0, 18, 2⟩
def ST_PRE_SHORT : Fld := ⟨0xC, 0, 17, 1⟩
def ST_GAP : Fld := ⟨0xC, 0, 16, 1⟩
def IRQ_UNROLLED : Fld := ⟨0x10, 0, 2, 1⟩
def IRQ_DONE : Fld := ⟨0x10, 0, 1, 1⟩
def IRQ_TRIGGERED : Fld := ⟨0x10, 0, 0, 1⟩
def CFG_MODE : Fld := ⟨0x40, 0, 30, 2⟩
def CFG_UNROLL : Fld := ⟨0x40, 0, 29, 1⟩
def CFG_RAW_MASK : Fld := ⟨0x40, 0, 0, 24⟩
def CFG : Fld := ⟨0x40, 0, 0, 32⟩
def TRIG_TRIG_SRC : Fld := ⟨0x44, 0, 8, 8⟩
def TRIG_TRIG_EN : Fld := ⟨0x44, 0, 0, 7⟩
def TRIG : Fld := ⟨0x44, 0, 0, 32⟩
def STAGE_MASK : Fld := ⟨0x48, 0, 0, 16⟩
def PRE_REC : Fld := ⟨0x4C, 0, 0, 32⟩
def POST_REC : Fld := ⟨0x50, 0, 0, 32⟩
def DEC_N_DEC : Fld := ⟨0x54, 0, 28, 4⟩
def DEC_DEC_PER : Fld := ⟨0x54, 0, 0, 24⟩
def DEC : Fld := ⟨0x54, 0, 0, 32⟩
def CMD_TRIG_SW : Fld := ⟨0x58, 0, 2, 1⟩
def CMD_STOP : Fld := ⟨0x58, 0, 1, 1⟩
def CMD_ARM : Fld := ⟨0x58, 0, 0, 1⟩
def CMD : Fld := ⟨0x58, 0, 0, 32⟩
def BUF_ADDR : Fld := ⟨0x5C, 0, 0, 32⟩
def BUF_SIZE : Fld := ⟨0x60, 0, 0, 32⟩
def REC : Fld := ⟨0x64, 0, 0, 16⟩
def TRIG_OFS : Fld := ⟨0x68, 0, 0, 32⟩
def START_OFS : Fld := ⟨0x6C, 0, 0, 32⟩
def TRIG_TIME_LO : Fld := ⟨0x70, 0, 0, 32⟩
def TRIG_TIME_HI : Fld := ⟨0x74, 0, 0, 32⟩
def TRIG_CAUSE : Fld := ⟨0x78, 0, 0, 7⟩
def DEC_ADDR : Fld := ⟨0x80, 4, 0, 32⟩
end CAP

namespace STG
def ST_COARSE_ONLY : Fld := ⟨0xC, 0, 20, 1⟩
def ST_WAIT_SYNC : Fld := ⟨0xC, 0, 19, 1⟩
def ST_SET : Fld := ⟨0xC, 0, 17, 2⟩
def ST_RUNNING : Fld := ⟨0xC, 0, 16, 1⟩
def IRQ_PERIOD_CLAMP : Fld := ⟨0x10, 0, 9, 1⟩
def IRQ_LATE_EDGE : Fld := ⟨0x10, 0, 8, 1⟩
def IRQ_CLIP : Fld := ⟨0x10, 0, 7, 1⟩
def IRQ_SPLIT : Fld := ⟨0x10, 0, 6, 1⟩
def IRQ_CMP : Fld := ⟨0x10, 0, 2, 4⟩
def IRQ_PERIOD : Fld := ⟨0x10, 0, 1, 1⟩
def IRQ_ZERO : Fld := ⟨0x10, 0, 0, 1⟩
def CFG_MODE : Fld := ⟨0x40, 0, 30, 2⟩
def CFG_ABS : Fld := ⟨0x40, 0, 29, 1⟩
def CFG_BOUND : Fld := ⟨0x40, 0, 27, 2⟩
def CFG_IRQ_PRE : Fld := ⟨0x40, 0, 23, 4⟩
def CFG_SYNC_SRC : Fld := ⟨0x40, 0, 18, 5⟩
def CFG : Fld := ⟨0x40, 0, 0, 32⟩
def SYNC_OFS : Fld := ⟨0x44, 0, 0, 24⟩
def PERIOD : Fld := ⟨0x48, 0, 0, 24⟩
def FB_PERIOD : Fld := ⟨0x4C, 0, 0, 24⟩
def CMP : Fld := ⟨0x50, 4, 0, 32⟩
def INST_CFG_INST3 : Fld := ⟨0x60, 0, 12, 4⟩
def INST_CFG_INST2 : Fld := ⟨0x60, 0, 8, 4⟩
def INST_CFG_INST1 : Fld := ⟨0x60, 0, 4, 4⟩
def INST_CFG_INST0 : Fld := ⟨0x60, 0, 0, 4⟩
def INST_CFG : Fld := ⟨0x60, 0, 0, 32⟩
def LIMITS_FB_MODE : Fld := ⟨0x64, 0, 24, 2⟩
def LIMITS_PERIOD_MIN : Fld := ⟨0x64, 0, 0, 24⟩
def LIMITS : Fld := ⟨0x64, 0, 0, 32⟩
def COUNTER : Fld := ⟨0x68, 0, 0, 24⟩
def P_ACT : Fld := ⟨0x6C, 0, 0, 24⟩
def CARRIER_CNT : Fld := ⟨0x70, 0, 0, 32⟩
def CNT_CLIP_CNT : Fld := ⟨0x74, 0, 16, 16⟩
def CNT_SPLIT_CNT : Fld := ⟨0x74, 0, 0, 16⟩
def CNT : Fld := ⟨0x74, 0, 0, 32⟩
def CNT_CLR : Fld := ⟨0x78, 0, 0, 1⟩
def TRIG_VALID : Fld := ⟨0x80, 4, 31, 1⟩
def TRIG_EVENT : Fld := ⟨0x80, 4, 28, 3⟩
def TRIG_PRESCALE : Fld := ⟨0x80, 4, 24, 4⟩
def TRIG_LOOP_ID : Fld := ⟨0x80, 4, 8, 8⟩
def TRIG : Fld := ⟨0x80, 4, 0, 32⟩
def CM_CFG_SETTLE : Fld := ⟨0x200, 0, 20, 12⟩
def CM_CFG_MAX_SHIFT : Fld := ⟨0x200, 0, 4, 16⟩
def CM_CFG : Fld := ⟨0x200, 0, 0, 32⟩
def CM_MODE_RECON : Fld := ⟨0x204, 0, 31, 1⟩
def CM_MODE_SENSING : Fld := ⟨0x204, 0, 29, 2⟩
def CM_MODE_STARS : Fld := ⟨0x204, 0, 27, 2⟩
def CM_MODE : Fld := ⟨0x204, 0, 0, 32⟩
def CM_CH_OFS : Fld := ⟨0x208, 4, 16, 16⟩
def CM_CH_GAIN : Fld := ⟨0x208, 4, 0, 16⟩
def CM_CH : Fld := ⟨0x208, 4, 0, 32⟩
def CM_STAT_VALID : Fld := ⟨0x218, 0, 31, 1⟩
def CM_STAT_SHIFTED : Fld := ⟨0x218, 0, 30, 1⟩
def CM_STAT_NOWIN : Fld := ⟨0x218, 0, 29, 1⟩
def CM_STAT_MISSING : Fld := ⟨0x218, 0, 28, 1⟩
def CM_STAT_RANGE : Fld := ⟨0x218, 0, 27, 1⟩
def CM_STAT_DIST : Fld := ⟨0x218, 0, 26, 1⟩
def CM_STAT_LATE : Fld := ⟨0x218, 0, 25, 1⟩
def CM_STAT_SAT : Fld := ⟨0x218, 0, 24, 1⟩
def CM_STAT_BAD : Fld := ⟨0x218, 0, 23, 1⟩
def CM_STAT_TRIPPED : Fld := ⟨0x218, 0, 22, 1⟩
def CM_STAT_FORCED : Fld := ⟨0x218, 0, 21, 1⟩
def CM_STAT_SECTOR : Fld := ⟨0x218, 0, 18, 3⟩
def CM_STAT_SEQ : Fld := ⟨0x218, 0, 0, 16⟩
def CM_STAT : Fld := ⟨0x218, 0, 0, 32⟩
def CM_SHIFT_D1 : Fld := ⟨0x21C, 0, 16, 16⟩
def CM_SHIFT_D2 : Fld := ⟨0x21C, 0, 0, 16⟩
def CM_SHIFT : Fld := ⟨0x21C, 0, 0, 32⟩
def CM_I : Fld := ⟨0x220, 4, 0, 16⟩
def CM_TIME : Fld := ⟨0x238, 0, 0, 32⟩
def CM_CNT_SHIFT_CNT : Fld := ⟨0x23C, 0, 16, 16⟩
def CM_CNT_NOWIN_CNT : Fld := ⟨0x23C, 0, 0, 16⟩
def CM_CNT : Fld := ⟨0x23C, 0, 0, 32⟩
def CM_CNT_CLR : Fld := ⟨0x240, 0, 0, 1⟩
def CM_TWIN_TWIN0 : Fld := ⟨0x244, 0, 16, 16⟩
def CM_TWIN_TWIN1 : Fld := ⟨0x244, 0, 0, 16⟩
def CM_TWIN : Fld := ⟨0x244, 0, 0, 32⟩
end STG

namespace LEG
def ST_DT_PENDING : Fld := ⟨0xC, 0, 17, 1⟩
def ST_OUT_ACTIVE : Fld := ⟨0xC, 0, 16, 1⟩
def IRQ_FORCE_BAD : Fld := ⟨0x10, 0, 2, 1⟩
def IRQ_CANCEL : Fld := ⟨0x10, 0, 1, 1⟩
def IRQ_LATE : Fld := ⟨0x10, 0, 0, 1⟩
def CFG_POL_H : Fld := ⟨0x40, 0, 31, 1⟩
def CFG_POL_L : Fld := ⟨0x40, 0, 30, 1⟩
def CFG_MIN_O : Fld := ⟨0x40, 0, 18, 12⟩
def CFG_OFF_GAP : Fld := ⟨0x40, 0, 6, 12⟩
def CFG : Fld := ⟨0x40, 0, 0, 32⟩
def DT_RISE_COARSE : Fld := ⟨0x44, 0, 5, 12⟩
def DT_RISE_FINE : Fld := ⟨0x44, 0, 0, 5⟩
def DT_RISE : Fld := ⟨0x44, 0, 0, 32⟩
def DT_FALL_COARSE : Fld := ⟨0x48, 0, 5, 12⟩
def DT_FALL_FINE : Fld := ⟨0x48, 0, 0, 5⟩
def DT_FALL : Fld := ⟨0x48, 0, 0, 32⟩
def BIND_BOUND : Fld := ⟨0x4C, 0, 31, 1⟩
def BIND_PAIRED : Fld := ⟨0x4C, 0, 30, 1⟩
def BIND_STAGE : Fld := ⟨0x4C, 0, 24, 4⟩
def BIND : Fld := ⟨0x4C, 0, 0, 32⟩
def CMP_ON : Fld := ⟨0x50, 0, 0, 32⟩
def CMP_OFF : Fld := ⟨0x54, 0, 0, 32⟩
def DITHER_ON : Fld := ⟨0x58, 0, 4, 4⟩
def DITHER_OFF : Fld := ⟨0x58, 0, 0, 4⟩
def DITHER : Fld := ⟨0x58, 0, 0, 32⟩
def CTL_PAIR_POL : Fld := ⟨0x5C, 0, 3, 1⟩
def CTL_FORCE : Fld := ⟨0x5C, 0, 0, 3⟩
def CTL : Fld := ⟨0x5C, 0, 0, 32⟩
def PHASE : Fld := ⟨0x60, 0, 0, 32⟩
def LEVEL_GATE_L : Fld := ⟨0x64, 0, 5, 1⟩
def LEVEL_GATE_H : Fld := ⟨0x64, 0, 4, 1⟩
def LEVEL_CMD : Fld := ⟨0x64, 0, 0, 2⟩
def LEVEL : Fld := ⟨0x64, 0, 0, 32⟩
def CNT_CANCEL_CNT : Fld := ⟨0x68, 0, 16, 16⟩
def CNT_LATE_CNT : Fld := ⟨0x68, 0, 0, 16⟩
def CNT : Fld := ⟨0x68, 0, 0, 32⟩
def CNT_CLR : Fld := ⟨0x6C, 0, 0, 1⟩
end LEG

namespace CMPB
def ST_TEST_STOPPED : Fld := ⟨0xC, 0, 23, 1⟩
def ST_SPARE_FAILED : Fld := ⟨0xC, 0, 22, 1⟩
def ST_SPARE_PERM : Fld := ⟨0xC, 0, 21, 1⟩
def ST_SPARE_ACTIVE : Fld := ⟨0xC, 0, 20, 1⟩
def ST_SPARE_PIN : Fld := ⟨0xC, 0, 16, 4⟩
def IRQ_STOPPED : Fld := ⟨0x10, 0, 3, 1⟩
def IRQ_INCONCL : Fld := ⟨0x10, 0, 2, 1⟩
def IRQ_STUCK : Fld := ⟨0x10, 0, 1, 1⟩
def IRQ_ROUND_DONE : Fld := ⟨0x10, 0, 0, 1⟩
def THR_EN_HIGH : Fld := ⟨0x40, 4, 31, 1⟩
def THR_EN_LOW : Fld := ⟨0x40, 4, 30, 1⟩
def THR_HYST : Fld := ⟨0x40, 4, 28, 2⟩
def THR_HIGH : Fld := ⟨0x40, 4, 16, 10⟩
def THR_LOW : Fld := ⟨0x40, 4, 0, 10⟩
def THR : Fld := ⟨0x40, 4, 0, 32⟩
def TEST_CFG_TEST_EN : Fld := ⟨0x80, 0, 31, 1⟩
def TEST_CFG_FAIL_TRIP : Fld := ⟨0x80, 0, 30, 1⟩
def TEST_CFG_INTERVAL : Fld := ⟨0x80, 0, 0, 10⟩
def TEST_CFG : Fld := ⟨0x80, 0, 0, 32⟩
def RESULT_FAILED : Fld := ⟨0xC0, 4, 31, 1⟩
def RESULT_INCONCL : Fld := ⟨0xC0, 4, 30, 1⟩
def RESULT_PASS_CNT : Fld := ⟨0xC0, 4, 0, 16⟩
def RESULT : Fld := ⟨0xC0, 4, 0, 32⟩
def OUT_ABOVE : Fld := ⟨0x100, 0, 16, 16⟩
def OUT_BELOW : Fld := ⟨0x100, 0, 0, 16⟩
def OUT : Fld := ⟨0x100, 0, 0, 32⟩
end CMPB

namespace ADCG
def ST_CAL_BUSY : Fld := ⟨0xC, 0, 21, 3⟩
def ST_BUSY : Fld := ⟨0xC, 0, 18, 3⟩
def ST_CLAMP : Fld := ⟨0xC, 0, 17, 1⟩
def ST_READY : Fld := ⟨0xC, 0, 16, 1⟩
def IRQ_ROUND : Fld := ⟨0x10, 0, 6, 1⟩
def IRQ_INJ_LATE : Fld := ⟨0x10, 0, 5, 1⟩
def IRQ_INJ_OVR : Fld := ⟨0x10, 0, 4, 1⟩
def IRQ_CAL_DONE : Fld := ⟨0x10, 0, 3, 1⟩
def IRQ_CLAMP : Fld := ⟨0x10, 0, 2, 1⟩
def IRQ_OVER : Fld := ⟨0x10, 0, 1, 1⟩
def IRQ_UNDER : Fld := ⟨0x10, 0, 0, 1⟩
def CFG_REF_SEL : Fld := ⟨0x40, 0, 31, 1⟩
def CFG_SEQ_CONV : Fld := ⟨0x40, 0, 28, 3⟩
def CFG_HK_CONV : Fld := ⟨0x40, 0, 26, 2⟩
def CFG_N_SLOTS : Fld := ⟨0x40, 0, 21, 5⟩
def CFG : Fld := ⟨0x40, 0, 0, 32⟩
def PULL_PULL7 : Fld := ⟨0x44, 4, 28, 3⟩
def PULL_PULL6 : Fld := ⟨0x44, 4, 24, 3⟩
def PULL_PULL5 : Fld := ⟨0x44, 4, 20, 3⟩
def PULL_PULL4 : Fld := ⟨0x44, 4, 16, 3⟩
def PULL_PULL3 : Fld := ⟨0x44, 4, 12, 3⟩
def PULL_PULL2 : Fld := ⟨0x44, 4, 8, 3⟩
def PULL_PULL1 : Fld := ⟨0x44, 4, 4, 3⟩
def PULL_PULL0 : Fld := ⟨0x44, 4, 0, 3⟩
def PULL : Fld := ⟨0x44, 4, 0, 32⟩
def SLOT_AVG : Fld := ⟨0x50, 4, 12, 4⟩
def SLOT_SHIFT : Fld := ⟨0x50, 4, 8, 4⟩
def SLOT_PIN : Fld := ⟨0x50, 4, 0, 4⟩
def SLOT : Fld := ⟨0x50, 4, 0, 32⟩
def SEQ_RES_OVER : Fld := ⟨0x90, 4, 31, 1⟩
def SEQ_RES_UNDER : Fld := ⟨0x90, 4, 30, 1⟩
def SEQ_RES_DIST : Fld := ⟨0x90, 4, 29, 1⟩
def SEQ_RES_VALUE : Fld := ⟨0x90, 4, 0, 22⟩
def SEQ_RES : Fld := ⟨0x90, 4, 0, 32⟩
def SEQ_CNT : Fld := ⟨0xD0, 0, 0, 32⟩
def CAL : Fld := ⟨0xD4, 0, 0, 3⟩
def CLAMP_STAT : Fld := ⟨0xD8, 0, 0, 16⟩
def RANGE_FLAG_OVER : Fld := ⟨0xDC, 0, 16, 16⟩
def RANGE_FLAG_UNDER : Fld := ⟨0xDC, 0, 0, 16⟩
def RANGE_FLAG : Fld := ⟨0xDC, 0, 0, 32⟩
def CNT_LATE_CNT : Fld := ⟨0xE0, 0, 16, 16⟩
def CNT_OVR_CNT : Fld := ⟨0xE0, 0, 0, 16⟩
def CNT : Fld := ⟨0xE0, 0, 0, 32⟩
def CNT_CLR : Fld := ⟨0xE4, 0, 0, 1⟩
def INJ_VALID : Fld := ⟨0x100, 4, 31, 1⟩
def INJ_LINK : Fld := ⟨0x100, 4, 30, 1⟩
def INJ_CONV : Fld := ⟨0x100, 4, 28, 2⟩
def INJ_PIN : Fld := ⟨0x100, 4, 24, 4⟩
def INJ_SRC : Fld := ⟨0x100, 4, 20, 4⟩
def INJ_INSTANT : Fld := ⟨0x100, 4, 18, 2⟩
def INJ_KIND : Fld := ⟨0x100, 4, 16, 2⟩
def INJ_LAT_MAX : Fld := ⟨0x100, 4, 0, 16⟩
def INJ : Fld := ⟨0x100, 4, 0, 32⟩
def INJ_RES_LATE : Fld := ⟨0x180, 4, 31, 1⟩
def INJ_RES_OVER : Fld := ⟨0x180, 4, 30, 1⟩
def INJ_RES_UNDER : Fld := ⟨0x180, 4, 29, 1⟩
def INJ_RES_DIST : Fld := ⟨0x180, 4, 28, 1⟩
def INJ_RES_CODE : Fld := ⟨0x180, 4, 0, 14⟩
def INJ_RES : Fld := ⟨0x180, 4, 0, 32⟩
end ADCG

namespace CLU
def ST_SLICE : Fld := ⟨0xC, 0, 26, 1⟩
def ST_LIVE : Fld := ⟨0xC, 0, 23, 3⟩
def ST_MODE_ACT : Fld := ⟨0xC, 0, 21, 2⟩
def ST_INFLIGHT : Fld := ⟨0xC, 0, 16, 5⟩
def IRQ_RETIRED : Fld := ⟨0x10, 0, 3, 1⟩
def IRQ_HANDOVER : Fld := ⟨0x10, 0, 2, 1⟩
def IRQ_LATE : Fld := ⟨0x10, 0, 1, 1⟩
def IRQ_OVERRUN : Fld := ⟨0x10, 0, 0, 1⟩
def CFG_MODE : Fld := ⟨0x40, 0, 30, 2⟩
def CFG_MAIN : Fld := ⟨0x40, 0, 28, 2⟩
def CFG_CHECK : Fld := ⟨0x40, 0, 26, 2⟩
def CFG_FINDER : Fld := ⟨0x40, 0, 24, 2⟩
def CFG_QUOTA0 : Fld := ⟨0x40, 0, 19, 5⟩
def CFG_QUOTA1 : Fld := ⟨0x40, 0, 14, 5⟩
def CFG_QUOTA2 : Fld := ⟨0x40, 0, 9, 5⟩
def CFG : Fld := ⟨0x40, 0, 0, 32⟩
def SB_STALL_CNT : Fld := ⟨0x44, 0, 16, 16⟩
def SB_PEAK : Fld := ⟨0x44, 0, 0, 5⟩
def SB : Fld := ⟨0x44, 0, 0, 32⟩
def STREAM_BUSY : Fld := ⟨0x50, 4, 31, 1⟩
def STREAM_CTX : Fld := ⟨0x50, 4, 24, 6⟩
def STREAM_LOOP_ID : Fld := ⟨0x50, 4, 16, 8⟩
def STREAM_CODE : Fld := ⟨0x50, 4, 0, 8⟩
def STREAM : Fld := ⟨0x50, 4, 0, 32⟩
def BUSY : Fld := ⟨0x60, 4, 0, 32⟩
def CNT_CLR : Fld := ⟨0x70, 0, 0, 1⟩
def MODE_REQ_GO : Fld := ⟨0x80, 0, 31, 1⟩
def MODE_REQ_STAGE : Fld := ⟨0x80, 0, 8, 4⟩
def MODE_REQ_WHEN : Fld := ⟨0x80, 0, 4, 2⟩
def MODE_REQ_MODE : Fld := ⟨0x80, 0, 0, 2⟩
def MODE_REQ : Fld := ⟨0x80, 0, 0, 32⟩
def MODE_STAT_STATE : Fld := ⟨0x84, 0, 29, 3⟩
def MODE_STAT_TARGET : Fld := ⟨0x84, 0, 16, 2⟩
def MODE_STAT_CODE : Fld := ⟨0x84, 0, 0, 16⟩
def MODE_STAT : Fld := ⟨0x84, 0, 0, 32⟩
def SERVED_PAIR : Fld := ⟨0x88, 0, 16, 16⟩
def SERVED_ALL : Fld := ⟨0x88, 0, 0, 16⟩
def SERVED : Fld := ⟨0x88, 0, 0, 32⟩
def MM_INFO_LATCHED : Fld := ⟨0x8C, 0, 31, 1⟩
def MM_INFO_RECOVERING : Fld := ⟨0x8C, 0, 30, 1⟩
def MM_INFO_KIND : Fld := ⟨0x8C, 0, 27, 3⟩
def MM_INFO_CTX : Fld := ⟨0x8C, 0, 21, 6⟩
def MM_INFO_LOOP_ID : Fld := ⟨0x8C, 0, 13, 8⟩
def MM_INFO_INDEX : Fld := ⟨0x8C, 0, 0, 13⟩
def MM_INFO : Fld := ⟨0x8C, 0, 0, 32⟩
def MM_TIME : Fld := ⟨0x90, 0, 0, 32⟩
def MM_CLR : Fld := ⟨0x94, 0, 0, 1⟩
def TRIAD_ODD : Fld := ⟨0x98, 0, 30, 2⟩
def TRIAD_PHASE : Fld := ⟨0x98, 0, 28, 2⟩
def TRIAD_RESYNC_CNT : Fld := ⟨0x98, 0, 0, 16⟩
def TRIAD : Fld := ⟨0x98, 0, 0, 32⟩
def TS : Fld := ⟨0x9C, 0, 0, 24⟩
def CTEST_FAIL : Fld := ⟨0xA0, 0, 31, 1⟩
def CTEST_LANE : Fld := ⟨0xA0, 0, 24, 7⟩
def CTEST_PASS_CNT : Fld := ⟨0xA0, 0, 0, 16⟩
def CTEST : Fld := ⟨0xA0, 0, 0, 32⟩
def ROT_ROT_CNT : Fld := ⟨0xA4, 0, 24, 8⟩
def ROT_SKIP_CNT : Fld := ⟨0xA4, 0, 16, 8⟩
def ROT_DEFER : Fld := ⟨0xA4, 0, 0, 16⟩
def ROT : Fld := ⟨0xA4, 0, 0, 32⟩
end CLU

namespace VLK
def ST_ALIGNED : Fld := ⟨0xC, 0, 17, 1⟩
def ST_ISOLATED : Fld := ⟨0xC, 0, 16, 1⟩
def IRQ_VIOLATION : Fld := ⟨0x10, 0, 8, 1⟩
def IRQ_GUEST_LOST : Fld := ⟨0x10, 0, 7, 1⟩
def IRQ_PLACE_DONE : Fld := ⟨0x10, 0, 6, 1⟩
def IRQ_HOLD : Fld := ⟨0x10, 0, 5, 1⟩
def IRQ_TXN_DONE : Fld := ⟨0x10, 0, 4, 1⟩
def IRQ_ISOLATED : Fld := ⟨0x10, 0, 3, 1⟩
def IRQ_ALIGNED_CHG : Fld := ⟨0x10, 0, 2, 1⟩
def IRQ_RING : Fld := ⟨0x10, 0, 1, 1⟩
def IRQ_PORT : Fld := ⟨0x10, 0, 0, 1⟩
def PSTAT_STATE : Fld := ⟨0x40, 0, 30, 2⟩
def PSTAT_TIMING : Fld := ⟨0x40, 0, 29, 1⟩
def PSTAT_NB_VALID : Fld := ⟨0x40, 0, 28, 1⟩
def PSTAT_NEIGHBOUR : Fld := ⟨0x40, 0, 16, 5⟩
def PSTAT : Fld := ⟨0x40, 0, 0, 32⟩
def LINK_DLY : Fld := ⟨0x44, 0, 0, 32⟩
def ERR_CNT_CODE_CNT : Fld := ⟨0x48, 0, 16, 16⟩
def ERR_CNT_CRC_CNT : Fld := ⟨0x48, 0, 0, 16⟩
def ERR_CNT : Fld := ⟨0x48, 0, 0, 32⟩
def DEG_TH : Fld := ⟨0x4C, 0, 0, 8⟩
def CNT_CLR : Fld := ⟨0x50, 0, 0, 1⟩
def ARRAY_CFG_ID : Fld := ⟨0x100, 0, 27, 5⟩
def ARRAY_CFG_HOLD_SEL : Fld := ⟨0x100, 0, 25, 2⟩
def ARRAY_CFG_ISO_HOLD : Fld := ⟨0x100, 0, 24, 1⟩
def ARRAY_CFG_AUTO_RETURN : Fld := ⟨0x100, 0, 23, 1⟩
def ARRAY_CFG_SLEW_PPM : Fld := ⟨0x100, 0, 13, 10⟩
def ARRAY_CFG_ISO_TIME : Fld := ⟨0x100, 0, 3, 10⟩
def ARRAY_CFG : Fld := ⟨0x100, 0, 0, 32⟩
def HOLD_MASK : Fld := ⟨0x104, 0, 0, 16⟩
def EPOCH_PER : Fld := ⟨0x108, 0, 0, 24⟩
def TIMERS_T_VOTE : Fld := ⟨0x10C, 0, 16, 16⟩
def TIMERS_T_ACK : Fld := ⟨0x10C, 0, 0, 16⟩
def TIMERS : Fld := ⟨0x10C, 0, 0, 32⟩
def OFFSET : Fld := ⟨0x110, 0, 0, 32⟩
def ALIGN_STAT_STEPPED : Fld := ⟨0x114, 0, 31, 1⟩
def ALIGN_STAT_SLEWING : Fld := ⟨0x114, 0, 30, 1⟩
def ALIGN_STAT_HOPS : Fld := ⟨0x114, 0, 24, 6⟩
def ALIGN_STAT : Fld := ⟨0x114, 0, 0, 32⟩
def RING : Fld := ⟨0x118, 0, 30, 2⟩
def MEMBERS : Fld := ⟨0x11C, 0, 0, 32⟩
def ARRAY_CMD_GO : Fld := ⟨0x120, 0, 31, 1⟩
def ARRAY_CMD_BTYPE : Fld := ⟨0x120, 0, 8, 1⟩
def ARRAY_CMD_STAGE : Fld := ⟨0x120, 0, 4, 4⟩
def ARRAY_CMD_CMD : Fld := ⟨0x120, 0, 0, 2⟩
def ARRAY_CMD : Fld := ⟨0x120, 0, 0, 32⟩
def BOUND_LO : Fld := ⟨0x124, 0, 0, 32⟩
def BOUND_HI : Fld := ⟨0x128, 0, 0, 32⟩
def PARTS : Fld := ⟨0x12C, 0, 0, 32⟩
def TXN_STAT_STATE : Fld := ⟨0x130, 0, 29, 3⟩
def TXN_STAT_FIRST_REFUSER : Fld := ⟨0x130, 0, 24, 5⟩
def TXN_STAT_TXN : Fld := ⟨0x130, 0, 16, 8⟩
def TXN_STAT_CODE : Fld := ⟨0x130, 0, 0, 16⟩
def TXN_STAT : Fld := ⟨0x130, 0, 0, 32⟩
def READY_MAP : Fld := ⟨0x134, 0, 0, 32⟩
def APPLIED_MAP : Fld := ⟨0x138, 0, 0, 32⟩
def NOTAPPL_MAP : Fld := ⟨0x13C, 0, 0, 32⟩
def HOLD_STAT_HELD : Fld := ⟨0x140, 0, 31, 1⟩
def HOLD_STAT_CAUSE : Fld := ⟨0x140, 0, 29, 2⟩
def HOLD_STAT : Fld := ⟨0x140, 0, 0, 32⟩
def HOLD_CLR : Fld := ⟨0x144, 0, 0, 1⟩
def PLACE_GO : Fld := ⟨0x148, 0, 31, 1⟩
def PLACE_CTX : Fld := ⟨0x148, 0, 5, 6⟩
def PLACE_TARGET : Fld := ⟨0x148, 0, 0, 5⟩
def PLACE : Fld := ⟨0x148, 0, 0, 32⟩
def PLACE_STAT_BUSY : Fld := ⟨0x14C, 0, 31, 1⟩
def PLACE_STAT_CODE : Fld := ⟨0x14C, 0, 0, 16⟩
def PLACE_STAT : Fld := ⟨0x14C, 0, 0, 32⟩
def JRNL_IDX : Fld := ⟨0x150, 0, 0, 8⟩
def JRNL_CNT : Fld := ⟨0x154, 0, 0, 32⟩
def JRNL_D : Fld := ⟨0x158, 4, 0, 32⟩
end VLK

namespace XSPI
def ST_SELECTED : Fld := ⟨0xC, 0, 17, 1⟩
def ST_FL_BUSY : Fld := ⟨0xC, 0, 16, 1⟩
def IRQ_FL_DONE : Fld := ⟨0x10, 0, 1, 1⟩
def IRQ_PROTOCOL : Fld := ⟨0x10, 0, 0, 1⟩
def FL_CMD_GO : Fld := ⟨0x40, 0, 31, 1⟩
def FL_CMD_CMD : Fld := ⟨0x40, 0, 0, 2⟩
def FL_CMD : Fld := ⟨0x40, 0, 0, 32⟩
def FL_OFS : Fld := ⟨0x44, 0, 0, 32⟩
def FL_ADDR : Fld := ⟨0x48, 0, 0, 32⟩
def FL_LEN : Fld := ⟨0x4C, 0, 0, 32⟩
def FL_CODE : Fld := ⟨0x50, 0, 0, 16⟩
end XSPI

namespace DBG
def ST_LEVEL : Fld := ⟨0xC, 0, 16, 2⟩
def IRQ_ECC_UE : Fld := ⟨0x10, 0, 1, 1⟩
def IRQ_ECC_CE : Fld := ⟨0x10, 0, 0, 1⟩
def ECC_CE_CNT : Fld := ⟨0x40, 0, 0, 32⟩
def ECC_UE_CNT : Fld := ⟨0x44, 0, 0, 32⟩
def ECC_ADDR : Fld := ⟨0x48, 0, 0, 32⟩
def PROMO_MODE : Fld := ⟨0x100, 4, 31, 1⟩
def PROMO_LOADING : Fld := ⟨0x100, 4, 30, 1⟩
def PROMO_ACTIVE : Fld := ⟨0x100, 4, 16, 8⟩
def PROMO_REQ : Fld := ⟨0x100, 4, 8, 8⟩
def PROMO_SEL : Fld := ⟨0x100, 4, 0, 8⟩
def PROMO : Fld := ⟨0x100, 4, 0, 32⟩
end DBG

namespace SDI
def ST_STREAM_FAULT : Fld := ⟨0xC, 0, 20, 1⟩
def ST_CLK_LOSS : Fld := ⟨0xC, 0, 19, 1⟩
def ST_STUCK : Fld := ⟨0xC, 0, 18, 1⟩
def ST_OC : Fld := ⟨0xC, 0, 17, 1⟩
def ST_RUNNING : Fld := ⟨0xC, 0, 16, 1⟩
def IRQ_FAULT : Fld := ⟨0x10, 0, 5, 1⟩
def IRQ_CLK_LOSS : Fld := ⟨0x10, 0, 4, 1⟩
def IRQ_STUCK : Fld := ⟨0x10, 0, 3, 1⟩
def IRQ_CODE_ERR : Fld := ⟨0x10, 0, 2, 1⟩
def IRQ_OC : Fld := ⟨0x10, 0, 1, 1⟩
def IRQ_SAT : Fld := ⟨0x10, 0, 0, 1⟩
def CFG_FORMAT : Fld := ⟨0x40, 0, 30, 2⟩
def CFG_DIV : Fld := ⟨0x40, 0, 16, 8⟩
def CFG_SKEW : Fld := ⟨0x40, 0, 8, 5⟩
def CFG : Fld := ⟨0x40, 0, 0, 32⟩
def OSR_OC_OSR : Fld := ⟨0x44, 0, 16, 8⟩
def OSR_OSR : Fld := ⟨0x44, 0, 0, 9⟩
def OSR : Fld := ⟨0x44, 0, 0, 32⟩
def OC_THR_OC_HIGH : Fld := ⟨0x48, 0, 16, 16⟩
def OC_THR_OC_LOW : Fld := ⟨0x48, 0, 0, 16⟩
def OC_THR : Fld := ⟨0x48, 0, 0, 32⟩
def ERR_CFG_OC_ON_FAULT : Fld := ⟨0x4C, 0, 31, 1⟩
def ERR_CFG_BAD_N : Fld := ⟨0x4C, 0, 16, 8⟩
def ERR_CFG_STUCK_N : Fld := ⟨0x4C, 0, 0, 16⟩
def ERR_CFG : Fld := ⟨0x4C, 0, 0, 32⟩
def DATA_VALID : Fld := ⟨0x50, 0, 31, 1⟩
def DATA_SAT : Fld := ⟨0x50, 0, 30, 1⟩
def DATA_BAD : Fld := ⟨0x50, 0, 29, 1⟩
def DATA_VALUE : Fld := ⟨0x50, 0, 0, 16⟩
def DATA : Fld := ⟨0x50, 0, 0, 32⟩
def WORD_TIME : Fld := ⟨0x54, 0, 0, 32⟩
def OC_VALUE : Fld := ⟨0x58, 0, 0, 16⟩
def ERR_CNT_CODE_CNT : Fld := ⟨0x5C, 0, 16, 16⟩
def ERR_CNT_STUCK_CNT : Fld := ⟨0x5C, 0, 8, 8⟩
def ERR_CNT_CLK_CNT : Fld := ⟨0x5C, 0, 0, 8⟩
def ERR_CNT : Fld := ⟨0x5C, 0, 0, 32⟩
def ERR_CLR : Fld := ⟨0x60, 0, 0, 1⟩
def MAP_VALID : Fld := ⟨0x64, 0, 31, 1⟩
def MAP_STAGE : Fld := ⟨0x64, 0, 24, 4⟩
def MAP : Fld := ⟨0x64, 0, 0, 32⟩
end SDI

namespace POS
def ST_REFERENCED : Fld := ⟨0xC, 0, 21, 1⟩
def ST_POS_VALID : Fld := ⟨0xC, 0, 20, 1⟩
def ST_POS_FAULT : Fld := ⟨0xC, 0, 19, 1⟩
def ST_HALL_INVALID : Fld := ⟨0xC, 0, 18, 1⟩
def ST_IDX_PENDING : Fld := ⟨0xC, 0, 17, 1⟩
def ST_DIR : Fld := ⟨0xC, 0, 16, 1⟩
def IRQ_PRB_OVR : Fld := ⟨0x10, 0, 8, 1⟩
def IRQ_PRB_FALL : Fld := ⟨0x10, 0, 7, 1⟩
def IRQ_PRB_RISE : Fld := ⟨0x10, 0, 6, 1⟩
def IRQ_WINDOW : Fld := ⟨0x10, 0, 5, 1⟩
def IRQ_POS_FAULT : Fld := ⟨0x10, 0, 4, 1⟩
def IRQ_IDX_CORRECTED : Fld := ⟨0x10, 0, 3, 1⟩
def IRQ_IDX_MISMATCH : Fld := ⟨0x10, 0, 2, 1⟩
def IRQ_HALL_INVALID : Fld := ⟨0x10, 0, 1, 1⟩
def IRQ_ILLEGAL : Fld := ⟨0x10, 0, 0, 1⟩
def CFG_FILT : Fld := ⟨0x40, 0, 24, 8⟩
def CFG_MODE : Fld := ⟨0x40, 0, 22, 2⟩
def CFG_DIR_INV : Fld := ⟨0x40, 0, 21, 1⟩
def CFG_IDX_GATE : Fld := ⟨0x40, 0, 20, 1⟩
def CFG_IDX_POLICY : Fld := ⟨0x40, 0, 18, 2⟩
def CFG_IDX_TOL : Fld := ⟨0x40, 0, 14, 4⟩
def CFG_IDX_NEG_OFS : Fld := ⟨0x40, 0, 10, 4⟩
def CFG_PP : Fld := ⟨0x40, 0, 4, 6⟩
def CFG : Fld := ⟨0x40, 0, 0, 32⟩
def COUNT_MOD : Fld := ⟨0x44, 0, 0, 24⟩
def INDEX_POS : Fld := ⟨0x48, 0, 0, 24⟩
def ANGLE_OFS : Fld := ⟨0x4C, 0, 0, 32⟩
def SPD_WIN : Fld := ⟨0x50, 0, 0, 26⟩
def SPD_STILL : Fld := ⟨0x54, 0, 0, 8⟩
def COUNT : Fld := ⟨0x58, 0, 0, 32⟩
def TURN_POS : Fld := ⟨0x5C, 0, 0, 24⟩
def SET_COUNT : Fld := ⟨0x60, 0, 0, 32⟩
def ANGLE : Fld := ⟨0x64, 0, 0, 32⟩
def SPEED : Fld := ⟨0x68, 0, 0, 32⟩
def SPD_STAT_DIR : Fld := ⟨0x6C, 0, 19, 1⟩
def SPD_STAT_QUAL : Fld := ⟨0x6C, 0, 16, 3⟩
def SPD_STAT_WIN_SEQ : Fld := ⟨0x6C, 0, 0, 16⟩
def SPD_STAT : Fld := ⟨0x6C, 0, 0, 32⟩
def ILL_CNT_CLR : Fld := ⟨0x70, 0, 31, 1⟩
def ILL_CNT_COUNT : Fld := ⟨0x70, 0, 0, 16⟩
def ILL_CNT : Fld := ⟨0x70, 0, 0, 32⟩
def IDX_OBS : Fld := ⟨0x74, 0, 0, 24⟩
def IDX_EXP : Fld := ⟨0x78, 0, 0, 24⟩
def IDX_STAT_CLR : Fld := ⟨0x7C, 0, 31, 1⟩
def IDX_STAT_SUSPECT : Fld := ⟨0x7C, 0, 17, 1⟩
def IDX_STAT_MATCH : Fld := ⟨0x7C, 0, 16, 1⟩
def IDX_STAT_MISS_CNT : Fld := ⟨0x7C, 0, 0, 16⟩
def IDX_STAT : Fld := ⟨0x7C, 0, 0, 32⟩
def PRB_CFG_FILT : Fld := ⟨0x80, 0, 24, 8⟩
def PRB_CFG_SRC : Fld := ⟨0x80, 0, 20, 4⟩
def PRB_CFG_EDGE : Fld := ⟨0x80, 0, 18, 2⟩
def PRB_CFG_OVW : Fld := ⟨0x80, 0, 17, 1⟩
def PRB_CFG : Fld := ⟨0x80, 0, 0, 32⟩
def PRB_R_ANGLE : Fld := ⟨0x84, 0, 0, 32⟩
def PRB_R_COUNT : Fld := ⟨0x88, 0, 0, 32⟩
def PRB_R_TIME : Fld := ⟨0x8C, 0, 0, 32⟩
def PRB_F_ANGLE : Fld := ⟨0x90, 0, 0, 32⟩
def PRB_F_COUNT : Fld := ⟨0x94, 0, 0, 32⟩
def PRB_F_TIME : Fld := ⟨0x98, 0, 0, 32⟩
def PRB_STAT_F_SRC_OK : Fld := ⟨0x9C, 0, 5, 1⟩
def PRB_STAT_R_SRC_OK : Fld := ⟨0x9C, 0, 4, 1⟩
def PRB_STAT_F_OVR : Fld := ⟨0x9C, 0, 3, 1⟩
def PRB_STAT_R_OVR : Fld := ⟨0x9C, 0, 2, 1⟩
def PRB_STAT_F_VALID : Fld := ⟨0x9C, 0, 1, 1⟩
def PRB_STAT_R_VALID : Fld := ⟨0x9C, 0, 0, 1⟩
def PRB_STAT : Fld := ⟨0x9C, 0, 0, 32⟩
def SNAP : Fld := ⟨0xA0, 0, 0, 1⟩
def SNAP_COUNT : Fld := ⟨0xA4, 0, 0, 32⟩
def SNAP_ANGLE : Fld := ⟨0xA8, 0, 0, 32⟩
def SNAP_SPEED : Fld := ⟨0xAC, 0, 0, 32⟩
def SNAP_SPD_STAT : Fld := ⟨0xB0, 0, 0, 32⟩
end POS

namespace RSV
def ST_POS_VALID : Fld := ⟨0xC, 0, 19, 1⟩
def ST_LOT : Fld := ⟨0xC, 0, 18, 1⟩
def ST_DOS : Fld := ⟨0xC, 0, 17, 1⟩
def ST_LOS : Fld := ⟨0xC, 0, 16, 1⟩
def IRQ_LOT : Fld := ⟨0x10, 0, 2, 1⟩
def IRQ_DOS : Fld := ⟨0x10, 0, 1, 1⟩
def IRQ_LOS : Fld := ⟨0x10, 0, 0, 1⟩
def CFG_BW : Fld := ⟨0x40, 0, 30, 2⟩
def CFG_E_RATIO : Fld := ⟨0x40, 0, 24, 6⟩
def CFG_EXC_DIV : Fld := ⟨0x40, 0, 0, 10⟩
def CFG : Fld := ⟨0x40, 0, 0, 32⟩
def EXC_DELAY : Fld := ⟨0x44, 0, 0, 18⟩
def EXC_AMP : Fld := ⟨0x48, 0, 0, 16⟩
def PINS_GROUP : Fld := ⟨0x4C, 0, 22, 2⟩
def PINS_SIN_CONV : Fld := ⟨0x4C, 0, 20, 2⟩
def PINS_COS_CONV : Fld := ⟨0x4C, 0, 18, 2⟩
def PINS_SIN_PIN : Fld := ⟨0x4C, 0, 12, 6⟩
def PINS_COS_PIN : Fld := ⟨0x4C, 0, 6, 6⟩
def PINS : Fld := ⟨0x4C, 0, 0, 32⟩
def AMP_TH_AMP_HIGH : Fld := ⟨0x50, 0, 16, 16⟩
def AMP_TH_AMP_LOW : Fld := ⟨0x50, 0, 0, 16⟩
def AMP_TH : Fld := ⟨0x50, 0, 0, 32⟩
def FLT_TH_LOS_TH : Fld := ⟨0x54, 0, 16, 16⟩
def FLT_TH_LOT_TH : Fld := ⟨0x54, 0, 0, 16⟩
def FLT_TH : Fld := ⟨0x54, 0, 0, 32⟩
def ANGLE_OFS : Fld := ⟨0x58, 0, 0, 32⟩
def ANGLE : Fld := ⟨0x5C, 0, 0, 32⟩
def MECH : Fld := ⟨0x60, 0, 0, 32⟩
def SPEED : Fld := ⟨0x64, 0, 0, 32⟩
def AMP : Fld := ⟨0x68, 0, 0, 16⟩
def TRK_ERR : Fld := ⟨0x6C, 0, 0, 16⟩
end RSV

namespace SSI
def ST_BUSY : Fld := ⟨0xC, 0, 17, 1⟩
def ST_POS_VALID : Fld := ⟨0xC, 0, 16, 1⟩
def IRQ_JUMP : Fld := ⟨0x10, 0, 3, 1⟩
def IRQ_TIMEOUT : Fld := ⟨0x10, 0, 2, 1⟩
def IRQ_START : Fld := ⟨0x10, 0, 1, 1⟩
def IRQ_FRAME : Fld := ⟨0x10, 0, 0, 1⟩
def CFG_BITS : Fld := ⟨0x40, 0, 26, 6⟩
def CFG_ST_BITS : Fld := ⟨0x40, 0, 20, 6⟩
def CFG_GRAY : Fld := ⟨0x40, 0, 19, 1⟩
def CFG_PP : Fld := ⟨0x40, 0, 12, 6⟩
def CFG : Fld := ⟨0x40, 0, 0, 32⟩
def CLK_DELAY : Fld := ⟨0x44, 0, 16, 12⟩
def CLK_DIV : Fld := ⟨0x44, 0, 0, 11⟩
def CLK : Fld := ⟨0x44, 0, 0, 32⟩
def REQ_SRC : Fld := ⟨0x48, 0, 30, 2⟩
def REQ_STAGE : Fld := ⟨0x48, 0, 24, 4⟩
def REQ_PERIOD : Fld := ⟨0x48, 0, 0, 24⟩
def REQ : Fld := ⟨0x48, 0, 0, 32⟩
def TM_TM_MIN : Fld := ⟨0x4C, 0, 16, 16⟩
def TM_TM_MAX : Fld := ⟨0x4C, 0, 0, 16⟩
def TM : Fld := ⟨0x4C, 0, 0, 32⟩
def ANGLE_OFS : Fld := ⟨0x50, 0, 0, 32⟩
def JUMP_MAX : Fld := ⟨0x54, 0, 0, 32⟩
def RAW : Fld := ⟨0x58, 0, 0, 32⟩
def MT : Fld := ⟨0x5C, 0, 0, 32⟩
def ANGLE : Fld := ⟨0x60, 0, 0, 32⟩
def SPEED : Fld := ⟨0x64, 0, 0, 32⟩
def TIME : Fld := ⟨0x68, 0, 0, 32⟩
def ERR_CNT_START_CNT : Fld := ⟨0x6C, 0, 24, 8⟩
def ERR_CNT_TIMEOUT_CNT : Fld := ⟨0x6C, 0, 16, 8⟩
def ERR_CNT_JUMP_CNT : Fld := ⟨0x6C, 0, 8, 8⟩
def ERR_CNT_SKIP_CNT : Fld := ⟨0x6C, 0, 0, 8⟩
def ERR_CNT : Fld := ⟨0x6C, 0, 0, 32⟩
end SSI

namespace EMU
def ST_OVERFLOW : Fld := ⟨0xC, 0, 17, 1⟩
def ST_DIR : Fld := ⟨0xC, 0, 16, 1⟩
def IRQ_Z_OUT : Fld := ⟨0x10, 0, 1, 1⟩
def IRQ_OVERFLOW : Fld := ⟨0x10, 0, 0, 1⟩
def CFG_SRC : Fld := ⟨0x40, 0, 28, 4⟩
def CFG_DIR_INV : Fld := ⟨0x40, 0, 27, 1⟩
def CFG_Z_EN : Fld := ⟨0x40, 0, 26, 1⟩
def CFG_MIN_GAP : Fld := ⟨0x40, 0, 0, 12⟩
def CFG : Fld := ⟨0x40, 0, 0, 32⟩
def RATIO_N : Fld := ⟨0x44, 0, 16, 16⟩
def RATIO_M : Fld := ⟨0x44, 0, 0, 16⟩
def RATIO : Fld := ⟨0x44, 0, 0, 32⟩
def OUT_COUNT : Fld := ⟨0x48, 0, 0, 32⟩
def BACKLOG : Fld := ⟨0x4C, 0, 0, 9⟩
end EMU

namespace PCIE
def ST_SPEED : Fld := ⟨0xC, 0, 20, 2⟩
def ST_WIDTH : Fld := ⟨0xC, 0, 18, 2⟩
def ST_LINK_UP : Fld := ⟨0xC, 0, 17, 1⟩
def ST_D3HOT : Fld := ⟨0xC, 0, 16, 1⟩
def IRQ_LINK_DOWN : Fld := ⟨0x10, 0, 2, 1⟩
def IRQ_PROTOCOL : Fld := ⟨0x10, 0, 1, 1⟩
def IRQ_LINK_UP : Fld := ⟨0x10, 0, 0, 1⟩
def VLATCH : Fld := ⟨0x40, 4, 0, 32⟩
def VEN : Fld := ⟨0x48, 4, 0, 32⟩
def PROT_CNT : Fld := ⟨0x50, 0, 0, 32⟩
def VECMAP_EN3 : Fld := ⟨0x100, 4, 31, 1⟩
def VECMAP_VECTOR3 : Fld := ⟨0x100, 4, 24, 6⟩
def VECMAP_EN2 : Fld := ⟨0x100, 4, 23, 1⟩
def VECMAP_VECTOR2 : Fld := ⟨0x100, 4, 16, 6⟩
def VECMAP_EN1 : Fld := ⟨0x100, 4, 15, 1⟩
def VECMAP_VECTOR1 : Fld := ⟨0x100, 4, 8, 6⟩
def VECMAP_EN0 : Fld := ⟨0x100, 4, 7, 1⟩
def VECMAP_VECTOR0 : Fld := ⟨0x100, 4, 0, 6⟩
def VECMAP : Fld := ⟨0x100, 4, 0, 32⟩
end PCIE

namespace ETH
def ST_PTP_LOCKED : Fld := ⟨0xC, 0, 18, 1⟩
def ST_AN_DONE : Fld := ⟨0xC, 0, 17, 1⟩
def ST_LINK : Fld := ⟨0xC, 0, 16, 1⟩
def IRQ_PTP_LOSS : Fld := ⟨0x10, 0, 4, 1⟩
def IRQ_RX_DROP : Fld := ⟨0x10, 0, 3, 1⟩
def IRQ_TX_DONE : Fld := ⟨0x10, 0, 2, 1⟩
def IRQ_RX : Fld := ⟨0x10, 0, 1, 1⟩
def IRQ_LINK : Fld := ⟨0x10, 0, 0, 1⟩
def CFG_AN_EN : Fld := ⟨0x40, 0, 2, 1⟩
def CFG_MC_EN : Fld := ⟨0x40, 0, 1, 1⟩
def CFG_PROMISC : Fld := ⟨0x40, 0, 0, 1⟩
def CFG : Fld := ⟨0x40, 0, 0, 32⟩
def MAC_LO : Fld := ⟨0x44, 0, 0, 32⟩
def MAC_HI : Fld := ⟨0x48, 0, 0, 16⟩
def RX_RING : Fld := ⟨0x4C, 0, 0, 32⟩
def RX_LEN : Fld := ⟨0x50, 0, 0, 16⟩
def TX_RING : Fld := ⟨0x54, 0, 0, 32⟩
def TX_LEN : Fld := ⟨0x58, 0, 0, 16⟩
def RX_HEAD : Fld := ⟨0x5C, 0, 0, 12⟩
def TX_TAIL : Fld := ⟨0x60, 0, 0, 12⟩
def GPTP_NS_LO : Fld := ⟨0x64, 0, 0, 32⟩
def GPTP_NS_HI : Fld := ⟨0x68, 0, 0, 32⟩
def GPTP_RATE : Fld := ⟨0x6C, 0, 0, 32⟩
def CNT_ERR_CNT : Fld := ⟨0x70, 0, 16, 16⟩
def CNT_DROP_CNT : Fld := ⟨0x70, 0, 0, 16⟩
def CNT : Fld := ⟨0x70, 0, 0, 32⟩
end ETH

namespace CAN
def ST_STATE : Fld := ⟨0xC, 0, 16, 2⟩
def IRQ_BUS_OFF : Fld := ⟨0x10, 0, 4, 1⟩
def IRQ_ERR : Fld := ⟨0x10, 0, 3, 1⟩
def IRQ_FIFO_OVR : Fld := ⟨0x10, 0, 2, 1⟩
def IRQ_TX_DONE : Fld := ⟨0x10, 0, 1, 1⟩
def IRQ_RX : Fld := ⟨0x10, 0, 0, 1⟩
def CFG_AUTO_RECOVER : Fld := ⟨0x40, 0, 2, 1⟩
def CFG_BRS_EN : Fld := ⟨0x40, 0, 1, 1⟩
def CFG_FD_EN : Fld := ⟨0x40, 0, 0, 1⟩
def CFG : Fld := ⟨0x40, 0, 0, 32⟩
def NTIM_BRP : Fld := ⟨0x44, 0, 24, 8⟩
def NTIM_TSEG1 : Fld := ⟨0x44, 0, 16, 8⟩
def NTIM_TSEG2 : Fld := ⟨0x44, 0, 8, 8⟩
def NTIM_SJW : Fld := ⟨0x44, 0, 0, 8⟩
def NTIM : Fld := ⟨0x44, 0, 0, 32⟩
def DTIM_BRP : Fld := ⟨0x48, 0, 24, 8⟩
def DTIM_TSEG1 : Fld := ⟨0x48, 0, 16, 8⟩
def DTIM_TSEG2 : Fld := ⟨0x48, 0, 8, 8⟩
def DTIM_SJW : Fld := ⟨0x48, 0, 0, 8⟩
def DTIM : Fld := ⟨0x48, 0, 0, 32⟩
def ECR_TEC : Fld := ⟨0x4C, 0, 24, 8⟩
def ECR_REC : Fld := ⟨0x4C, 0, 16, 8⟩
def ECR_TDC : Fld := ⟨0x4C, 0, 0, 16⟩
def ECR : Fld := ⟨0x4C, 0, 0, 32⟩
def FIFO_CNT : Fld := ⟨0x50, 0, 0, 6⟩
def RX_POP : Fld := ⟨0x54, 0, 0, 1⟩
def TX_REQ : Fld := ⟨0x58, 0, 0, 8⟩
def FLT_XTD : Fld := ⟨0x80, 8, 31, 1⟩
def FLT_ID : Fld := ⟨0x80, 8, 0, 29⟩
def FLT : Fld := ⟨0x80, 8, 0, 32⟩
def MASK_XTD : Fld := ⟨0x84, 8, 31, 1⟩
def MASK_ID : Fld := ⟨0x84, 8, 0, 29⟩
def MASK : Fld := ⟨0x84, 8, 0, 32⟩
def RX_HEAD : Fld := ⟨0x400, 4, 0, 32⟩
def TXBUF : Fld := ⟨0x800, 4, 0, 32⟩
end CAN

end Sys2Proof.Machine
end

