-- ==== Sys2Proof/Machine/Map.lean ====
section
/-! DEFINITION. Sparse maps as plain data: a list of (key, value) pairs with strictly rising keys and no entry equal to
what an unlisted key reads as. The register file, the active values of RWS fields and the memories are such lists. -/

namespace Sys2Proof.Machine

/-- What a key reads as: its entry, or the default of that key. -/
def mapGet {α : Type} (dv : Nat → α) : List (Nat × α) → Nat → α
  | [], a => dv a
  | (k, v) :: t, a => if a = k then v else mapGet dv t a

/-- Put an entry in its place by key, over an entry of the same key. -/
def mapIns {α : Type} : List (Nat × α) → Nat → α → List (Nat × α)
  | [], a, v => [(a, v)]
  | (k, w) :: t, a, v =>
    if a < k then (a, v) :: (k, w) :: t
    else if a = k then (a, v) :: t
    else (k, w) :: mapIns t a v

/-- Write a key, keeping the canonical form: a value equal to the default removes the entry. -/
def mapPut {α : Type} [DecidableEq α] (dv : Nat → α) (m : List (Nat × α)) (a : Nat) (v : α) : List (Nat × α) :=
  if v = dv a then m.filter (fun e => e.1 != a) else mapIns m a v

/-- The canonical form: keys strictly rise from `lo`, and no entry equals its default. -/
def mapOkFrom {α : Type} [DecidableEq α] (dv : Nat → α) : Nat → List (Nat × α) → Bool
  | _, [] => true
  | lo, (k, v) :: t => decide (lo ≤ k) && !decide (v = dv k) && mapOkFrom dv (k + 1) t

def mapOk {α : Type} [DecidableEq α] (dv : Nat → α) (m : List (Nat × α)) : Bool := mapOkFrom dv 0 m

/-- What a byte of SRAM, DRAM or flash reads as before anything is written to it
(DESIGN CHOICE, log entry 2: the spec gives no power-on contents). -/
def byteDefault (_ : Nat) : Byte := 0

/-- Memory is well formed when it has the canonical form. -/
def Memory.wf (m : List Host.Cell) : Bool := mapOk byteDefault m

/-- Read one byte. -/
def memGet (m : List Host.Cell) (a : Nat) : Byte := mapGet byteDefault m a

/-- Write one byte. -/
def memPut (m : List Host.Cell) (a : Nat) (b : Byte) : List Host.Cell := mapPut byteDefault m a b

/-- Write bytes at rising addresses. -/
def memPutList (m : List Host.Cell) (a : Nat) : List Byte → List Host.Cell
  | [] => m
  | b :: t => memPutList (memPut m a b) (a + 1) t

/-- Read `n` bytes from rising addresses. -/
def memGetList (m : List Host.Cell) (a : Nat) : Nat → List Byte
  | 0 => []
  | n + 1 => memGet m a :: memGetList m (a + 1) n

/-- A little-endian number of `n` bytes (R52). -/
def memNat (m : List Host.Cell) (a : Nat) : Nat → Nat
  | 0 => 0
  | n + 1 => (memGet m a).toNat + 256 * memNat m (a + 1) n

/-- The low `n` bytes of a number, little-endian. -/
def natBytes : Nat → Nat → List Byte
  | 0, _ => []
  | n + 1, v => BitVec.ofNat 8 v :: natBytes n (v / 256)

def memPutNat (m : List Host.Cell) (a n v : Nat) : List Host.Cell := memPutList m a (natBytes n v)

/-- A little-endian number from a list of bytes. -/
def bytesNat : List Byte → Nat
  | [] => 0
  | b :: t => b.toNat + 256 * bytesNat t

/-- Two's-complement reading of the low `n` bits of a number (R5). -/
def signed (n v : Nat) : Int :=
  let u := v % 2 ^ n
  if 2 ^ (n - 1) ≤ u then (u : Int) - (2 ^ n : Nat) else u

/-- The low `n` bits of an integer (two's complement). -/
def unsig (n : Nat) (i : Int) : Nat := (i % ((2 ^ n : Nat) : Int)).toNat

/-- Clamp an integer to the range of an `n`-bit two's-complement number. -/
def satInt (n : Nat) (i : Int) : Int :=
  let m : Int := ((2 ^ (n - 1) : Nat) : Int)
  if i < -m then -m else if m - 1 < i then m - 1 else i

/-- Bit `b` of a number. -/
def bitOf (v b : Nat) : Bool := (v / 2 ^ b) % 2 == 1

/-- Set or clear bit `b` of a number. -/
def setBit (v b : Nat) (x : Bool) : Nat :=
  if bitOf v b == x then v else if x then v + 2 ^ b else v - 2 ^ b

/-- 1 for true, 0 for false. -/
def b2n (b : Bool) : Nat := if b then 1 else 0

/-- Round half away from zero of a quotient, for a positive divisor. -/
def roundDiv (n d : Int) : Int :=
  if 0 ≤ n then (2 * n + d) / (2 * d) else -((-2 * n + d) / (2 * d))

/-- Floor of the square root, by bisection on `k` bits. -/
def isqrtGo (n : Nat) : Nat → Nat → Nat
  | 0, r => r
  | k + 1, r => let r' := r + 2 ^ k; isqrtGo n k (if r' * r' ≤ n then r' else r)

def isqrt (n : Nat) : Nat := isqrtGo n 40 0

/-- CRC over one bit of a reflected 32-bit CRC. -/
def crcBits (poly : Nat) : Nat → Nat → Nat
  | 0, c => c
  | k + 1, c => crcBits poly k (if c % 2 = 1 then (c / 2) ^^^ poly else c / 2)

/-- CRC-32C: the Castagnoli polynomial, reflected, initial value and final inversion of all ones
(PRESUMED, log entry 5: the spec names the CRC and does not give its parameters). -/
def crc32cGo : Nat → List Byte → Nat
  | c, [] => c
  | c, b :: t => crc32cGo (crcBits 0x82F63B78 8 (c ^^^ b.toNat)) t

def crc32c (l : List Byte) : Nat := crc32cGo 0xFFFFFFFF l ^^^ 0xFFFFFFFF

/-- Read a little-endian number of `n` bytes at offset `o` of a byte list. -/
def listNat (l : List Byte) (o n : Nat) : Nat := bytesNat ((l.drop o).take n)

/-- Read a big-endian number of `n` bytes at offset `o` of a byte list. -/
def beNat (b : List Byte) (o n : Nat) : Nat := ((b.drop o).take n).foldl (fun a x => a * 256 + x.toNat) 0

end Sys2Proof.Machine
end

