-- ==== Sys2Proof/Machine/Units.lean ====
section
/-! DEFINITION. The state of the device that no register shows: one structure per unit, plain data. Registers live in
the register file (`Dev.regs`); what stands here is what the chapters' rules name besides (positions, pending edges,
filters, windows, queues, the admitted set). -/

namespace Sys2Proof.Machine

/-- The counts of a speed window (R105, R106): net count, counts of either sign, what makes it INVALID, and how many
windows before it were edgeless. -/
structure WinCount where
  net : Int
  up : Bool
  down : Bool
  bad : Bool
  edgeless : Nat
  deriving DecidableEq, Repr

/-- A window that ended (R105): the TCLK of its end, its counts, and QUAL and SPEED before it. -/
structure WinEnd where
  t : Nat
  count : WinCount
  qual : Nat
  speed : Int
  deriving DecidableEq, Repr

/-- Incremental or Hall interface (R93 to R107) and the probe of its page (R108): filtered levels, last count, the running
speed window. Times named `…T` are 1 + a TCLK, 0 for none. -/
structure PosH where
  a : Bool
  b : Bool
  z : Bool
  /-- Last change of the filtered level of A, B and Z (R93), of the probe, and the last filtered sample. -/
  aT : Nat
  bT : Nat
  zT : Nat
  prbT : Nat
  sampT : Nat
  /-- The last probe edge rose; its values were latched (R109). -/
  prbRise : Bool
  prbTook : Bool
  /-- Sign of the last count since enable, 0 none (R101), and when it was made. -/
  last : Int
  cntT : Nat
  illT : Nat
  winStart : Nat
  win : WinCount
  winEnd : Option WinEnd
  /-- The last index event: its TCLK, and the register words that it changed as they stood before it (R104). -/
  idx : Option (Nat × List (Nat × Word))
  deriving DecidableEq, Repr

/-- Resolver interface (R112, R113): tracking loop and fault counters. -/
structure RsvH where
  /-- TCLK of the enable, in which the excitation starts (R110). -/
  enT : Nat
  /-- Codes of the sine and the cosine at the sample latch, each with whether it was taken after a negative peak. -/
  sinC : Option (Nat × Bool)
  cosC : Option (Nat × Bool)
  phi : Nat
  speed : Int
  started : Bool
  losOk : Nat
  dosBad : Nat
  dosOk : Nat
  lotOk : Nat
  deriving DecidableEq, Repr

/-- SSI interface (R114 to R116). -/
structure SsiH where
  busyUntil : Nat
  inFrame : Bool
  start : Nat
  bad : Nat
  lastSt : Nat
  haveLast : Bool
  lastTime : Nat
  nextReq : Nat
  deriving DecidableEq, Repr

/-- Encoder emulation (R118 to R120); `backlog` is the BACKLOG register. -/
structure EmuH where
  acc : Int
  gapEnd : Nat
  qa : Bool
  qb : Bool
  zPin : Bool
  zArm : Bool
  deriving DecidableEq, Repr

/-- Angle estimator and chart state of a stage (R126 to R147). -/
structure EstH where
  /-- The enable of SCTRL has taken effect. -/
  on : Bool
  /-- θ̂ in units of 2^-48 turn. -/
  theta : Nat
  pend : Int
  omega : Int
  /-- θ̂ before the last TCLK, and that TCLK's step. -/
  prev : Nat
  step : Int
  firstUpd : Bool
  firstSpd : Bool
  rejects : Nat
  /-- Time of the last accepted update. -/
  lastUpd : Nat
  /-- Since when the source's POS_VALID is 0. -/
  badSince : Option Nat
  /-- Since when the return conditions of R147 hold, with the sign of ω̂. -/
  okSince : Option (Nat × Bool)
  /-- A speed sample of opposite sign, or a REVERSED window, has taken effect (row 3 of R145). -/
  reversed : Bool
  /-- What arrived in this TCLK and acts from the next one (R128, R145): an angle update, with its TCLK and, unless it was
  rejected, the correction or, in FALLBACK, the angle it gives; a speed sample; a REVERSED window. -/
  newAngle : Option (Nat × Option (Int × Nat))
  newSpeed : Option Int
  newRev : Bool
  fired : Nat
  carried : List Nat
  /-- End and first bad entry of the load in progress, chart number, count. -/
  loadEnd : Nat
  loadChart : Nat
  loadCount : Nat
  /-- Entries of the active chart and of the loaded idle bank, and the idle bank's chart number. -/
  cntA : Nat
  cntI : Nat
  chartI : Nat
  /-- TCLK in which ARM was loaded (R142). -/
  armT : Nat
  /-- 1 + TCLK of the last chart switch; 0 none (R144). -/
  swapT : Nat
  /-- An arm refused for want of a loaded bank: its TCLK, and the EPH page's ERRCODE word before and after (R144). -/
  armRef : Option (Nat × Word × Word)
  /-- How far into the present TCLK's travel entries have been dealt with (R136, R138); none: not at all. -/
  seen : Option Nat
  deriving DecidableEq, Repr

/-- A shunt result (R238): code, OVER or UNDER, DIST, LATE, and the TCLK from which it is available. -/
structure ShuntRes where
  code : Nat
  range : Bool
  dist : Bool
  late : Bool
  time : Nat
  deriving DecidableEq, Repr

/-- A ΣΔ word taken by an in-line instant (R241): its Q1.15 value, VALID and not BAD, SAT, TCLK of availability. -/
structure SdiTaken where
  val : Nat
  ok : Bool
  sat : Bool
  time : Nat
  deriving DecidableEq, Repr

/-- An in-line instant that waits for its words (R223): the TCLK from which words count, and one word per input. -/
structure InlReq where
  start : Nat
  /-- A leg of the stage was tripped during the set. -/
  tripped : Bool
  words : List (Option SdiTaken)
  deriving DecidableEq, Repr

/-- The measurement unit of a stage (R230 to R242): what it latched at the zero event of the carrier in progress, and
the in-line instants that wait for words. Positions are in units of 1/512 TCLK (R156). -/
structure CmH where
  /-- A carrier is being measured. -/
  act : Bool
  forced : Bool
  nowin : Bool
  shifted : Bool
  tripped : Bool
  d1 : Nat
  d2 : Nat
  sector : Nat
  /-- Latched positions of the three legs, shifted: ON for the whole carrier, OFF before and after the period event. -/
  on : List Nat
  off : List Nat
  offShifted : List Nat
  /-- TCLK of E0 and E1 while they are to come. -/
  e0 : Option Nat
  e1 : Option Nat
  /-- Results of instants 0 and 1. -/
  res0 : Option ShuntRes
  res1 : Option ShuntRes
  /-- The latch of this carrier: 1 + its TCLK, CM_CNT before it, and ERRCODE before and after it (R238). -/
  latch : Nat × Word × Word × Word
  /-- In-line instants under way, oldest first. -/
  inl : List InlReq
  deriving DecidableEq, Repr

/-- Stage timebase (R150 to R167). Times are TCLK counts of the time counter. -/
structure StgH where
  /-- The TCLK at which x was 0. -/
  x0 : Nat
  /-- 1 + the TCLK in which the carrier started (R153); 0 none. -/
  startT : Nat
  /-- TCLK in which a zero event is forced (R146). -/
  forceZero : Option Nat
  cmpTaken : List Bool
  perTaken : Bool
  /-- 1 + time of the last zero, period event; 0 none. -/
  zeroT : Nat
  perT : Nat
  /-- Addresses of RWS registers of the commit group written since the previous commit (R163). -/
  written : List Nat
  /-- TCLK in which the pending REQ completed, and the WHEN it carried (R25). -/
  reqT : Nat
  armWhen : Nat
  /-- TCLK of the last load of the commit group (R24). -/
  loadT : Nat
  /-- A period came from a load or a change of set, and comes into force at the next zero event (R151). -/
  perNew : Bool
  /-- The PERIOD value that came into force last (R163). -/
  perIn : Nat
  /-- 1 + TCLK of the last forced zero event (R146, R147, R167); 0 none. -/
  forcedT : Nat
  /-- The commit that loaded the PERIOD value now due left out a compare of the stage's legs (R163). -/
  splitNext : Bool
  /-- Counts of zero, period, CMP0..3 events for the interrupt prescaler, and per TRIG register (R165). -/
  irqCnt : List Nat
  trigCnt : List Nat
  /-- Ephemeris edges on their way to a leg: due tap time, leg, level (R137). -/
  edges : List (Nat × Nat × Nat)
  cm : CmH
  deriving DecidableEq, Repr

/-- Who drives a leg's outputs (R40): rank 6 and 4 are `normal`, rank 3 `trip`, ranks 1 and 2 and an unbound leg
`cut`. -/
inductive Drive where
  | normal | trip | cut
  deriving DecidableEq, Repr

/-- Leg generator (R159 to R173). Tap times are 32 × TCLK + tap. -/
structure LegH where
  onTaken : Bool
  offTaken : Bool
  /-- Pending turn-ons: high switch?, due tap time, already counted as a hit. -/
  pend : List (Bool × Nat × Bool)
  /-- Last turn-off of each switch. -/
  offH : Option Nat
  offL : Option Nat
  drive : Drive
  /-- Level the generator is sequencing towards. -/
  goal : Nat
  /-- Pair master: end of the neutral dwell (R173), when it runs. -/
  minO : Option Nat
  /-- Pair master: end of OFF_GAP, and whether the inner switch is S2. -/
  gap : Option (Nat × Bool)
  /-- Turn-ons of GATEn_H since the last model update (R339); TCLK with GATEn_H on, and with the commanded level H, in
  the tick so far, and since when the present spell runs (R318). -/
  nOn : Nat
  hSum : Nat
  hSince : Option Nat
  cSum : Nat
  cSince : Option Nat
  deriving DecidableEq, Repr

/-- One unreleased trip of one stage or of one leg alone (R181 to R189). -/
structure ActTrip where
  src : Nat
  stage : Nat
  leg : Option Nat
  sel : Nat
  latch : Bool
  /-- The trip releases at the first zero event later than this TCLK. -/
  rel : Option Nat
  deriving DecidableEq, Repr

/-- The input of a trip source (R179, R180). -/
structure TripIn where
  /-- The pin: 0 low, other high; a comparator's pin in units of V_REF ÷ 2^20. -/
  x : Int
  /-- The condition of the input after POL, or of the comparator, and the TCLK since which it holds. -/
  act : Bool
  since : Nat
  deriving DecidableEq, Repr

/-- What a release of trips changed, in the TCLK in which a new trip can still take it back (R190). -/
structure TripUndo where
  t : Nat
  stage : Nat
  acts : List ActTrip
  /-- Leg, its hidden state and its LEVEL word before the release. -/
  legs : List (Nat × LegH × Word)
  raw : Word
  ramps : List (Nat × Nat)
  deriving DecidableEq, Repr

/-- Trip logic (R178 to R194). -/
structure TripH where
  acts : List ActTrip
  /-- The inputs of sources 0 to 167. -/
  ins : List TripIn
  undo : Option TripUndo
  /-- 1 + TCLK of the last TRIP_REQ; 0 none. -/
  hostT : Nat
  /-- FLAG bits cleared in the TCLK named beside each (R190). -/
  clears : List (Nat × Nat)
  /-- TCLK of the next configuration CRC check, once locked (R194). -/
  nextCrc : Option Nat
  deriving DecidableEq, Repr

/-- Comparator group (R195 to R197): the comparator under test, the start of its test, the steps done, and the time
from which the next test may start. -/
structure CmpH where
  /-- Side outputs, above and below, of the group's comparators, and of the spare on its pin (R180, R195). -/
  above : Nat
  below : Nat
  spAbove : Bool
  spBelow : Bool
  testing : Option Nat
  startT : Nat
  steps : Nat
  nextT : Nat
  /-- Comparator to test next. -/
  nextI : Nat
  deriving DecidableEq, Repr

/-- An event signalled to Gnomon (R393): kind 1 S_SAT, 2 S_FAULT, 3 MISMATCH, 4 DUP, 5 THERMAL; context; cluster;
page type and instance; stages affected. -/
structure GnEvent where
  kind : Nat
  ctx : Nat
  cluster : Nat
  type : Nat
  inst : Nat
  stages : Nat
  deriving DecidableEq, Repr

/-- A copy of a safe command PDU in a pairing queue (R398): its 36 bytes and when it arrived (`Dev.wall`). -/
structure SafeCopy where
  bytes : List Byte
  t : Nat
  deriving DecidableEq, Repr

/-- A request of source 172 that Gnomon holds (R393, R395): by an event, or by torque monitor n. -/
structure GnReq where
  event : Option GnEvent
  tq : Nat
  stages : Nat
  deriving DecidableEq, Repr

/-- A reset that has taken effect: when, the LOCK_CAUSE and LOCK_TIME words, the events and the time of the lock-out that it
ended, and whether RESET_DONE was raised already (R402). -/
structure ResetUndo where
  t : Nat
  cause : Nat
  time : Nat
  evLock : List GnEvent
  lockAt : Nat
  done : Bool
  deriving DecidableEq, Repr

/-- Gnomon (R377 to R402). Its clock runs in a clock hold, so its times are in units of `Dev.wall`. -/
structure GnmH where
  /-- Gnomon has its supply and its clock. -/
  running : Bool
  /-- The GNM page as the last safety tick mirrored it (R404). -/
  mirror : List (Nat × Word)
  /-- Consecutive ticks of disagreement, and whether the episode has faulted (R388). -/
  disc : Nat
  discFault : Bool
  /-- When the lock-out latched. -/
  lockAt : Nat
  /-- The output enables return at this time (R387). -/
  settle : Option Nat
  /-- High ticks of SRST_REQ so far, when the pulse began, and a pulse that has ended: length, begin (R391). -/
  high : Nat
  highAt : Nat
  edge : Option (Nat × Nat)
  active : Option (List Byte)
  loaded : Option (List Byte)
  loadT : Nat
  /-- Last values of mailbox word 7 of each torque monitor, oldest first, at most ten (R395). -/
  tqSeq : List (List Nat)
  reqs : List GnReq
  /-- Events whose lock-out is latched (R389 bit 4). -/
  evLock : List GnEvent
  /-- Conditions of the lock-out causes: a core fault, a corrupted configuration, GDEN readback, an attached debugger,
  and since when the supply is inside its window and heartbeats arrive. -/
  coreBad : Bool
  crcBad : Bool
  gdenBad : Bool
  dbg : Bool
  supplyOk : Option Nat
  beatOk : Option Nat
  /-- The safe channel (R398, R400): queues of both paths, a pair has been accepted, its TIMESTAMP, its RESET, pairs
  accepted since the last fault, start of the watchdog; SEQ, time, FLAGS and bytes of the last status PDU. -/
  qA : List SafeCopy
  qB : List SafeCopy
  hasLast : Bool
  lastTs : Nat
  lastReset : Bool
  pairs : Nat
  wd : Nat
  txSeq : Nat
  txT : Nat
  txFlags : Nat
  pdu : List Byte
  /-- The last class 0xB code. -/
  lastCode : Nat
  /-- The request that waits for the next sub-tick: CMD, CTX and ARG (R394, R405). -/
  req : Option (Nat × Nat × Nat)
  /-- 1 + TCLK of the last change of a filtered channel, and whether the channels differed before it (R402). -/
  chT : Nat
  chWas : Bool
  /-- 1 + TCLK of the newest request, 0 none (R435). -/
  reqT : Nat
  /-- What GDEN_A and GDEN_B are commanded to (R380). -/
  gdenCmd : Bool
  /-- The last reset that took effect (R402). -/
  undo : Option ResetUndo
  deriving DecidableEq, Repr

/-- Capture recorder (R525 to R529). -/
structure CapH where
  armT : Nat
  trigT : Nat
  /-- Records written since ARM, and the number of the trigger record once it is written. -/
  count : Nat
  trigRec : Option Nat
  /-- DONE was reached and the buffer is to be rotated. -/
  toUnroll : Bool
  /-- The record time of the newest record (R525). -/
  last : Option Nat
  deriving DecidableEq, Repr

def CapH.initial : CapH := ⟨0, 0, 0, none, false, none⟩

/-- A SAR conversion in flight (R203): converter, first TCLK, kind (0 injected, 1 housekeeping, 2 sequence), what it
converts (INJ entry, housekeeping channel or serial number of the slot's run), pin, trigger TCLK, DIST, and the reference
trim in force at the start (R345). -/
structure ConvRun where
  conv : Nat
  start : Nat
  kind : Nat
  idx : Nat
  pin : Nat
  tR : Nat
  dist : Bool
  trim : Nat
  deriving DecidableEq, Repr

/-- One pass over a sequence slot (R207, R208), with the slot word it started with. -/
structure SlotRun where
  serial : Nat
  slot : Nat
  cfg : Nat
  started : Nat
  done : Nat
  sum : Nat
  ovr : Bool
  under : Bool
  dist : Bool
  deriving DecidableEq, Repr

/-- SAR group (R202 to R219): triggers on their way (entry, TCLK they reach the group), requests that wait, conversions
in flight, the TCLK from which each converter is free, the sequence, waiting housekeeping channels, calibration. -/
structure AdcH where
  arr : List (Nat × Nat)
  pend : List (Nat × Nat)
  runs : List ConvRun
  free : List Nat
  slots : List SlotRun
  nextSlot : Nat
  serial : Nat
  hkq : List Nat
  /-- Host calibrations that wait: mask and TCLK of the GO. Calibrations that run: mask, end, asked for by the host. -/
  calReq : List (Nat × Nat)
  calRun : List (Nat × Nat × Bool)
  /-- 1 + the TCLK in which each pin's clamp detector last became inactive; 0 never. -/
  detEnd : List Nat
  deriving DecidableEq, Repr

/-- ΣΔ input (R220 to R226). -/
structure SdiH where
  enT : Nat
  /-- Samples as received since the enable, newest first, as far back as a filter looks, and how many in all. -/
  samples : List (BitVec 4)
  count : Nat
  /-- Consecutive identical samples up to the newest. -/
  same : Nat
  /-- 1 + TCLK of the clock edge of the newest sample, of the edge that ended a clock loss, and of the newest word's
  boundary; 0 none. -/
  edge : Nat
  back : Nat
  wordEdge : Nat
  badRun : Nat
  deriving DecidableEq, Repr

/-- A stage record of a declaration set (R52), with its resource codes. -/
structure StageDecl where
  stage : Nat
  sensing : Nat
  timing : Nat
  fallback : Nat
  threeLevel : Bool
  nInst : Nat
  legMask : Nat
  periodMin : Nat
  fMax : Nat
  ephEntries : Nat
  lockRatio : Nat
  res : List Nat
  deriving DecidableEq, Repr

/-- A loop record (R52), with its input and output codes; `cyc`, `lin` and `resp` are C, L_in in TCLK and E_i as
admission computed them (R64, R72, R73), `rank` the rank on its stream. -/
structure LoopDecl where
  id : Nat
  ctx : Nat
  cls : Nat
  stream : Nat
  cluster : Nat
  fmt : Nat
  trigger : Nat
  trigStage : Nat
  trigEvent : Nat
  prescale : Nat
  monitors : Nat
  period : Nat
  deadline : Nat
  angleStep : Nat
  progAddr : Nat
  progLen : Nat
  gainPoints : Nat
  ins : List Nat
  outs : List Nat
  cyc : Nat
  lin : Nat
  resp : Nat
  rank : Nat
  /-- D_c, the deadline in ACLK cycles (R66), and T_c. -/
  dc : Nat
  tc : Nat
  /-- E_i under migration (R77, R84); 0 when the loop takes no part in one. -/
  emig : Nat
  deriving DecidableEq, Repr

/-- A table record (R52), with its placed addresses (R59, R512). -/
structure TableDecl where
  id : Nat
  kind : Nat
  access : Nat
  size : Nat
  slice : Nat
  rate : Nat
  reader : Nat
  home : Nat
  sram : Nat
  deriving DecidableEq, Repr

/-- One assigned conversion (R62, R209): stage and instant, or resolver with KIND 1 or 2. -/
structure Inst where
  src : Nat
  inst : Nat
  kind : Nat
  pin : Nat
  conv : Nat
  q : Nat
  /-- 3 for a SAMPLE entry, 1 for a stage event (R211). -/
  lead : Nat
  deriving DecidableEq, Repr

/-- The admitted declaration set (R80). -/
structure Admitted where
  setupId : Nat
  floorOp : Nat
  runOp : Nat
  sliceEn : Bool
  slicePeriod : Nat
  stages : List StageDecl
  loops : List LoopDecl
  tables : List TableDecl
  /-- Contexts in the order of placement (R69). -/
  order : List Nat
  /-- h(c) of each cluster as a stream code, 0xFF for none (R76). -/
  hosts : List Nat
  /-- The conversions as group 5 assigned them (R62, R91). -/
  insts : List Inst
  deriving DecidableEq, Repr

/-- The result of an accepted check: the set as placed, and the stream of each context. -/
structure Plan where
  set : Admitted
  streams : List (Nat × Nat)
  deriving DecidableEq, Repr

/-- The Almanac's command timeline (R80 to R83): the command that runs, the STATE before it, where the set stands, its
copy in the Almanac's private memory, the set that passed its checks and waits for the running jobs, and that a datapath
was retired meanwhile (R87). -/
structure AdmH where
  cmd : Nat
  prev : Nat
  addr : Nat
  len : Nat
  copy : List Byte
  next : Option Plan
  reduced : Bool
  deriving DecidableEq, Repr

/-- The energy ledger (R315 to R329): number of the last tick, U of that tick in mV, rising ticks, the resistor models in
units of 2^-20 mJ, the last mailbox sequence of each machine and the ticks since it advanced, the start of a discharge,
and whether its DIS_LATE was raised. -/
structure NrgH where
  tick : Nat
  uPrev : Int
  rising : Nat
  eBr : Nat
  eDis : Nat
  seq : List Nat
  age : List Nat
  disStart : Nat
  disLate : Bool
  /-- 1 + number of the tick of the last entry to state 2 (R326, R331), and 1 + TCLK of the last write of word 247 by the
  ledger (R331); 0 never. -/
  escTick : Nat
  regenT : Nat
  /-- The shadows that the ledger wrote for the discharge: address, word (R326). -/
  wrote : List (Nat × Nat)
  /-- The STO condition of ON_STO held at the last tick (R326). -/
  stoWas : Bool
  deriving DecidableEq, Repr

/-- The thermal service (R334 to R345). Temperatures are in units of 2^-32 K. -/
structure ThmH where
  /-- The module models run (R81 step 4). -/
  mods : Bool
  /-- Numbers of the last model update, of the last LIMIT_RAMP and of the last round start. -/
  upd : Nat
  ramp : Nat
  round : Nat
  /-- Die nodes M_j, BASE_j, and M_j at the sampling of diode j. -/
  die : List Int
  base : List Int
  dieAt : List Int
  /-- Foster stages of the 16 modules, 4 each, and g of each module (Q0.16). -/
  foster : List Int
  g : List Nat
  /-- The round under way: results by channel number of the table of R334, and how many are still missing. -/
  res : List (Nat × Nat)
  missing : Option Nat
  /-- TCLK of the start of the round under way. -/
  startT : Nat
  /-- Internal reference trim of each group (R345), and 1 + TCLK of the last write of word 246 by the service (R346); 0
  never. -/
  refTrim : List Nat
  limT : Nat
  /-- Mean die temperature at the last tap calibration, in 1/16 °C. -/
  calMean : Option Int
  /-- Highest diode value of BS1, in 1/16 °C (R338). -/
  bootDie : Int
  /-- Models at LEVEL 3: bit 0 the die, bit 1 + k module k. -/
  shut : Nat
  /-- The models supervise: false from a wake until its round completes (R430). -/
  live : Bool
  deriving DecidableEq, Repr

/-- Clocks (R406 to R423). Times in units of 2.5 ns of real time (`Dev.wall`). -/
structure ClkH where
  /-- Consecutive passing windows of M0 to M2, saturating. -/
  pass : List Nat
  /-- The reference oscillator runs, since when; when it restarts. -/
  xoOn : Bool
  xoStart : Nat
  restartAt : Option Nat
  /-- Start of a holdover. -/
  holdover : Option Nat
  holdStart : Nat
  holdCause : Nat
  /-- TCLK at which a tap calibration ends (R423). -/
  calEnd : Option Nat
  /-- Legs at rank 2 after a hold, until the first zero event of their stage (R415). -/
  legHold : Nat
  /-- A step of R488 in a hold: the manager time in TCLK, and `Dev.wall` when it held. -/
  stepTo : Option (Nat × Nat)
  /-- The upper word latched by a read of TIME_LO (R418). -/
  timeHi : Nat
  /-- `Dev.wall` of a switch by RETURN and of one by IRC_FAIL, for their coincidence (R435). -/
  retT : Option Nat
  ircT : Option Nat
  deriving DecidableEq, Repr

/-- Operating points and power modes (R424 to R434): the step of a change (0 none, 1 waiting for VDD, 2 locking,
3 settling), its goal, and TCLK of the start of the last change, of VSEL's change and of the lock. -/
structure PwrH where
  vsel : Nat
  step : Nat
  goal : Nat
  lastOp : Option Nat
  vStart : Nat
  lockT : Nat
  /-- Expiry of WAKE_TIMER; a wake waits for the reference oscillator (R429). -/
  wakeAt : Option Nat
  waking : Bool
  /-- PERST# is asserted. -/
  perst : Bool
  /-- An accepted mode request, which takes effect in the next TCLK (R428); `Dev.wall` of the last wake event and of the
  last monitor attribution, for their coincidence with it (R435); and when the cores last left the gated state (R430). -/
  enter : Option Nat
  wakeT : Option Nat
  attrT : Option Nat
  runT : Option Nat
  deriving DecidableEq, Repr

/-- A burn of OTP under way (R469): the transition, and for PROVISION the board word and the key hashes. -/
structure Burn where
  target : Nat
  board : Nat
  ecdsa : List Byte
  lms : List Byte
  deriving DecidableEq, Repr

/-- Start-up, OTP and the retained journal (R452 to R472). The words of the retention file themselves are the journal
registers of the BOOT page, which a device reset keeps (R459). -/
structure BootH where
  /-- A boot pass is to run. -/
  due : Bool
  /-- Link-up is still awaited at BS8 (R453). -/
  waitLink : Bool
  /-- OTP: transition bits 1 to 4 (R467), board word, customer key hashes and their revocation, FW_SVN, the counter k of
  HSS blocks (R471). -/
  trans : Nat
  board : Nat
  ecdsa : List Byte
  lms : List Byte
  customer : Bool
  revoked : Bool
  fwSvn : Nat
  lmsK : Nat
  /-- Next q in the valid flash copy (R471); the attestation keys exist (R469). -/
  lmsQ : Option Nat
  attKeys : Bool
  /-- The check of the retention file holds, RETRY bits that wait for a pass, and the flash mirror of the journal. -/
  retOk : Bool
  retry : Nat
  mirror : Option (List (Nat × Word))
  burn : Option Burn
  /-- The first pass in ANALYSIS is to clear the memories (R469). -/
  clear : Bool
  /-- DIGEST of the running image, hash of the verified configuration image's header, and KIND of the SEC command. -/
  fwDigest : List Byte
  cfgHash : List Byte
  secCmd : Nat
  /-- The pass is the first since the device reset: its first aligned edge starts the time counter (R418). -/
  first : Bool
  deriving DecidableEq, Repr

/-- One terminal-voltage triple (R303): the TCLK of its U sample, and 3 u_α and √3 u_β in units of 2^-20 µV. -/
structure Triple where
  t : Nat
  ua : Int
  ub : Int
  deriving DecidableEq, Repr

/-- A drive of the field-control service (R298 to R311). -/
structure FldH where
  /-- Start of MEASURE, the triples requested, the conversions of the triple in progress (TCLK of the start, code), the
  triples so far, and the last raw samples of V and W with their TCLK. -/
  t0 : Nat
  asked : Nat
  cur : List (Nat × Nat)
  triples : List Triple
  lastV : Option (Nat × Nat)
  lastW : Option (Nat × Nat)
  /-- The PERIOD to restore, and the shadows that the service wrote: address, word (R301). -/
  period : Option Nat
  wrote : List (Nat × Nat)
  /-- Steps of the IPD so far, responses of the vectors, and those of a polarity step (R306, R307). -/
  step : Nat
  resp : List Int
  pol : List Int
  seq : Nat
  /-- The back-EMF monitor: last mailbox sequence, samples, their sum in units of 2^-16 µV·s, number of the last sample;
  TCLK of the last T_MAG write. -/
  mbSeq : Nat
  n : Nat
  sum : Int
  tick : Nat
  magT : Nat
  deriving DecidableEq, Repr

/-- A released job (R251). -/
structure Job where
  loop : Nat
  ctx : Nat
  /-- TCLK of its trigger, or of the request of a background loop (R255, R79). -/
  trigT : Nat
  /-- A background request promoted under R79. -/
  promoted : Bool
  deriving DecidableEq, Repr

/-- One level of a loop stack (R247, R273): first index of the body, the index after it, iterations left. -/
structure LoopFrame where
  first : Nat
  past : Nat
  left : Nat
  deriving DecidableEq, Repr

/-- One datapath of a cluster (R247). -/
structure Dpath where
  v : Vector Half 16
  acc : Vector (BitVec 40) 4
  zf : Bool
  nf : Bool
  vf : Bool
  lf : Bool
  pc : Nat
  stack : List LoopFrame
  /-- The stage exponent E (R268). -/
  e : Int
  deriving DecidableEq, Repr

/-- The job that a stream runs: the job, the coefficient bank it latched (R252), and its scoreboard in cycles since
dispatch (R248, R249): the first cycle in which the next instruction may issue, the cycle from which a register, an
accumulator (16 + n) or the flags (20) can be used, and the cycles in which the entries in use become free. -/
structure JobRun where
  job : Job
  bank : Nat
  cyc : Nat
  ready : List (Nat × Nat)
  infl : List Nat
  deriving DecidableEq, Repr

/-- The recovery of a cluster (R354): datapaths of the protected stream at the fault that are still to pass a test, what
the stream was, whether the pair had a finder, and the datapaths that failed. -/
structure Recovery where
  todo : List Nat
  triad : Bool
  finder : Bool
  failed : List Nat
  deriving DecidableEq, Repr

/-- Hidden state of a cluster (R247 to R256, R349 to R369). -/
structure CluH where
  dp : Vector Dpath 3
  run : Vector (Option JobRun) 3
  /-- Streams that a debugger holds at an instruction boundary (R368). -/
  halt : Vector Bool 3
  /-- Agreement registers and released values, by input code (R366). -/
  agr : List (Nat × List Nat)
  rel : List (Nat × List Nat)
  /-- Whole jobs over which the excluded datapath has agreed, and 1 + TCLK in which it rejoined the vote (R359, R374). -/
  agreed : Nat
  rejoinT : Nat
  /-- An armed mode change has passed its boundary (R364); the WHEN and STAGE of its request. -/
  bound : Bool
  modeWhen : Nat
  modeStage : Nat
  /-- Comparator tests made (R369) and TCLK of the next. -/
  testN : Nat
  testT : Nat
  /-- Datapaths of the protected stream at the fault, to be tested (R354). -/
  recov : Option Recovery
  deriving DecidableEq, Repr

/-- Hidden state of the contexts: TCLK of the last load of the CTX group with the BANK_REQ values that it replaced, by
context from 1 (R285); re-placements that wait for the end of a job: reason, stream, context (R285); TCLK of the last
class S saturation of a context (R285); and the last clear of S_SAT by Gnomon: context, TCLK, the SAT_CNT it cleared. -/
structure CtxH where
  loadT : Nat
  was : List Nat
  moves : List (Nat × Nat × Nat)
  satT : List (Nat × Nat)
  clr : Option (Nat × Nat × Nat)
  deriving DecidableEq, Repr

/-- A promoted table (R515, R516): which of its two SRAM slices is active, the copy that runs with its end, the slice
copied and waiting to become active, the request that waits, and the speed choice with how often it came in a row. -/
structure PromoH where
  slot : Nat
  copy : Option (Nat × Nat)
  ready : Option Nat
  wait : Option Nat
  lastS : Nat
  same : Nat
  /-- A slice has been requested since the table was placed (log entry 31). -/
  asked : Bool
  /-- TCLK from which the next check of a speed-promoted table is made (R515). -/
  checkT : Nat
  deriving DecidableEq, Repr

def PromoH.initial : PromoH := ⟨0, none, none, none, 0, 0, false, 0⟩

/-- The in-operation slice under way or waiting for time 0 (R76, R355). -/
structure SliceH where
  cluster : Nat
  /-- Scheduled start and, once reached, time 0. -/
  sched : Nat
  t0 : Option Nat
  dut : Nat
  /-- The datapath is in BIST; the slice serves a recovery. -/
  bist : Bool
  ended : Bool
  recovery : Bool
  /-- Contexts moved to the host, and the stream they came from (R76). -/
  moved : List Nat
  home : Nat
  deriving DecidableEq, Repr

/-- A Vernier frame that the device sent (R483, R484): port, TYPE with SUB, DST, FLAGS, HOPS, SEQ and payload. SRC is the
device's own ID unless it forwards the frame. -/
structure VFrame where
  port : Nat
  type : Nat
  sub : Nat
  src : Nat
  dst : Nat
  flags : Nat
  hops : Nat
  seq : Nat
  payload : List Byte
  deriving DecidableEq, Repr

/-- A transaction (R495 to R498): its number and boundary, the commits that take part (pages of WHEN = 2 commits at
READY), and what has happened. `applied` and `notApplied` collect the ACK frames until T_ACK. -/
structure TxnH where
  isOpen : Bool
  num : Nat
  angle : Bool
  stage : Nat
  bound : Nat
  parts : Nat
  /-- This device answered READY. -/
  joined : Bool
  armed : List Nat
  /-- TCLK of COMMIT; TCLK of PREPARE at the manager; TCLK of the boundary. -/
  commitT : Option Nat
  voteT : Nat
  boundT : Option Nat
  applied : Nat
  notApplied : Nat
  deriving DecidableEq, Repr

/-- A context placed on another device (R493, R494): its stream before the move, and whether the path was lost. -/
structure AwayCtx where
  ctx : Nat
  target : Nat
  lost : Bool
  deriving DecidableEq, Repr

/-- The Vernier link (R478 to R503). -/
structure VlkH where
  /-- The violation journal, newest first, at most 256 entries of 16 bytes (R500). -/
  jrnl : List (List Byte)
  /-- The frames that the last Vernier command sent (log entry 28). -/
  sent : List VFrame
  /-- Next SEQ to send of each TYPE 1 to 5, and last accepted SEQ by 8 × SRC + TYPE. -/
  seqTx : List Nat
  seqRx : List (Nat × Nat)
  /-- Per port: the last exchanges of R486 in 1/32 ps times two, newest first; t1 in 1/32 TCLK; hops to the manager. -/
  dly : List (List Int)
  t1 : List (Option Nat)
  hops : List (Option Nat)
  /-- `Dev.wall` of the last SYNC received; TCLK of the last SYNC and DELAY_REQ sent; consecutive good SYNC frames. -/
  lastSync : Nat
  syncT : Nat
  dlyT : Nat
  good : Nat
  txn : TxnH
  /-- The move in progress: context and target. -/
  place : Option (Nat × Nat)
  away : List AwayCtx
  /-- Mailbox words of other devices mirrored here, by ((home × 256) + loop) × 8 + word, and images of guests received so
  far, by home ID. -/
  mirror : List (Nat × Nat)
  guest : List (Nat × List Byte)
  deriving DecidableEq, Repr

/-- A frame in a CAN receive FIFO: its words. -/
abbrev CanFrame := List Nat

/-- An Ethernet port (R518 to R520): the transmit descriptor to be sent next, the gPTP offset in ns, the upper word
latched by a read of GPTP_NS_LO, and the last frame handed to the 802.1AS service. -/
structure EthH where
  txNext : Nat
  gptpOfs : Nat
  gptpHi : Nat
  as : List Byte
  deriving DecidableEq, Repr

/-- A flash command that runs (R522): CMD, offset, host-area address, length. -/
structure FlashJob where
  cmd : Nat
  ofs : Nat
  addr : Nat
  len : Nat
  deriving DecidableEq, Repr

end Sys2Proof.Machine
end

