-- ==== Sys2Proof/Machine/RegOps.lean ====
section
/-! DEFINITION. Finding a register in the page map, and the reset value of every register word (R10, R11, R14, R27). -/

namespace Sys2Proof.Machine

/-- The page, instance and offset of a device address inside a listed page (R510). -/
def findPage (a : Nat) : List PageDesc → Option (PageKind × Nat × Nat)
  | [] => none
  | p :: t =>
    if p.base ≤ a ∧ a < p.base + 0x1000 * p.count
    then some (p.kind, (a - p.base) / 0x1000, (a - p.base) % 0x1000)
    else findPage a t

def pageOf (a : Nat) : Option (PageKind × Nat × Nat) := findPage a pageMap

/-- The index of offset `off` in a register description, when it belongs to it. -/
def RegDesc.index (r : RegDesc) (off : Nat) : Option Nat :=
  if off < r.off then none
  else if r.count = 1 then (if off = r.off then some 0 else none)
  else if (off - r.off) % r.stride = 0 ∧ (off - r.off) / r.stride < r.count
    then some ((off - r.off) / r.stride) else none

def findReg (off : Nat) : List RegDesc → Option (RegDesc × Nat)
  | [] => none
  | r :: t => match r.index off with
    | some i => some (r, i)
    | none => findReg off t

/-- Kinds of page that have a commit group of their own (R166, R260). -/
def hasCommit : PageKind → Bool
  | .stg => true | .ctx => true | _ => false

/-- VLK registers from 0x100 exist on VLK0 only (R503); CTX offsets 0x100 to 0x11F read 0 (R288). -/
def absent (k : PageKind) (inst off : Nat) : Bool :=
  (k == .vlk && inst == 1 && decide (0x100 ≤ off)) || (k == .ctx && decide (0x100 ≤ off ∧ off < 0x120))

/-- The register that occupies an offset of a page, with its index in its array. -/
def regAt (k : PageKind) (inst off : Nat) : Option (RegDesc × Nat) :=
  if absent k inst off then none
  else match findReg off commonRegs with
  | some r => some r
  | none => if off = 0x02C ∧ hasCommit k then some (commitReg, 0) else findReg off (blockRegs k)

/-- The primary offset that a word of the duplicate-copy image copies (R26). -/
def imageOf (off : Nat) : List DupDesc → Option Nat
  | [] => none
  | p :: t =>
    if p.image ≤ off ∧ off < p.image + 4 * p.count ∧ (off - p.image) % 4 = 0
    then some (p.off + p.stride * ((off - p.image) / 4))
    else imageOf off t

def RegDesc.resetWord (r : RegDesc) : Nat := (r.fields.map (fun f => f.reset * 2 ^ f.lo)).sum

/-- The reset value of a word of the register file. A word of a duplicate-copy image resets to the value of the field
it copies (R27). -/
def resetWord (a : Nat) : Word :=
  match pageOf a with
  | none => 0
  | some (k, inst, off) =>
    let off := match imageOf off (dupRuns k) with | some p => p | none => off
    match regAt k inst off with
    | some (r, _) => BitVec.ofNat 32 r.resetWord
    | none => 0

end Sys2Proof.Machine
end

