-- ==== Sys2Proof/Machine/Dev.lean ====
section
/-! DEFINITION. The device: its register file, the active values of its RWS fields, its clock, and the hidden state of
its units. -/

namespace Sys2Proof.Machine

/-- Everything the device holds besides its memories and the queue of waiting commands. -/
structure Dev where
  /-- The register file: every register word that differs from its reset value, by address (R10). -/
  regs : List (Nat × Word)
  /-- The active values of RWS registers, by the address of their shadow (R14, R24). -/
  act : List (Nat × Word)
  /-- RWS words written in the running TCLK: address, shadow before that write, and the TCLK (R24). -/
  newShadow : List (Nat × Word × Nat)
  /-- The time counter in TCLK (R418). -/
  time : Nat
  /-- Elapsed real time in units of 2.5 ns, which runs on while TCLK stands (R414, R418). -/
  wall : Nat
  /-- The model's own counter of free values used; no rule of the spec names it (log entry 6). -/
  freeCtr : Nat
  /-- The model's own record of the answer to the last host read: words, and whether it was poisoned (log entry 7). -/
  reply : List Word
  poison : Bool
  adm : Option Admitted
  almanac : AdmH
  pos : Vector PosH 8
  rsv : Vector RsvH 4
  ssi : Vector SsiH 4
  emu : Vector EmuH 4
  est : Vector EstH 16
  stg : Vector StgH 16
  leg : Vector LegH 64
  trip : TripH
  cmp : Vector CmpH 4
  cap : CapH
  adc : Vector AdcH 4
  sdi : Vector SdiH 24
  /-- Legs whose output enables Gnomon holds inactive: bit n for leg n (R39, R40 rank 1). -/
  legDis : Nat
  /-- Causes of the REDUNDANCY source that hold: the address of the page or cluster, and the stages (R351, R371). -/
  red : List (Nat × Nat)
  /-- Faults and events signalled to Gnomon and not yet taken: kind, context, cluster, page type, instance (R393). -/
  gnq : List GnEvent
  /-- Loop triggers that wait for their job's release: loop, TCLK of the trigger (R251). -/
  trigs : List (Nat × Nat)
  /-- Next trigger of each timer and background loop of a running context, in half nanoseconds (R71). -/
  timers : List (Nat × Nat)
  /-- Last trigger of each loop, as 1 + TCLK; 0 none (R139, R165). -/
  lastTrig : List (Nat × Nat)
  /-- Entries of the Ephemeris window as 32-bit words, word 2i and 2i + 1 of entry i (R129). -/
  eph : List (Nat × Word)
  /-- Open pairing windows: address of the image word, TCLK at which the window closes (R371). -/
  dupWin : List (Nat × Nat)
  /-- Words whose latent difference a write has cleared: address of the image word, TCLK of the write (R374). -/
  latWas : List (Nat × Nat)
  /-- The WHEN that the pending commit of the CTX group carried (R25), and the TCLK of its REQ. -/
  ctxWhen : Nat
  ctxReqT : Nat
  clu : Vector CluH 4
  ctx : CtxH
  /-- Released jobs that wait for dispatch, oldest first (R250). -/
  ready : List Job
  /-- Published mailbox words and staging copies, by 8 × LOOP_ID + word (R254). -/
  mbox : List (Nat × Nat)
  stage : List (Nat × Nat)
  slice : Option SliceH
  /-- TCLK at which a host run of the self-test started (R447). -/
  runT : Nat
  promo : Vector PromoH 32
  /-- Pending ramp initialisations (R283): context, TCLK from which a dispatch applies it. -/
  rampPend : List (Nat × Nat)
  nrg : NrgH
  thm : ThmH
  fld : Vector FldH 16
  gnm : GnmH
  clk : ClkH
  pwr : PwrH
  boot : BootH
  vlk : VlkH
  /-- The receive FIFOs of the CAN controllers, oldest frame first (R521). -/
  can : Vector (List CanFrame) 4
  eth : Vector EthH 2
  fl : Option FlashJob
  /-- The MSI-X table as 32-bit words, and the pending-bit array (R506, R524). -/
  msix : List (Nat × Word)
  pba : Nat
  /-- Next scheduled start of an in-operation slice of each cluster, TCLK (R78). -/
  sliceDue : List (Nat × Nat)
  deriving DecidableEq, Repr

/-- Default of an Ephemeris word (log entry 2). -/
def ephDefault (_ : Nat) : Word := 0

/-- Default of an MSI-X table word: the Vector Control word of an entry resets with the entry masked (PRESUMED from the
PCI Express Base Specification, log entry 33). -/
def msixDefault (i : Nat) : Word := if i % 4 = 3 then 1 else 0

/-- The device with its memories: SRAM and DRAM in one map by device address (R9), the boot flash (R522), and the words
that hold an uncorrectable ECC error (R517). -/
structure Soc where
  mem : List Host.Cell
  flash : List Host.Cell
  ue : List Nat
  dev : Dev
  deriving DecidableEq, Repr

end Sys2Proof.Machine
end

