-- ==== Sys2Proof/Machine/Datapath.lean ====
section
/-! DEFINITION. The loop-engine datapath: the instruction word (R263, R264), the arithmetic of R265 to R269, and what
each register operation does (R270, R273 to R283). Memory and outputs stand in `Isa`. -/

namespace Sys2Proof.Machine

/-! ### The instruction word -/

def opOf (w : Nat) : Nat := w / 2 ^ 58 % 64
def accOf (w : Nat) : Nat := w / 2 ^ 56 % 4
def dstOf (w : Nat) : Nat := w / 2 ^ 52 % 16
def saOf (w : Nat) : Nat := w / 2 ^ 48 % 16
def sbOf (w : Nat) : Nat := w / 2 ^ 44 % 16
def scOf (w : Nat) : Nat := w / 2 ^ 40 % 16
def spaceOf (w : Nat) : Nat := w / 2 ^ 36 % 16
def shOf (w : Nat) : Nat := w / 2 ^ 32 % 16
def immOf (w : Nat) : Nat := w % 2 ^ 32

/-- What an operation uses of the word: ACC, DST, SA, SB, SC, SPACE, SH, and the bits of IMM. -/
structure Uses where
  acc : Bool
  dst : Bool
  sa : Bool
  sb : Bool
  sc : Bool
  space : Bool
  sh : Bool
  imm : Nat

/-- Fields used by each operation of R270, with the cycles of its row; none for a reserved OP. -/
def opUses (w : Nat) : Option Uses :=
  let imm := immOf w
  let idx := bitOf imm 13
  match opOf w with
  | 0x00 => some ⟨false, false, false, false, false, false, false, 0⟩
  | 0x01 => some ⟨false, true, false, false, false, false, false, 0xFFFF⟩
  | 0x02 => some ⟨false, true, true, false, false, false, false, 0⟩
  | 0x03 | 0x04 => some ⟨false, true, true, true, false, false, false, 1⟩
  | 0x05 | 0x06 => some ⟨false, true, true, false, false, false, false, 1⟩
  | 0x07 | 0x08 => some ⟨false, true, true, true, false, false, false, 0⟩
  | 0x09 => some ⟨false, true, true, true, false, false, true, 0⟩
  | 0x0A | 0x0B => some ⟨true, false, true, true, false, false, false, 2⟩
  | 0x0C => some ⟨true, false, bitOf imm 0, false, false, false, false, 1⟩
  | 0x0D => some ⟨true, true, false, false, false, false, true, 0⟩
  | 0x0E => some ⟨true, false, false, false, false, false, false, 0x3F⟩
  | 0x10 => some ⟨false, true, false, idx, false, true, false, if spaceOf w = 4 then 0xFF003FFF else 0x3FFF⟩
  | 0x11 => some ⟨false, false, true, idx, false, true, false, 0x3FFF⟩
  | 0x12 | 0x13 => some ⟨true, false, false, idx, false, true, false, 0x2FFF⟩
  | 0x18 =>
    let b := scOf w == 9 || scOf w == 10
    some ⟨false, false, b, false, true, false, false, if b then 0x1FFFFF else 0xFFFF⟩
  | 0x19 => some ⟨false, false, false, false, false, false, false, 0xFFFFFFFF⟩
  | 0x1A | 0x1B => some ⟨false, false, false, false, false, false, false, 0⟩
  | 0x20 => some ⟨false, true, true, true, true, false, false, 7⟩
  | 0x21 => some ⟨false, true, true, false, false, false, false, 0x7FFF⟩
  | 0x22 => some ⟨false, true, true, true, false, false, false, 3⟩
  | 0x23 => some ⟨true, false, true, true, false, false, false, 7⟩
  | 0x28 => some ⟨false, true, true, true, bitOf imm 0, false, false, 1⟩
  | 0x29 | 0x2A => some ⟨false, true, true, true, true, false, false, 0⟩
  | 0x2B => some ⟨false, true, true, false, false, false, false, 0⟩
  | 0x2C => some ⟨false, true, true, true, true, false, true, 0⟩
  | 0x2D => some ⟨false, true, true, true, false, true, false, 0xFF00FFFF⟩
  | 0x30 => some ⟨false, true, true, false, false, false, false, 0⟩
  | 0x31 => some ⟨false, true, true, false, false, true, false, 0xFF000000⟩
  | 0x32 => some ⟨false, true, true, true, false, true, false, 0xFF000000⟩
  | 0x38 => some ⟨false, false, true, idx, false, true, false, 0x3FFF⟩
  | 0x39 => some ⟨false, false, false, false, false, false, false, 0xF03⟩
  | _ => none

/-- R264: a reserved OP or SPACE, a non-zero reserved field, or a field value outside its operation's range. -/
def insnReserved (w : Nat) : Bool :=
  match opUses w with
  | none => true
  | some u =>
    (!u.acc && accOf w != 0) || (!u.dst && dstOf w != 0) || (!u.sa && saOf w != 0) || (!u.sb && sbOf w != 0)
    || (!u.sc && scOf w != 0) || (!u.space && spaceOf w != 0) || (!u.sh && shOf w != 0)
    || immOf w != (immOf w &&& u.imm) || decide (4 < spaceOf w)
    || (opOf w == 0x18 && decide (10 < scOf w))
    || (opOf w == 0x19 && (immOf w / 2 ^ 16 == 0 || decide (1024 < immOf w / 2 ^ 16)))
    || (opOf w == 0x39 && decide (1 < immOf w % 4))

/-- Cycle counts of the operation table (R270); a reserved instruction counts 1 (R264). -/
def insnCycles (w : Nat) : Nat :=
  if insnReserved w then 1
  else match opOf w with
  | 0x09 | 0x0A | 0x0B | 0x13 | 0x38 | 0x39 => 3
  | 0x0D | 0x11 | 0x18 | 0x19 | 0x20 | 0x21 => 2
  | 0x10 => 4
  | 0x12 => 5
  | 0x22 | 0x28 => 6
  | 0x23 => if bitOf (immOf w) 2 then 10 else 6
  | 0x29 | 0x2A => 10
  | 0x2B => 20
  | 0x2C | 0x31 => 16
  | 0x2D | 0x30 => 12
  | 0x32 => 28
  | _ => 1

/-! ### Operands on the scoreboard (R248, R249)

Resources are numbered: V0 to V15, 16 + n for ACCn, 20 for the flags. -/

/-- What an instruction reads: it issues when all of these can be used. -/
def insnReads (w : Nat) : List Nat :=
  match opUses w with
  | none => []
  | some u =>
    let o := opOf w
    let c := if u.sc && o != 0x18 then [scOf w] ++ (if o == 0x29 || o == 0x2A then [(scOf w + 1) % 16] else []) else []
    (if u.sa then [saOf w] else []) ++ (if u.sb then [sbOf w] else []) ++ c
    ++ (if u.acc && [0x0A, 0x0B, 0x0D, 0x0E, 0x13, 0x23].contains o then [16 + accOf w] else [])
    ++ (if o == 0x18 then [20] else []) ++ (if o == 0x1A then List.range 20 else [])

/-- What an instruction writes. -/
def insnWrites (w : Nat) : List Nat :=
  match opUses w with
  | none => []
  | some u =>
    let o := opOf w
    let n := if o == 0x2C then 3 else if [0x28, 0x29, 0x2A, 0x2B, 0x2D].contains o then 2 else 1
    (if u.dst then (List.range n).map (fun i => (dstOf w + i) % 16) else [])
    ++ (if u.acc && [0x0A, 0x0B, 0x0C, 0x0E, 0x12, 0x23].contains o then [16 + accOf w] else [])
    ++ (if [0x00, 0x11, 0x13, 0x18, 0x19, 0x1B, 0x38, 0x39].contains o then [] else [20])

/-! ### Registers -/

def reg16 (i : Nat) : Fin 16 := Fin.ofNat 16 i

/-- A data register as a signed number (R265). -/
def Dpath.r (p : Dpath) (i : Nat) : Int := (p.v[reg16 i]).toInt

/-- A data register as an unsigned number. -/
def Dpath.ru (p : Dpath) (i : Nat) : Nat := (p.v[reg16 i]).toNat

def Dpath.setR (p : Dpath) (i : Nat) (x : Int) : Dpath := { p with v := p.v.set (reg16 i) (BitVec.ofInt 16 x) }

/-- An accumulator as a signed number in units of 2^-30 (R266). -/
def Dpath.a (p : Dpath) (i : Nat) : Int := (p.acc[Fin.ofNat 4 i]).toInt

def Dpath.setA (p : Dpath) (i : Nat) (x : Int) : Dpath := { p with acc := p.acc.set (Fin.ofNat 4 i) (BitVec.ofInt 40 x) }

/-- Z and N from a result (R270). -/
def Dpath.zn (p : Dpath) (x : Int) : Dpath := { p with zf := x == 0, nf := decide (x < 0) }

/-- A datapath right after dispatch (R252). -/
def Dpath.cleared : Dpath :=
  { v := Vector.replicate 16 0, acc := Vector.replicate 4 0, zf := false, nf := false, vf := false, lf := false
    pc := 0, stack := [], e := 0 }

/-- What an operation on the registers did: the registers after it, a saturation under R267, V set, and a limit of
INTEG. -/
structure Eff where
  dp : Dpath
  sat : Bool
  ovf : Bool
  clamp : Bool

def Eff.plain (p : Dpath) : Eff := ⟨p, false, false, false⟩

/-- Narrowing to 16 bits (R265): the value kept, whether it was changed. -/
def narrow16 (wrap : Bool) (x : Int) : Int := if wrap then signed 16 (unsig 16 x) else satInt 16 x

/-- Write a narrowed result with its flags: V when the value was limited or wrapped. -/
def Dpath.put16 (p : Dpath) (d : Nat) (wrap : Bool) (x : Int) : Eff :=
  let y := narrow16 wrap x
  let v := decide (y ≠ x)
  ⟨{ ((p.setR d y).zn y) with vf := v }, v && !wrap, v, false⟩

/-- The WRAP modifier: class A only (R265, R267). -/
def wrapOf (clsS : Bool) (w : Nat) : Bool := !clsS && bitOf (immOf w) 0

/-- Write an accumulator result (R266): it saturates with ASAT and in class S, and wraps otherwise. -/
def Dpath.put40 (p : Dpath) (a : Nat) (sat : Bool) (x : Int) : Eff :=
  let y := if sat then satInt 40 x else signed 40 (unsig 40 x)
  let v := decide (y ≠ x)
  ⟨{ ((p.setA a y).zn y) with vf := v }, v && sat, v, false⟩

/-! ### Arithmetic of R270 -/

def opNop (_ : Bool) (_ : Nat) (p : Dpath) : Eff := .plain p

def opLdi (_ : Bool) (w : Nat) (p : Dpath) : Eff :=
  let x := signed 16 (immOf w)
  .plain ((p.setR (dstOf w) x).zn x)

def opMov (_ : Bool) (w : Nat) (p : Dpath) : Eff :=
  let x := p.r (saOf w)
  .plain ((p.setR (dstOf w) x).zn x)

def opAdd (s : Bool) (w : Nat) (p : Dpath) : Eff := p.put16 (dstOf w) (wrapOf s w) (p.r (saOf w) + p.r (sbOf w))
def opSub (s : Bool) (w : Nat) (p : Dpath) : Eff := p.put16 (dstOf w) (wrapOf s w) (p.r (saOf w) - p.r (sbOf w))
def opNeg (s : Bool) (w : Nat) (p : Dpath) : Eff := p.put16 (dstOf w) (wrapOf s w) (-p.r (saOf w))
def opAbs (s : Bool) (w : Nat) (p : Dpath) : Eff := p.put16 (dstOf w) (wrapOf s w) (((p.r (saOf w)).natAbs : Nat) : Int)

def opMin (_ : Bool) (w : Nat) (p : Dpath) : Eff :=
  let x := min (p.r (saOf w)) (p.r (sbOf w))
  .plain ((p.setR (dstOf w) x).zn x)

def opMax (_ : Bool) (w : Nat) (p : Dpath) : Eff :=
  let x := max (p.r (saOf w)) (p.r (sbOf w))
  .plain ((p.setR (dstOf w) x).zn x)

def opMul (_ : Bool) (w : Nat) (p : Dpath) : Eff :=
  p.put16 (dstOf w) false (roundDiv (p.r (saOf w) * p.r (sbOf w) * ((2 ^ shOf w : Nat) : Int)) 32768)

def opMac (s : Bool) (w : Nat) (p : Dpath) : Eff :=
  p.put40 (accOf w) (s || bitOf (immOf w) 1) (p.a (accOf w) + p.r (saOf w) * p.r (sbOf w))

def opMsu (s : Bool) (w : Nat) (p : Dpath) : Eff :=
  p.put40 (accOf w) (s || bitOf (immOf w) 1) (p.a (accOf w) - p.r (saOf w) * p.r (sbOf w))

def opAclr (_ : Bool) (w : Nat) (p : Dpath) : Eff :=
  let x := if bitOf (immOf w) 0 then p.r (saOf w) * 32768 else 0
  .plain ((p.setA (accOf w) x).zn x)

def opRnd (_ : Bool) (w : Nat) (p : Dpath) : Eff :=
  p.put16 (dstOf w) false (roundDiv (p.a (accOf w) * ((2 ^ shOf w : Nat) : Int)) 32768)

def opAsh (s : Bool) (w : Nat) (p : Dpath) : Eff :=
  let k := signed 5 (immOf w)
  let x := p.a (accOf w)
  let y := if 0 ≤ k then x * ((2 ^ k.toNat : Nat) : Int) else roundDiv x ((2 ^ (-k).toNat : Nat) : Int)
  p.put40 (accOf w) (s || bitOf (immOf w) 5) y

def opSat (_ : Bool) (w : Nat) (p : Dpath) : Eff :=
  let m : Int := ((immOf w % 32768 : Nat) : Int)
  let a := p.r (saOf w)
  let x := min (max a (-m)) m
  let l := decide (x ≠ a)
  ⟨{ ((p.setR (dstOf w) x).zn x) with lf := l }, l, false, false⟩

/-! ### Block floating point (R268, R269) -/

/-- Multiply by 2^k, right shifts rounded half away from zero. -/
def scale2 (x k : Int) : Int :=
  if 0 ≤ k then x * ((2 ^ k.toNat : Nat) : Int) else roundDiv x ((2 ^ (-k).toNat : Nat) : Int)

/-- M of R268. -/
def Dpath.maxMant (p : Dpath) : Nat :=
  max ((List.range 16).foldl (fun m i => max m (p.r i).natAbs) 0)
      ((List.range 4).foldl (fun m i => max m ((p.a i).natAbs / 2 ^ 15)) 0)

/-- The k of R268: the shift that brings M to 0x2000 ≤ M × 2^k < 0x4000. -/
def normShift (m : Nat) : Int :=
  if m = 0 then 0
  else 13 - ((Nat.log2 m : Nat) : Int)

/-- STAGE (R268): renormalises in FORMAT 1; the second value says that the exponent was limited. -/
def opStage (fmt : Bool) (p : Dpath) : Eff × Bool :=
  if !fmt then (.plain p, false)
  else
    let k := normShift p.maxMant
    let e := p.e - k
    let e' := if e < -32 then -32 else if 31 < e then 31 else e
    let sh := p.e - e'
    let rs := (List.range 16).map (fun i => scale2 (p.r i) sh)
    let as := (List.range 4).map (fun i => scale2 (p.a i) sh)
    let lim := decide (e' ≠ e)
    let q := (rs.zip (List.range 16)).foldl (fun (q : Dpath) x => q.setR x.2 (satInt 16 x.1)) p
    let q := (as.zip (List.range 4)).foldl (fun (q : Dpath) x => q.setA x.2 (satInt 40 x.1)) q
    (⟨{ q with e := e', vf := lim }, lim, lim, false⟩, lim)

/-- A mantissa with exponent `ew` brought to the stage exponent (R269). -/
def toStage (m ew e : Int) : Int := satInt 16 (scale2 m (ew - e))

/-- A register of FORMAT 1 as Q1.15 (R269). -/
def fromStage (m e : Int) : Int := satInt 16 (scale2 m e)

/-- The conversion of R269 by the exponent difference `k` was limited by the range of the format (R267). -/
def stageLimited (m k : Int) : Bool := decide (satInt 16 (scale2 m k) ≠ scale2 m k)

/-! ### Macro operations (R274 to R277) -/

/-- A Q1.15 value with 24 fraction bits. -/
def q24 (x : Int) : Int := x * 512

/-- A product rounded half away from zero to 24 fraction bits. -/
def mul24 (a b : Int) : Int := roundDiv (a * b) 16777216

def kInvSqrt3 : Int := 0x0093CD3A
def kHalfSqrt3 : Int := 0x00DDB3D7
def kCordic : Int := 0x009B74EE

/-- Write a pair of results, each narrowed to Q1.15 (R274); V when either saturates. -/
def Dpath.putPair (p : Dpath) (d : Nat) (x y : Int) : Eff :=
  let x1 := roundDiv x 512
  let y1 := roundDiv y 512
  let a := satInt 16 x1
  let b := satInt 16 y1
  let v := decide (a ≠ x1) || decide (b ≠ y1)
  ⟨{ (((p.setR d a).setR (d + 1) b).zn a) with vf := v }, v, v, false⟩

def opClarke (_ : Bool) (w : Nat) (p : Dpath) : Eff :=
  let a := q24 (p.r (saOf w))
  let b := q24 (p.r (sbOf w))
  let c := q24 (p.r (scOf w))
  if bitOf (immOf w) 0 then p.putPair (dstOf w) (roundDiv (2 * a - b - c) 3) (mul24 (b - c) kInvSqrt3)
  else p.putPair (dstOf w) a (mul24 (a + 2 * b) kInvSqrt3)

def opPark (_ : Bool) (w : Nat) (p : Dpath) : Eff :=
  let a := q24 (p.r (saOf w))
  let b := q24 (p.r (sbOf w))
  let co := q24 (p.r (scOf w))
  let si := q24 (p.r (scOf w + 1))
  p.putPair (dstOf w) (mul24 a co + mul24 b si) (mul24 (-a) si + mul24 b co)

def opIpark (_ : Bool) (w : Nat) (p : Dpath) : Eff :=
  let a := q24 (p.r (saOf w))
  let b := q24 (p.r (sbOf w))
  let co := q24 (p.r (scOf w))
  let si := q24 (p.r (scOf w + 1))
  p.putPair (dstOf w) (mul24 a co - mul24 b si) (mul24 a si + mul24 b co)

/-- atan(2^-k) in units of 2^-24 turn, k = 0 to 21, to the nearest unit (R274, R276). -/
def atnTable : List Int :=
  [2097152, 1238021, 654136, 332050, 166669, 83416, 41718, 20860, 10430, 5215, 2608, 1304, 652, 326, 163, 81, 41, 20,
   10, 5, 3, 1]

/-- The CORDIC steps of R276. -/
def cordic : Nat → List Int → Int → Int → Int → Int × Int
  | _, [], x, y, _ => (x, y)
  | k, t :: ts, x, y, z =>
    let dx := x.fdiv ((2 ^ k : Nat) : Int)
    let dy := y.fdiv ((2 ^ k : Nat) : Int)
    if 0 ≤ z then cordic (k + 1) ts (x - dy) (y + dx) (z - t) else cordic (k + 1) ts (x + dy) (y - dx) (z + t)

/-- Cosine and sine of an angle in units of 2^-16 turn, with 24 fraction bits (R276). -/
def sincos24 (a : Nat) : Int × Int :=
  let q := a / 16384 % 4
  let r := cordic 0 atnTable kCordic 0 (((a % 16384) * 256 : Nat) : Int)
  match q with
  | 0 => r
  | 1 => (-r.2, r.1)
  | 2 => (-r.1, -r.2)
  | _ => (r.2, -r.1)

/-- SINCOS changes Z and N only (R270); a result that Q1.15 limits, 1.0, is a saturation (R267). -/
def opSincos (_ : Bool) (w : Nat) (p : Dpath) : Eff :=
  let r := sincos24 (p.ru (saOf w))
  let c := satInt 16 (roundDiv r.1 512)
  let s := satInt 16 (roundDiv r.2 512)
  ⟨((p.setR (dstOf w) c).setR (dstOf w + 1) s).zn c,
    decide (c ≠ roundDiv r.1 512) || decide (s ≠ roundDiv r.2 512), false, false⟩

/-- Clamp a value with 24 fraction bits to the range of Q1.15. -/
def sat24 (x : Int) : Int := if x < -16777216 then -16777216 else if 16776704 < x then 16776704 else x

def opSvm (_ : Bool) (w : Nat) (p : Dpath) : Eff :=
  let c := q24 (p.r (scOf w))
  let k : Int := ((2 ^ shOf w : Nat) : Int)
  let va0 := mul24 (q24 (p.r (saOf w))) c * k
  let vb0 := mul24 (q24 (p.r (sbOf w))) c * k
  let va := sat24 va0
  let vb := sat24 vb0
  let h := roundDiv (-va) 2
  let s := mul24 vb kHalfSqrt3
  let v := h + s
  let u := h - s
  let n := roundDiv (-(max (max va v) u + min (min va v) u)) 2
  let duty := fun (x : Int) => 8388608 + x + n
  let lim := fun (x : Int) => min (max x 0) 16776960
  let ds := [duty va, duty v, duty u]
  let l := ds.any (fun x => decide (lim x ≠ x))
  let sv := decide (va ≠ va0) || decide (vb ≠ vb0)
  let out := ds.map (fun x => signed 16 (unsig 16 (roundDiv (lim x) 256)))
  let d := dstOf w
  let q := ((p.setR d (out.getD 0 0)).setR (d + 1) (out.getD 1 0)).setR (d + 2) (out.getD 2 0)
  ⟨{ (q.zn (out.getD 0 0)) with vf := sv, lf := l }, sv || l, sv, false⟩

/-! ### Look-up (R278 to R280) -/

/-- y0 + round((y1 - y0) × f ÷ 2^s). -/
def lerp (y0 y1 f : Int) (s : Nat) : Int := y0 + roundDiv ((y1 - y0) * f) ((2 ^ s : Nat) : Int)

/-- GTL over the points of the gain table (R278). -/
def gainAt (g : List Int) (a : Int) : Int :=
  let n := g.length
  let u := min a.natAbs 0x7FFF
  let t := u * (n - 1)
  let i := t / 32768
  let j := min (i + 1) (n - 1)
  lerp (g.getD i 0) (g.getD j 0) ((t % 32768 : Nat) : Int) 15

/-- The two points of an N-point gain table that GTL reads (R278). -/
def gainPoints (n : Nat) (a : Int) : List Nat :=
  let i := min a.natAbs 0x7FFF * (n - 1) / 32768
  [i, min (i + 1) (n - 1)]

/-- Index, fraction and edge limit of one axis of a table (R279): `hdr` is its header word, `n` its points. -/
def axis (a : Int) (hdr n : Nat) : Nat × Int × Bool :=
  let s := hdr / 2 ^ 16 % 32
  let t := a - signed 16 hdr
  let r : Nat × Int × Bool :=
    if t < 0 then (0, 0, true)
    else
      let i := t.toNat / 2 ^ s
      (i, ((t.toNat - i * 2 ^ s : Nat) : Int), false)
  if n - 1 ≤ r.1 then (n - 2, ((2 ^ s : Nat) : Int), true) else r

def axisShift (hdr : Nat) : Nat := hdr / 2 ^ 16 % 32

/-- Value word `i` of a table. -/
def tabY (t : List Nat) (i : Nat) : Int := signed 16 (t.getD i 0)

/-- TL1 (R279): none when the header is out of range. -/
def tl1 (t : List Nat) (a : Int) : Option (Int × Bool) :=
  let n := t.getD 0 0 % 65536
  if n < 2 ∨ 4096 < n ∨ t.length < n + 2 then none
  else
    let h := t.getD 1 0
    let x := axis a h n
    some (lerp (tabY t (2 + x.1)) (tabY t (3 + x.1)) x.2.1 (axisShift h), x.2.2)

/-- TL2 (R279): bilinear, first along x on two rows, then along y. -/
def tl2 (t : List Nat) (a b : Int) : Option (Int × Bool) :=
  let nx := t.getD 0 0 % 65536
  let ny := t.getD 0 0 / 65536 % 65536
  if nx < 2 ∨ 4096 < nx ∨ ny < 2 ∨ 4096 < ny ∨ t.length < 3 + nx * ny then none
  else
    let hx := t.getD 1 0
    let hy := t.getD 2 0
    let x := axis a hx nx
    let y := axis b hy ny
    let row := fun (r : Nat) => lerp (tabY t (3 + r * nx + x.1)) (tabY t (4 + r * nx + x.1)) x.2.1 (axisShift hx)
    some (lerp (row y.1) (row (y.1 + 1)) y.2.1 (axisShift hy), x.2.2 || y.2.2)

/-- One row of a pattern table: chart, crossing half, LO, HI. -/
def pselRow (t : List Nat) (r : Nat) : Nat × Nat × Nat × Nat :=
  let w0 := t.getD (1 + 2 * r) 0
  let w1 := t.getD (2 + 2 * r) 0
  (w0 / 65536 % 65536, w0 % 65536, w1 / 65536 % 65536, w1 % 65536)

/-- PSEL (R280): chart, crossing half and L; none when a row lies beyond the table. -/
def psel (t : List Nat) (m chart h : Nat) : Option (Nat × Nat × Bool) :=
  let n := t.getD 0 0 % 65536
  if t.length < 1 + 2 * n then none
  else
    let rows := (List.range n).map (pselRow t)
    let cur := rows.find? (fun r => r.1 == chart)
    let keep := match cur with
      | some r => decide (r.2.2.1 ≤ m + h ∧ m < r.2.2.2 + h)
      | none => false
    if keep then some (chart, match cur with | some r => r.2.1 | none => 0, false)
    else match rows.find? (fun r => decide (r.2.2.1 ≤ m ∧ m < r.2.2.2)) with
      | some r => some (r.1, r.2.1, false)
      | none => some (chart, match cur with | some r => r.2.1 | none => 0, true)

/-! ### Integrator, clamp and ramp (R281 to R283) -/

/-- INTEG: the new accumulator and L, from the limits, KB and the excess of the slot. -/
def integ (acc a b hi lo kb exc : Int) (bc : Bool) : Int × Bool :=
  let x := acc + a * b
  let x := if bc then x - kb * exc else x
  let h := hi * 32768
  let l := lo * 32768
  if h < l then (h, true) else if h < x then (h, true) else if x < l then (l, true) else (x, false)

/-- One RAMP step without initialisation: the new value and L. -/
def rampStep (y a rate : Int) : Int × Bool :=
  let r : Int := (rate.natAbs : Nat)
  let t := a - y
  (y + min (max t (-r)) r, decide (r < t ∨ t < -r))

/-! ### Branches and loops (R273) -/

/-- The condition of a BR. -/
def brCond (p : Dpath) (w : Nat) : Bool :=
  match scOf w with
  | 0 => true
  | 1 => p.zf
  | 2 => !p.zf
  | 3 => p.nf
  | 4 => !p.nf
  | 5 => p.vf
  | 6 => !p.vf
  | 7 => p.lf
  | 8 => !p.lf
  | 9 => bitOf (p.ru (saOf w)) (immOf w / 2 ^ 16 % 32)
  | _ => !bitOf (p.ru (saOf w)) (immOf w / 2 ^ 16 % 32)

/-- Levels that a branch to `t` leaves (R273). -/
def leaveLoops (t : Nat) : List LoopFrame → List LoopFrame
  | [] => []
  | f :: fs => if f.first ≤ t ∧ t < f.past then f :: fs else leaveLoops t fs

/-- At the end of a body the next iteration starts, or the loop ends; the third value counts iterations, each of which
adds a cycle. -/
def closeLoops : List LoopFrame → Nat → Nat × List LoopFrame × Nat
  | [], pc => (pc, [], 0)
  | f :: fs, pc =>
    if pc = f.past then
      if 1 < f.left then (f.first, { f with left := f.left - 1 } :: fs, 1)
      else
        let r := closeLoops fs pc
        (r.1, r.2.1, r.2.2 + 1)
    else (pc, f :: fs, 0)

end Sys2Proof.Machine
end

