-- ==== Sys2Proof/Machine/Library.lean ====
section
/-! DEFINITION. The library programs of the firmware image (R289 to R296, R312, R320). The spec gives what each program
computes, not its words: the instructions below are the model's own (log entry 99). The count of R64 of each is the one in
the table of R289 but for the builds of CURFOC that publish a mailbox. -/

namespace Sys2Proof.Machine

/-! ### Instruction words (R263) -/

/-- The word of an instruction, from its fields in the order of R263. -/
def insn (op acc d a b c space sh imm : Nat) : Nat :=
  op * 2 ^ 58 + acc * 2 ^ 56 + d * 2 ^ 52 + a * 2 ^ 48 + b * 2 ^ 44 + c * 2 ^ 40 + space * 2 ^ 36 + sh * 2 ^ 32 + imm

namespace Lib

def nop : Nat := insn 0x00 0 0 0 0 0 0 0 0
def ldi (d x : Nat) : Nat := insn 0x01 0 d 0 0 0 0 0 x
def mov (d a : Nat) : Nat := insn 0x02 0 d a 0 0 0 0 0
def add (d a b : Nat) : Nat := insn 0x03 0 d a b 0 0 0 0
def addWrap (d a b : Nat) : Nat := insn 0x03 0 d a b 0 0 0 1
def sub (d a b : Nat) : Nat := insn 0x04 0 d a b 0 0 0 0
def subWrap (d a b : Nat) : Nat := insn 0x04 0 d a b 0 0 0 1
def neg (d a : Nat) : Nat := insn 0x05 0 d a 0 0 0 0 0
def abs (d a : Nat) : Nat := insn 0x06 0 d a 0 0 0 0 0
def min_ (d a b : Nat) : Nat := insn 0x07 0 d a b 0 0 0 0
def max_ (d a b : Nat) : Nat := insn 0x08 0 d a b 0 0 0 0
def mul (d a b : Nat) : Nat := insn 0x09 0 d a b 0 0 0 0
def mac (acc a b : Nat) : Nat := insn 0x0A acc 0 a b 0 0 0 0
def msu (acc a b : Nat) : Nat := insn 0x0B acc 0 a b 0 0 0 0
def aclrFrom (acc a : Nat) : Nat := insn 0x0C acc 0 a 0 0 0 0 1
def rnd (d acc : Nat) : Nat := insn 0x0D acc d 0 0 0 0 0 0
def ash (acc k : Nat) : Nat := insn 0x0E acc 0 0 0 0 0 0 k
/-- LD of the lower and of the upper half of a word of space 0 S, 1 C or 2 I. -/
def ld (space d a : Nat) : Nat := insn 0x10 0 d 0 0 0 space 0 a
def ldHalf (space d a : Nat) : Nat := insn 0x10 0 d 0 0 0 space 0 (a + 2 ^ 12)
def st (a r : Nat) : Nat := insn 0x11 0 0 r 0 0 0 0 a
def stHalf (a r : Nat) : Nat := insn 0x11 0 0 r 0 0 0 0 (a + 2 ^ 12)
def lda (acc a : Nat) : Nat := insn 0x12 acc 0 0 0 0 0 0 a
def sta (acc a : Nat) : Nat := insn 0x13 acc 0 0 0 0 0 0 a
def loop (n b : Nat) : Nat := insn 0x19 0 0 0 0 0 0 0 (n * 2 ^ 16 + b)
def end_ : Nat := insn 0x1B 0 0 0 0 0 0 0 0
def clamp (d a b c : Nat) : Nat := insn 0x20 0 d a b c 0 0 0
def clampRec (d a b c k : Nat) : Nat := insn 0x20 0 d a b c 0 0 (4 + k)
def sat (d a m : Nat) : Nat := insn 0x21 0 d a 0 0 0 0 m
def ramp (d a b j : Nat) : Nat := insn 0x22 0 d a b 0 0 0 j
def integ (acc a b k : Nat) : Nat := insn 0x23 acc 0 a b 0 0 0 k
def integBc (acc a b k : Nat) : Nat := insn 0x23 acc 0 a b 0 0 0 (4 + k)
def clarke (d a b : Nat) : Nat := insn 0x28 0 d a b 0 0 0 0
def park (d a b c : Nat) : Nat := insn 0x29 0 d a b c 0 0 0
def ipark (d a b c : Nat) : Nat := insn 0x2A 0 d a b c 0 0 0
def sincos (d a : Nat) : Nat := insn 0x2B 0 d a 0 0 0 0 0
def svm (d a b c : Nat) : Nat := insn 0x2C 0 d a b c 0 0 0
def gtl (d a : Nat) : Nat := insn 0x30 0 d a 0 0 0 0 0
/-- Look-ups in table `t` of the loop. -/
def tl1 (d a t : Nat) : Nat := insn 0x31 0 d a 0 0 4 0 (t * 2 ^ 24)
def tl2 (d a b t : Nat) : Nat := insn 0x32 0 d a b 0 4 0 (t * 2 ^ 24)
/-- OUT to selector `sel` of output `o`, and with CENTRE. -/
def out (o sel a : Nat) : Nat := insn 0x38 0 0 a 0 0 3 0 (o * 2 ^ 8 + sel)
def outCentre (o sel a : Nat) : Nat := insn 0x38 0 0 a 0 0 3 0 (2 ^ 12 + o * 2 ^ 8 + sel)
def outc (o : Nat) : Nat := insn 0x39 0 0 0 0 0 0 0 (o * 2 ^ 8)

/-! A branch goes forward over a block; a condition is its number in R273, with the register and bit of 9 and 10. -/

structure Cond where
  sc : Nat
  a : Nat
  bit : Nat

def always : Cond := ⟨0, 0, 0⟩
def zSet : Cond := ⟨1, 0, 0⟩
def zClear : Cond := ⟨2, 0, 0⟩
def nSet : Cond := ⟨3, 0, 0⟩
def nClear : Cond := ⟨4, 0, 0⟩
def lSet : Cond := ⟨7, 0, 0⟩
def lClear : Cond := ⟨8, 0, 0⟩
def bitSet (a b : Nat) : Cond := ⟨9, a, b⟩
def bitClear (a b : Nat) : Cond := ⟨10, a, b⟩

def br (c : Cond) (n : Nat) : Nat := insn 0x18 0 0 c.a 0 c.sc 0 0 (c.bit * 2 ^ 16 + n)

/-- The block runs unless the condition holds. -/
def unless_ (c : Cond) (body : List Nat) : List Nat := br c body.length :: body

/-- `yes` runs when the condition holds, else `no`. -/
def either (c : Cond) (yes no : List Nat) : List Nat := br c (no.length + 1) :: no ++ br always yes.length :: yes

/-- As `either`, for a `no` that ends the program. -/
def fork (c : Cond) (yes no : List Nat) : List Nat := br c no.length :: no ++ yes

/-- A block that takes `n` cycles and does nothing. -/
def pad (n : Nat) : List Nat :=
  if n < 4 then List.replicate n nop else loop ((n - 2) / 2) 1 :: nop :: List.replicate (n % 2) nop

/-! ### The hand-over block (R291, R294, R296) -/

/-- While word 251 shows KIND CATCH with HOLD above 0: HOLD counts down and `hold` runs; else `run`. Uses V2 and V3. -/
def whileHold (run hold : List Nat) : List Nat :=
  [ldHalf 0 2 251, ldi 3 0x180, sub 3 2 3, sat 3 3 0x7F]
  ++ either lSet run ([ldi 3 1, sub 2 2 3, stHalf 251 2] ++ hold)

/-! ### CURFOC (R290, R291, R294) -/

/-- CURFOC in the build for a loop with a position interface (`pos`) and for one that owns its mailbox (`mb`): the currents
in V8 and V9, the references in V10 and V11, the speed in V15, the voltages in V1 and V2. -/
def curfoc (pos mb : Bool) : List Nat :=
  [ld 2 0 1, ld 2 1 2]
  ++ (if pos then [ldHalf 2 3 18, ld 1 4 3, addWrap 3 3 4] else [ldHalf 2 3 7])
  ++ [sincos 4 3, clarke 6 0 1, park 8 6 7 4, st 0 8, st 1 9]
  ++ whileHold [ld 2 10 10, ld 2 11 11] []
  ++ [sub 10 10 8, sub 11 11 9, gtl 12 10, gtl 13 11, ld 1 14 0,
      ldHalf 2 15 (if pos then 19 else 8), ld 1 0 1, mul 0 15 0,
      lda 0 2, integ 0 10 14 0, sta 0 2, mac 0 12 10, msu 0 0 9, rnd 1 0,
      lda 1 4, integ 1 11 14 1, sta 1 4, mac 1 13 11, mac 1 0 8, rnd 2 1,
      ld 1 3 2, neg 6 3, clamp 1 1 6 3, clamp 2 2 6 3, ipark 6 1 2 4, ld 2 3 12, svm 10 6 7 3,
      outCentre 0 0 10, outCentre 0 8 11, outCentre 0 16 12, outc 0, st 6 1, st 7 2]
  ++ (if mb then
        [ldHalf 2 3 0, ld 2 4 0, out 1 0 8, out 1 1 9, out 1 2 1, out 1 3 2, out 1 4 15, out 1 5 3, out 1 7 4]
      else pad (if pos then 2 else 7))
  ++ [end_]

/-! ### SPDFW and TQFW (R290, R292, R293, R320) -/

/-- A sequence number of 15 bits in a state word, one higher than in the job before; it wraps without an overflow. Uses V2
and V3. -/
def sequence (r a : Nat) : List Nat :=
  [ld 0 r a, ldi 2 0x7FFF, sub 3 r 2] ++ unless_ zClear [ldi r 0xFFFF] ++ [ldi 2 1, add r r 2, st a r]

/-- T* in V8 stays within the regeneration limit of word 247 (R320); the speed is in V3. Uses V9 and V10. -/
def regenBound : List Nat :=
  [ld 0 9 247, mov 10 3] ++ unless_ zSet (either nSet [min_ 8 8 9] [neg 10 9, max_ 8 8 10])

/-- From T* in V8, the speed in V3 and u_dc in V1, the references and the mailbox of R293; V15 is the sequence number. -/
def references : List Nat :=
  [abs 4 8, abs 5 3, tl1 6 5 2, ld 1 7 3, mul 7 7 1, mul 7 7 6, ld 1 9 4, min_ 9 9 7,
   tl1 10 1 2, ld 1 11 5, mul 10 11 10, ldi 12 0x8000, tl2 13 4 9 0]
  ++ unless_ lClear [ldi 12 0xC000] ++ [tl2 14 4 9 1] ++ unless_ lClear [ldi 12 0xC000]
  ++ [mov 8 8] ++ unless_ nClear [neg 14 14]
  ++ [out 0 0 13, out 0 1 14, out 0 2 10, out 0 3 8, out 0 4 9, out 0 5 12, out 0 7 15, end_]

/-- An outer loop: `torque` leaves T* in V8, from the speed in V3. A DC-link word without VALID, or with BAD, publishes
references of 0 and a status of 0; `n` cycles pad that path. -/
def outer (torque : List Nat) (n : Nat) : List Nat :=
  let main := [ldHalf 2 3 8] ++ torque ++ regenBound ++ references
  let bad := pad n ++ [out 0 0 14, out 0 1 14, out 0 5 14, out 0 7 15, end_]
  [ldHalf 2 0 10, ld 2 1 10] ++ sequence 15 16
  ++ [br (bitClear 0 15) (main.length + 1), br (bitSet 0 13) main.length] ++ main ++ bad

/-- T* of SPDFW: the speed PI behind ramp slot 0, within ±T_MAX. -/
def spdTorque : List Nat :=
  [ld 1 4 0, ramp 4 4 3 0, sub 5 4 3, gtl 6 5, ld 1 7 1, lda 0 18, integBc 0 5 7 0, sta 0 18, mac 0 6 5, rnd 8 0,
   ld 1 9 2, neg 10 9, clampRec 8 8 10 9 0]

/-- T* of TQFW: the torque request behind ramp slot 0, which starts at 0. -/
def tqTorque : List Nat := [ld 1 4 0, ramp 8 4 14 0]

def spdfw : List Nat := outer spdTorque 1750
def tqfw : List Nat := outer tqTorque 1350

/-! ### BLOCK6 (R295, R296) -/

/-- Levels of U, V and W in a sector: the register that holds FORCE (1 L, 2 PWM, 3 OFF), and the leg that gets the duty. -/
def sectorRow (s : Nat) : Nat × Nat × Nat × Nat :=
  match s with
  | 0 => (3, 2, 1, 1) | 1 => (1, 2, 3, 1) | 2 => (1, 3, 2, 2)
  | 3 => (3, 1, 2, 2) | 4 => (2, 3, 1, 0) | _ => (2, 1, 3, 0)

def sectorOut (s : Nat) : List Nat :=
  let r := sectorRow s
  [out 0 4 r.1, out 0 12 r.2.1, out 0 20 r.2.2.1, outCentre 0 (8 * r.2.2.2) 5, outc 0, end_]

/-- The sector in V13, 0 to 5, from ANGLE, C:1 and DIR, which is bit 0 of V0 (R295): floor of 6 × (ANGLE − OFS + h) ÷ 2^32,
exactly, with 6 h = 2^30 + 2. -/
def sector : List Nat :=
  [ldHalf 2 7 10, ld 2 8 10] ++ unless_ nClear [ldi 9 1, addWrap 7 7 9]
  ++ [ld 1 9 1, subWrap 7 7 9, ldi 9 8192, ldi 10 8192, ldi 11 2]
  ++ unless_ (bitClear 0 0) [ldi 10 (65536 - 8192), ldi 11 65534]
  ++ [ldi 12 24576, mac 1 7 12, mac 1 10 9, ash 1 4, ldi 12 6, mac 1 8 12, ldi 12 1, mac 1 11 12, sta 1 18, ld 0 13 19]
  ++ unless_ nClear [ldi 12 6, add 13 13 12]

def block6 : List Nat :=
  let run :=
    -- the ramped duty in V5, in Q0.16; the ramp starts from d_0
    [ld 1 4 0, abs 5 4, ld 0 6 252, ldi 7 0x4000, mul 6 6 7] ++ unless_ nClear [add 6 6 7, add 6 6 7]
    ++ [ramp 5 5 6 0, aclrFrom 0 5, ash 0 2, sta 0 18, ldHalf 0 5 18]
    ++ sector
    -- a negative command takes the row of sector (s + 3) mod 6
    ++ [mov 4 4] ++ unless_ nClear ([ldi 12 3, sub 13 13 12] ++ unless_ nClear [ldi 12 6, add 13 13 12])
    ++ [ldi 1 1, ldi 2 0, ldi 3 3]
    ++ fork (bitSet 13 2) (fork (bitSet 13 0) (sectorOut 5) (sectorOut 4))
        (fork (bitSet 13 1) (fork (bitSet 13 0) (sectorOut 3) (sectorOut 2)) (fork (bitSet 13 0) (sectorOut 1) (sectorOut 0)))
  let off := pad 114 ++ [ldi 3 3, out 0 4 3, out 0 12 3, out 0 20 3, outc 0, end_]
  [ldHalf 2 0 12] ++ whileHold [] [br always (1 + 1 + run.length)] ++ br (bitSet 0 2) run.length :: run ++ off

/-! ### TQMON (R312) -/

/-- K_PSI × i_q + K_DL × i_d × i_q, with K_PSI in V10 and K_DL in V11. Uses V12. -/
def torqueOf (d acc id iq : Nat) : List Nat := [mul 12 11 id, mac acc 10 iq, mac acc 12 iq, rnd d acc]

def tqmon : List Nat :=
  [ld 2 0 1, ld 2 1 2, ldHalf 2 3 7, sincos 4 3, clarke 6 0 1, park 8 6 7 4, ld 1 10 0, ld 1 11 1]
  ++ torqueOf 13 0 8 9 ++ [ld 2 0 10, ld 2 1 11] ++ torqueOf 14 1 0 1 ++ [sub 15 13 14] ++ sequence 5 18
  -- V3 counts the jobs for which the last advance of the reference mailbox still counts
  ++ [ld 2 0 17, ld 0 1 16, ldi 2 0x8000, aclrFrom 2 0, mac 2 1 2]
  ++ either zSet ([ld 0 3 17] ++ unless_ zSet [ldi 2 1, sub 3 3 2]) [ldi 3 4, st 16 0]
  ++ [st 17 3]
  ++ [out 0 0 13, out 0 1 14, out 0 2 15, out 0 7 5, ldHalf 2 2 0]
  ++ (let no := pad 437 ++ [ldi 4 0, out 0 5 4, end_]
      let yes := [ldi 4 0x8000, out 0 5 4, end_]
      [br (bitClear 2 15) (1 + 1 + yes.length), mov 3 3, br zSet yes.length] ++ yes ++ no)

end Lib

/-! ### In SRAM -/

/-- Library program `p` (R289); CURFOC in its first build. -/
def libProgram (p : Nat) : List Nat :=
  match p with
  | 0 => Lib.curfoc false false
  | 1 => Lib.spdfw
  | 2 => Lib.tqfw
  | 3 => Lib.block6
  | _ => Lib.tqmon

/-- SRAM address of library program `p`, a value of the boot (R314); and of the builds of CURFOC, the first of which stands
at LIB_ADDR0. -/
def libAddr (p : Nat) : Nat := 0x10700000 + 0x10000 * p

def curfocAddr (pos mb : Bool) : Nat := libAddr 0 + 0x1000 * ((if pos then 1 else 0) + (if mb then 2 else 0))

/-- A loop that names CURFOC runs the build for its inputs and outputs: with a third input it takes that position interface,
and with a second output it publishes its mailbox (R289, R294; log entry 99). -/
def LoopDecl.linked (l : LoopDecl) : LoopDecl :=
  if l.progAddr = libAddr 0 ∧ l.progLen = (libProgram 0).length then
    let pos := decide (3 ≤ l.ins.length)
    let mb := decide (2 ≤ l.outs.length)
    { l with progAddr := curfocAddr pos mb, progLen := (Lib.curfoc pos mb).length }
  else l

/-- An address is that of a build of CURFOC. -/
def isCurfoc (a : Nat) : Bool := [false, true].any (fun p => [false, true].any (fun m => a == curfocAddr p m))

end Sys2Proof.Machine
end

