-- ==== Sys2Proof/Machine/Arith.lean ====
section
/-! DEFINITION. Numbers that the spec gives by real formulas (logarithms, exponentials, roots), evaluated in fixed
point with 40 fraction bits (DESIGN CHOICE, log entry 15: the spec gives the formula and no arithmetic). -/

namespace Sys2Proof.Machine

/-- One in fixed point. -/
def fx : Nat := 2 ^ 40

/-- Terms z^(2k+1) ÷ (2k+1) of the series of atanh. -/
def atanhSum (zz : Nat) : Nat → Nat → Nat → Nat
  | 0, _, _ => 0
  | f + 1, p, k => p / (2 * k + 1) + atanhSum zz f (p * zz / fx) (k + 1)

/-- ln 2 in fixed point. -/
def fxLn2 : Nat := 762123384786

/-- ln of m, for m in [1, 2) in fixed point. -/
def fxLnUnit (m : Nat) : Nat :=
  let z := (m - fx) * fx / (m + fx)
  2 * atanhSum (z * z / fx) 24 z 0

/-- ln(n ÷ d) in fixed point, for positive n and d. -/
def fxLn (n d : Nat) : Int :=
  if n = 0 ∨ d = 0 then 0
  else
    let e : Int := (Nat.log2 n : Int) - (Nat.log2 d : Int)
    -- m = n ÷ d × 2^-e lies in (1/2, 2)
    let m := if 0 ≤ e then n * fx / (d * 2 ^ e.toNat) else n * 2 ^ (-e).toNat * fx / d
    if m < fx then (e - 1) * fxLn2 + fxLnUnit (2 * m) else e * fxLn2 + fxLnUnit m

/-- Σ x^k ÷ k!. -/
def expSum (x : Nat) : Nat → Nat → Nat → Nat
  | 0, _, _ => 0
  | f + 1, p, k => p + expSum x f (p * x / (fx * (k + 1))) (k + 1)

/-- e^(−x) in fixed point, for x ≥ 0 in fixed point. -/
def fxExpNeg (x : Nat) : Nat :=
  let n := x / fxLn2
  -- e^-x = 2^-(n+1) × e^(ln 2 − r)
  let r := x % fxLn2
  expSum (fxLn2 - r) 24 fx 0 / 2 ^ (n + 1)

/-- √(n ÷ d) in fixed point. -/
def fxSqrtGo (n : Nat) : Nat → Nat → Nat
  | 0, r => r
  | k + 1, r => let t := r + 2 ^ k; fxSqrtGo n k (if t * t ≤ n then t else r)

/-- Floor of the square root of a number below 2^256. -/
def bigSqrt (n : Nat) : Nat := fxSqrtGo n 128 0

/-! ### Angles: sines, arc tangents, in units of 2^-48 turn -/

/-- One, and 2π, with 64 fraction bits. -/
def fy : Int := 2 ^ 64
def fyTau : Int := 115904311329233965478

/-- Terms of the sine series: x − x³ ÷ 3! + … -/
def sinSum (xx : Int) : Nat → Int → Nat → Int
  | 0, _, _ => 0
  | f + 1, t, k => t + sinSum xx f (-(t * xx / fy) / ((2 * k + 2) * (2 * k + 3) : Nat)) (k + 1)

/-- Sine of an angle up to a quarter turn, with 64 fraction bits. -/
def sinQuarter (r : Nat) : Int :=
  let x := (r : Int) * fyTau / 2 ^ 48
  sinSum (x * x / fy) 16 x 0

/-- Sine and cosine of an angle in units of 2^-48 turn, with 64 fraction bits. -/
def sinTurn (p : Nat) : Int :=
  let r := p % 2 ^ 46
  match p / 2 ^ 46 % 4 with
  | 0 => sinQuarter r
  | 1 => sinQuarter (2 ^ 46 - r)
  | 2 => -sinQuarter r
  | _ => -sinQuarter (2 ^ 46 - r)

def cosTurn (p : Nat) : Int := sinTurn (p + 2 ^ 46)

/-- Terms of the arc tangent series. -/
def atanSum (zz : Int) : Nat → Int → Nat → Int
  | 0, _, _ => 0
  | f + 1, t, k => t / (2 * k + 1 : Nat) + atanSum zz f (-(t * zz / fy)) (k + 1)

/-- tan of half an angle from its tan. -/
def halfTan (z : Int) : Int := z * fy / (fy + bigSqrt (fy * fy + z * z).toNat)

/-- Arc tangent of z in [0, 1], in units of 2^-48 turn, rounded. -/
def atanUnit (z : Int) : Int :=
  let w := halfTan (halfTan z)
  (4 * atanSum (w * w / fy) 40 w 0 * 2 ^ 48 + fyTau / 2) / fyTau

/-- atan2(y, x) in units of 2^-48 turn; 0 at the origin. -/
def atan2Turn (y x : Int) : Nat :=
  let a : Int := y.natAbs
  let b : Int := x.natAbs
  let q := if a = 0 ∧ b = 0 then 0
    else if a ≤ b then atanUnit (a * fy / b) else 2 ^ 46 - atanUnit (b * fy / a)
  let h := if 0 ≤ x then q else 2 ^ 47 - q
  ((if 0 ≤ y then h else -h) % 2 ^ 48).toNat

end Sys2Proof.Machine
end

