-- ==== Sys2Proof/Config.lean ====
section
/-! DEFINITION. What an implementation fixes and what the spec leaves open: constants without a body, so that no proof
can see a value of them. A statement about them holds whatever they are. -/

namespace Sys2Proof.Config

/-- A value the spec does not state, by its place in the order of such values (log entry 6). -/
opaque freeValue : Nat → Nat

/-- φ and the loop speed after a resolver sample, from BW, EXC_DIV, φ, speed and error: the spec gives the loop's type,
damping and natural frequency and no difference equation (R112). -/
opaque rsvPhi : Nat → Nat → Nat → Int → Int → Nat
opaque rsvSpeed : Nat → Nat → Nat → Int → Int → Int

/-- What a housekeeping code reads as: the temperature of die diode j in 1/16 °C, supply m and the reference check of
group b in mV. The spec gives the published units and no transfer function (R334, log entry 23). -/
opaque diodeTemp : Nat → Nat → Int
opaque supplyMv : Nat → Nat → Nat
opaque refMv : Nat → Nat → Nat

/-- The IRC trim for a mean die temperature in 1/16 °C (R345). -/
opaque ircTrim : Int → Nat

/-- The internal reference trim of a group for a mean die temperature in 1/16 °C (R345). -/
opaque refTrim : Nat → Int → Nat

/-- R_DIE in mK/W and τ_DIE in 0.1 ms of die node j, fixed by the maker (R338). -/
opaque dieRes : Nat → Nat
opaque dieTau : Nat → Nat

/-! The functions of standards that the spec names and does not restate (R463, R464, R470, log entry 27), over bytes as
numbers: SHA-384; whether an ECDSA P-384 or HSS signature verifies for a public key and a message; the key hashes of the
Edquin keyset in ROM; the device's own signatures, keys and endorsement header. -/
opaque sha384 : List (BitVec 8) → List (BitVec 8)
opaque ecdsaOk : List (BitVec 8) → List (BitVec 8) → List (BitVec 8) → Bool
opaque hssOk : List (BitVec 8) → List (BitVec 8) → List (BitVec 8) → Bool
opaque edquinEcdsa : List (BitVec 8)
opaque edquinHss : List (BitVec 8)
opaque attestEcdsa : List (BitVec 8) → Nat → Nat
opaque attestHss : List (BitVec 8) → Nat → Nat
opaque deviceKeys : Nat
opaque endorsement : Nat

/-- The capability bits of a page (R10), whose values the spec does not give. -/
opaque caps : Nat → Nat

end Sys2Proof.Config
end

