-- ==== Sys2Proof/Machine/Codes.lean ====
section
/-! DEFINITION. The error codes of the device (R19, R532), transcribed from the code tables of the chapters. -/

namespace Sys2Proof.Machine.Err

def WRITE_LOCKED : Nat := 0x0001
def ALMANAC_ONLY : Nat := 0x0002
def ACCESS_WIDTH : Nat := 0x0003
def COMMIT_BUSY : Nat := 0x0004
def COMMIT_WHEN : Nat := 0x0005
def ADM_FORMAT : Nat := 0x1001
def ADM_IMAGE : Nat := 0x1002
def ADM_COUNT : Nat := 0x1003
def ADM_INLINE : Nat := 0x1004
def ADM_LEG_PAIR : Nat := 0x1005
def ADM_OWNER_CONFLICT : Nat := 0x1006
def ADM_RESERVED_RES : Nat := 0x1007
def ADM_SRAM : Nat := 0x1008
def ADM_DRAM : Nat := 0x1009
def ADM_DRAM_BW : Nat := 0x100A
def ADM_UNBOUNDED : Nat := 0x100B
def ADM_DEADLINE : Nat := 0x100C
def ADM_OVERLOAD : Nat := 0x100D
def ADM_CLASS : Nat := 0x100E
def ADM_DIVERSITY : Nat := 0x100F
def ADM_MIGRATION : Nat := 0x1010
def ADM_FLOOR : Nat := 0x1011
def ADM_SLICE : Nat := 0x1012
def ADM_CONVERTER : Nat := 0x1013
def ADM_RUNNING : Nat := 0x1014
def ADM_BUSY : Nat := 0x1015
def ADM_CMD_CODE : Nat := 0x1016
def ADM_TRIGGER : Nat := 0x1017
def POS_ILLEGAL : Nat := 0x2001
def POS_HALL_INVALID : Nat := 0x2002
def POS_INDEX_FAULT : Nat := 0x2003
def POS_CFG : Nat := 0x2004
def CFG_LIVE : Nat := 0x2005
def PRB_OVERRUN : Nat := 0x2006
def PRB_NOT_OWNED : Nat := 0x2007
def RSV_CFG : Nat := 0x2008
def RSV_LOS : Nat := 0x2009
def RSV_DOS : Nat := 0x200A
def RSV_LOT : Nat := 0x200B
def SSI_CFG : Nat := 0x200C
def SSI_START : Nat := 0x200D
def SSI_TIMEOUT : Nat := 0x200E
def SSI_JUMP : Nat := 0x200F
def EMU_CFG : Nat := 0x2010
def EMU_OVERFLOW : Nat := 0x2011
def EPH_CFG : Nat := 0x3001
def EPH_CFG_LIVE : Nat := 0x3002
def EPH_CHART_RANGE : Nat := 0x3003
def EPH_CHART_SIZE : Nat := 0x3004
def EPH_CHART_BAD : Nat := 0x3005
def EPH_LOAD_BUSY : Nat := 0x3006
def EPH_NOT_LOADED : Nat := 0x3007
def EPH_ACTIVE_WRITE : Nat := 0x3008
def EPH_GLITCH : Nat := 0x3009
def EPH_FALLBACK : Nat := 0x300A
def EPH_OVERSPEED : Nat := 0x300B
def EPH_LOAD_DRAM : Nat := 0x300C
def STG_CFG : Nat := 0x4001
def STG_CFG_LIVE : Nat := 0x4002
def STG_PERIOD_MIN : Nat := 0x4003
def LEG_CFG : Nat := 0x4004
def LEG_CFG_LIVE : Nat := 0x4005
def LEG_NOT_BOUND : Nat := 0x4006
def LEG_FORCE : Nat := 0x4007
def TRIP_ACTIVE : Nat := 0x5001
def TRIP_GNOMON : Nat := 0x5002
def TRIP_NOT_OWNED : Nat := 0x5003
def TRIP_CFG : Nat := 0x5004
def TRIP_CRC : Nat := 0x5005
def INTLK_FAULT : Nat := 0x5006
def CMP_CFG : Nat := 0x5007
def CMP_STUCK : Nat := 0x5008
def CMP_TEST_RANGE : Nat := 0x5009
def CMP_SPARE_LOST : Nat := 0x500A
def INTLK_CLR_LIVE : Nat := 0x500B
def ADC_CFG : Nat := 0x6001
def ADC_CFG_LIVE : Nat := 0x6002
def INJ_LATE : Nat := 0x6003
def INJ_OVERRUN : Nat := 0x6004
def ADC_RANGE : Nat := 0x6005
def ADC_PULL : Nat := 0x6006
def CAL_BUSY : Nat := 0x6007
def SDI_CFG : Nat := 0x6008
def SDI_CFG_LIVE : Nat := 0x6009
def SDI_CODE : Nat := 0x600A
def SDI_STUCK : Nat := 0x600B
def SDI_CLK_LOSS : Nat := 0x600C
def SDI_FAULT : Nat := 0x600D
def CM_CFG : Nat := 0x4008
def CM_NOWIN : Nat := 0x4009
def CM_MISSING : Nat := 0x400A
def CTX_OPCODE : Nat := 0x7001
def CTX_SPACE : Nat := 0x7002
def CTX_ADDR : Nat := 0x7003
def CTX_PC : Nat := 0x7004
def CTX_NEST : Nat := 0x7005
def CTX_MEM : Nat := 0x7006
def CTX_OVERRUN : Nat := 0x7007
def CTX_LATE : Nat := 0x7008
def CTX_BANK_ACTIVE : Nat := 0x7009
def CTX_LIVE : Nat := 0x700A
def CTX_SAT_S : Nat := 0x700B
def CTX_NOT_ADMITTED : Nat := 0x700C
def CTX_EXP : Nat := 0x700D
def FLD_CFG : Nat := 0x8001
def FLD_CFG_LIVE : Nat := 0x8002
def FLD_NOT_READY : Nat := 0x8003
def CATCH_TOO_FAST : Nat := 0x8004
def FLD_MEAS : Nat := 0x8005
def FLD_PLAUS : Nat := 0x8006
def FLD_NO_ANGLE : Nat := 0x8007
def FLD_IPD_CURRENT : Nat := 0x8008
def FLD_IPD_AMBIG : Nat := 0x8009
def FLD_ABORTED : Nat := 0x800A
def FLD_INTERFERED : Nat := 0x800B
def FLD_WRONG_MACHINE : Nat := 0x800C
def BEMF_DEMAG : Nat := 0x800D
def BEMF_WRONG_MACHINE : Nat := 0x800E
def NRG_CFG : Nat := 0x9001
def NRG_CFG_LIVE : Nat := 0x9002
def NRG_DIS_INFEASIBLE : Nat := 0x9003
def NRG_DIS_RATING : Nat := 0x9004
def NRG_REGEN_PATH : Nat := 0x9005
def NRG_CHOP_FAULT : Nat := 0x9006
def NRG_OVERVOLT : Nat := 0x9007
def NRG_DIS_LATE : Nat := 0x9008
def NRG_DIS_ENERGY : Nat := 0x9009
def NRG_DIS_ABORT : Nat := 0x900A
def NRG_U_INVALID : Nat := 0x900B
def NRG_RES_HOT : Nat := 0x900C
def NRG_ESC_ACTIVE : Nat := 0x900D
def NRG_DIS_STAGE : Nat := 0x900E
def THM_CFG : Nat := 0x900F
def THM_CFG_LIVE : Nat := 0x9010
def THM_LIMIT : Nat := 0x9011
def THM_WARN : Nat := 0x9012
def THM_THROTTLE : Nat := 0x9013
def THM_SHUTDOWN : Nat := 0x9014
def THM_NTC : Nat := 0x9015
def THM_HK_LATE : Nat := 0x9016
def THM_SUPPLY : Nat := 0x9017
def RX_MISMATCH : Nat := 0xA001
def RX_VOTE : Nat := 0xA002
def RX_VOTE_FAULT : Nat := 0xA003
def RX_COMP_TEST : Nat := 0xA004
def RX_AGREE : Nat := 0xA005
def RX_DUP : Nat := 0xA006
def RX_DUP_ENABLE : Nat := 0xA007
def RX_LATENT : Nat := 0xA008
def RX_MODE_PLACE : Nat := 0xA009
def RX_MODE_LIVE : Nat := 0xA00A
def RX_MODE_REQ : Nat := 0xA00B
def RX_MM_ACTIVE : Nat := 0xA00C
def GN_CFG_FORMAT : Nat := 0xB001
def GN_CFG_SIGN : Nat := 0xB002
def GN_CFG_LIVE : Nat := 0xB003
def GN_CFG_CONFIRM : Nat := 0xB004
def GN_CFG_TIMEOUT : Nat := 0xB005
def GN_CFG_BUSY : Nat := 0xB006
def GN_DISC : Nat := 0xB007
def GN_LOCKOUT : Nat := 0xB008
def GN_RESET_REFUSED : Nat := 0xB009
def GN_REQ : Nat := 0xB00A
def GN_REQ_ACTIVE : Nat := 0xB00B
def GN_TORQUE : Nat := 0xB00C
def GN_EVENT : Nat := 0xB00D
def SN_MISMATCH : Nat := 0xB00E
def SN_MISSING : Nat := 0xB00F
def SN_SEQ : Nat := 0xB010
def SN_WATCHDOG : Nat := 0xB011
def SN_DISCARD : Nat := 0xB012
def CLK_CFG : Nat := 0xC001
def CLK_CFG_LIVE : Nat := 0xC002
def CLK_XO_FAIL : Nat := 0xC003
def CLK_IRC_FAIL : Nat := 0xC004
def CLK_LRC_FAIL : Nat := 0xC005
def CLK_MON : Nat := 0xC006
def CLK_HOLD : Nat := 0xC007
def CLK_PLL0_UNLOCK : Nat := 0xC008
def CLK_DLL_UNLOCK : Nat := 0xC009
def CLK_XO_NOT_READY : Nat := 0xC00A
def PWR_OP_RANGE : Nat := 0xC00B
def PWR_OP_IRC : Nat := 0xC00C
def PWR_V_TIMEOUT : Nat := 0xC00D
def PWR_MODE_BUSY : Nat := 0xC00E
def PWR_GATE : Nat := 0xC00F
def PWR_PARTNER_RST : Nat := 0xC010
def PWR_KEY : Nat := 0xC011
def BIST_FAIL : Nat := 0xA00D
def BIST_PROG : Nat := 0xA00E
def BIST_STATE : Nat := 0xA00F
def BIST_BUSY : Nat := 0xA010
def BIST_LC : Nat := 0xA011
def BIST_ABANDONED : Nat := 0xA012
def BOOT_ROM : Nat := 0xD001
def BOOT_XO : Nat := 0xD002
def BOOT_DRAM_TRAIN : Nat := 0xD003
def BOOT_DRAM_STORED : Nat := 0xD004
def BOOT_IMAGE_READ : Nat := 0xD005
def BOOT_FORMAT : Nat := 0xD006
def BOOT_DIGEST : Nat := 0xD007
def BOOT_ECDSA : Nat := 0xD008
def BOOT_LMS : Nat := 0xD009
def BOOT_ROLLBACK : Nat := 0xD00A
def BOOT_BIST : Nat := 0xD00B
def BOOT_GNOMON : Nat := 0xD00C
def BOOT_GN_PATCH : Nat := 0xD00D
def BOOT_ALMANAC : Nat := 0xD00E
def BOOT_HOST_LINK : Nat := 0xD00F
def BOOT_RETIRED : Nat := 0xD010
def LCS_TOKEN_SIGN : Nat := 0xD011
def LCS_TOKEN_STATE : Nat := 0xD012
def LCS_TOKEN_BIND : Nat := 0xD013
def LCS_BUSY : Nat := 0xD014
def SEC_CMD : Nat := 0xD015
def SEC_BUSY : Nat := 0xD016
def SEC_IMG_SIGN : Nat := 0xD017
def SEC_IMG_LOCKED : Nat := 0xD018
def SEC_LMS_EXHAUSTED : Nat := 0xD019
def VLK_CFG : Nat := 0xE001
def VLK_CFG_LIVE : Nat := 0xE002
def VLK_DUP_ID : Nat := 0xE003
def VLK_DEGRADED : Nat := 0xE004
def VLK_SPLIT : Nat := 0xE005
def VLK_ISOLATED : Nat := 0xE006
def VLK_NOT_ALIGNED : Nat := 0xE007
def VLK_PREP_REFUSED : Nat := 0xE008
def VLK_TIMEOUT : Nat := 0xE009
def VLK_NOT_APPLIED : Nat := 0xE00A
def VLK_HOLD : Nat := 0xE00B
def VLK_BUSY : Nat := 0xE00C
def VLK_LATE : Nat := 0xE00D
def VLK_PLACE : Nat := 0xE00E
def VLK_GUEST_LOST : Nat := 0xE00F
def VLK_FRAME : Nat := 0xE010
def VLK_NOT_MANAGER : Nat := 0xE011
def HOST_PROTECTED : Nat := 0xF001
def HOST_PROG_LOCKED : Nat := 0xF002
def HOST_UNMAPPED : Nat := 0xF003
def HOST_TABLE_LIVE : Nat := 0xF004
def PCIE_TLP : Nat := 0xF005
def PCIE_POISON : Nat := 0xF006
def XSPI_PROTOCOL : Nat := 0xF007
def ETH_RX_ERR : Nat := 0xF008
def ETH_RX_DROP : Nat := 0xF009
def PTP_SYNC_LOSS : Nat := 0xF00A
def CAN_PROTOCOL : Nat := 0xF00B
def CAN_BUS_OFF : Nat := 0xF00C
def CAN_FIFO_OVR : Nat := 0xF00D
def CAP_CFG : Nat := 0xF00E
def CAP_BUSY : Nat := 0xF00F
def CAP_NO_BUFFER : Nat := 0xF010
def VEC_CFG : Nat := 0xF011
def MEM_ECC_UE : Nat := 0xF012
def FL_CMD : Nat := 0xF013

end Sys2Proof.Machine.Err
end

