-- ==== Sys2Proof/Machine/Ops.lean ====
section
/-! DEFINITION. The named operations over registers: reading and writing words and fields, the first-error register
(R21), interrupts and their vectors (R17, R523, R524). -/

namespace Sys2Proof.Machine

/-- The stored word at a register address. -/
def Dev.reg (d : Dev) (a : Nat) : Word := mapGet resetWord d.regs a

/-- Store a register word. -/
def Dev.setReg (d : Dev) (a : Nat) (w : Word) : Dev := { d with regs := mapPut resetWord d.regs a w }

/-- The active value of the RWS register whose shadow is at `a` (R14). -/
def Dev.actReg (d : Dev) (a : Nat) : Word := mapGet resetWord d.act a

def Dev.setAct (d : Dev) (a : Nat) (w : Word) : Dev := { d with act := mapPut resetWord d.act a w }

/-- Cut a field out of a word. -/
def wordField (w : Word) (lo width : Nat) : Nat := (w.toNat / 2 ^ lo) % 2 ^ width

/-- Put a value into a field of a word. -/
def wordPut (w : Word) (lo width v : Nat) : Word :=
  BitVec.ofNat 32 (w.toNat - wordField w lo width * 2 ^ lo + (v % 2 ^ width) * 2 ^ lo)

/-- Value of element `i` of a register field of the page at `pg`. -/
def Dev.getAt (d : Dev) (pg : Nat) (f : Fld) (i : Nat) : Nat :=
  wordField (d.reg (pg + f.off + f.stride * i)) f.lo f.width

def Dev.get (d : Dev) (pg : Nat) (f : Fld) : Nat := d.getAt pg f 0

def Dev.flag (d : Dev) (pg : Nat) (f : Fld) : Bool := d.getAt pg f 0 != 0

def Dev.flagAt (d : Dev) (pg : Nat) (f : Fld) (i : Nat) : Bool := d.getAt pg f i != 0

/-- Signed value of a field. -/
def Dev.getI (d : Dev) (pg : Nat) (f : Fld) : Int := signed f.width (d.getAt pg f 0)

def Dev.getIAt (d : Dev) (pg : Nat) (f : Fld) (i : Nat) : Int := signed f.width (d.getAt pg f i)

/-- Write element `i` of a register field. -/
def Dev.putAt (d : Dev) (pg : Nat) (f : Fld) (i v : Nat) : Dev :=
  let a := pg + f.off + f.stride * i
  d.setReg a (wordPut (d.reg a) f.lo f.width v)

def Dev.put (d : Dev) (pg : Nat) (f : Fld) (v : Nat) : Dev := d.putAt pg f 0 v

def Dev.putB (d : Dev) (pg : Nat) (f : Fld) (b : Bool) : Dev := d.putAt pg f 0 (b2n b)

/-- Write a signed value into a field, wrapping. -/
def Dev.putI (d : Dev) (pg : Nat) (f : Fld) (v : Int) : Dev := d.putAt pg f 0 (unsig f.width v)

def Dev.putIAt (d : Dev) (pg : Nat) (f : Fld) (i : Nat) (v : Int) : Dev := d.putAt pg f i (unsig f.width v)

/-- Increment a counter field that saturates at all ones. -/
def Dev.incSatAt (d : Dev) (pg : Nat) (f : Fld) (i : Nat) : Dev :=
  let v := d.getAt pg f i
  if v + 1 < 2 ^ f.width then d.putAt pg f i (v + 1) else d

def Dev.incSat (d : Dev) (pg : Nat) (f : Fld) : Dev := d.incSatAt pg f 0

/-- Increment a counter field that wraps. -/
def Dev.incWrapAt (d : Dev) (pg : Nat) (f : Fld) (i : Nat) : Dev :=
  d.putAt pg f i ((d.getAt pg f i + 1) % 2 ^ f.width)

def Dev.incWrap (d : Dev) (pg : Nat) (f : Fld) : Dev := d.incWrapAt pg f 0

/-- Field of an active value. -/
def Dev.actGetAt (d : Dev) (pg : Nat) (f : Fld) (i : Nat) : Nat :=
  wordField (d.actReg (pg + f.off + f.stride * i)) f.lo f.width

def Dev.actGet (d : Dev) (pg : Nat) (f : Fld) : Nat := d.actGetAt pg f 0

/-- Load an RWS register's active value from its shadow. -/
def Dev.loadAct (d : Dev) (a : Nat) : Dev := d.setAct a (d.reg a)

/-- The shadow as a boundary of this TCLK sees it: a write that completes in the boundary cycle is not part of the
commit (R24). -/
def Dev.shadowBefore (d : Dev) (a : Nat) : Word :=
  match d.newShadow.find? (fun e => e.1 == a && e.2.2 == d.time) with
  | some e => e.2.1
  | none => d.reg a

/-- A shadow was written in this TCLK. -/
def Dev.freshAt (d : Dev) (a : Nat) : Bool := d.newShadow.any (fun e => e.1 == a && e.2.2 == d.time)

/-- Load an RWS register's active value at once, or at a boundary of this TCLK (R24). -/
def Dev.loadActAt (d : Dev) (boundary : Bool) (a : Nat) : Dev :=
  if boundary then d.setAct a (d.shadowBefore a) else d.loadAct a

/-- The low 32 bits of the time counter (R418). -/
def Dev.time32 (d : Dev) : Nat := d.time % 2 ^ 32

/-- Fold an operation over the numbers below `n`, in rising order. -/
def forRange {α : Type} (f : Nat → α → α) : Nat → α → α
  | 0, x => x
  | n + 1, x => f n (forRange f n x)

/-! ### Interrupts -/

/-- The page index of R510. -/
def pageIndex (pg : Nat) : Nat := (pg - 0x40000000) / 0x1000

/-- CLK interrupt bits that carry the non-maskable vector (R410, R523): XO_FAIL, IRC_FAIL, LRC_FAIL, HOLD, HOLD_EXIT,
PLL0_UNLOCK, whose enables read 1. -/
def clkNonMaskable : Nat := 0x77

/-- The enabled pending events of a page (R17). -/
def Dev.irqFlag (d : Dev) (pg : Nat) : Nat :=
  let en := (d.reg (pg + 0x14)).toNat
  let en := if pg = pgCLK then en ||| clkNonMaskable else en
  (d.reg (pg + 0x10)).toNat &&& en

/-- The VECMAP entry of page index `p`: enabled, vector (R523). -/
def Dev.vecMap (d : Dev) (p : Nat) : Bool × Nat :=
  let b := ((d.reg (pgPCIE + 0x100 + 4 * (p / 4))).toNat / 2 ^ (8 * (p % 4))) % 256
  (bitOf b 7, b % 64)

/-- The request of a vector: the OR of the requests of the pages mapped to it; vector 0 also carries the
non-maskable CLK events (R523). -/
def Dev.vecReq (d : Dev) (v : Nat) : Bool :=
  (v == 0 && decide ((d.reg (pgCLK + 0x10)).toNat &&& clkNonMaskable ≠ 0))
  || (List.range 256).any (fun p => d.vecMap p == (true, v) && decide (d.irqFlag (0x40000000 + 0x1000 * p) ≠ 0))

/-- Set the latch of a vector (R524). Over PCI Express its message goes out, or its pending bit sets while its MSI-X
entry is masked. -/
def Dev.setLatch (d : Dev) (v : Nat) : Dev :=
  let w := d.getAt pgPCIE PCIE.VLATCH (v / 32)
  let d := d.putAt pgPCIE PCIE.VLATCH (v / 32) (w ||| 2 ^ (v % 32))
  let pcie := !bitOf (d.get pgLCS LCS.BOARD) 20
  if pcie && (mapGet msixDefault d.msix (4 * v + 3)).getLsbD 0 then { d with pba := d.pba ||| 2 ^ v } else d

/-- The vectors that the events of page `pg` reach. -/
def Dev.vectorsOf (d : Dev) (pg : Nat) : List Nat :=
  let m := d.vecMap (pageIndex pg)
  (if m.1 then [m.2] else []) ++ (if pg = pgCLK ∧ m ≠ (true, 0) then [0] else [])

/-- After a change of a page's interrupt registers, set the latch of each of its vectors whose request rose (R524). -/
def Dev.latchRise (before : Dev) (d : Dev) (pg : Nat) : Dev :=
  if d.irqFlag pg = 0 then d
  else (d.vectorsOf pg).foldl (fun d v => if before.vecReq v || !d.vecReq v then d else d.setLatch v) d

/-- An event sets its bits in IRQ_RAW whatever IRQ_EN holds (R17). -/
def Dev.irqBits (d : Dev) (pg bits : Nat) : Dev :=
  let raw := (d.reg (pg + 0x10)).toNat
  let d' := d.setReg (pg + 0x10) (BitVec.ofNat 32 (raw ||| bits))
  if d.irqFlag pg = d'.irqFlag pg then d' else Dev.latchRise d d' pg

/-- Raise the event of one interrupt bit. -/
def Dev.irq (d : Dev) (pg : Nat) (f : Fld) : Dev := d.irqBits pg (2 ^ f.lo)

/-- Raise an event whose bits are chosen by value. -/
def Dev.irqIf (d : Dev) (b : Bool) (pg : Nat) (f : Fld) : Dev := if b then d.irq pg f else d

/-! ### Errors and the violation journal -/

/-- The partner kind of a code that other chapters answer their partners with (R500, R531). -/
def partnerKind (code : Nat) : Option Nat :=
  if code = Err.SN_DISCARD ∨ (Err.SN_MISMATCH ≤ code ∧ code ≤ Err.SN_WATCHDOG) then some 6
  else if code = Err.SSI_START ∨ code = Err.SSI_TIMEOUT ∨ code = Err.SSI_JUMP ∨ code = Err.POS_ILLEGAL then some 4
  else if code = Err.SDI_CODE ∨ code = Err.SDI_STUCK ∨ code = Err.SDI_CLK_LOSS then some 5
  else if code = Err.PCIE_TLP ∨ code = Err.PCIE_POISON ∨ code = Err.XSPI_PROTOCOL then some 1
  else if code = Err.ETH_RX_ERR then some 2
  else if code = Err.CAN_PROTOCOL then some 3
  else none

/-- The instance number of a page. -/
def pageInst (pg : Nat) : Nat := match pageOf pg with | some (_, i, _) => i | none => 0

/-- Enter a violation in the journal (R500): partner kind and partner, code, answer, first bytes. -/
def Dev.journalAdd (d : Dev) (kind partner code answer : Nat) (bytes : List Byte) : Dev :=
  let b := natBytes 4 d.time32 ++ [BitVec.ofNat 8 kind, BitVec.ofNat 8 partner] ++ natBytes 2 code
    ++ [BitVec.ofNat 8 answer] ++ (bytes ++ List.replicate 7 0).take 7
  let d := { d with vlk := { d.vlk with jrnl := (b :: d.vlk.jrnl).take 256 } }
  (d.incWrap (pgVLK 0) VLK.JRNL_CNT).irq (pgVLK 0) VLK.IRQ_VIOLATION

/-- Store an error code (R21): the first error is kept, later ones are counted in LOST. -/
def Dev.errStore (d : Dev) (pg code origin : Nat) : Dev :=
  if d.get pg COM.ERRCODE_CODE = 0 then
    (d.put pg COM.ERRCODE_CODE code).put pg COM.ERRCODE_ORIGIN origin
  else d.incSat pg COM.ERRCODE_LOST

/-- Store a code that answers a partner, with the partner and the first bytes of its frame or word. -/
def Dev.errPartner (d : Dev) (pg code partner answer : Nat) (bytes : List Byte) : Dev :=
  let d := d.errStore pg code 0
  match partnerKind code with
  | some k => d.journalAdd k partner code answer bytes
  | none => d

/-- Store an error code with its originator (R20, R21); the codes of R500 also enter the journal. -/
def Dev.errBy (d : Dev) (pg code origin : Nat) : Dev :=
  let d := d.errStore pg code origin
  match partnerKind code with
  | some k => d.journalAdd k (pageInst pg) code 0 []
  | none => d

/-- Store an error code that answers a host access, originator 0 (R20). A code that hardware detects by itself, with no
host, context or firmware behind it, is stored with originator 0 as well: R20 lists no originator for it (DESIGN CHOICE,
log entry 87). -/
def Dev.err (d : Dev) (pg code : Nat) : Dev := d.errBy pg code 0

/-- Store an error code that a service of the device firmware finds by itself (R20, log entry 87). -/
def Dev.errFw (d : Dev) (pg code : Nat) : Dev := d.errBy pg code 0xFF

/-! ### Common state -/

/-- The block is enabled and no debug halt freezes it (R15). -/
def Dev.enabled (d : Dev) (pg : Nat) : Bool := d.flag pg COM.ST_ENABLED && !d.flag pg COM.ST_FROZEN

def Dev.locked (d : Dev) (pg : Nat) : Bool := d.flag pg COM.LOCK

/-- A fresh index for a free value (log entry 6). -/
def Dev.fresh (d : Dev) : Dev := { d with freeCtr := d.freeCtr + 1 }

def fin4 (n : Nat) : Fin 4 := Fin.ofNat 4 n
def fin16 (n : Nat) : Fin 16 := Fin.ofNat 16 n

/-- Update one element of a vector by a function. -/
def vmod {α : Type} {n : Nat} (v : Vector α n) (i : Fin n) (f : α → α) : Vector α n := v.set i (f v[i])

/-- The stage record of stage `k` in the admitted set. -/
def Dev.stageDecl (d : Dev) (k : Nat) : Option StageDecl :=
  match d.adm with
  | none => none
  | some s => s.stages.find? (fun r => r.stage == k)

/-- The declared timing mode of a stage; 0 when no set declares it (R123). -/
def Dev.timing (d : Dev) (k : Nat) : Nat := match d.stageDecl k with | some r => r.timing | none => 0

/-- The loop record of a loop in the admitted set. -/
def Dev.loopDecl (d : Dev) (id : Nat) : Option LoopDecl :=
  match d.adm with
  | none => none
  | some s => s.loops.find? (fun r => r.id == id)

end Sys2Proof.Machine
end

