-- ==== Sys2Proof/Machine/Estimator.lean ====
section
/-! DEFINITION. The angle estimators (R124 to R128) and the passage of time: what a number of TCLK does by itself. -/

namespace Sys2Proof.Machine

/-- Two to the 48: one turn in the estimator's units (R126). -/
def turn48 : Nat := 2 ^ 48

/-- The advance of θ̂ in one TCLK: round(ω̂ × 2^48 ÷ (4096 × 400,000,000)) (R126). -/
def estInc (omega : Int) : Int := roundDiv (omega * 2 ^ 26) 390625

/-- One TCLK of the estimator (R126). `dir` is +1 or -1 in RUN and 0 otherwise. -/
def estTick (dir : Int) (sh : Nat) (e : EstH) : EstH :=
  let inc := estInc e.omega
  let lim : Int := (inc.natAbs / 2 ^ sh : Nat)
  let corr := if e.pend < -lim then -lim else if lim < e.pend then lim else e.pend
  let step := inc + corr
  let step := if 0 < dir ∧ step < 0 then 0 else step
  let step := if dir < 0 ∧ 0 < step then 0 else step
  { e with pend := e.pend - (step - inc)
           prev := e.theta
           step := step
           theta := ((e.theta + step) % turn48).toNat }

def estTicks (dir : Int) (sh : Nat) : Nat → EstH → EstH
  | 0, e => e
  | n + 1, e => estTicks dir sh n (estTick dir sh e)

/-- The sign that DIR gives a stage in RUN; 0 in FALLBACK and OFF (R126). -/
def Dev.estDir (d : Dev) (k : Nat) : Int :=
  if d.getAt pgEPH EPH.STATE_STATE k = 2 then (if d.flagAt pgEPH EPH.STATE_DIR k then -1 else 1) else 0

def Dev.inRun (d : Dev) (k : Nat) : Bool := d.getAt pgEPH EPH.STATE_STATE k == 2

/-- POS_VALID of a position source, in the encoding of R108. -/
def Dev.srcValid (d : Dev) (s : Nat) : Bool :=
  if s < 8 then d.flag (pgPOS s) POS.ST_POS_VALID
  else if s < 12 then d.flag (pgRSV (s - 8)) RSV.ST_POS_VALID
  else d.flag (pgSSI (s - 12)) SSI.ST_POS_VALID

/-- The published ANGLE of a position source (R108). -/
def Dev.srcAngle (d : Dev) (s : Nat) : Nat :=
  if s < 8 then d.get (pgPOS s) POS.ANGLE
  else if s < 12 then d.get (pgRSV (s - 8)) RSV.ANGLE
  else d.get (pgSSI (s - 12)) SSI.ANGLE

/-- The published SPEED of a position source, a speed code (R8). -/
def Dev.srcSpeed (d : Dev) (s : Nat) : Int :=
  if s < 8 then d.getI (pgPOS s) POS.SPEED
  else if s < 12 then d.getI (pgRSV (s - 8)) RSV.SPEED
  else d.getI (pgSSI (s - 12)) SSI.SPEED

/-- Set a bit of stage `k`'s EV, and its bit of the EPH page's events (R149). -/
def Dev.ev (d : Dev) (k : Nat) (f : Fld) : Dev := (d.putAt pgEPH f k 1).irqBits pgEPH (2 ^ k)

/-- Update the estimator of stage `k`. -/
def Dev.modEst (d : Dev) (k : Nat) (f : EstH → EstH) : Dev := { d with est := vmod d.est (fin16 k) f }

/-- An angle update of estimator `k`: measured angle `m`, age `a` in TCLK (R127). It acts from the next TCLK (R128). -/
def Dev.angleUpdate (d : Dev) (k : Fin 16) (m a : Nat) : Dev :=
  let e := d.est[k]
  let inc := estInc e.omega
  let lat := d.getIAt pgEPH EPH.EST_CFG_LAT_COMP k
  let pred : Int := (m : Int) * 2 ^ 16 + inc * (a + lat)
  let raw := ((pred - e.theta) % turn48).toNat
  let err := signed 48 raw
  if !e.firstUpd && decide (e.rejects < d.getAt pgEPH EPH.EST_CFG_GLITCH_N k)
      && decide (d.getAt pgEPH EPH.GLITCH_TH k * 2 ^ 16 < err.natAbs) then
    let d := d.modEst k (fun e => { e with newAngle := some (d.time, none) })
    let d := d.incSatAt pgEPH EPH.CNT_A_REJ_CNT k
    (d.ev k EPH.EV_GLITCH).err pgEPH Err.EPH_GLITCH
  else d.modEst k (fun e => { e with newAngle := some (d.time, some (err, (pred % turn48).toNat)) })

/-- A speed sample of estimator `k` (R128). It acts from the next TCLK. -/
def Dev.speedSample (d : Dev) (k : Fin 16) (s : Int) : Dev := d.modEst k (fun e => { e with newSpeed := some s })

/-- A POS window of the estimator's source ends REVERSED (R145 row 3). -/
def Dev.reversedWindow (d : Dev) (k : Fin 16) : Dev := d.modEst k (fun e => { e with newRev := true })

/-- An angle update takes effect (R127). -/
def EstH.takeAngle (run : Bool) (e : EstH) : EstH :=
  match e.newAngle with
  | none => e
  | some (_, none) => { e with rejects := e.rejects + 1, okSince := none, newAngle := none }
  | some (t, some (err, pred)) =>
    { e with rejects := 0, firstUpd := false, lastUpd := t, newAngle := none
             pend := if run then err else 0, theta := if run then e.theta else pred }

/-- A speed sample takes effect (R128); one of sign opposite to DIR is a reversal (R145 row 3). -/
def EstH.takeSpeed (dir : Int) (sh : Nat) (e : EstH) : EstH :=
  match e.newSpeed with
  | none => e
  | some s => { e with omega := if e.firstSpd then s else e.omega + (s - e.omega) / (2 ^ sh : Nat)
                       firstSpd := false, reversed := e.reversed || decide (dir * s < 0), newSpeed := none }

/-- What arrived in the TCLK that ends takes effect: the angle update, then the speed sample (R128). -/
def EstH.settle (dir : Int) (sh : Nat) (e : EstH) : EstH :=
  let e := (e.takeAngle (dir != 0)).takeSpeed dir sh
  { e with reversed := e.reversed || e.newRev, newRev := false }

/-- Apply an operation to every running estimator whose source is `s`. -/
def Dev.onSource (d : Dev) (s : Nat) (f : Dev → Fin 16 → Dev) : Dev :=
  (List.finRange 16).foldl (fun (d : Dev) (k : Fin 16) =>
    if (d.est[k]).on && d.getAt pgEPH EPH.EST_CFG_SRC k == s then f d k else d) d

/-- An angle update from source `s`, taken only while its POS_VALID is 1 (R125). -/
def Dev.sourceAngle (d : Dev) (s m a : Nat) : Dev :=
  if d.srcValid s then d.onSource s (fun d k => d.angleUpdate k m a) else d

/-- A speed sample from source `s` (R125). -/
def Dev.sourceSpeed (d : Dev) (s : Nat) (v : Int) : Dev :=
  if d.srcValid s then d.onSource s (fun d k => d.speedSample k v) else d

/-- A source's window of this TCLK is taken again: what it gave its estimators is dropped. -/
def Dev.dropSamples (d : Dev) (s : Nat) : Dev :=
  d.onSource s (fun d k => d.modEst k (fun e => { e with newSpeed := none, newRev := false }))

/-- The row of R145 that holds for a stage in RUN, as its REASON; judged on values that have taken effect. -/
def Dev.fallReason (d : Dev) (k : Fin 16) : Option Nat :=
  let e := d.est[k]
  let coast := 400 * d.getAt pgEPH EPH.TIMES_COAST_MAX k
  let late := fun (t : Nat) => decide (t + coast ≤ d.time)
  if !e.on || !d.inRun k then none
  else if d.flagAt pgEPH EPH.SCTRL_FORCE_FB k then some 5
  else if e.omega.natAbs < d.getAt pgEPH EPH.F_LOW k then some 1
  else if d.estDir k * e.omega < 0 ∨ e.reversed then some 2
  else if late e.lastUpd || (e.badSince.map late).getD false then some 3
  else if d.getAt pgEPH EPH.EST_CFG_GLITCH_N k ≤ e.rejects then some 4
  else none

/-- The conditions of R147, other than their duration, for a stage in FALLBACK. -/
def Dev.retCond (d : Dev) (k : Fin 16) : Bool :=
  let e := d.est[k]
  e.on && !d.flagAt pgEPH EPH.SCTRL_FORCE_FB k
  && d.srcValid (d.getAt pgEPH EPH.EST_CFG_SRC k)
  && decide (d.getAt pgEPH EPH.F_HIGH k ≤ e.omega.natAbs)
  && (d.timing k != 2 || d.flagAt pgEPH EPH.STATE_CHART_VALID k
      || (d.flagAt pgEPH EPH.STATE_IDLE_LOADED k && d.flagAt pgEPH EPH.STATE_ARMED k))

/-- Keep, start or restart the spans that R145 row 4 and R147 measure, as of TCLK `t`. -/
def Dev.requal (d : Dev) (t : Nat) (k : Fin 16) : Dev :=
  let e := d.est[k]
  if !e.on then d else
  let pos := decide (0 ≤ e.omega)
  let ok := if d.retCond k then
      (match e.okSince with
       | some (u, sg) => if sg = pos then some (u, sg) else some (t, pos)
       | none => some (t, pos))
    else none
  let bad := if d.srcValid (d.getAt pgEPH EPH.EST_CFG_SRC k) then none
    else some (e.badSince.getD t)
  d.modEst k (fun e => { e with okSince := ok, badSince := bad })

/-- TCLK stands during a clock hold (R414, R418). -/
def Dev.clockHeld (d : Dev) : Bool := d.flag pgCLK CLK.ST_HOLD

/-- The TCLK is there: PLL0 is locked and no hold stops it (R414, R416). -/
def Dev.tclkRuns (d : Dev) : Bool := d.flag pgCLK CLK.ST_PLL0_LOCK && !d.clockHeld

/-- Power mode (R428): 0 RUN, 1 SLEEP, 2 DEEP_SLEEP. -/
def Dev.pwrMode (d : Dev) : Nat := d.get pgPWR PWR.ST_MODE

/-- Less than 10 ms have passed since the supervisor cores left the gated state (R430). -/
def Dev.justWoken (d : Dev) : Bool :=
  match d.pwr.runT with
  | some t => decide (d.wall < t + 4000000)
  | none => false

/-- A clock group runs in the present mode (R428, R431). -/
def Dev.groupOn (d : Dev) (g : Nat) : Bool :=
  bitOf (match d.pwrMode with
    | 0 => d.get pgPWR PWR.CLKEN_RUN
    | 1 => d.get pgPWR PWR.CLKEN_SLEEP
    | _ => d.get pgPWR PWR.CLKEN_DEEP) g

/-- The supervisor cores and their services run (R430, R452, R456): from boot step BS7 on. -/
def Dev.fwRuns (d : Dev) : Bool :=
  d.groupOn 8 && !d.clockHeld && !d.flag pgBOOT BOOT.ST_HALTED && decide (7 ≤ d.get pgBOOT BOOT.ST_STEP)

/-- The EPH page is frozen by a debug halt: its estimators hold (R15). -/
def Dev.ephFrozen (d : Dev) : Bool := d.flag pgEPH COM.ST_FROZEN

/-- What arrived at the estimators in this TCLK takes effect (R128, R145). -/
def Dev.estSettle (d : Dev) : Dev :=
  { d with est := Vector.ofFn (fun k : Fin 16 =>
      (d.est[k]).settle (d.estDir k) (d.getAt pgEPH EPH.EST_CFG_SPD_SHIFT k)) }

/-- `n` TCLK pass. The time counter counts, what arrived at the estimators takes effect, running estimators advance (R126)
and the entries fired in the last TCLK no longer count against R138's limit. Everything else that time does is a command of
its own (log entry 8). -/
def Dev.elapse (d : Dev) (n : Nat) : Dev :=
  let d := (List.finRange 16).foldl (fun (d : Dev) (k : Fin 16) => d.requal d.time k) d
  if n = 0 then d
  else if d.pwrMode = 2 then
    -- the counter moves by 16 at each REF edge (R418)
    { d with time := (d.time + 16 * ((d.wall + n) / 16 - d.wall / 16)) % 2 ^ 64, wall := d.wall + n }
  else if !d.tclkRuns then { d with wall := d.wall + n }
  else if d.ephFrozen then { d with time := (d.time + n) % 2 ^ 64, wall := d.wall + n }
  else
    let d := d.estSettle
    let d := (List.finRange 16).foldl (fun (d : Dev) (k : Fin 16) => d.requal (d.time + 1) k) d
    let est := Vector.ofFn (fun k : Fin 16 =>
      let e := d.est[k]
      if e.on || e.omega != 0 || e.pend != 0 then
        { estTicks (d.estDir k) (d.getAt pgEPH EPH.EST_CFG_SLEW_SHIFT k) n e with fired := 0, seen := none }
      else e)
    { d with est := est, time := (d.time + n) % 2 ^ 64, wall := d.wall + n }

end Sys2Proof.Machine
end

