-- ==== Sys2Proof/Machine/Position.lean ====
section
/-! DEFINITION. Position and speed feedback: incremental and Hall interfaces, probes, resolvers, SSI, encoder
emulation (R90 to R122). -/

namespace Sys2Proof.Machine

/-- Take a free value of `w` bits (log entry 6). -/
def Dev.free (d : Dev) (w : Nat) : Nat × Dev := (Config.freeValue d.freeCtr % 2 ^ w, d.fresh)

/-! ### Encoder emulation -/

/-- A source count reaches an emulation output (R118, R119). -/
def Dev.emuCount (d : Dev) (m : Fin 4) (s : Int) : Dev :=
  let pg := pgEMU m
  let n : Int := d.get pg EMU.RATIO_N
  let q : Int := d.get pg EMU.RATIO_M
  let s := if d.flag pg EMU.CFG_DIR_INV then -s else s
  let acc := (d.emu[m]).acc + n * s
  let (acc, step) : Int × Int :=
    if q ≤ acc then (acc - q, 1) else if acc ≤ -q then (acc + q, -1) else (acc, 0)
  let d := { d with emu := vmod d.emu m (fun e => { e with acc := acc }) }
  let bl := d.getI pg EMU.BACKLOG + step
  if step = 0 then d
  else if 255 < bl.natAbs then ((d.put pg EMU.ST_OVERFLOW 1).irq pg EMU.IRQ_OVERFLOW).err pg Err.EMU_OVERFLOW
  else d.putI pg EMU.BACKLOG bl

def Dev.emuCounts (d : Dev) (n : Nat) (s : Int) : Dev :=
  (List.finRange 4).foldl (fun (d : Dev) (m : Fin 4) =>
    if d.enabled (pgEMU m) && d.get (pgEMU m) EMU.CFG_SRC == n then d.emuCount m s else d) d

/-- One emulated quadrature step (R118, R120): emitted when the gap has elapsed and the backlog is not zero. -/
def Dev.emuStep (m : Fin 4) (d : Dev) : Dev :=
  let pg := pgEMU m
  let bl := d.getI pg EMU.BACKLOG
  let e := d.emu[m]
  if !d.enabled pg || bl = 0 || decide (d.time < e.gapEnd) then d
  else
    let s : Int := if 0 < bl then 1 else -1
    -- 00 → 10 → 11 → 01 → 00 for a positive step
    let (a, b) := if 0 < s then (!e.qb, e.qa) else (e.qb, !e.qa)
    let zOn := d.flag pg EMU.CFG_Z_EN && e.zArm
    let d := { d with emu := vmod d.emu m (fun e =>
      { e with qa := a, qb := b, gapEnd := d.time + d.get pg EMU.CFG_MIN_GAP + 1, zArm := false, zPin := zOn }) }
    let d := d.putI pg EMU.BACKLOG (bl - s)
    let d := d.putI pg EMU.OUT_COUNT (d.getI pg EMU.OUT_COUNT + s)
    let d := d.putB pg EMU.ST_DIR (decide (s < 0))
    d.irqIf zOn pg EMU.IRQ_Z_OUT

/-- EMUn_Z (R120): Z_EN = 0 holds it low. -/
def Dev.emuZ (d : Dev) (m : Fin 4) : Bool := (d.emu[m]).zPin && d.flag (pgEMU m) EMU.CFG_Z_EN

/-- After a write of CFG, a pin that Z_EN = 0 holds low stays low until the next index event (R120). -/
def Dev.emuHoldZ (d : Dev) (m : Fin 4) : Dev :=
  { d with emu := vmod d.emu m (fun e => { e with zPin := e.zPin && d.flag (pgEMU m) EMU.CFG_Z_EN }) }

/-! ### Incremental and Hall interfaces -/

/-- Update the hidden state of interface `n`. -/
def Dev.modPos (d : Dev) (n : Fin 8) (f : PosH → PosH) : Dev := { d with pos := vmod d.pos n f }

/-- The digital filter of R93: a filtered level that changed last at `t` (1 + TCLK, 0 never) takes a new value only after
its input has held it for FILT consecutive TCLK, and with FILT = 0 in the next TCLK at the earliest. A shorter pulse never
reaches the filtered level. -/
def Dev.filtered (d : Dev) (t filt : Nat) : Bool := t == 0 || decide (t + max 1 filt ≤ d.time + 1)

/-- The filtered sample that a row brings, and the times of the last changes, after the filter of each input (R93). -/
def Dev.posSample (d : Dev) (n : Fin 8) (a b z : Bool) : PosH :=
  let p := d.pos[n]
  let f := d.get (pgPOS n) POS.CFG_FILT
  let ta := a != p.a && d.filtered p.aT f
  let tb := b != p.b && d.filtered p.bT f
  let tz := z != p.z && d.filtered p.zT f
  let t := d.time + 1
  { p with a := if ta then a else p.a, aT := if ta then t else p.aT, b := if tb then b else p.b, bT := if tb then t else p.bT
           z := if tz then z else p.z, zT := if tz then t else p.zT, sampT := t }

/-- POS_VALID of R98. -/
def Dev.posValidUpd (d : Dev) (pg : Nat) : Dev :=
  d.putB pg POS.ST_POS_VALID
    (d.flag pg POS.ST_REFERENCED && !d.flag pg POS.ST_POS_FAULT && !d.flag pg POS.ST_HALL_INVALID)

/-- The electrical angle of quadrature mode (R100). -/
def Dev.posQuadAngle (d : Dev) (pg : Nat) : Nat :=
  (d.get pg POS.ANGLE_OFS
    + d.get pg POS.TURN_POS * d.get pg POS.CFG_PP * 2 ^ 32 / d.get pg POS.COUNT_MOD) % 2 ^ 32

/-- Recompute ANGLE in quadrature mode (R100). -/
def Dev.posAngleUpd (d : Dev) (pg : Nat) : Dev :=
  if d.get pg POS.CFG_MODE = 0 then d.put pg POS.ANGLE (d.posQuadAngle pg) else d

/-- Add a signed number to COUNT (wrapping) and to TURN_POS (modulo MOD) (R94). -/
def Dev.posAdd (d : Dev) (pg : Nat) (v : Int) : Dev :=
  let m := d.get pg POS.COUNT_MOD
  let d := d.putI pg POS.COUNT (d.getI pg POS.COUNT + v)
  d.put pg POS.TURN_POS (((d.get pg POS.TURN_POS : Int) + v) % (m : Int)).toNat

/-- One count of sign `s`, after DIR_INV (R94): counters, direction, running window, emulation outputs. -/
def Dev.posCount (d : Dev) (n : Fin 8) (s : Int) : Dev :=
  let pg := pgPOS n
  let d := d.posAdd pg s
  let d := d.putB pg POS.ST_DIR (decide (s < 0))
  let d := d.modPos n (fun p =>
    { p with last := s, cntT := d.time + 1
             win := { p.win with net := p.win.net + s, up := p.win.up || decide (0 < s), down := p.win.down || decide (s < 0) } })
  d.emuCounts n s

/-- An illegal transition (R95). -/
def Dev.posIllegal (d : Dev) (n : Fin 8) : Dev :=
  let pg := pgPOS n
  let d := d.modPos n (fun p => { p with illT := d.time + 1, win := { p.win with bad := true } })
  ((d.irq pg POS.IRQ_ILLEGAL).incSat pg POS.ILL_CNT_COUNT).err pg Err.POS_ILLEGAL

/-- Place of (A, B) in the sequence 00, 10, 11, 01 (R94). -/
def quadIndex (a b : Bool) : Nat := if a then (if b then 2 else 1) else (if b then 3 else 0)

/-- The effect of a filtered sample of A and B in quadrature mode, after the levels `a` and `b` (R94, R95). -/
def Dev.quadratureStep (n : Fin 8) (a b : Bool) (d : Dev) : Dev :=
  let pg := pgPOS n
  let p := d.pos[n]
  let delta := (quadIndex p.a p.b + 4 - quadIndex a b) % 4
  if delta = 0 then d
  else if delta = 2 then d.posIllegal n
  else
    let s : Int := if delta = 1 then 1 else -1
    let s := if d.flag pg POS.CFG_DIR_INV then -s else s
    let d := (d.posCount n s).posAngleUpd pg
    let m := d.get pg POS.ANGLE
    let m := if s < 0
      then (m + d.get pg POS.CFG_PP * 2 ^ 32 / d.get pg POS.COUNT_MOD) % 2 ^ 32 else m
    d.sourceAngle n m (2 + d.get pg POS.CFG_FILT)

/-- The sector of a Hall state (R96). -/
def hallSector (u v w : Bool) : Option Nat :=
  match u, v, w with
  | true, false, false => some 0
  | true, true, false => some 1
  | false, true, false => some 2
  | false, true, true => some 3
  | false, false, true => some 4
  | true, false, true => some 5
  | _, _, _ => none

/-- Entry into Hall state 000 or 111 (R97). -/
def Dev.hallInvalid (d : Dev) (n : Fin 8) : Dev :=
  let pg := pgPOS n
  let d := d.modPos n (fun p => { p with win := { p.win with bad := true } })
  let d := ((d.put pg POS.ST_HALL_INVALID 1).put pg POS.ST_REFERENCED 0).posValidUpd pg
  ((d.irq pg POS.IRQ_HALL_INVALID).incSat pg POS.ILL_CNT_COUNT).err pg Err.POS_HALL_INVALID

/-- The centre of a Hall sector, and the boundary at its start (R100). -/
def hallCentre (ofs k : Nat) : Nat := (ofs + (roundDiv ((2 * k + 1) * 2 ^ 30) 3).toNat) % 2 ^ 32
def hallBoundary (ofs k : Nat) : Nat := (ofs + (roundDiv (k * 2 ^ 31) 3).toNat) % 2 ^ 32

/-- The effect of a filtered sample of U, V and W in Hall mode, after the state `old` (R97, R98, R100). -/
def Dev.hallStep (n : Fin 8) (old : Option Nat) (d : Dev) : Dev :=
  let pg := pgPOS n
  let p := d.pos[n]
  let ofs := d.get pg POS.ANGLE_OFS
  match old, hallSector p.a p.b p.z with
  | none, none => d
  | some _, none => d.hallInvalid n
  | none, some k =>
    let d := d.put pg POS.TURN_POS k
    let d := ((d.put pg POS.ST_HALL_INVALID 0).put pg POS.ST_REFERENCED 1).posValidUpd pg
    d.put pg POS.ANGLE (hallCentre ofs k)
  | some j, some k =>
    let up := decide (k = (j + 1) % 6)
    if up || decide (j = (k + 1) % 6) then
      let s : Int := if up then 1 else -1
      let s := if d.flag pg POS.CFG_DIR_INV then -s else s
      let d := d.posCount n s
      let d := d.put pg POS.ANGLE (hallBoundary ofs (if up then k else k + 1))
      d.sourceAngle n (d.get pg POS.ANGLE) (2 + d.get pg POS.CFG_FILT)
    else (d.posIllegal n).put pg POS.ANGLE (hallCentre ofs k)

/-- The deviation of an index event, mapped to −⌊MOD ÷ 2⌋ to MOD − 1 − ⌊MOD ÷ 2⌋ (R101). -/
def indexDelta (o e m : Nat) : Int :=
  let r := (((o : Int) - e) % (m : Int)).toNat
  if r ≤ m - 1 - m / 2 then (r : Int) else (r : Int) - m

/-- The registers that an index event can change: the POS page's, and the vector latches (R102, R524). -/
def indexWords (pg : Nat) : List Nat :=
  [pg + 0x00C, pg + 0x010, pg + 0x020, pg + POS.COUNT.off, pg + POS.TURN_POS.off, pg + POS.ANGLE.off, pg + POS.IDX_OBS.off,
    pg + POS.IDX_EXP.off, pg + POS.IDX_STAT_MATCH.off, pgPCIE + PCIE.VLATCH.off, pgPCIE + PCIE.VLATCH.off + 4]

/-- The evaluation of an index event (R98, R101, R102, R104). -/
def Dev.indexJudge (n : Fin 8) (d : Dev) : Dev :=
  let pg := pgPOS n
  let p := d.pos[n]
  let m := d.get pg POS.COUNT_MOD
  let ip := d.get pg POS.INDEX_POS
  let e := if p.last = -1 then (((ip : Int) + d.getI pg POS.CFG_IDX_NEG_OFS) % (m : Int)).toNat else ip
  let o := d.get pg POS.TURN_POS
  let dl := indexDelta o e m
  let isMatch := decide (dl.natAbs ≤ d.get pg POS.CFG_IDX_TOL)
  let d := (d.put pg POS.IDX_OBS o).put pg POS.IDX_EXP e
  let d := (List.finRange 4).foldl (fun (d : Dev) (k : Fin 4) =>
    if d.enabled (pgEMU k) && d.get (pgEMU k) EMU.CFG_SRC == n.val
    then { d with emu := vmod d.emu k (fun x => { x with zArm := true }) } else d) d
  if p.illT = d.time + 1 then d.put pg POS.IDX_STAT_SUSPECT 1
  else
    let d := (d.put pg POS.IDX_STAT_SUSPECT 0).putB pg POS.IDX_STAT_MATCH isMatch
    if !d.flag pg POS.ST_REFERENCED then
      let d := d.posAdd pg (-dl)
      ((d.put pg POS.ST_REFERENCED 1).posValidUpd pg).posAngleUpd pg
    else
      let pol := d.get pg POS.CFG_IDX_POLICY
      if isMatch then (if pol = 2 then d.put pg POS.ST_IDX_PENDING 0 else d)
      else
        let d := (d.incSat pg POS.IDX_STAT_MISS_CNT).irq pg POS.IRQ_IDX_MISMATCH
        let correct := fun (d : Dev) => ((d.posAdd pg (-dl)).posAngleUpd pg).irq pg POS.IRQ_IDX_CORRECTED
        if pol = 0 then d
        else if pol = 1 then correct d
        else if pol = 2 then
          (if d.flag pg POS.ST_IDX_PENDING then (correct d).put pg POS.ST_IDX_PENDING 0
           else d.put pg POS.ST_IDX_PENDING 1)
        else
          let d := (d.put pg POS.ST_POS_FAULT 1).posValidUpd pg
          (d.irq pg POS.IRQ_POS_FAULT).err pg Err.POS_INDEX_FAULT

/-- Evaluate an index event of this TCLK, and keep the words it may change. With IDX_GATE = 1 it counts only while A and B
are both 1 in the same sample (R101). -/
def Dev.indexTake (n : Fin 8) (d : Dev) : Dev :=
  let pg := pgPOS n
  let p := d.pos[n]
  if d.flag pg POS.CFG_IDX_GATE && !(p.a && p.b) then d
  else (d.modPos n (fun p => { p with idx := some (d.time, (indexWords pg).map (fun a => (a, d.reg a))) })).indexJudge n

/-- Something of this TCLK that the index event of the same TCLK is evaluated after (R104): a count, an illegal transition
or a SET_COUNT. An index event already taken is taken again. -/
def Dev.beforeIndex (n : Fin 8) (f : Dev → Dev) (d : Dev) : Dev :=
  match (d.pos[n]).idx with
  | none => f d
  | some (t, l) =>
    if t ≠ d.time then f d
    else (f (l.foldl (fun (d : Dev) w => d.setReg w.1 w.2) d)).indexTake n

/-- SPEED of a window (R105). -/
def posWindowSpeed (net : Int) (pp m win : Nat) : Int :=
  if m * win = 0 then 0 else satInt 32 (roundDiv (net * (pp * 4096 * 400000000 : Nat)) (m * win : Nat))

/-- What an ended window gives (R105, R106): QUAL and SPEED from its counts and what stood before it. -/
def Dev.windowResult (d : Dev) (pg : Nat) (c : WinCount) (qual : Nat) (speed : Int) : Nat × Int :=
  let counts := c.up || c.down
  let fromN := posWindowSpeed c.net (d.get pg POS.CFG_PP) (d.get pg POS.COUNT_MOD) (d.get pg POS.SPD_WIN)
  if c.bad then (5, speed)
  else if c.up && c.down then (4, fromN)
  else if counts && (qual == 0 || qual == 2) then (3, fromN)
  else if !counts && decide (d.get pg POS.SPD_STILL ≤ c.edgeless + 1) then (2, 0)
  else (1, fromN)

/-- Load the result of a window that ended in this TCLK, and give it to the estimators (R105 to R107, R125, R145). -/
def Dev.windowLoad (n : Fin 8) (e : WinEnd) (d : Dev) : Dev :=
  let pg := pgPOS n
  let bad := e.count.bad || d.flag pg POS.ST_HALL_INVALID || d.flag pg POS.ST_POS_FAULT
  let (q, v) := d.windowResult pg { e.count with bad := bad } e.qual e.speed
  let d := (d.putI pg POS.SPEED v).put pg POS.SPD_STAT_QUAL q
  let d := d.put pg POS.SPD_STAT_DIR (d.get pg POS.ST_DIR)
  let counts := e.count.up || e.count.down
  -- HALL_INVALID still stands in the next window's first TCLK
  let d := d.modPos n (fun x => { x with
    win := ⟨0, false, false, d.flag pg POS.ST_HALL_INVALID, if counts then 0 else e.count.edgeless + 1⟩
    winEnd := some { e with count := e.count } })
  let d := d.dropSamples n
  let d := if q = 1 ∨ q = 2 then d.sourceSpeed n v else d
  if q = 4 then d.onSource n (fun d k => d.reversedWindow k) else d

/-- Something of this TCLK that counts for the window that ends in it (R105): a WINDOW already taken is taken again. -/
def Dev.inWindow (n : Fin 8) (f : Dev → Dev) (d : Dev) : Dev :=
  match (d.pos[n]).winEnd with
  | none => f d
  | some e =>
    if e.t ≠ d.time then f d
    else
      let d := f (d.modPos n (fun p => { p with win := e.count }))
      d.windowLoad n { e with count := (d.pos[n]).win }

/-- The probes that latched source `s` in this TCLK hold its values at the end of it (R104, R108). -/
def Dev.probeRefresh (d : Dev) (s : Nat) : Dev :=
  (List.finRange 8).foldl (fun (d : Dev) (j : Fin 8) =>
    let p := d.pos[j]
    let pg := pgPOS j
    if p.prbT = d.time + 1 ∧ p.prbTook ∧ d.get pg POS.PRB_CFG_SRC = s then
      let cnt := if s < 8 then d.get (pgPOS s) POS.COUNT else 0
      let d := (d.put pg (if p.prbRise then POS.PRB_R_ANGLE else POS.PRB_F_ANGLE) (d.srcAngle s)).put pg
        (if p.prbRise then POS.PRB_R_COUNT else POS.PRB_F_COUNT) cnt
      d.putB pg (if p.prbRise then POS.PRB_STAT_R_SRC_OK else POS.PRB_STAT_F_SRC_OK) (d.srcValid s)
    else d) d

/-- A change of interface `n` in this TCLK that comes before its index event, counts for the window that ends, and shows
in the probes (R104, R105, R108). -/
def Dev.posChange (n : Fin 8) (f : Dev → Dev) (d : Dev) : Dev := (d.inWindow n (Dev.beforeIndex n f)).probeRefresh n

/-- A filtered sample of A and B in quadrature mode (R93 to R95). A TCLK holds one filtered sample. -/
def Dev.quadratureSample (n : Fin 8) (a b : Bool) (d : Dev) : Dev :=
  let pg := pgPOS n
  let p := d.pos[n]
  if p.sampT = d.time + 1 then d
  else
    let q := d.posSample n a b p.z
    let d := d.modPos n (fun _ => q)
    if !d.enabled pg || d.get pg POS.CFG_MODE != 0 || (q.a == p.a && q.b == p.b) then d
    else d.posChange n (Dev.quadratureStep n p.a p.b)

/-- A filtered sample of U, V and W in Hall mode (R93, R97). -/
def Dev.hallSample (n : Fin 8) (u v w : Bool) (d : Dev) : Dev :=
  let pg := pgPOS n
  let p := d.pos[n]
  if p.sampT = d.time + 1 then d
  else
    let q := d.posSample n u v w
    let d := d.modPos n (fun _ => q)
    if !d.enabled pg || d.get pg POS.CFG_MODE != 1 || (q.a == p.a && q.b == p.b && q.z == p.z) then d
    else d.posChange n (Dev.hallStep n (hallSector p.a p.b p.z))

/-- A rising edge of filtered Z (R93, R98, R101, R102, R104): Z has fallen and risen since the last one. -/
def Dev.indexEvent (n : Fin 8) (d : Dev) : Dev :=
  let pg := pgPOS n
  let f := d.get pg POS.CFG_FILT
  if !d.filtered (d.pos[n]).zT (2 * max 1 f) then d
  else
    let d := d.modPos n (fun p => { p with zT := d.time + 1 })
    if !d.enabled pg || d.get pg POS.CFG_MODE != 0 then d
    else (d.inWindow n (Dev.indexTake n)).probeRefresh n

/-- A host write to SET_COUNT (R98, R99). -/
def Dev.setCount (n : Fin 8) (v : Word) (d : Dev) : Dev :=
  let pg := pgPOS n
  d.posChange n (fun d =>
    let d := d.put pg POS.COUNT v.toNat
    let p := d.pos[n]
    -- a count of the same TCLK is applied to the written value (R104)
    let again := fun (d : Dev) => if p.cntT = d.time + 1 then d.posAdd pg p.last else d
    if d.get pg POS.CFG_MODE = 0 then
      let m := d.get pg POS.COUNT_MOD
      let d := again (d.put pg POS.TURN_POS (signed 32 v.toNat % (m : Int)).toNat)
      ((d.put pg POS.ST_REFERENCED 1).posValidUpd pg).posAngleUpd pg
    else if p.cntT = d.time + 1 then d.putI pg POS.COUNT (d.getI pg POS.COUNT + p.last) else d)

/-- The end of a speed window (R105 to R107), in its last TCLK. -/
def Dev.posWindow (n : Fin 8) (d : Dev) : Dev :=
  let pg := pgPOS n
  let p := d.pos[n]
  let win := d.get pg POS.SPD_WIN
  if !d.enabled pg || decide (d.time + 1 < p.winStart + win) then d
  else
    let e : WinEnd := ⟨d.time, p.win, d.get pg POS.SPD_STAT_QUAL, d.getI pg POS.SPEED⟩
    let d := (d.incWrap pg POS.SPD_STAT_WIN_SEQ).modPos n (fun x => { x with winStart := x.winStart + win })
    (d.windowLoad n e).irq pg POS.IRQ_WINDOW

/-- SNAP.TAKE (R107). -/
def Dev.snapTake (n : Fin 8) (d : Dev) : Dev :=
  let pg := pgPOS n
  let d := (d.put pg POS.SNAP_COUNT (d.get pg POS.COUNT)).put pg POS.SNAP_ANGLE (d.get pg POS.ANGLE)
  (d.put pg POS.SNAP_SPEED (d.get pg POS.SPEED)).put pg POS.SNAP_SPD_STAT (d.get pg POS.SPD_STAT)

/-! ### Probes -/

/-- A filtered probe edge (R93, R108, R109). -/
def Dev.probeEdge (n : Fin 8) (rising : Bool) (d : Dev) : Dev :=
  let pg := pgPOS n
  if !d.filtered (d.pos[n]).prbT (d.get pg POS.PRB_CFG_FILT) then d
  else
    let edge := d.get pg POS.PRB_CFG_EDGE
    let chosen := if rising then edge == 1 || edge == 3 else edge == 2 || edge == 3
    let valid := if rising then POS.PRB_STAT_R_VALID else POS.PRB_STAT_F_VALID
    let full := d.flag pg valid
    let took := chosen && !(full && !d.flag pg POS.PRB_CFG_OVW)
    let d := d.modPos n (fun p => { p with prbT := d.time + 1, prbRise := rising, prbTook := took })
    let d := if chosen && full then
        ((d.put pg (if rising then POS.PRB_STAT_R_OVR else POS.PRB_STAT_F_OVR) 1).irq pg POS.IRQ_PRB_OVR).err pg
          Err.PRB_OVERRUN
      else d
    if !took then d
    else
      let t := unsig 32 ((d.time : Int) - (2 + d.get pg POS.PRB_CFG_FILT))
      let d := d.put pg (if rising then POS.PRB_R_TIME else POS.PRB_F_TIME) t
      let d := d.probeRefresh (d.get pg POS.PRB_CFG_SRC)
      (d.put pg valid 1).irq pg (if rising then POS.IRQ_PRB_RISE else POS.IRQ_PRB_FALL)

/-- The host owns probe `n`: a stage record of the admitted set names it (R53, R57, R92; log entry 12). -/
def Dev.hostOwnsProbe (d : Dev) (n : Nat) : Bool :=
  match d.adm with
  | none => false
  | some s => s.stages.any (fun r => r.res.contains (0x09 * 1024 + n))

/-- A host write to PRB_CFG (R92, R109). -/
def Dev.prbCfgWrite (n : Fin 8) (v : Word) (d : Dev) : Dev :=
  let pg := pgPOS n
  if !d.hostOwnsProbe n then d.err pg Err.PRB_NOT_OWNED
  else
    let d := d.setReg (pg + 0x80) (BitVec.ofNat 32 (v.toNat / 2 ^ 17 * 2 ^ 17))
    (d.put pg POS.PRB_STAT_F_VALID 0).put pg POS.PRB_STAT_R_VALID 0

/-- A host write to PRB_STAT: 1 clears VALID and OVR bits (R92, R109). -/
def Dev.prbRearm (n : Fin 8) (v : Word) (d : Dev) : Dev :=
  let pg := pgPOS n
  if !d.hostOwnsProbe n then d.err pg Err.PRB_NOT_OWNED
  else d.setReg (pg + 0x9C) (d.reg (pg + 0x9C) &&& ~~~(v &&& 0xF))

/-- ILL_CNT.CLR and IDX_STAT.CLR (R122). -/
def Dev.illCntClr (n : Fin 8) (d : Dev) : Dev := d.put (pgPOS n) POS.ILL_CNT_COUNT 0
def Dev.idxStatClr (n : Fin 8) (d : Dev) : Dev := d.put (pgPOS n) POS.IDX_STAT_MISS_CNT 0

/-- The enable check of a POS page (R121); `true` refuses. -/
def Dev.posCfgBad (d : Dev) (pg : Nat) : Bool :=
  let mode := d.get pg POS.CFG_MODE
  let m := d.get pg POS.COUNT_MOD
  let pp := d.get pg POS.CFG_PP
  let w := d.get pg POS.SPD_WIN
  decide (2 ≤ mode) || decide (pp = 0) || decide (m ≤ d.get pg POS.INDEX_POS) || decide (w < 4000)
  || decide (40000000 < w) || decide (d.get pg POS.SPD_STILL = 0) || (mode == 0 && decide (m < 4))
  || (mode == 1 && (m != 6 || pp != 1))

/-- The enable of a POS page takes effect (R97, R103, R106, R122). -/
def Dev.posEnable (d : Dev) (n : Fin 8) : Dev :=
  let pg := pgPOS n
  if d.posCfgBad pg then d.err pg Err.POS_CFG
  else
    let p := d.pos[n]
    let d := d.put pg COM.ST_ENABLED 1
    let d := ((d.put pg POS.ILL_CNT_COUNT 0).setReg (pg + 0x7C) 0).put pg POS.IDX_OBS 0
    let d := (d.put pg POS.IDX_EXP 0).put pg POS.SPEED 0
    let d := (((d.put pg POS.SPD_STAT 0).put pg POS.SNAP_COUNT 0).put pg POS.SNAP_ANGLE 0)
    let d := (d.put pg POS.SNAP_SPEED 0).put pg POS.SNAP_SPD_STAT 0
    let d := ((d.put pg POS.ST_DIR 0).put pg POS.ST_IDX_PENDING 0).put pg POS.ST_POS_FAULT 0
    let d := (d.put pg POS.ST_REFERENCED 0).put pg POS.ST_HALL_INVALID 0
    let d := d.modPos n (fun p =>
      { p with last := 0, cntT := 0, illT := 0, idx := none, winEnd := none, winStart := d.time
               win := ⟨0, false, false, false, d.get pg POS.SPD_STILL⟩ })
    if d.get pg POS.CFG_MODE = 1 then
      match hallSector p.a p.b p.z with
      | none => d.hallInvalid n
      | some k =>
        ((d.put pg POS.ST_REFERENCED 1).posValidUpd pg).put pg POS.ANGLE (hallCentre (d.get pg POS.ANGLE_OFS) k)
    else (d.posValidUpd pg).posAngleUpd pg

/-! ### Resolvers -/

/-- f_BW in Hz (R112). -/
def rsvBw (bw : Nat) : Nat := 250 * 2 ^ bw

def Dev.rsvCfgBad (d : Dev) (pg : Nat) : Bool :=
  let div := d.get pg RSV.CFG_EXC_DIV
  let er := d.get pg RSV.CFG_E_RATIO
  decide (div < 64) || decide (780 < div) || decide (er = 0) || decide (128 * div ≤ d.get pg RSV.EXC_DELAY)
  -- f_exc = 1.5625 MHz ÷ EXC_DIV below 4 × f_BW
  || decide (1562500 < 4 * rsvBw (d.get pg RSV.CFG_BW) * div)

def Dev.rsvEnable (d : Dev) (n : Fin 4) : Dev :=
  let pg := pgRSV n
  if d.rsvCfgBad pg then d.err pg Err.RSV_CFG
  else
    let d := (d.put pg COM.ST_ENABLED 1).put pg RSV.ST_POS_VALID 0
    let d := ((d.put pg RSV.ST_LOT 0).put pg RSV.ST_DOS 0).put pg RSV.ST_LOS 0
    let d := ((d.put pg RSV.ANGLE 0).put pg RSV.MECH 0).put pg RSV.SPEED 0
    let d := (d.put pg RSV.AMP 0).put pg RSV.TRK_ERR 0
    { d with rsv := d.rsv.set n ⟨d.time, none, none, 0, 0, false, 0, 0, 0, 0⟩ }

/-- Publish MECH, ANGLE and SPEED of a resolver (R112, R113). -/
def Dev.rsvPublish (d : Dev) (n : Fin 4) : Dev :=
  let pg := pgRSV n
  let r := d.rsv[n]
  let er := d.get pg RSV.CFG_E_RATIO
  let phi := r.phi / 2 ^ 16 % 2 ^ 32
  let d := (d.put pg RSV.MECH phi).put pg RSV.ANGLE ((d.get pg RSV.ANGLE_OFS + er * phi) % 2 ^ 32)
  d.putI pg RSV.SPEED (if d.flag pg RSV.ST_LOS then 0 else r.speed * er)

/-- φ advances at the loop's speed between samples (R112). -/
def Dev.rsvAdvance (d : Dev) (n : Fin 4) (dt : Nat) : Dev :=
  let pg := pgRSV n
  if !d.enabled pg || !(d.rsv[n]).started || d.flag pg RSV.ST_LOS || dt == 0 || !d.tclkRuns then d
  else ({ d with rsv := vmod d.rsv n (fun r =>
    { r with phi := ((r.phi + estInc r.speed * dt) % turn48).toNat }) } : Dev).rsvPublish n

/-- `n` TCLK pass for the whole device: `elapse`, and the resolver angles (R112). -/
def Dev.advance (d : Dev) (n : Nat) : Dev :=
  (List.finRange 4).foldl (fun (d : Dev) (r : Fin 4) => d.rsvAdvance r n) (d.elapse n)

/-- The tracking error in units of 2^-16 turn: (s × cos φ − c × sin φ) ÷ A, taken as an angle in radians and rounded to
the nearest unit (R112; DEDUCED, log entry 13). -/
def rsvError (s c : Int) (phi : Nat) : Int :=
  let n := s * cosTurn phi - c * sinTurn phi
  -- A in units of 2^-13 × 2^-20
  let a := bigSqrt ((s * s + c * c).toNat * 2 ^ 40)
  if a = 0 then 0 else roundDiv (n * 2 ^ 36) (a * fyTau)

/-- A sampling instant of resolver `n` in this TCLK (R111): EXC_DELAY after a peak of its excitation, and whether the peak
was negative. The first positive peak falls a quarter of an excitation period, 256 × EXC_DIV TCLK, after the enable. -/
def Dev.rsvInstant (d : Dev) (n t : Nat) : Option Bool :=
  let pg := pgRSV n
  let h := d.rsv[fin4 n]
  let half := 128 * d.get pg RSV.CFG_EXC_DIV
  let first := h.enT + half / 2 + d.get pg RSV.EXC_DELAY
  if d.enabled pg ∧ 0 < half ∧ first ≤ t ∧ (t - first) % half = 0 then some (decide ((t - first) / half % 2 = 1)) else none

/-- A result reaches the sample latch of a resolver interface (R111). -/
def Dev.rsvResult (d : Dev) (n : Nat) (sine : Bool) (tR code : Nat) : Dev :=
  match d.rsvInstant n tR with
  | none => d
  | some neg => { d with rsv := vmod d.rsv (fin4 n) (fun h =>
      if sine then { h with sinC := some (code, neg) } else { h with cosC := some (code, neg) }) }

/-- RSVn_EXC (R110): high in the first part, the duty, of each carrier period of 256 TCLK from the enable on. The duty of a
carrier is that of the sine at its start. -/
def Dev.rsvExc (d : Dev) (n : Fin 4) : Bool :=
  let pg := pgRSV n
  let t := d.time - (d.rsv[n]).enT
  let div := d.get pg RSV.CFG_EXC_DIV
  let s := sinTurn (turn48 * (t / 256 % div) / div)
  let duty : Int := 256 * (2 ^ 80 + (d.get pg RSV.EXC_AMP : Nat) * s)
  let place : Int := (t % 256 : Nat) * 2 ^ 81
  d.flag pg COM.ST_ENABLED && decide (place < duty)

/-- An INJ entry of a resolver is in use: kind 1 sine, 2 cosine (R209). -/
def Dev.rsvEntry (d : Dev) (n kind : Nat) : Bool :=
  (List.range 128).any (fun q =>
    let pg := pgADCG (q / 32)
    d.flagAt pg ADCG.INJ_VALID (q % 32) && d.getAt pg ADCG.INJ_KIND (q % 32) == kind
    && d.getAt pg ADCG.INJ_SRC (q % 32) == n)

/-- LOS sets (R113). -/
def Dev.setLos (d : Dev) (pg : Nat) : Dev :=
  if d.flag pg RSV.ST_LOS then d else ((d.put pg RSV.ST_LOS 1).irq pg RSV.IRQ_LOS).err pg Err.RSV_LOS

/-- A demodulated sine and cosine pair (R111 to R113). The amplitude is √(s² + c²) in Q0.16: its rounding is not
stated, nor the reading beyond the format (log entry 13). -/
def Dev.resolverPair (d : Dev) (n : Fin 4) (sn cs : Nat) (negPeak : Bool) : Dev :=
  let pg := pgRSV n
  let sg : Int := if negPeak then -1 else 1
  let s : Int := sg * ((sn : Int) - 0x2000)
  let c : Int := sg * ((cs : Int) - 0x2000)
  let sq := 64 * (s * s + c * c).toNat
  let rt := isqrt sq
  let (f, d) := d.free 1
  let amp := if rt * rt = sq then rt else rt + f
  let (fa, d) := d.free 16
  let d := d.put pg RSV.AMP (if amp < 65536 then amp else fa)
  let r := d.rsv[n]
  let losTh := d.get pg RSV.FLT_TH_LOS_TH
  let wasLos := d.flag pg RSV.ST_LOS
  let below := decide (amp < losTh)
  -- LOS
  let losOk := if below then 0 else r.losOk + 1
  let leave := wasLos && !below && decide (16 ≤ losOk)
  let d := if below then d.setLos pg else d
  let setLot := fun (d : Dev) =>
    if d.flag pg RSV.ST_LOT then d else ((d.put pg RSV.ST_LOT 1).irq pg RSV.IRQ_LOT).err pg Err.RSV_LOT
  let d := if leave then setLot (d.put pg RSV.ST_LOS 0) else d
  -- DOS
  let inBand := decide (d.get pg RSV.AMP_TH_AMP_LOW ≤ amp ∧ amp ≤ d.get pg RSV.AMP_TH_AMP_HIGH)
  let dosBad := if inBand then 0 else r.dosBad + 1
  let dosOk := if inBand then r.dosOk + 1 else 0
  let d := if decide (16 ≤ dosBad) && !d.flag pg RSV.ST_DOS
    then ((d.put pg RSV.ST_DOS 1).irq pg RSV.IRQ_DOS).err pg Err.RSV_DOS else d
  let d := if decide (16 ≤ dosOk) then d.put pg RSV.ST_DOS 0 else d
  -- tracking loop
  let bw := d.get pg RSV.CFG_BW
  let div := d.get pg RSV.CFG_EXC_DIV
  let e := rsvError s c r.phi
  let frozen := d.flag pg RSV.ST_LOS
  let phi := if leave then atan2Turn s c
    else if frozen then r.phi else Config.rsvPhi bw div r.phi r.speed e % turn48
  let speed := if leave then 0 else if frozen then r.speed else Config.rsvSpeed bw div r.phi r.speed e
  let d := d.putI pg RSV.TRK_ERR e
  let lotTh := d.get pg RSV.FLT_TH_LOT_TH
  let lotOk := if e.natAbs ≤ lotTh / 2 then r.lotOk + 1 else 0
  let d := if decide (lotTh < e.natAbs) then setLot d
    else if decide (16 ≤ lotOk) && !leave then d.put pg RSV.ST_LOT 0 else d
  let d := { d with rsv := vmod d.rsv n (fun h =>
    { h with phi, speed, started := true, losOk, dosBad, dosOk, lotOk }) }
  let d := d.putB pg RSV.ST_POS_VALID
    (!d.flag pg RSV.ST_LOS && !d.flag pg RSV.ST_DOS && !d.flag pg RSV.ST_LOT)
  let d := d.rsvPublish n
  let d := (d.sourceAngle (8 + n) (d.get pg RSV.ANGLE) 0).probeRefresh (8 + n)
  d.sourceSpeed (8 + n) (d.getI pg RSV.SPEED)

/-- RESOLVER_SAMPLE: the sine and the cosine of a sampling instant have come from the converters; while the interface has
no valid entries it takes no sample, and a sampling instant counts as a loss of signal (R228). -/
def Dev.resolverSample (n : Fin 4) (d : Dev) : Dev :=
  let pg := pgRSV n
  let h := d.rsv[n]
  if !d.enabled pg then d
  else if !d.rsvEntry n 1 || !d.rsvEntry n 2 then
    (if (d.rsvInstant n d.time).isNone then d
     else (((({ d with rsv := vmod d.rsv n (fun h => { h with losOk := 0, sinC := none, cosC := none }) } : Dev).setLos
       pg).put pg RSV.ST_POS_VALID 0).rsvPublish n))
  else match h.sinC, h.cosC with
  | some (sn, neg), some (cs, _) =>
    ({ d with rsv := vmod d.rsv n (fun h => { h with sinC := none, cosC := none }) } : Dev).resolverPair n sn cs neg
  | _, _ => d

/-! ### SSI -/

def Dev.ssiCfgBad (d : Dev) (pg : Nat) : Bool :=
  let b := d.get pg SSI.CFG_BITS
  let st := d.get pg SSI.CFG_ST_BITS
  let dv := d.get pg SSI.CLK_DIV
  decide (b < 8) || decide (32 < b) || decide (st = 0) || decide (b < st) || decide (dv < 20) || decide (2000 < dv)
  || (d.get pg SSI.REQ_SRC == 0 && decide (d.get pg SSI.REQ_PERIOD < 2 * dv * (b + 1) + d.get pg SSI.TM_TM_MIN))

def Dev.ssiEnable (d : Dev) (n : Fin 4) : Dev :=
  let pg := pgSSI n
  if d.ssiCfgBad pg then d.err pg Err.SSI_CFG
  else
    let d := (d.put pg COM.ST_ENABLED 1).put pg SSI.ST_POS_VALID 0
    let d := ((d.put pg SSI.RAW 0).put pg SSI.MT 0).put pg SSI.ANGLE 0
    let d := ((d.put pg SSI.SPEED 0).put pg SSI.TIME 0).put pg SSI.ERR_CNT 0
    { d with ssi := d.ssi.set n ⟨0, false, 0, 0, 0, false, 0, d.time⟩ }

/-- A rejected or abandoned frame; the third in a row makes POS_VALID 0 (R116). -/
def Dev.ssiBad (d : Dev) (n : Fin 4) : Dev :=
  let b := (d.ssi[n]).bad + 1
  let d := { d with ssi := vmod d.ssi n (fun x => { x with bad := b }) }
  if 3 ≤ b then d.put (pgSSI n) SSI.ST_POS_VALID 0 else d

/-- A frame request (R114): `dat` is the level of SSIn_DAT before the first falling edge. -/
def Dev.ssiRequest (n : Fin 4) (dat : Bool) (d : Dev) : Dev :=
  let pg := pgSSI n
  let x := d.ssi[n]
  let st := d.get pg SSI.REQ_STAGE
  let due := if d.get pg SSI.REQ_SRC = 0 then decide (x.nextReq ≤ d.time)
    else d.get pg SSI.REQ_SRC == 1 && ((d.stg[st]?).map (fun s => s.zeroT == d.time + 1)).getD false
  if !d.enabled pg || !due then d
  else
    let d := if d.get pg SSI.REQ_SRC = 0
      then { d with ssi := vmod d.ssi n (fun x => { x with nextReq := x.nextReq + d.get pg SSI.REQ_PERIOD }) } else d
    if x.inFrame || decide (d.time < x.busyUntil) then d.incSat pg SSI.ERR_CNT_SKIP_CNT
    else if !dat then
      (((d.incSat pg SSI.ERR_CNT_START_CNT).irq pg SSI.IRQ_START).err pg Err.SSI_START).ssiBad n
    else { d with ssi := vmod d.ssi n (fun x => { x with inFrame := true, start := d.time }) }

/-- Gray code to binary on `n` bits (R115). -/
def grayToBin : Nat → Nat → Nat
  | 0, g => g
  | n + 1, g => g ^^^ grayToBin n (g / 2)

/-- The TCLK in which a frame that started at `start` is complete (R114). -/
def Dev.ssiEnd (d : Dev) (pg start : Nat) : Nat := start + (2 * d.get pg SSI.CFG_BITS + 1) * d.get pg SSI.CLK_DIV

/-- The last data bit is sampled DELAY TCLK after the falling edge that ends it (R114). -/
def Dev.ssiLast (d : Dev) (pg start : Nat) : Nat :=
  start + 2 * d.get pg SSI.CFG_BITS * d.get pg SSI.CLK_DIV + d.get pg SSI.CLK_DELAY

/-- SSIn_CLK (R114): high at rest; in a frame it falls at the even half periods and rises at the odd ones, up to the last
rise after 2 × BITS + 1 half periods. -/
def Dev.ssiClk (d : Dev) (n : Fin 4) : Bool :=
  let pg := pgSSI n
  let x := d.ssi[n]
  let h := (d.time - x.start) / d.get pg SSI.CLK_DIV
  !(x.inFrame && decide (d.time < d.ssiEnd pg x.start)) || h % 2 == 1

/-- SSIn_DAT has not returned high within TM_MAX of the frame's end (R114): the value is discarded. -/
def Dev.ssiLate (n : Fin 4) (d : Dev) : Dev :=
  let pg := pgSSI n
  let fin := d.ssiEnd pg (d.ssi[n]).start
  let d := { d with ssi := vmod d.ssi n (fun x =>
    { x with inFrame := false, busyUntil := fin + d.get pg SSI.TM_TM_MIN }) }
  (((d.incSat pg SSI.ERR_CNT_TIMEOUT_CNT).irq pg SSI.IRQ_TIMEOUT).err pg Err.SSI_TIMEOUT).ssiBad n

/-- A complete frame (R114 to R116): its last bit is sampled, and SSIn_DAT is high again within TM_MAX. -/
def Dev.ssiFrame (n : Fin 4) (w : Word) (d : Dev) : Dev :=
  let pg := pgSSI n
  let x := d.ssi[n]
  let fin := d.ssiEnd pg x.start
  if !d.enabled pg || !x.inFrame || decide (d.time < max fin (d.ssiLast pg x.start)) then d
  else if fin + d.get pg SSI.TM_TM_MAX < d.time then d.ssiLate n
  else
    let bits := d.get pg SSI.CFG_BITS
    let stb := d.get pg SSI.CFG_ST_BITS
    let raw := w.toNat % 2 ^ bits
    let raw := if d.flag pg SSI.CFG_GRAY then grayToBin 32 raw else raw
    let st := raw % 2 ^ stb
    let d := { d with ssi := vmod d.ssi n (fun x =>
      { x with inFrame := false, busyUntil := fin + d.get pg SSI.TM_TM_MIN }) }
    let dst := signed stb (unsig stb ((st : Int) - x.lastSt))
    if x.haveLast && decide (x.bad < 3) && decide (d.get pg SSI.JUMP_MAX < dst.natAbs) then
      (((d.incSat pg SSI.ERR_CNT_JUMP_CNT).irq pg SSI.IRQ_JUMP).errPartner pg Err.SSI_JUMP n 0 (natBytes 4 w.toNat)).ssiBad n
    else
      let pp := d.get pg SSI.CFG_PP
      let ang := (d.get pg SSI.ANGLE_OFS + st * pp * 2 ^ 32 / 2 ^ stb) % 2 ^ 32
      let dT := unsig 32 ((x.start : Int) - x.lastTime)
      let v := roundDiv (dst * (pp * 4096 * 400000000 : Nat)) (2 ^ stb * dT : Nat)
      let (fv, d) := d.free 32
      let v := if satInt 32 v = v then v else signed 32 fv
      let d := (d.put pg SSI.RAW raw).put pg SSI.MT (raw / 2 ^ stb)
      let d := (d.put pg SSI.ANGLE ang).put pg SSI.TIME (x.start % 2 ^ 32)
      let d := if x.haveLast then d.putI pg SSI.SPEED v else d
      let d := { d with ssi := vmod d.ssi n (fun y =>
        { y with bad := 0, lastSt := st, haveLast := true, lastTime := x.start }) }
      let d := (d.put pg SSI.ST_POS_VALID 1).irq pg SSI.IRQ_FRAME
      let d := (d.sourceAngle (12 + n) ang (d.time - x.start)).probeRefresh (12 + n)
      if x.haveLast then d.sourceSpeed (12 + n) (d.getI pg SSI.SPEED) else d

/-- SSI_TIMEOUT: TM_MAX has passed since the frame's end (R114). -/
def Dev.ssiTimeout (n : Fin 4) (d : Dev) : Dev :=
  let pg := pgSSI n
  let x := d.ssi[n]
  if !d.enabled pg || !x.inFrame || decide (d.time < d.ssiEnd pg x.start + d.get pg SSI.TM_TM_MAX) then d else d.ssiLate n

/-! ### Emulation enable -/

def Dev.emuEnable (d : Dev) (m : Fin 4) : Dev :=
  let pg := pgEMU m
  let nn := d.get pg EMU.RATIO_N
  let mm := d.get pg EMU.RATIO_M
  if mm = 0 ∨ nn = 0 ∨ mm < nn ∨ d.get pg EMU.CFG_MIN_GAP = 0 then d.err pg Err.EMU_CFG
  else
    let d := ((d.put pg COM.ST_ENABLED 1).put pg EMU.ST_OVERFLOW 0).put pg EMU.ST_DIR 0
    let d := (d.put pg EMU.OUT_COUNT 0).put pg EMU.BACKLOG 0
    { d with emu := d.emu.set m ⟨0, 0, false, false, false, false⟩ }

end Sys2Proof.Machine
end

