-- ==== Sys2Proof/Machine/Output.lean ====
section
/-! DEFINITION. The output side of the legs: precedence (R40), trip states (R181 to R190), dead time and pair sequences
(R170 to R173) and the shoot-through interlock (R191 to R193). Gate times are kept at the leg generator, in taps of
1/32 TCLK; the 5 TCLK to the pin (R174) are not shown. -/

namespace Sys2Proof.Machine

def fin64 (n : Nat) : Fin 64 := Fin.ofNat 64 n

/-- Hidden state of leg `n`. -/
def Dev.lh (d : Dev) (n : Nat) : LegH := d.leg[fin64 n]
def Dev.modLeg (d : Dev) (n : Nat) (f : LegH → LegH) : Dev := { d with leg := vmod d.leg (fin64 n) f }

/-- Hidden state of stage `k`. -/
def Dev.sh (d : Dev) (k : Nat) : StgH := d.stg[fin16 k]
def Dev.modStg (d : Dev) (k : Nat) (f : StgH → StgH) : Dev := { d with stg := vmod d.stg (fin16 k) f }

/-! ### Capture trigger (R527, R528) -/

/-- Record size of the recorder in bytes (R525). -/
def Dev.capRec (d : Dev) : Nat :=
  if d.get pgCAP CAP.CFG_MODE = 0 then
    let m := d.get pgCAP CAP.CFG_RAW_MASK
    let n := ((List.range 24).filter (fun i => bitOf m i)).length
    4 * ((n + 7) / 8)
  else 4 + 4 * (d.get pgCAP CAP.DEC_N_DEC + 1)

/-- Records that the buffer holds (R525). -/
def Dev.capSlots (d : Dev) : Nat := if d.capRec = 0 then 0 else d.get pgCAP CAP.BUF_SIZE / d.capRec

/-- Record `n` is the trigger record (R527). -/
def Dev.capTrigger (d : Dev) (n : Nat) : Dev :=
  let d := { d with cap := { d.cap with trigRec := some n } }
  (d.put pgCAP CAP.TRIG_OFS (n % d.capSlots * d.capRec)).putB pgCAP CAP.ST_PRE_SHORT (decide (n < d.get pgCAP CAP.PRE_REC))

/-- Trigger source `bit` of the capture recorder fires. -/
def Dev.capFire (d : Dev) (bit : Nat) : Dev :=
  if !bitOf (d.get pgCAP CAP.TRIG_TRIG_EN) bit then d
  else if d.get pgCAP CAP.ST_STATE = 1 ∧ d.cap.armT < d.time then
    let d := (d.put pgCAP CAP.ST_STATE 2).put pgCAP CAP.TRIG_CAUSE (2 ^ bit)
    let d := (d.put pgCAP CAP.TRIG_TIME_LO (d.time % 2 ^ 32)).put pgCAP CAP.TRIG_TIME_HI (d.time / 2 ^ 32)
    let d := ({ d with cap := { d.cap with trigT := d.time, trigRec := none } } : Dev).irq pgCAP CAP.IRQ_TRIGGERED
    -- the record of this TCLK may stand already
    if d.cap.last == some d.time then d.capTrigger (d.cap.count - 1) else d
  else if d.get pgCAP CAP.ST_STATE = 2 ∧ d.cap.trigT = d.time then
    d.put pgCAP CAP.TRIG_CAUSE (setBit (d.get pgCAP CAP.TRIG_CAUSE) bit true)
  else d

/-! ### Legs and pairs -/

def Dev.paired (d : Dev) (n : Nat) : Bool := d.flag (pgLEG n) LEG.BIND_PAIRED
def Dev.bound (d : Dev) (n : Nat) : Bool := d.flag (pgLEG n) LEG.BIND_BOUND
def Dev.legStage (d : Dev) (n : Nat) : Nat := d.get (pgLEG n) LEG.BIND_STAGE

/-- The leg whose timing governs leg `n`: the master 2k of a pair (R30, R173). -/
def Dev.master (d : Dev) (n : Nat) : Nat := if d.paired n then n / 2 * 2 else n

/-- The odd leg of a pair, which has no timing of its own (R173). -/
def Dev.slave (d : Dev) (n : Nat) : Bool := d.paired n && n % 2 == 1

/-- The leg's enable has taken effect, for a pair its master's (R174). A freeze of the LEG page does not take it back
(R16). -/
def Dev.legOn (d : Dev) (n : Nat) : Bool := d.flag (pgLEG (d.master n)) COM.ST_ENABLED

def Dev.running (d : Dev) (k : Nat) : Bool := d.flag (pgSTG k) STG.ST_RUNNING
def Dev.frozen (d : Dev) (k : Nat) : Bool := d.flag (pgSTG k) COM.ST_FROZEN
def Dev.stgSet (d : Dev) (k : Nat) : Nat := d.get (pgSTG k) STG.ST_SET

/-- Legs bound to a stage. -/
def Dev.stageLegs (d : Dev) (k : Nat) : List Nat :=
  (List.range 64).filter (fun n => d.bound n && d.legStage n == k)

/-- The legs of a stage that have timing of their own: its two-level legs and the masters of its pairs. -/
def Dev.stageUnits (d : Dev) (k : Nat) : List Nat := (d.stageLegs k).filter (fun n => !d.slave n)

/-- The logical state of a gate. -/
def Dev.gate (d : Dev) (n : Nat) (high : Bool) : Bool :=
  d.flag (pgLEG n) (if high then LEG.LEVEL_GATE_H else LEG.LEVEL_GATE_L)

/-- The level of a gate output at its pin (R174): POL selects the active level, and an output that is off drives the
inactive one. -/
def Dev.gatePin (d : Dev) (n : Nat) (high : Bool) : Bool :=
  d.gate n high != d.flag (pgLEG n) (if high then LEG.CFG_POL_H else LEG.CFG_POL_L)

/-- The high gate of a leg changes: its turn-ons and the TCLK in which it is on are counted (R318, R339). -/
def LegH.noteHigh (h : LegH) (on : Bool) (t : Nat) : LegH :=
  if on then { h with nOn := h.nOn + 1, hSince := some t }
  else { h with hSum := h.hSum + (match h.hSince with | some s => t - s | none => 0), hSince := none }

/-- The commanded level changes: the TCLK in which it is H are counted (R318). -/
def LegH.noteCmd (h : LegH) (on : Bool) (t : Nat) : LegH :=
  if on then { h with cSince := some (h.cSince.getD t) }
  else { h with cSum := h.cSum + (match h.cSince with | some s => t - s | none => 0), cSince := none }

def Dev.setGate (d : Dev) (n : Nat) (high on : Bool) : Dev :=
  let was := d.gate n high
  let d := d.putB (pgLEG n) (if high then LEG.LEVEL_GATE_H else LEG.LEVEL_GATE_L) on
  if high && was != on then d.modLeg n (fun h => h.noteHigh on d.time) else d

/-- The leg that holds the complementary switch, whose side is the other one (R186). -/
def Dev.compLeg (d : Dev) (n : Nat) : Nat := if d.paired n then n ^^^ 1 else n

def LegH.offOf (h : LegH) (high : Bool) : Option Nat := if high then h.offH else h.offL

/-- Last turn-off of the switch complementary to (n, high). -/
def Dev.compOff (d : Dev) (n : Nat) (high : Bool) : Option Nat := (d.lh (d.compLeg n)).offOf (!high)

/-- The leg and offset of the dead time that governs the turn-on of a switch (R170, R173). -/
def Dev.deadLeg (d : Dev) (n : Nat) (high : Bool) : Nat := if high then n else d.compLeg n
def deadOff (high : Bool) : Nat := if high then 0x44 else 0x48

/-- The dead time, in taps: COARSE × 32 + FINE (R170). -/
def Dev.dead (d : Dev) (n : Nat) (high : Bool) : Nat :=
  (d.reg (pgLEG (d.deadLeg n high) + deadOff high)).toNat % 2 ^ 17

/-- Turn a switch off at tap time `t`, when it is on. -/
def Dev.turnOff (d : Dev) (n : Nat) (high : Bool) (t : Nat) : Dev :=
  if d.gate n high then
    (d.setGate n high false).modLeg n (fun h => if high then { h with offH := some t } else { h with offL := some t })
  else d

/-- Cancel the pending turn-ons of a leg that `keep` does not keep (R170, R186). -/
def Dev.cancel (d : Dev) (n : Nat) (keep : Bool → Bool) : Dev :=
  let gone := (d.lh n).pend.filter (fun p => !keep p.1)
  if gone.isEmpty then d
  else
    let d := d.modLeg n (fun h => { h with pend := h.pend.filter (fun p => keep p.1) })
    let d := gone.foldl (fun d _ => d.incSat (pgLEG n) LEG.CNT_CANCEL_CNT) d
    d.irq (pgLEG n) LEG.IRQ_CANCEL

/-- Schedule a turn-on. -/
def Dev.pendOn (d : Dev) (n : Nat) (high : Bool) (due : Nat) : Dev :=
  d.modLeg n (fun h => { h with pend := h.pend.filter (fun p => p.1 != high) ++ [(high, due, false)] })

/-- When a switch turns on that a move at `t` turns on: after its dead time (R170), or as R186 gives for a trip state.
The interlock adds the floor at the turn-on itself. -/
def Dev.onTime (d : Dev) (dr : Drive) (n : Nat) (high : Bool) (t : Nat) : Nat :=
  match dr with
  | .trip => match d.compOff n high with | some c => max t (c + d.dead n high) | none => t
  | _ => t + d.dead n high

/-- The time of an inner switch that R173 turns on at the change itself. -/
def Dev.onInner (d : Dev) (dr : Drive) (n : Nat) (high : Bool) (t : Nat) : Nat :=
  match dr with | .trip => d.onTime .trip n high t | _ => t

/-- Move a two-level leg to a level (R170, R185, R186). -/
def Dev.moveLeg (d : Dev) (n : Nat) (dr : Drive) (goal t : Nat) : Dev :=
  let wantH := goal == 1
  let wantL := goal == 0
  let d := if wantH then d else d.turnOff n true t
  let d := if wantL then d else d.turnOff n false t
  let d := d.cancel n (fun high => dr == .trip && (if high then wantH else wantL))
  let d := if wantH && !d.gate n true then d.pendOn n true (d.onTime dr n true t) else d
  if wantL && !d.gate n false then d.pendOn n false (d.onTime dr n false t) else d

/-- The switches of a pair: S1, S4 of the master, S2, S3 of the inner leg (R172). -/
def Dev.s1 (d : Dev) (m : Nat) : Bool := d.gate m true
def Dev.s2 (d : Dev) (m : Nat) : Bool := d.gate (m + 1) true
def Dev.s3 (d : Dev) (m : Nat) : Bool := d.gate (m + 1) false
def Dev.s4 (d : Dev) (m : Nat) : Bool := d.gate m false

/-- Move a pair towards a level, from the states its switches have (R172, R173). A change between H and L goes through
O: this does the first step, and the second follows when MIN_O has elapsed. -/
def Dev.movePair (d : Dev) (m : Nat) (dr : Drive) (goal t : Nat) : Dev :=
  let keep := fun (leg : Nat) (high : Bool) => dr == .trip &&
    (if leg = m then (if high then goal == 1 else goal == 0)
     else (if high then goal == 1 || goal == 2 else goal == 0 || goal == 2))
  let d := (d.cancel m (keep m)).cancel (m + 1) (keep (m + 1))
  let d := d.modLeg m (fun h => { h with minO := none, gap := none })
  if goal = 3 then
    let gapEnd := t + 32 * d.get (pgLEG m) LEG.CFG_OFF_GAP
    if d.s1 m then
      let d := ((d.turnOff m true t).turnOff m false t).turnOff (m + 1) false t
      if d.s2 m then d.modLeg m (fun h => { h with gap := some (gapEnd, true) }) else d
    else if d.s4 m then
      let d := (d.turnOff m false t).turnOff (m + 1) true t
      if d.s3 m then d.modLeg m (fun h => { h with gap := some (gapEnd, false) }) else d
    else (d.turnOff (m + 1) true t).turnOff (m + 1) false t
  else if goal = 2 then
    let d := (d.turnOff m true t).turnOff m false t
    let none' := !d.s2 m && !d.s3 m
    let at2 := if none' then d.onInner dr (m + 1) true t else d.onTime dr (m + 1) true t
    let at3 := if none' then d.onInner dr (m + 1) false t else d.onTime dr (m + 1) false t
    let d := if d.s2 m then d else d.pendOn (m + 1) true at2
    if d.s3 m then d else d.pendOn (m + 1) false at3
  else
    -- up = true: towards H, through S2 then S1; up = false: towards L, through S3 then S4
    let up := goal == 1
    let inner := if up then d.s2 m else d.s3 m
    let other := if up then d.s3 m || d.s4 m else d.s2 m || d.s1 m
    if other && !inner then
      let d := d.turnOff m (!up) t
      d.pendOn (m + 1) up (d.onTime dr (m + 1) up t)
    else
      let d := (d.turnOff m (!up) t).turnOff (m + 1) (!up) t
      let tin := d.onInner dr (m + 1) up t
      let d := if inner then d else d.pendOn (m + 1) up tin
      let tout := d.onTime dr m up t
      let tout := if inner then tout else max tout tin
      if d.gate m up then d else d.pendOn m up tout

/-- Every switch of the unit off at once, whatever the order (R42, R173). -/
def Dev.cutUnit (d : Dev) (n t : Nat) : Dev :=
  let one := fun (d : Dev) (n : Nat) => ((d.turnOff n true t).turnOff n false t).cancel n (fun _ => false)
  let d := one d n
  let d := if d.paired n then one d (n + 1) else d
  d.modLeg n (fun h => { h with minO := none, gap := none })

/-! ### Trip states -/

/-- A trip targets leg `n`: the leg alone, or its whole stage (R182). -/
def Dev.targets (d : Dev) (a : ActTrip) (n : Nat) : Bool :=
  match a.leg with
  | some m => m == n
  | none => d.bound n && d.legStage n == a.stage

def Dev.tripped (d : Dev) (n : Nat) : Bool := d.trip.acts.any (fun a => d.targets a n)

/-- The level a trip requests of leg `n` (R183): 0 ASC_LOW, 1 ASC_HIGH, 3 OFF. -/
def Dev.reqLevel (d : Dev) (a : ActTrip) (n : Nat) : Nat :=
  if !d.bound n || !d.legOn n then 3
  else
    let ovr := d.getAt pgTRIP TRIP.LTS (n / 16) / 4 ^ (n % 16) % 4
    let k := d.legStage n
    let side := if d.flagAt pgTRIP TRIP.STS_ASC_SIDE k then 1 else 0
    if ovr = 1 || a.sel = 1 then 3
    else if ovr = 2 then 0
    else if ovr = 3 then 1
    else if a.sel = 2 then side
    else if d.flagAt pgTRIP TRIP.STS_TSTATE k then side else 3

/-- The effective trip state of the requests on a unit (R184). -/
def effLevel (merge : Bool) (l : List Nat) : Nat :=
  if l.contains 0 && l.contains 1 then 3
  else
    let side := if l.contains 1 then 1 else 0
    if l.contains 3 then (if merge && (l.contains 0 || l.contains 1) then side else 3) else side

/-- The legs that move together with unit `n`. -/
def Dev.unitLegs (d : Dev) (n : Nat) : List Nat := if d.paired n then [n, n + 1] else [n]

def Dev.tripLevel (d : Dev) (n : Nat) : Nat :=
  effLevel (d.flagAt pgTRIP TRIP.STS_MERGE (d.legStage n))
    ((d.unitLegs n).flatMap (fun m => (d.trip.acts.filter (fun a => d.targets a m)).map (fun a => d.reqLevel a m)))

/-- What drives a unit and towards which level (R40, R174). -/
def Dev.target (d : Dev) (n : Nat) : Drive × Nat :=
  if (d.unitLegs n).any (fun m => bitOf d.legDis m || bitOf d.clk.legHold m) || d.clockHeld then (.cut, 3)
  else if (d.unitLegs n).any d.tripped then (.trip, d.tripLevel n)
  else if !d.bound n then (.cut, 3)
  else if !d.legOn n || !d.running (d.legStage n) then (.normal, 3)
  else (.normal, d.get (pgLEG n) LEG.LEVEL_CMD)

/-- Bring a unit's switches to its target, from tap time `t` on. When rank 1 or 2 releases the unit, turn-ons count their
dead time from that TCLK whichever rank follows (R387). -/
def Dev.refresh (d : Dev) (n t : Nat) : Dev :=
  let h := d.lh n
  let (dr, l) := d.target n
  if h.drive = dr ∧ h.goal = l then d
  else
    let d := d.modLeg n (fun h => { h with drive := dr, goal := l })
    if dr = .cut then d.cutUnit n t
    -- an ASC trip state sets the times of turn-ons that were pending towards the same level (R186)
    else if h.goal = l ∧ (dr ≠ .trip ∨ l = 3) then d
    else
      let dr := if h.drive = .cut then .normal else dr
      if d.paired n then d.movePair n dr l t else d.moveLeg n dr l t

def Dev.refreshList (d : Dev) (l : List Nat) (t : Nat) : Dev := l.foldl (fun d n => d.refresh n t) d

/-- The current TCLK as a tap time. -/
def Dev.tap0 (d : Dev) : Nat := 32 * d.time

def Dev.refreshAll (d : Dev) (t : Nat) : Dev :=
  d.refreshList ((List.range 64).filter (fun n => !d.slave n)) t

/-- Set the commanded level of a unit at tap time `t` (R158). -/
def Dev.command (d : Dev) (n level t : Nat) : Dev :=
  ((d.put (pgLEG n) LEG.LEVEL_CMD level).modLeg n (fun h => h.noteCmd (level == 1) d.time)).refresh n t

/-! ### Turning on: the interlock -/

/-- The two copies of a unit's dead time agree (R193, R26). -/
def Dev.deadEqual (d : Dev) (n : Nat) (high : Bool) : Bool :=
  let pg := pgLEG (d.deadLeg n high)
  d.reg (pg + deadOff high) == d.reg (pg + 0xF04 + (deadOff high - 0x44))

/-- Record a trip of source `s` in FLAG, LAST and LAST_TIME and raise TRIP (R182). -/
def Dev.tripMark (d : Dev) (s : Nat) : Dev :=
  let w := d.getAt pgTRIP TRIP.FLAG (s / 32)
  let d := d.putAt pgTRIP TRIP.FLAG (s / 32) (setBit w (s % 32) true)
  let d := (d.put pgTRIP TRIP.LAST s).put pgTRIP TRIP.LAST_TIME ((d.time + 1) % 2 ^ 32)
  -- a clear of the flag in the same TCLK counts as refused (R190)
  let d := if d.trip.clears.contains (s, d.time) then (d.irq pgTRIP TRIP.IRQ_CLEAR_REFUSED).err pgTRIP Err.TRIP_ACTIVE else d
  let d := (d.irq pgTRIP TRIP.IRQ_TRIP).capFire 1
  if d.get pgCAP CAP.TRIG_TRIG_SRC = s then d.capFire 2 else d

def Dev.srcLevel (d : Dev) (s : Nat) : Bool := bitOf (d.getAt pgTRIP TRIP.ACTIVE (s / 32)) (s % 32)

def Dev.setLevel (d : Dev) (s : Nat) (b : Bool) : Dev :=
  d.putAt pgTRIP TRIP.ACTIVE (s / 32) (setBit (d.getAt pgTRIP TRIP.ACTIVE (s / 32)) (s % 32) b)

/-- A release of this TCLK that concerns the target of a new trip does not take place (R190): its trips and its legs are
as before. -/
def Dev.takeBack (d : Dev) (a : ActTrip) : Dev :=
  match d.trip.undo with
  | none => d
  | some u =>
    if u.t ≠ d.time ∨ u.stage ≠ a.stage then d
    else
      let d := { d with trip := { d.trip with acts := d.trip.acts ++ u.acts, undo := none }, rampPend := u.ramps }
      let d := d.setReg (pgTRIP + 0x10) u.raw
      u.legs.foldl (fun (d : Dev) l =>
        let w := d.get (pgLEG l.1) LEG.LEVEL_CMD
        ((d.setReg (pgLEG l.1 + LEG.LEVEL_CMD.off) l.2.2).put (pgLEG l.1) LEG.LEVEL_CMD w).modLeg l.1 (fun _ => l.2.1)) d

/-- Add a trip. One of the same source and target that is still unreleased is replaced, so a release that was due no
longer is (R190); requests of an internal source for different states stand together (R184). -/
def Dev.addAct (d : Dev) (a : ActTrip) : Dev :=
  let d := d.takeBack a
  { d with trip := { d.trip with
      acts := d.trip.acts.filter (fun b => !(b.src == a.src && b.stage == a.stage && b.leg == a.leg
        && (b.sel == a.sel || decide (a.src < 168)))) ++ [a] } }

/-- The condition of a source's input from TCLK `t` on (R179). -/
def Dev.noteInput (d : Dev) (s : Nat) (b : Bool) (t : Nat) : Dev :=
  { d with trip := { d.trip with ins := d.trip.ins.modify s (fun i => if i.act = b then i else { i with act := b, since := t }) } }

/-- Note on measuring stages that a leg was tripped in the carrier (row 2 of R238) or during an in-line set (R246). -/
def Dev.cmTrip (d : Dev) : Dev :=
  (List.range 16).foldl (fun d k =>
    let cm := (d.sh k).cm
    if (cm.act || !cm.inl.isEmpty) && (d.stageLegs k).any d.tripped then
      d.modStg k (fun s => { s with cm := { s.cm with
        tripped := true, inl := s.cm.inl.map (fun q => { q with tripped := true }) } }) else d) d

/-- Drive the legs to the trip states from the action TCLK on (R182). -/
def Dev.tripDrive (d : Dev) : Dev := d.cmTrip.refreshAll (d.tap0 + 32)

/-- An internal source is asserted (R182): it is recorded when it becomes active, and a request that joins one that is
active already records nothing again. -/
def Dev.tripAssert (d : Dev) (s : Nat) : Dev := if d.srcLevel s then d else (d.setLevel s true).tripMark s

/-- An internal source is requested for stages (R178, R181); internal sources act latched. -/
def Dev.tripRequest (d : Dev) (s stages sel : Nat) : Dev :=
  let d := d.putAt pgTRIP TRIP.TARGET_IMASK s (d.getAt pgTRIP TRIP.TARGET_IMASK s ||| stages)
  let d := d.tripAssert s
  let d := (List.range 16).foldl (fun d k =>
    if bitOf stages k then d.addAct ⟨s, k, none, sel, true, none⟩ else d) d
  d.tripDrive

/-- The condition of an internal source has ended for every stage (R188). -/
def Dev.tripConditionEnd (d : Dev) (s : Nat) : Dev := (d.setLevel s false).putAt pgTRIP TRIP.TARGET_IMASK s 0

/-- A hit of the interlock on leg `n`; `fault` as R193 decides. -/
def Dev.interlockHit (d : Dev) (n : Nat) (fault : Bool) : Dev :=
  let d := (d.incSatAt pgTRIP TRIP.INTLK_STAT_HIT_CNT n).irq pgTRIP TRIP.IRQ_INTLK_HIT
  if !fault then d
  else
    let d := d.putAt pgTRIP TRIP.INTLK_STAT_FAULT n 1
    let d := (d.irq pgTRIP TRIP.IRQ_INTLK_FAULT).err pgTRIP Err.INTLK_FAULT
    let k := d.legStage n
    let d := d.putAt pgTRIP TRIP.TARGET_IMASK 174 (d.getAt pgTRIP TRIP.TARGET_IMASK 174 ||| 2 ^ k)
    let d := d.tripAssert 174
    (d.addAct ⟨174, k, some n, 1, true, none⟩).tripDrive

/-- A pending turn-on is due (R170, R192, R193): the switch turns on, or the interlock moves or holds it. -/
def Dev.turnOn (n : Fin 64) (high : Bool) (d : Dev) : Dev :=
  match (d.lh n).pend.find? (fun p => p.1 == high && decide (p.2.1 < d.tap0 + 32)) with
  | none => d
  | some (_, due, hit) =>
    let comp := d.compLeg n
    let floor := 32 * d.getAt pgTRIP TRIP.FLOOR (d.legStage n)
    let compOn := d.gate comp (!high)
    let earliest := match (d.lh comp).offOf (!high) with | some c => c + floor | none => 0
    let pairRule := d.paired n && n.val % 2 == 0 && !d.gate (n + 1) high
    if compOn || pairRule || decide (due < earliest) then
      let due' := max due earliest
      let d := d.modLeg n (fun h =>
        { h with pend := h.pend.map (fun p => if p.1 = high then (high, due', true) else p) })
      if hit then d
      else d.interlockHit n (pairRule || (decide (floor ≤ d.dead n high) && d.deadEqual n high))
    else
      let d := d.modLeg n (fun h => { h with pend := h.pend.filter (fun p => p.1 != high) })
      let d := d.setGate n high true
      let m := d.master n
      -- O is complete on the way between H and L (R173)
      if d.paired n && n.val % 2 == 1 && d.s2 m && d.s3 m && ((d.lh m).goal == 0 || (d.lh m).goal == 1) then
        d.modLeg m (fun h => { h with minO := some (due + 32 * d.get (pgLEG m) LEG.CFG_MIN_O) })
      else d

/-- MIN_O has elapsed in level O (R173). -/
def Dev.minOExpiry (n : Fin 64) (d : Dev) : Dev :=
  match (d.lh n).minO with
  | some e => if e < d.tap0 + 32 then d.movePair n (d.lh n).drive (d.lh n).goal e else d
  | none => d

/-- OFF_GAP has elapsed after an outer switch turned off (R173). -/
def Dev.offGapExpiry (n : Fin 64) (d : Dev) : Dev :=
  match (d.lh n).gap with
  | some (e, s2) =>
    if e < d.tap0 + 32 then
      (d.turnOff (n + 1) s2 e).modLeg n (fun h => { h with gap := none })
    else d
  | none => d

end Sys2Proof.Machine
end

