-- ==== Sys2Proof/Machine/Converters.lean ====
section
/-! DEFINITION. Converters: SAR groups, injected conversions, sequences, calibration, clamp detectors, and ΣΔ inputs
(R202 to R229). -/

namespace Sys2Proof.Machine

def fin24 (n : Nat) : Fin 24 := Fin.ofNat 24 n

def Dev.ah (d : Dev) (b : Nat) : AdcH := d.adc[fin4 b]
def Dev.modAdc (d : Dev) (b : Nat) (f : AdcH → AdcH) : Dev := { d with adc := vmod d.adc (fin4 b) f }
def Dev.sd (d : Dev) (n : Nat) : SdiH := d.sdi[fin24 n]
def Dev.modSdi (d : Dev) (n : Nat) (f : SdiH → SdiH) : Dev := { d with sdi := vmod d.sdi (fin24 n) f }

/-! ### Triggers and requests -/

/-- An instant of a stage is triggered, when the stage declares it; the trigger reaches the groups in TCLK `tR` (R210), and the stage's ΣΔ inputs
in the same TCLK (R223). -/
def Dev.instant (d : Dev) (k i tR : Nat) : Dev :=
  if (((d.stageDecl k).map (·.nInst)).getD 0) ≤ i then d else
  let d := (List.range 4).foldl (fun d b =>
    (List.range 32).foldl (fun d r =>
      let pg := pgADCG b
      if d.flagAt pg ADCG.INJ_VALID r && d.getAt pg ADCG.INJ_KIND r == 0 && d.getAt pg ADCG.INJ_SRC r == k
          && d.getAt pg ADCG.INJ_INSTANT r == i
      then d.modAdc b (fun a => { a with arr := a.arr ++ [(r, tR)] }) else d) d) d
  let stars := d.get (pgSTG k) STG.CM_MODE_STARS
  let hit := (d.stageLegs k).any d.tripped
  if stars = 0 then d
  else d.modStg k (fun s => { s with cm := { s.cm with inl := s.cm.inl ++ [⟨tR, hit, List.replicate (2 * stars) none⟩] } })

/-- A request of entry `r` joins those that wait (R210), or is dropped (R212). -/
def Dev.injQueue (d : Dev) (b : Fin 4) (r : Fin 32) (p : Nat × Nat) : Dev :=
  let a := d.ah b
  if !d.enabled (pgADCG b) || a.pend.contains p || a.runs.any (fun x => x.kind == 0 && x.idx == r.val && x.tR == p.2) then d
  else if a.pend.any (fun q => q.1 == r.val) then
    ((d.irq (pgADCG b) ADCG.IRQ_INJ_OVR).incSat (pgADCG b) ADCG.CNT_OVR_CNT).err (pgADCG b) Err.INJ_OVERRUN
  else d.modAdc b (fun a => { a with pend := a.pend ++ [p] })

/-- A trigger of entry `r` reaches group `b` (R210, R212): a stage's instant, or a resolver's sampling instant in this
TCLK. -/
def Dev.injRequest (b : Fin 4) (r : Fin 32) (d : Dev) : Dev :=
  let pg := pgADCG b
  if d.flagAt pg ADCG.INJ_VALID r && d.getAt pg ADCG.INJ_KIND r != 0 then
    (if (d.rsvInstant (d.getAt pg ADCG.INJ_SRC r) d.time).isSome then d.injQueue b r (r.val, d.time) else d)
  else match (d.ah b).arr.find? (fun p => p.1 == r.val && decide (p.2 ≤ d.time)) with
  | none => d
  | some p =>
    (d.modAdc b (fun a => { a with arr := a.arr.erase p })).injQueue b r p

/-! ### Conversions -/

def AdcH.freeAt (a : AdcH) (c : Nat) : Nat := a.free.getD c 0

/-- Converter `c` of group `b` can start a conversion now: free, and not calibrating. -/
def Dev.convFree (d : Dev) (b c : Nat) : Bool :=
  decide ((d.ah b).freeAt c ≤ d.time) && !bitOf (d.get (pgADCG b) ADCG.ST_CAL_BUSY) c

/-- A sampling phase that starts now on pin `p` overlaps a detector's activity, or the 50 TCLK after it, on another pin
(R215). -/
def Dev.distNow (d : Dev) (b p : Nat) : Bool :=
  (List.range 16).any (fun q => q != p &&
    (bitOf (d.get (pgADCG b) ADCG.CLAMP_STAT) q
     || (let e := (d.ah b).detEnd.getD q 0; e != 0 && decide (d.time < e - 1 + 50))))

/-- A conversion starts on converter `c` (R203, R206, R215). -/
def Dev.convRun (d : Dev) (b c kind idx pin tR : Nat) : Dev :=
  let dist := d.distNow b pin
  d.modAdc b (fun a => { a with
    runs := a.runs ++ [⟨c, d.time, kind, idx, pin, tR, dist, d.thm.refTrim.getD b 0⟩]
    free := a.free.set c (d.time + 50) })

/-- The entry that converter `c` serves next: the lowest r of the waiting requests that can start; an entry with LINK
starts together with the next one, and so does an entry linked from the one before (R210). -/
def Dev.nextInj (d : Dev) (b c : Nat) : Option Nat :=
  let pg := pgADCG b
  let ready := fun r => (d.ah b).pend.any (fun q => q.1 == r)
  let conv := fun r => d.getAt pg ADCG.INJ_CONV r
  (List.range 32).find? (fun r =>
    ready r && conv r == c
    && (!d.flagAt pg ADCG.INJ_LINK r || (ready (r + 1) && d.convFree b (conv (r + 1))))
    && !(decide (0 < r) && d.flagAt pg ADCG.INJ_LINK (r - 1) && !(ready (r - 1) && d.convFree b (conv (r - 1)))))

def Dev.startInj (d : Dev) (b r : Nat) : Dev :=
  match (d.ah b).pend.find? (fun q => q.1 == r) with
  | none => d
  | some q =>
    let d := d.modAdc b (fun a => { a with pend := a.pend.erase q })
    d.convRun b (d.getAt (pgADCG b) ADCG.INJ_CONV r) 0 r (d.getAt (pgADCG b) ADCG.INJ_PIN r) q.2

/-- Start slot `q` anew with its present word (R207). -/
def Dev.startSlot (d : Dev) (b c q n : Nat) : Dev :=
  let q := if q < n then q else 0
  let w := d.getAt (pgADCG b) ADCG.SLOT q
  let ser := (d.ah b).serial
  let d := d.modAdc b (fun a => { a with
    slots := a.slots ++ [⟨ser, q, w, 1, 0, 0, false, false, false⟩], serial := ser + 1, nextSlot := (q + 1) % n })
  d.convRun b c 2 ser (w % 16) d.time

/-- Start the next conversion of the sequence on converter `c` (R207). -/
def Dev.startSeq (d : Dev) (b c : Nat) : Dev :=
  let pg := pgADCG b
  let n := d.get pg ADCG.CFG_N_SLOTS
  if n = 0 then d
  else
    let a := d.ah b
    match a.slots.getLast? with
    | some s =>
      if s.started < 2 ^ (s.cfg / 2 ^ 12 % 16) then
        let d := d.modAdc b (fun a => { a with
          slots := a.slots.map (fun x => if x.serial = s.serial then { x with started := x.started + 1 } else x) })
        d.convRun b c 2 s.serial (s.cfg % 16) d.time
      else d.startSlot b c a.nextSlot n
    | none => d.startSlot b c a.nextSlot n

def Dev.shared (d : Dev) (b c : Nat) : Bool :=
  bitOf (d.get (pgADCG b) ADCG.CFG_SEQ_CONV) c || d.get (pgADCG b) ADCG.CFG_HK_CONV == c

/-- The pin of a housekeeping channel: the NTC pin of module k for channel 32 + k (R334), the terminal pins of drive k for
channels 64 + 4 k to 66 + 4 k (R303); the others are internal. -/
def Dev.hkPin (d : Dev) (ch : Nat) : Nat :=
  if 64 ≤ ch then
    let k := ch / 4 - 16
    match ch % 4 with
    | 0 => d.getAt pgFLD FLD.VSENSE_PIN_U k
    | 1 => d.getAt pgFLD FLD.VSENSE_PIN_V k
    | _ => d.getAt pgFLD FLD.VSENSE_PIN_W k
  else if 32 ≤ ch then d.getAt pgTHM THM.MCFG_NTC_PIN (ch - 32) % 16 else 255

/-- M_j as diode j is sampled (R338). -/
def Dev.hkSampled (d : Dev) (b ch : Nat) : Dev :=
  if ch = 16 then { d with thm := { d.thm with dieAt := d.thm.dieAt.set b (d.thm.die.getD b 0) } } else d

/-! ### Calibration -/

/-- t_CAL (R217). -/
def tCal : Nat := 2048

/-- The converters of a waiting host calibration take no more shared work (R218). -/
def AdcH.calHeld (a : AdcH) (c : Nat) : Bool := a.calReq.any (fun q => bitOf q.1 c)

/-- A CAL.GO write (R218): a GO bit for a converter that is calibrating stores CAL_BUSY. -/
def Dev.calGo (b : Fin 4) (mask : BitVec 3) (d : Dev) : Dev :=
  let pg := pgADCG b
  if !d.flag pg COM.ST_ENABLED then d
  else
    let busy := d.get pg ADCG.ST_CAL_BUSY
    let d := (List.range 3).foldl (fun d c => if bitOf mask.toNat c && bitOf busy c then d.err pg Err.CAL_BUSY else d) d
    let m := mask.toNat &&& (7 - busy)
    if m = 0 then d else d.modAdc b (fun a => { a with calReq := a.calReq ++ [(m, d.time)] })

/-- A waiting calibration can start in this TCLK (R218, R219): no injected request of the group is pending or running, and
every converter of the mask is free. A trigger that reaches a converter of the mask in this very TCLK is held, unless the
GO was written in it too. -/
def Dev.calReady (d : Dev) (b : Fin 4) (q : Nat × Nat) : Bool :=
  let pg := pgADCG b
  let a := d.ah b
  let counts := fun (p : Nat × Nat) => decide (p.2 < d.time)
    || (p.2 == d.time && (q.2 == d.time || !bitOf q.1 (d.getAt pg ADCG.INJ_CONV p.1)))
  !a.pend.any counts && !a.arr.any counts
  && !a.runs.any (fun r => r.kind == 0 && decide (d.time < r.start + 50))
  && (List.range 3).all (fun c => !bitOf q.1 c || (decide (a.free.getD c 0 ≤ d.time) && !bitOf (d.get pg ADCG.ST_CAL_BUSY) c))

/-- Calibrations that can start do (R218), in the order of their requests. -/
def Dev.calStart (b : Fin 4) (d : Dev) : Dev :=
  let pg := pgADCG b
  if !d.enabled pg then d
  else (d.ah b).calReq.foldl (fun d q =>
    if !d.calReady b q then d
    else (d.modAdc b (fun x => { x with calReq := x.calReq.erase q, calRun := x.calRun ++ [(q.1, d.time + tCal, true)] })).put
      pg ADCG.ST_CAL_BUSY (d.get pg ADCG.ST_CAL_BUSY ||| q.1)) d

/-- Calibrations whose time is up end (R217, R218). -/
def Dev.calDone (b : Fin 4) (d : Dev) : Dev :=
  let pg := pgADCG b
  ((d.ah b).calRun.filter (fun c => decide (c.2.1 ≤ d.time))).foldl (fun d c =>
    let d := d.modAdc b (fun a => { a with calRun := a.calRun.erase c })
    let busy := d.get pg ADCG.ST_CAL_BUSY
    let d := d.put pg ADCG.ST_CAL_BUSY (busy - (busy &&& c.1))
    if c.2.2 then d.irq pg ADCG.IRQ_CAL_DONE else d.put pg ADCG.ST_READY 1) d

/-- A free converter starts its highest-priority waiting request (R204, R206); while a host calibration waits, shared
work no longer starts on the converters of its mask (R218). -/
def Dev.conversionStart (b : Fin 4) (c : Fin 3) (d : Dev) : Dev :=
  let pg := pgADCG b
  -- a calibration that can start in this TCLK starts first (R219)
  let d := d.calStart b
  if !d.enabled pg || !d.convFree b c || !d.flag pg ADCG.ST_READY then d
  else
    match d.nextInj b c with
    | some r =>
      let pair := if d.flagAt pg ADCG.INJ_LINK r then [r, r + 1]
        else if 0 < r ∧ d.flagAt pg ADCG.INJ_LINK (r - 1) then [r - 1, r] else [r]
      pair.foldl (fun d r => d.startInj b r) d
    | none =>
      if (d.ah b).calHeld c then d
      else
        match (d.ah b).hkq with
        | ch :: rest =>
          if d.get pg ADCG.CFG_HK_CONV = c.val then
            ((d.modAdc b (fun a => { a with hkq := rest })).hkSampled b ch).convRun b c 1 ch (d.hkPin ch) d.time
          else if bitOf (d.get pg ADCG.CFG_SEQ_CONV) c then d.startSeq b c else d
        | [] => if bitOf (d.get pg ADCG.CFG_SEQ_CONV) c then d.startSeq b c else d

def Analog.val : Analog → Nat
  | .below => 0 | .code c => c.toNat | .above => 0x3FFF

/-- Set the range flags of a pin (R214). -/
def Dev.rangeFlag (d : Dev) (b pin : Nat) (x : Analog) : Dev :=
  let pg := pgADCG b
  if 16 ≤ pin then d
  else match x with
  | .code _ => d
  | .below => ((d.put pg ADCG.RANGE_FLAG_UNDER (setBit (d.get pg ADCG.RANGE_FLAG_UNDER) pin true)).irq pg
      ADCG.IRQ_UNDER).err pg Err.ADC_RANGE
  | .above => ((d.put pg ADCG.RANGE_FLAG_OVER (setBit (d.get pg ADCG.RANGE_FLAG_OVER) pin true)).irq pg
      ADCG.IRQ_OVER).err pg Err.ADC_RANGE

/-- A result reaches the sample latch of a single-shunt measurement unit (R238), when its trigger came in the carrier in
progress (R239). -/
def Dev.shuntResult (d : Dev) (k inst tR : Nat) (r : ShuntRes) : Dev :=
  if !d.flag (pgSTG k) STG.CM_MODE_RECON || !(d.sh k).cm.act || decide (tR ≤ (d.sh k).x0) then d
  else if inst = 0 then d.modStg k (fun s => { s with cm := { s.cm with res0 := s.cm.res0 <|> some r } })
  else if inst = 1 then d.modStg k (fun s => { s with cm := { s.cm with res1 := s.cm.res1 <|> some r } })
  else d

/-- A conversion of a sequence slot has its result (R208, R207). -/
def Dev.slotResult (d : Dev) (b ser : Nat) (x : Analog) (dist : Bool) : Dev :=
  let pg := pgADCG b
  match (d.ah b).slots.find? (fun s => s.serial == ser) with
  | none => d
  | some s =>
    let s := { s with done := s.done + 1, sum := s.sum + x.val, ovr := s.ovr || x == .above
                      under := s.under || x == .below, dist := s.dist || dist }
    if s.done < 2 ^ (s.cfg / 2 ^ 12 % 16) then
      d.modAdc b (fun a => { a with slots := a.slots.map (fun y => if y.serial = ser then s else y) })
    else
      let d := d.modAdc b (fun a => { a with slots := a.slots.filter (fun y => y.serial != ser) })
      let v := s.sum / 2 ^ (s.cfg / 2 ^ 8 % 16)
      let d := d.putAt pg ADCG.SEQ_RES s.slot
        (b2n s.ovr * 2 ^ 31 + b2n s.under * 2 ^ 30 + b2n s.dist * 2 ^ 29 + v % 2 ^ 22)
      if s.slot + 1 = d.get pg ADCG.CFG_N_SLOTS then (d.incWrap pg ADCG.SEQ_CNT).irq pg ADCG.IRQ_ROUND else d

/-- The oldest conversion of a converter gives its result, 52 TCLK after its start (R203, R213, R214). A housekeeping
result is handed on by `hk`, with the TCLK of its start. -/
def Dev.conversionResult (hk : Dev → Nat → Nat → Nat → Analog → Dev) (b : Fin 4) (c : Fin 3) (x : Analog) (d : Dev) : Dev :=
  let pg := pgADCG b
  match (d.ah b).runs.find? (fun r => r.conv == c.val && decide (r.start + 52 ≤ d.time)) with
  | none => d
  | some r =>
    let d := d.modAdc b (fun a => { a with runs := a.runs.erase r })
    let d := d.rangeFlag b r.pin x
    if r.kind = 0 then
      let avail := r.start + 52
      let late := decide (r.tR + d.getAt pg ADCG.INJ_LAT_MAX r.idx < avail)
      let d := if late then
          ((d.irq pg ADCG.IRQ_INJ_LATE).incSat pg ADCG.CNT_LATE_CNT).err pg Err.INJ_LATE else d
      let d := d.putAt pg ADCG.INJ_RES r.idx
        (b2n late * 2 ^ 31 + b2n (x == .above) * 2 ^ 30 + b2n (x == .below) * 2 ^ 29 + b2n r.dist * 2 ^ 28 + x.val)
      let src := d.getAt pg ADCG.INJ_SRC r.idx
      if d.getAt pg ADCG.INJ_KIND r.idx = 0 then
        d.shuntResult src (d.getAt pg ADCG.INJ_INSTANT r.idx) r.tR
          ⟨x.val, x == .above || x == .below, r.dist, late, avail⟩
      else d.rsvResult src (d.getAt pg ADCG.INJ_KIND r.idx == 1) r.tR x.val
    else if r.kind = 1 then hk d b r.idx r.start x
    else d.slotResult b r.idx x r.dist

/-! ### Clamp detectors -/

/-- A clamp detector becomes active (R215): conversions of the other pins that are sampling carry DIST. -/
def Dev.clamp (b : Fin 4) (p : Fin 16) (d : Dev) : Dev :=
  let pg := pgADCG b
  let d := d.put pg ADCG.CLAMP_STAT (setBit (d.get pg ADCG.CLAMP_STAT) p true)
  let d := d.modAdc b (fun a => { a with runs := a.runs.map (fun r =>
    if r.pin ≠ p.val ∧ d.time ≤ r.start + 15 then { r with dist := true } else r) })
  d.irq pg ADCG.IRQ_CLAMP

/-- A clamp detector becomes inactive (R215). -/
def Dev.clampInactive (b : Fin 4) (p : Fin 16) (d : Dev) : Dev :=
  let pg := pgADCG b
  if !bitOf (d.get pg ADCG.CLAMP_STAT) p then d
  else (d.put pg ADCG.CLAMP_STAT (setBit (d.get pg ADCG.CLAMP_STAT) p false)).modAdc b (fun a =>
    { a with detEnd := a.detEnd.set p (d.time + 1) })

/-! ### Registers of a group -/

/-- A write to a slot (R207). -/
def Dev.slotWrite (b : Fin 4) (s : Fin 16) (w : Word) (d : Dev) : Dev :=
  let pg := pgADCG b
  let v := w.toNat % 2 ^ 16
  if d.flag pg COM.ST_ENABLED && (decide (8 < v / 2 ^ 12) || decide (8 < v / 2 ^ 8 % 16)) then d.err pg Err.ADC_CFG
  else d.putAt pg ADCG.SLOT s (v - v / 16 % 16 * 16)

def Dev.adcCntClr (b : Fin 4) (d : Dev) : Dev := d.put (pgADCG b) ADCG.CNT 0

/-- The enable check and enable of a group (R217, R227). -/
def Dev.adcEnable (d : Dev) (b : Fin 4) : Dev :=
  let pg := pgADCG b
  let n := d.get pg ADCG.CFG_N_SLOTS
  let bad := decide (16 < n) || (List.range n).any (fun s =>
    decide (8 < d.getAt pg ADCG.SLOT_AVG s) || decide (8 < d.getAt pg ADCG.SLOT_SHIFT s))
  if bad then d.err pg Err.ADC_CFG
  else
    let d := (d.put pg COM.ST_ENABLED 1).put pg ADCG.ST_CAL_BUSY 7
    (d.put pg ADCG.ST_READY 0).modAdc b (fun a =>
      { a with calRun := [(7, d.time + tCal, false)], calReq := [], nextSlot := 0, slots := [] })

/-- Disable: requests are discarded and conversions in progress abandoned (R219). -/
def Dev.adcDisable (d : Dev) (b : Fin 4) : Dev :=
  let pg := pgADCG b
  let d := ((d.put pg COM.ST_ENABLED 0).put pg ADCG.ST_CAL_BUSY 0).put pg ADCG.ST_READY 0
  d.modAdc b (fun a => { a with arr := [], pend := [], runs := [], slots := [], hkq := [], calReq := []
                                calRun := [], free := [0, 0, 0] })

/-! ### ΣΔ inputs -/

/-- Coefficients of the sinc filters: `boxes n l` convolves `l` with a box of length n. -/
def convBox (n : Nat) (l : List Nat) : List Nat :=
  (List.range (l.length + n - 1)).map (fun i => ((List.range n).map (fun j =>
    if j ≤ i then l.getD (i - j) 0 else 0)).sum)

def sinc3 (n : Nat) : List Nat := convBox n (convBox n (List.replicate n 1))
def sinc2 (n : Nat) : List Nat := convBox n (List.replicate n 1)

/-- The sample of one modulator period, times 8 (R220, R225): a code in format 2, where −8 counts as 0; a bit
otherwise. -/
def sdiSample (fmt : Nat) (c : BitVec 4) : Int :=
  if fmt = 2 then (if c = 8 then 0 else c.toInt) else (if c.toNat % 2 = 1 then 8 else -8)

/-- Σ h(k) × x(e − k), newest sample first, times 8. -/
def firSum (h : List Nat) (x : List Int) : Int := ((h.zip x).map (fun p => (p.1 : Int) * p.2)).sum

/-- The overcurrent flag, and with it the input of trip source 144 + n (R178, R224). -/
def Dev.setOc (d : Dev) (n : Nat) (b : Bool) : Dev := (d.putB (pgSDI n) SDI.ST_OC b).noteInput (144 + n) b d.time

/-- STREAM_FAULT sets (R225, R226): with OC_ON_FAULT the overcurrent flag is held active. -/
def Dev.sdiFault (d : Dev) (n : Nat) : Dev :=
  let pg := pgSDI n
  if d.flag pg SDI.ST_STREAM_FAULT then d
  else
    let d := ((d.put pg SDI.ST_STREAM_FAULT 1).irq pg SDI.IRQ_FAULT).err pg Err.SDI_FAULT
    if d.flag pg SDI.ERR_CFG_OC_ON_FAULT then (d.setOc n true).irqIf (!d.flag pg SDI.ST_OC) pg SDI.IRQ_OC
    else d

/-- A word reaches the stage that owns the input (R223, R241): each waiting instant takes the first word that becomes
available in or after its TCLK. -/
def Dev.sdiDeliver (d : Dev) (n : Nat) (w : SdiTaken) : Dev :=
  if !d.flag (pgSDI n) SDI.MAP_VALID then d
  else
    let k := d.get (pgSDI n) SDI.MAP_STAGE
    match d.stageDecl k with
    | none => d
    | some r =>
      match ((r.res.filter (fun c => c / 1024 == 0x05)).findIdx? (fun c => c % 1024 == n)) with
      | none => d
      | some c => d.modStg k (fun s => { s with cm := { s.cm with inl := s.cm.inl.map (fun q =>
          if q.start ≤ w.time ∧ (q.words.getD c none).isNone then { q with words := q.words.set c (some w) } else q) } })

/-- The level of SDn_CK in formats 0 and 2 (R221): it rises at the multiples of DIV and falls DIV ÷ 2 later. -/
def Dev.sdiClock (d : Dev) (n : Nat) : Bool :=
  let pg := pgSDI n
  let dv := d.get pg SDI.CFG_DIV
  d.flag pg COM.ST_ENABLED && d.get pg SDI.CFG_FORMAT != 1 && decide (d.time % dv < dv / 2)

/-- TCLK from a clock edge to its data being complete (R221): SKEW, or 2 through the synchroniser. -/
def Dev.sdiSkew (d : Dev) (n : Nat) : Nat :=
  if d.get (pgSDI n) SDI.CFG_FORMAT = 1 then 2 else d.get (pgSDI n) SDI.CFG_SKEW

/-- The code of a modulator period (R221) from the levels of SDn_D0 (bit 1) and SDn_D1 (bit 0) at its two sampling TCLK:
the falling edge + SKEW, and e + SKEW. The 1-bit formats take SDn_D0 at the second. -/
def sdiCode (fmt : Nat) (first second : BitVec 2) : BitVec 4 :=
  if fmt = 2 then first ++ second else if second.getLsbD 1 then 1 else 0

/-- A modulator period ends at clock edge `e` (R221): its sample is received, and checked (R225). -/
def Dev.sdiReceive (d : Dev) (n : Nat) (e : Nat) (c : BitVec 4) : Dev :=
  let pg := pgSDI n
  let d := d.modSdi n (fun h => { h with
    samples := (c :: h.samples).take 766, count := h.count + 1, edge := e + 1
    same := if h.samples.head? = some c then h.same + 1 else 1 })
  let d := d.put pg SDI.ST_RUNNING 1
  if d.get pg SDI.CFG_FORMAT = 2 ∧ c = 8 then
    ((d.incSat pg SDI.ERR_CNT_CODE_CNT).irq pg SDI.IRQ_CODE_ERR).errPartner pg Err.SDI_CODE n 0 [8]
  else d

/-- A word boundary (R222, R225, R226). The time is the TCLK in which the word becomes available: 4 TCLK after the data of
its edge is complete. -/
def Dev.sdiWord (n : Fin 24) (d : Dev) : Dev :=
  let pg := pgSDI n
  let h := d.sd n
  let fmt := d.get pg SDI.CFG_FORMAT
  let osr := d.get pg SDI.OSR_OSR
  let dv := d.get pg SDI.CFG_DIV
  let wait := d.sdiSkew n + 4
  let e := d.time - wait
  let at_ := if fmt = 1 then h.count % osr = 0 else e % (osr * dv) = 0
  if !d.enabled pg || decide (d.time < wait) || h.edge != e + 1 || h.wordEdge == e + 1 || !decide at_ then d
  else
    let len := 3 * osr - 2
    let xs := h.samples.take len
    let y := firSum (sinc3 osr) (xs.map (sdiSample fmt))
    let v := roundDiv (32768 * y) (8 * osr ^ 3 : Nat)
    let sat := decide (satInt 16 v ≠ v)
    let bad := fmt == 2 && xs.any (· == 8)
    -- words whose window began before the enable
    let full := decide (len ≤ h.count) && (fmt == 1 || decide (h.enT + len * dv ≤ e))
    let badRun := if bad then h.badRun + 1 else 0
    let d := d.modSdi n (fun h => { h with badRun := badRun, wordEdge := e + 1 })
    let d := if bad && decide (d.get pg SDI.ERR_CFG_BAD_N ≤ badRun) then d.sdiFault n else d
    let valid := full && !d.flag pg SDI.ST_STREAM_FAULT
    let u := unsig 16 (satInt 16 v)
    let d := d.put pg SDI.DATA (b2n valid * 2 ^ 31 + b2n sat * 2 ^ 30 + b2n bad * 2 ^ 29 + u)
    let d := (d.put pg SDI.WORD_TIME d.time32).irqIf sat pg SDI.IRQ_SAT
    d.sdiDeliver n ⟨u, valid && !bad, sat, d.time⟩

/-- The sinc2 overcurrent filter over the samples received (R224). The flag is held inactive until 2 × OC_OSR − 1 samples
have come, and held active by a stream fault with OC_ON_FAULT. -/
def Dev.ocFilter (d : Dev) (n : Fin 24) : Dev :=
  let pg := pgSDI n
  let fmt := d.get pg SDI.CFG_FORMAT
  let r := d.get pg SDI.OSR_OC_OSR
  let (f, d) := d.free 1
  let h := d.sd n
  let num := 32768 * firSum (sinc2 r) ((h.samples.take (2 * r - 1)).map (sdiSample fmt))
  let den : Int := (8 * r ^ 2 : Nat)
  -- the narrowing to Q1.15 of a value between two codes is not stated (log entry 14)
  let y := satInt 16 (if num % den = 0 then num / den else num / den + (f : Int))
  let d := d.putI pg SDI.OC_VALUE y
  let past := decide (d.getI pg SDI.OC_THR_OC_HIGH < y) || decide (y < d.getI pg SDI.OC_THR_OC_LOW)
  let held := d.flag pg SDI.ST_STREAM_FAULT && d.flag pg SDI.ERR_CFG_OC_ON_FAULT
  let now := held || (past && decide (2 * r - 1 ≤ h.count))
  let was := d.flag pg SDI.ST_OC
  (d.setOc n now).irqIf (now && !was) pg SDI.IRQ_OC

/-- A modulator period (R221, R224): `first` and `second` are the data pins at its two sampling TCLK. The row falls 3 TCLK
after the data is complete, when the overcurrent flag is updated; the clock edge lies at a multiple of DIV in formats 0
and 2, and where the modulator's clock rose in format 1. -/
def Dev.overcurrent (n : Fin 24) (first second : BitVec 2) (d : Dev) : Dev :=
  let pg := pgSDI n
  let h := d.sd n
  let fmt := d.get pg SDI.CFG_FORMAT
  let wait := d.sdiSkew n + 3
  let e := d.time - wait
  if !d.enabled pg || decide (d.time < wait + h.enT) || decide (e < h.edge)
      || !(fmt == 1 || e % d.get pg SDI.CFG_DIV == 0) then d
  else (d.sdiReceive n e (sdiCode fmt first second)).ocFilter n

/-- STUCK_N identical codes or bits (R225). -/
def Dev.sdiStuck (n : Fin 24) (d : Dev) : Dev :=
  let pg := pgSDI n
  let lim := d.get pg SDI.ERR_CFG_STUCK_N
  if !d.enabled pg || lim = 0 || d.flag pg SDI.ST_STUCK || decide ((d.sd n).same < lim) then d
  else
    let d := (d.put pg SDI.ST_STUCK 1).incSat pg SDI.ERR_CNT_STUCK_CNT
    ((d.irq pg SDI.IRQ_STUCK).err pg Err.SDI_STUCK).sdiFault n

/-- No received edge for 2 × DIV TCLK in format 1 (R225). -/
def Dev.sdiClkLoss (n : Fin 24) (d : Dev) : Dev :=
  let pg := pgSDI n
  let h := d.sd n
  let since := max h.enT (max (h.edge - 1) (h.back - 1))
  if !d.enabled pg || d.get pg SDI.CFG_FORMAT != 1 || d.flag pg SDI.ST_CLK_LOSS
      || decide (d.time < since + 2 * d.get pg SDI.CFG_DIV) then d
  else
    let d := ((d.put pg SDI.ST_CLK_LOSS 1).put pg SDI.ST_RUNNING 0).incSat pg SDI.ERR_CNT_CLK_CNT
    ((d.irq pg SDI.IRQ_CLK_LOSS).err pg Err.SDI_CLK_LOSS).sdiFault n

/-- A received edge returns after a clock loss (R225). -/
def Dev.sdiClkBack (n : Fin 24) (d : Dev) : Dev :=
  let pg := pgSDI n
  if d.enabled pg && d.flag pg SDI.ST_CLK_LOSS then
    ((d.put pg SDI.ST_CLK_LOSS 0).put pg SDI.ST_RUNNING 1).modSdi n (fun h => { h with back := d.time + 1 })
  else d

def Dev.sdiErrClr (n : Fin 24) (d : Dev) : Dev := d.put (pgSDI n) SDI.ERR_CNT 0

/-- The enable check and enable of a ΣΔ input (R220). -/
def Dev.sdiEnable (d : Dev) (n : Fin 24) : Dev :=
  let pg := pgSDI n
  let fmt := d.get pg SDI.CFG_FORMAT
  let dv := d.get pg SDI.CFG_DIV
  let osr := d.get pg SDI.OSR_OSR
  let oc := d.get pg SDI.OSR_OC_OSR
  let skew := d.get pg SDI.CFG_SKEW
  if fmt = 3 ∨ dv < 16 ∨ osr < 8 ∨ 256 < osr ∨ oc < 4 ∨ 32 < oc ∨ (fmt = 2 ∧ dv / 2 ≤ skew) ∨ (fmt = 0 ∧ dv ≤ skew)
  then d.err pg Err.SDI_CFG
  else
    -- an enable after a disable clears what the stream's faults set (R226)
    let d := ((d.put pg COM.ST_ENABLED 1).put pg SDI.ST_STREAM_FAULT 0).setOc n false
    let d := (d.put pg SDI.ST_STUCK 0).put pg SDI.ST_CLK_LOSS 0
    d.modSdi n (fun _ => ⟨d.time, [], 0, 0, 0, 0, 0, 0⟩)

/-- Disable: samples are no longer received. STREAM_FAULT stays until the enable that follows, and holds the overcurrent
flag with OC_ON_FAULT (R226). -/
def Dev.sdiDisable (d : Dev) (n : Fin 24) : Dev :=
  let pg := pgSDI n
  let d := (d.put pg COM.ST_ENABLED 0).put pg SDI.ST_RUNNING 0
  if d.flag pg SDI.ST_STREAM_FAULT && d.flag pg SDI.ERR_CFG_OC_ON_FAULT then d else d.setOc n false

end Sys2Proof.Machine
end

