-- ==== Sys2Proof/Machine/Measure.lean ====
section
/-! DEFINITION. Current measurement: the unit of a stage that reconstructs phase currents from one shunt, or scales
in-line words (R230 to R246). Positions are in units of 1/512 TCLK (R156). -/

namespace Sys2Proof.Machine

/-- The position of a compare word, and whether it was clipped (R156, R162). -/
def posU (abs : Bool) (w : Nat) (dither p : Nat) : Nat × Bool :=
  if !abs then (w / 2 ^ 16 * p / 128, false)
  else
    let c := w / 2 ^ 8
    if p ≤ c then ((p - 1) * 512, true) else (c * 512 + w / 2 ^ 3 % 32 * 16 + dither, false)

def Dev.absMode (d : Dev) (k : Nat) : Bool := d.flag (pgSTG k) STG.CFG_ABS

/-- The period in force (R150). -/
def Dev.period (d : Dev) (k : Nat) : Nat := d.get (pgSTG k) STG.P_ACT

def Dev.recon (d : Dev) (k : Nat) : Bool := d.flag (pgSTG k) STG.CM_MODE_RECON

/-- Active ON or OFF position of a leg, without PHASE. -/
def Dev.rawEdge (d : Dev) (k n : Nat) (on : Bool) : Nat :=
  let pg := pgLEG n
  (posU (d.absMode k) (d.actGet pg (if on then LEG.CMP_ON else LEG.CMP_OFF))
    (d.actGet pg (if on then LEG.DITHER_ON else LEG.DITHER_OFF)) (d.period k)).1

/-- Insert a leg's place into a list sorted by rising position, later places after equal ones (R234). -/
def insertPos (x : Nat × Nat) : List (Nat × Nat) → List (Nat × Nat)
  | [] => [x]
  | y :: t => if x.1 < y.1 then x :: y :: t else y :: insertPos x t

def sortPos (l : List (Nat × Nat)) : List (Nat × Nat) := l.foldl (fun acc x => insertPos x acc) []

/-- The sector of an order of the phases 0 to 2 (R234). -/
def sectorOf (o : List Nat) : Nat :=
  match o with
  | [0, 1, 2] => 0
  | [1, 0, 2] => 1
  | [1, 2, 0] => 2
  | [2, 1, 0] => 3
  | [2, 0, 1] => 4
  | [0, 2, 1] => 5
  | _ => 7

/-- The phase order of a sector. -/
def phaseOrder (s : Nat) : List Nat :=
  match s with
  | 0 => [0, 1, 2]
  | 1 => [1, 0, 2]
  | 2 => [1, 2, 0]
  | 3 => [2, 1, 0]
  | 4 => [2, 0, 1]
  | _ => [0, 2, 1]

/-- DT of R235: the largest rising dead time of the legs, rounded up to TCLK, plus one. -/
def Dev.cmDT (d : Dev) (k : Nat) : Nat :=
  (((d.stageUnits k).map (fun n => d.dead n true)).foldl max 0 + 31) / 32 + 1

/-- LAT_MAX of the INJ entry of an instant (R235). -/
def Dev.instLat (d : Dev) (k i : Nat) : Nat :=
  ((List.range 128).findSome? (fun q =>
    let pg := pgADCG (q / 32)
    if d.flagAt pg ADCG.INJ_VALID (q % 32) && d.getAt pg ADCG.INJ_KIND (q % 32) == 0
      && d.getAt pg ADCG.INJ_SRC (q % 32) == k && d.getAt pg ADCG.INJ_INSTANT (q % 32) == i
    then some (d.getAt pg ADCG.INJ_LAT_MAX (q % 32)) else none)).getD 0

def Dev.tWin (d : Dev) (k i : Nat) : Nat := d.cmDT k + d.get (pgSTG k) STG.CM_CFG_SETTLE + d.instLat k i - 37

/-- What the unit decides at a zero event (R233 to R238). -/
def Dev.cmLatch (d : Dev) (k : Nat) : Dev :=
  if !d.recon k then d
  else
    let pg := pgSTG k
    let p := d.period k
    let h := p / 2
    let legs := d.stageUnits k
    let ons := legs.map (fun n => d.rawEdge k n true)
    let offs := legs.map (fun n => d.rawEdge k n false)
    let eff := (List.range legs.length).map (fun j =>
      let u := ons.getD j 0
      (if h ≤ u / 512 ∨ u / 512 = offs.getD j 0 / 512 then h else u / 512, j))
    let order := (sortPos eff).map (·.2)
    let cc := fun (j : Nat) => (eff.getD (order.getD j 0) (0, 0)).1
    let cmax := cc 0
    let cmid := cc 1
    let cmin := cc 2
    let offc := fun (j : Nat) => offs.getD (order.getD j 0) 0 / 512
    let forced := legs.any (fun n => d.actGet (pgLEG n) LEG.CTL_FORCE != 0)
    let tw0 := d.get pg STG.CM_TWIN_TWIN0
    let tw1 := d.get pg STG.CM_TWIN_TWIN1
    let d1 := tw0 - (cmid - cmax)
    let d2 := tw1 - (cmin - cmid)
    let ms := d.get pg STG.CM_CFG_MAX_SHIFT
    let ok1 := d1 = 0 ∨ (d1 ≤ ms ∧ d1 + 1 ≤ cmax ∧ h + 1 + d1 ≤ offc 0)
    let ok2 := d2 = 0 ∨ (d2 ≤ ms ∧ cmin < h ∧ cmin + d2 ≤ h ∧ offc 2 + d2 ≤ p - 1)
    let fits := decide (ok1 ∧ ok2)
    let nowin := !forced && !fits
    let go := !forced && fits
    -- a forced carrier that needs a shift counts too (R238)
    let shifted := fits && (d1 != 0 || d2 != 0)
    let d1 := if go then d1 else 0
    let d2 := if go then d2 else 0
    let shift := fun (l : List Nat) =>
      (l.set (order.getD 0 0) (l.getD (order.getD 0 0) 0 - 512 * d1)).modify (order.getD 2 0) (· + 512 * d2)
    -- a commit that loads in the zero-event TCLK decides it anew, and the counts are the new ones (R169, R238)
    let old := (d.sh k).cm.latch
    let d := if old.1 = d.time + 1 then
        let d := d.setReg (pg + STG.CM_CNT.off) old.2.1
        if d.reg (pg + COM.ERRCODE.off) = old.2.2.2 then d.setReg (pg + COM.ERRCODE.off) old.2.2.1 else d
      else d
    let cnt := d.reg (pg + STG.CM_CNT.off)
    let err := d.reg (pg + COM.ERRCODE.off)
    let base := d.cmDT k + d.get pg STG.CM_CFG_SETTLE - 1
    let d := if shifted then d.incSat pg STG.CM_CNT_SHIFT_CNT else d
    let d := if nowin then (d.incSat pg STG.CM_CNT_NOWIN_CNT).err pg Err.CM_NOWIN else d
    let trippedNow := legs.any d.tripped
    d.modStg k (fun s => { s with cm := { s.cm with
      act := true, forced := forced, nowin := nowin, shifted := shifted, tripped := trippedNow
      d1 := d1, d2 := d2, sector := sectorOf order
      on := shift ons, off := offs, offShifted := shift offs
      e0 := if go then some (s.x0 + (cmax - d1) + base) else none
      e1 := if go then some (s.x0 + cmid + base) else none
      latch := (d.time + 1, cnt, err, d.reg (pg + COM.ERRCODE.off)), res0 := none, res1 := none } })

/-- E0 or E1 of the carrier is reached (R237): the instant is triggered. -/
def Dev.reconTrigger (k : Fin 16) (second : Bool) (d : Dev) : Dev :=
  let cm := (d.sh k).cm
  let due := if second then cm.e1 else cm.e0
  match due with
  | none => d
  | some t =>
    if !cm.act || decide (d.time < t) then d
    else
      let d := d.modStg k (fun s => { s with cm :=
        (if second then { s.cm with e1 := none } else { s.cm with e0 := none }) })
      d.instant k (b2n second) (d.time + 1)

/-- A raw value as a current (R232). -/
def Dev.amps (d : Dev) (k c : Nat) (r : Int) : Int :=
  satInt 16 (roundDiv ((r - d.getIAt (pgSTG k) STG.CM_CH_OFS c) * d.getIAt (pgSTG k) STG.CM_CH_GAIN c) 8192)

/-- A published set takes effect in one TCLK (R231): SEQ and TIME. -/
def Dev.cmStamp (d : Dev) (k : Nat) : Dev :=
  (d.incWrap (pgSTG k) STG.CM_STAT_SEQ).put (pgSTG k) STG.CM_TIME d.time32

/-- TCLK H + 70 of a RECON carrier (R238). -/
def Dev.cmPublish (k : Fin 16) (d : Dev) : Dev :=
  let pg := pgSTG k
  let s := d.sh k
  let cm := s.cm
  let h := d.period k / 2
  if !cm.act || !d.recon k || decide (d.time < s.x0 + h + 70) then d
  else
    let inTime := fun (r : Option ShuntRes) => r.filter (fun x => decide (x.time ≤ s.x0 + h + 67))
    let r0 := inTime cm.res0
    let r1 := inTime cm.res1
    let orF := fun (f : ShuntRes → Bool) => (r0.map f).getD false || (r1.map f).getD false
    let tripped := !cm.forced && cm.tripped
    let nowin := !cm.forced && !cm.tripped && cm.nowin
    let rest := !cm.forced && !cm.tripped && !cm.nowin
    let missing := rest && (r0.isNone || r1.isNone)
    let range := rest && !missing && orF (·.range)
    let valid := rest && !missing && !range
    let d := if valid then
        let s0 := d.amps k 0 (((r0.map (·.code)).getD 0 : Nat) : Int)
        let s1 := d.amps k 0 (((r1.map (·.code)).getD 0 : Nat) : Int)
        let o := phaseOrder cm.sector
        let d := d.putIAt pg STG.CM_I (o.getD 0 0) s0
        let d := d.putIAt pg STG.CM_I (o.getD 2 0) (satInt 16 (-s1))
        d.putIAt pg STG.CM_I (o.getD 1 0) (satInt 16 (-(s0 - s1)))
      else d
    let d := if missing then d.err pg Err.CM_MISSING else d
    let seq := d.get pg STG.CM_STAT_SEQ
    let d := d.put pg STG.CM_STAT (b2n valid * 2 ^ 31 + b2n cm.shifted * 2 ^ 30 + b2n nowin * 2 ^ 29
      + b2n missing * 2 ^ 28 + b2n range * 2 ^ 27 + b2n (orF (·.dist)) * 2 ^ 26 + b2n (orF (·.late)) * 2 ^ 25
      + b2n tripped * 2 ^ 22 + b2n cm.forced * 2 ^ 21 + cm.sector * 2 ^ 18 + seq)
    let d := (d.put pg STG.CM_SHIFT_D1 cm.d1).put pg STG.CM_SHIFT_D2 cm.d2
    (d.cmStamp k).modStg k (fun s => { s with cm := { s.cm with act := false, e0 := none, e1 := none } })

/-- 3 TCLK after the last word of an in-line instant (R241, R242). -/
def Dev.inlinePublish (k : Fin 16) (d : Dev) : Dev :=
  let pg := pgSTG k
  match (d.sh k).cm.inl with
  | [] => d
  | q :: rest =>
    let ws := q.words.filterMap id
    if ws.length < q.words.length || ws.any (fun w => decide (d.time < w.time + 3)) then d
    else
      let d := d.modStg k (fun s => { s with cm := { s.cm with inl := rest } })
      let valid := ws.all (·.ok)
      let cur := fun (c : Nat) => d.amps k c (signed 16 (((ws[c]?).map (·.val)).getD 0))
      let star := fun (d : Dev) (j : Nat) =>
        let a := cur (2 * j)
        let b := cur (2 * j + 1)
        let d := (d.putIAt pg STG.CM_I (3 * j) a).putIAt pg STG.CM_I (3 * j + 1) b
        d.putIAt pg STG.CM_I (3 * j + 2) (satInt 16 (-(a + b)))
      let d := if valid then (List.range (q.words.length / 2)).foldl star d else d
      let seq := d.get pg STG.CM_STAT_SEQ
      let tripped := q.tripped || (d.stageLegs k).any d.tripped
      let d := d.put pg STG.CM_STAT (b2n valid * 2 ^ 31 + b2n (ws.any (·.sat)) * 2 ^ 24
        + b2n (ws.any (fun w => !w.ok)) * 2 ^ 23 + b2n tripped * 2 ^ 22 + 7 * 2 ^ 18 + seq)
      d.cmStamp k

def Dev.cmCntClr (k : Fin 16) (d : Dev) : Dev := d.put (pgSTG k) STG.CM_CNT 0

/-- The measurement checks of a stage enable (R245); `true` refuses. -/
def Dev.cmBad (d : Dev) (k : Nat) : Bool :=
  let pg := pgSTG k
  if d.recon k then d.get pg STG.CFG_MODE != 2 || d.get pg STG.CFG_BOUND != 0
  else if d.get pg STG.CM_MODE_STARS = 0 then false
  else
    let ins := (List.range 24).filter (fun n => d.flag (pgSDI n) SDI.MAP_VALID && d.get (pgSDI n) SDI.MAP_STAGE == k)
    let key := fun n => (d.get (pgSDI n) SDI.CFG_FORMAT, d.get (pgSDI n) SDI.CFG_DIV, d.get (pgSDI n) SDI.OSR_OSR)
    ins.any (fun n => !d.enabled (pgSDI n)) || ins.any (fun n => ins.any (fun m => key n != key m))

/-- A stage enable takes effect: T_WIN is computed (R235) and the set count restarts. -/
def Dev.cmEnable (d : Dev) (k : Nat) : Dev :=
  let pg := pgSTG k
  let d := d.modStg k (fun s => { s with cm := { s.cm with act := false, e0 := none, e1 := none, inl := [] } })
  let d := d.put pg STG.CM_STAT_SEQ 0
  if d.recon k then (d.put pg STG.CM_TWIN_TWIN0 (d.tWin k 0)).put pg STG.CM_TWIN_TWIN1 (d.tWin k 1) else d

end Sys2Proof.Machine
end

