-- ==== Sys2Proof/Machine/Stage.lean ====
section
/-! DEFINITION. Stage timebases and leg edges: carriers, stage events, commit groups, compares (R150 to R169), and the
period of a locked carrier (R141). Levels are 0 L, 1 H, 2 O, 3 OFF (R132). -/

namespace Sys2Proof.Machine

/-- Position x of a running carrier under compare control (R150). -/
def Dev.xPos (d : Dev) (k : Nat) : Nat := d.time - (d.sh k).x0

/-- The counting mode in force (R152). -/
def Dev.countMode (d : Dev) (k : Nat) : Nat :=
  if d.stgSet k = 2 then d.get (pgSTG k) STG.LIMITS_FB_MODE else d.get (pgSTG k) STG.CFG_MODE

/-- COUNTER at position x (R150). -/
def counterAt (mode p x : Nat) : Nat :=
  match mode with
  | 0 => x
  | 1 => if x = 0 then 0 else p - x
  | _ => if x ≤ p / 2 then x else p - x

/-- Position of the period event (R150). -/
def periodPos (mode p : Nat) : Nat :=
  match mode with
  | 0 => p - 1
  | 1 => 1
  | _ => p / 2

/-- The stage works under compare control: running, not frozen, and not in EPHEMERIS (R164). -/
def Dev.compareCtl (d : Dev) (k : Nat) : Bool := d.running k && !d.frozen k && d.stgSet k != 3

/-! ### Loop triggers -/

/-- Stream code of a context (R85). -/
def Dev.ctxStream (d : Dev) (c : Nat) : Nat := d.getAt pgCTX CTX.CCFG_STREAM c

/-- The context runs on the protected stream of a cluster whose compare fault is latched (R351). -/
def Dev.streamLatched (d : Dev) (c : Nat) : Bool :=
  let s := d.ctxStream c
  decide (s / 16 < 4) && (s % 16 == 0 || s % 16 == 2) && d.flag (pgCLU (s / 16)) CLU.MM_INFO_LATCHED

/-- A job of the loop is released and has not completed (R256). -/
def Dev.loopBusy (d : Dev) (id : Nat) : Bool :=
  d.ready.any (fun j => j.loop == id)
  || d.clu.toList.any (fun (c : CluH) => c.run.toList.any (fun r => match r with | some r => r.job.loop == id | none => false))

/-- A dropped trigger (R256). -/
def Dev.overrun (d : Dev) (c : Nat) : Dev :=
  let d := (d.incSatAt pgCTX CTX.CNT_OVERRUN_CNT c).irq pgCTX CTX.IRQ_OVERRUN
  let s := d.ctxStream c / 16
  let d := if s < 4 then d.irq (pgCLU s) CLU.IRQ_OVERRUN else d
  d.errBy pgCTX Err.CTX_OVERRUN c

/-- A loop is triggered (R165, R251, R256, R351). -/
def Dev.triggerLoop (d : Dev) (id : Nat) : Dev :=
  let d := { d with lastTrig := mapPut (fun _ => 0) d.lastTrig id (d.time + 1) }
  match d.loopDecl id with
  | none => d
  | some r =>
    if !d.flagAt pgCTX CTX.CCTL_RUN r.ctx || d.streamLatched r.ctx then d
    else if d.loopBusy id then d.overrun r.ctx
    else { d with trigs := d.trigs ++ [(id, d.time)] }

def Dev.lastTrigger (d : Dev) (id : Nat) : Nat := mapGet (fun _ => 0) d.lastTrig id

/-- A trigger passed over (R139, R165). -/
def Dev.overspeed (d : Dev) (k : Nat) : Dev :=
  ((d.incSatAt pgEPH EPH.CNT_B_SKIP_CNT k).ev k EPH.EV_OVERSPEED).err pgEPH Err.EPH_OVERSPEED

/-- Trigger a loop unless less than `gap` TCLK have passed since its last trigger. -/
def Dev.triggerSpaced (d : Dev) (k id gap : Nat) : Dev :=
  let l := d.lastTrigger id
  if l ≠ 0 ∧ d.time + 1 < l + gap then d.overspeed k else d.triggerLoop id

/-- The loops of a stage with TRIGGER 1 (R52). -/
def Dev.entryLoops (d : Dev) (k : Nat) : List Nat :=
  match d.adm with
  | none => []
  | some s => (s.loops.filter (fun l => l.trigger == 1 && l.trigStage == k)).map (·.id)

/-! ### Stage events -/

/-- The prescaled interrupt bit of an event: 0 zero, 1 period, 2 to 5 CMP0 to CMP3 (R165). -/
def Dev.prescaled (d : Dev) (k ev : Nat) : Dev :=
  let pre := d.get (pgSTG k) STG.CFG_IRQ_PRE + 1
  let c := (d.sh k).irqCnt.getD ev 0
  let d := d.modStg k (fun s => { s with irqCnt := s.irqCnt.set ev ((c + 1) % pre) })
  if c = 0 then d.irqBits (pgSTG k) (2 ^ ev) else d

/-- The TRIG registers routed from an event (R165). -/
def Dev.trigRoutes (d : Dev) (k ev : Nat) : Dev :=
  let pg := pgSTG k
  (List.range 16).foldl (fun d r =>
    if d.flagAt pg STG.TRIG_VALID r && d.getAt pg STG.TRIG_EVENT r == ev then
      let pre := d.getAt pg STG.TRIG_PRESCALE r + 1
      let c := (d.sh k).trigCnt.getD r 0
      let d := d.modStg k (fun s => { s with trigCnt := s.trigCnt.set r ((c + 1) % pre) })
      let id := d.getAt pg STG.TRIG_LOOP_ID r
      if c ≠ 0 then d
      else if d.timing k = 2 ∧ d.getAt pgEPH EPH.STATE_STATE k = 2 then
        d.triggerSpaced k id (pre * d.get pg STG.LIMITS_PERIOD_MIN)
      else d.triggerLoop id
    else d) d

/-- The instants that INST_CFG starts from an event, under compare control (R164). -/
def Dev.instRoutes (d : Dev) (k ev : Nat) : Dev :=
  if d.stgSet k = 3 then d
  else (List.range 4).foldl (fun d i =>
    if (d.get (pgSTG k) STG.INST_CFG) / 16 ^ i % 16 = ev ∧ ¬ (d.recon k ∧ i < 2)
    then d.instant k i (d.time + 1) else d) d

/-- A stage event (R164, R165). -/
def Dev.stageEvent (d : Dev) (k ev : Nat) : Dev :=
  let t := d.time + 1
  let d := if ev = 0 then d.modStg k (fun s => { s with zeroT := t })
    else if ev = 1 then d.modStg k (fun s => { s with perT := t }) else d
  ((d.prescaled k ev).trigRoutes k ev).instRoutes k ev

/-! ### Periods -/

/-- The limits of a locked carrier's period (R141): the period, and whether it was limited. -/
def Dev.lockLimit (d : Dev) (k : Nat) (p : Int) : Nat × Bool :=
  let lo := d.get (pgSTG k) STG.LIMITS_PERIOD_MIN
  if p < lo then (lo, true) else if (2 ^ 24 - 1 : Int) < p then (2 ^ 24 - 1, true) else (p.toNat, false)

/-- P_nom of R141; a speed of 0 has no nominal period and takes the longest one. -/
def Dev.lockNominal (d : Dev) (k : Nat) : Int :=
  let w := (d.est[fin16 k]).omega.natAbs
  let r := d.getAt pgEPH EPH.REGION_LOCK_RATIO k
  if w * r = 0 then 2 ^ 24 else roundDiv (400000000 * 4096 : Nat) (r * w : Nat)

/-- The period of the next locked carrier (R141). -/
def Dev.lockPeriod (d : Dev) (k : Nat) : Int :=
  let e := d.est[fin16 k]
  let r := d.getAt pgEPH EPH.REGION_LOCK_RATIO k
  let nom := d.lockNominal k
  -- φ_e × LOCK_RATIO, in (−2^31, 2^31]
  let a := (((e.theta / 2 ^ 16 : Nat) : Int) - (d.getAt pgEPH EPH.LOCK_PHASE k : Nat)) % (2 ^ 32 : Int)
  let m := (a * r) % (2 ^ 32 : Int)
  let ph := if (2 ^ 31 : Int) < m then m - 2 ^ 32 else m
  let inc := (estInc e.omega).natAbs
  let lim := nom / (2 ^ d.getAt pgEPH EPH.EST_CFG_SLEW_SHIFT k : Nat)
  let delta := if r * inc = 0 then (if ph = 0 then 0 else if 0 < ph then lim else -lim)
    else roundDiv (ph * 2 ^ 16) (r * inc : Nat)
  let delta := if d.flagAt pgEPH EPH.STATE_DIR k then -delta else delta
  nom - (if delta < -lim then -lim else if lim < delta then lim else delta)

/-- A locked carrier's period comes into force (R141). -/
def Dev.setLocked (d : Dev) (k : Nat) (p : Int) : Dev :=
  let (p, lim) := d.lockLimit k p
  let d := d.put (pgSTG k) STG.P_ACT p
  if lim then d.ev k EPH.EV_LOCK_LIMIT else d

/-- A value of the stage's compares or PHASE lies at P or beyond (R162). -/
def Dev.clipped (d : Dev) (k : Nat) : Bool :=
  let p := d.period k
  let past := fun (w : Nat) => decide (p ≤ w / 2 ^ 8)
  d.absMode k && d.stgSet k != 3 &&
    ((List.range 4).any (fun j => past (d.actGetAt (pgSTG k) STG.CMP j))
     || (d.stageUnits k).any (fun n => past (d.actGet (pgLEG n) LEG.CMP_ON) || past (d.actGet (pgLEG n) LEG.CMP_OFF)
        || past (d.actGet (pgLEG n) LEG.PHASE)))

def Dev.clipCheck (d : Dev) (k : Nat) : Dev :=
  if d.clipped k then (d.irq (pgSTG k) STG.IRQ_CLIP).incSat (pgSTG k) STG.CNT_CLIP_CNT else d

/-- The period of a new carrier comes into force (R141, R151, R163). -/
def Dev.periodIn (d : Dev) (k : Nat) : Dev :=
  let pg := pgSTG k
  let set := d.stgSet k
  if set = 3 then d.put pg STG.P_ACT 0
  else
    let s := d.sh k
    -- no period is set under R141 from the TCLK of a fall-back on (R146)
    let d := if set = 1 then (if d.inRun k && (d.fallReason (fin16 k)).isNone then d.setLocked k (d.lockPeriod k) else d)
      else
        let v := d.actGet pg (if set = 2 then STG.FB_PERIOD else STG.PERIOD)
        let lo := d.get pg STG.LIMITS_PERIOD_MIN
        let d := d.put pg STG.P_ACT (max v lo)
        if v < lo ∧ s.perNew then (d.irq pg STG.IRQ_PERIOD_CLAMP).err pg Err.STG_PERIOD_MIN else d
    let v := d.actGet pg STG.PERIOD
    let split := set == 0 && d.absMode k && s.splitNext && v != s.perIn
    let d := if split then (d.irq pg STG.IRQ_SPLIT).incSat pg STG.CNT_SPLIT_CNT else d
    d.modStg k (fun s => { s with perNew := false, splitNext := false, perIn := if set = 0 then v else s.perIn })

/-- A new period comes into force at a zero event or a load, and compares are checked against it (R162). -/
def Dev.loadPeriod (d : Dev) (k : Nat) : Dev :=
  let d := d.periodIn k
  if d.stgSet k = 3 then d else d.clipCheck k

/-- The set that R152 gives from the timing mode and the estimator's state. -/
def Dev.wantedSet (d : Dev) (k : Nat) : Nat :=
  match d.timing k with
  | 0 => 0
  | t => if d.getAt pgEPH EPH.STATE_STATE k = 2 then (if t = 1 then 1 else 3) else 2

/-- A carrier of the same set begins: nothing is taken yet. -/
def Dev.restart (d : Dev) (k x0 : Nat) : Dev :=
  let d := d.modStg k (fun s => { s with x0 := x0, cmpTaken := List.replicate 4 false, perTaken := false })
  (d.stageUnits k).foldl (fun d n => d.modLeg n (fun h => { h with onTaken := false, offTaken := false })) d

/-- Begin a carrier at x = 0 or, for a synchronised start, later, with the set that is due. -/
def Dev.newCarrier (d : Dev) (k x0 : Nat) : Dev :=
  let d := (d.restart k x0).modStg k (fun s => { s with forceZero := none })
  let set := d.wantedSet k
  if set = d.stgSet k then d
  else (d.put (pgSTG k) STG.ST_SET set).modStg k (fun s => { s with perNew := true })

/-- A commit of the stage waits for a boundary that falls in this TCLK (R167): its zero event or its period event,
the start of its carrier, or the forced zero event of a fall-back or a return. -/
def Dev.commitDue (d : Dev) (k : Nat) : Bool :=
  let pg := pgSTG k
  let s := d.sh k
  let t := d.time + 1
  -- the detection of the initial position and a discharge commit with BOUND = 0 (R306, R327)
  let bnd := if d.getAt pgFLD FLD.DSTAT_PHASE k = 2
    || (d.get pgNRG NRG.ST_DIS == 1 && d.get pgNRG NRG.DIS_CFG_STAGE == k) then 0 else d.get pg STG.CFG_BOUND
  d.flag pg COM.COMMIT_PENDING
  && (s.armWhen == 0
      || (s.armWhen == 1 && decide (s.reqT < d.time)
          && (s.startT == t || s.forcedT == t || (s.zeroT == t && bnd != 1) || (s.perT == t && (bnd == 1 || bnd == 2)))))

/-- The first zero event after a clock hold releases the stage's legs from rank 2 (R415). -/
def Dev.holdRelease (d : Dev) (k : Nat) : Dev :=
  let held := (d.stageLegs k).filter (fun n => bitOf d.clk.legHold n)
  if held.isEmpty then d
  else
    let d := { d with clk := { d.clk with legHold := held.foldl (fun m n => setBit m n false) d.clk.legHold } }
    d.refreshList (d.stageUnits k) d.tap0

/-- A return to RUN is due at the zero event of this TCLK (R147). -/
def Dev.returnDue (d : Dev) (k : Nat) : Bool :=
  let ret := 400 * d.getAt pgEPH EPH.TIMES_RET_TIME k
  d.getAt pgEPH EPH.STATE_STATE k == 1 && (d.sh k).zeroT == d.time + 1 && d.stgSet k == 2
  && (match (d.est[fin16 k]).okSince with | some (t, _) => decide (t + ret ≤ d.time) | none => false)
  && d.retCond (fin16 k) && d.running k && !d.frozen k

/-- The measuring unit latches at a zero event; at the zero event of a return to a locked carrier it does so once the
return has set the period (R147, R233). -/
def Dev.cmZero (d : Dev) (k : Nat) : Dev := if d.timing k = 1 ∧ d.returnDue k then d else d.cmLatch k

/-- What marks a zero event: its TCLK, and the release of legs held since a clock hold. -/
def Dev.zeroMark (d : Dev) (k : Nat) : Dev := (d.modStg k (fun s => { s with zeroT := d.time + 1 })).holdRelease k

/-- The zero event is raised (R165), and in FALLBACK triggers the loops that LOOP entries trigger (R146). -/
def Dev.zeroRaise (d : Dev) (k : Nat) : Dev :=
  let d := d.stageEvent k 0
  if d.stgSet k = 2 ∧ d.timing k = 2 then
    (d.entryLoops k).foldl (fun d id => d.triggerSpaced k id (d.getAt pgEPH EPH.TRIG_MIN k)) d
  else d

/-- The zero event of a carrier that begins now (R150, R151, R165). A commit that loads at this event loads the new
period itself (R151), so the period is left to it. -/
def Dev.zeroNow (d : Dev) (k : Nat) : Dev :=
  let d := d.zeroMark k
  let d := if d.commitDue k then (if d.stgSet k = 1 then d.loadPeriod k else d) else (d.loadPeriod k).cmZero k
  d.zeroRaise k

/-- Angle 0 passes in this TCLK (R123, R136). -/
def Dev.passes (d : Dev) (k x : Nat) : Option Nat :=
  let e := d.est[fin16 k]
  let n := e.step.natAbs
  if d.estDir k < 0 then
    let r := (((e.prev : Int) - (x * 2 ^ 16 : Nat)) % (turn48 : Nat)).toNat
    if r < n then some r else none
  else
    let r := ((((x * 2 ^ 16 : Nat) : Int) - e.prev) % (turn48 : Nat)).toNat
    if 0 < r ∧ r ≤ n then some r else none

/-- Entry `i` of the Ephemeris. -/
def Dev.entry (d : Dev) (i : Nat) : Nat :=
  (mapGet ephDefault d.eph (2 * i)).toNat + (mapGet ephDefault d.eph (2 * i + 1)).toNat * 2 ^ 32

def entryAngle (e : Nat) : Nat := e / 2 ^ 32 % 2 ^ 32
def entryAction (e : Nat) : Nat := e / 2 ^ 28 % 16

/-- First entry of bank `b` of a stage (R130). -/
def Dev.bankBase (d : Dev) (k b : Nat) : Nat :=
  d.getAt pgEPH EPH.REGION_BASE k + b * (d.getAt pgEPH EPH.REGION_LEN k / 2)

def Dev.activeBase (d : Dev) (k : Nat) : Nat := d.bankBase k (d.getAt pgEPH EPH.STATE_ACTIVE_BANK k)

/-- The active chart of a stage: the numbers of its entries. -/
def Dev.chart (d : Dev) (k : Nat) : List Nat :=
  (List.range (d.est[fin16 k]).cntA).map (fun j => d.activeBase k + j)

/-- The chart holds an EVENT entry of kind 0 (R123). -/
def Dev.chartHasZero (d : Dev) (k : Nat) : Bool :=
  (d.chart k).any (fun i => entryAction (d.entry i) == 4 && d.entry i / 2 ^ 26 % 4 == 0)

/-- ZERO_EVENT (R150, R146, R123): the counter reaches the end of its carrier, or a fall-back forces the event, or in
EPHEMERIS angle 0 passes while the chart holds no zero entry. -/
def Dev.zeroEvent (k : Fin 16) (d : Dev) : Dev :=
  let s := d.sh k
  if !d.running k || d.frozen k then d
  else match s.forceZero with
  | some t =>
    if t ≤ d.time then
      (((d.newCarrier k d.time).modStg k (fun s => { s with forcedT := d.time + 1 })).incWrap
        (pgSTG k) STG.CARRIER_CNT).zeroNow k
    -- the TCLK before the forced event can end a carrier of its own
    else if d.stgSet k = 3 ∨ d.time < s.x0 + d.period k then d
    else ((d.restart k (s.x0 + d.period k)).incWrap (pgSTG k) STG.CARRIER_CNT).zeroNow k
  | none =>
    if d.stgSet k = 3 then
      (if d.chartHasZero k || (d.passes k 0).isNone || s.zeroT == d.time + 1 then d else d.stageEvent k 0)
    else if d.time < s.x0 + d.period k then d
    else ((d.newCarrier k (s.x0 + d.period k)).incWrap (pgSTG k) STG.CARRIER_CNT).zeroNow k

/-- PERIOD_EVENT (R150). -/
def Dev.periodEvent (k : Fin 16) (d : Dev) : Dev :=
  if !d.compareCtl k || (d.sh k).perTaken || decide (d.xPos k < periodPos (d.countMode k) (d.period k)) then d
  else (d.modStg k (fun s => { s with perTaken := true })).stageEvent k 1

/-- The TCLK of a stage compare in the carrier (R156). -/
def Dev.cmpPos (d : Dev) (k j : Nat) : Nat :=
  (posU (d.absMode k) (d.actGetAt (pgSTG k) STG.CMP j) 0 (d.period k)).1 / 512

/-! ### Leg edges -/

/-- The position of a leg's ON or OFF edge in the carrier (R156, R157, R233). -/
def Dev.edgeU (d : Dev) (k n : Nat) (on : Bool) : Nat :=
  let cm := (d.sh k).cm
  if d.recon k then
    if cm.on.isEmpty || d.stgSet k == 3 then d.rawEdge k n on
    else
      let j := ((d.stageUnits k).findIdx? (· == n)).getD 0
      if on then cm.on.getD j 0
      else if (d.sh k).perTaken then cm.offShifted.getD j 0 else cm.off.getD j 0
  else
    let p := d.period k
    let ph := (posU (d.absMode k) (d.actGet (pgLEG n) LEG.PHASE) 0 p).1
    (d.rawEdge k n on + ph) % (512 * p)

/-- Reverse the order of 4 bits (R161). -/
def rev4 (n : Nat) : Nat := n % 2 * 8 + n / 2 % 2 * 4 + n / 4 % 2 * 2 + n / 8 % 2

/-- Edges are placed at tap 0 while the DLL is unlocked (R161). -/
def Dev.coarseOnly (d : Dev) : Bool := !d.flag pgCLK CLK.ST_DLL_LOCK

/-- The tap of an edge at position u, with dither (R161). -/
def Dev.edgeTap (d : Dev) (k u : Nat) : Nat :=
  if d.coarseOnly then 0
  else u / 16 % 32 + b2n (decide (rev4 (d.get (pgSTG k) STG.CARRIER_CNT % 16) < u % 16))

def Dev.force (d : Dev) (n : Nat) : Nat := d.actGet (pgLEG n) LEG.CTL_FORCE

/-- The level an edge commands (R158, R173): PAIR_POL is an RWS field. -/
def Dev.pulseLevel (d : Dev) (n : Nat) (on : Bool) : Nat :=
  if d.paired n then (if on then (if d.actGet (pgLEG n) LEG.CTL_PAIR_POL = 1 then 0 else 1) else 2)
  else (if on then 1 else 0)

/-- Edges of a leg that are due under compare control (R158 to R160): with both due, the later tap decides, and OFF on
equal taps. -/
def Dev.compareEdges (d : Dev) (k n : Nat) : Dev :=
  let x := d.xPos k
  let h := d.lh n
  let uOn := d.edgeU k n true
  let uOff := d.edgeU k n false
  let on := !h.onTaken && decide (uOn / 512 ≤ x)
  let off := !h.offTaken && decide (uOff / 512 ≤ x)
  let d := d.modLeg n (fun h => { h with onTaken := h.onTaken || on, offTaken := h.offTaken || off })
  if d.force n ≠ 0 then d
  else
    let late := fun (d : Dev) (b : Bool) =>
      if b then (d.irq (pgLEG n) LEG.IRQ_LATE).incSat (pgLEG n) LEG.CNT_LATE_CNT else d
    let lOn := on && decide (uOn / 512 < x)
    let lOff := off && decide (uOff / 512 < x)
    let d := late (late d lOn) lOff
    let tOn := if lOn then 0 else d.edgeTap k uOn
    let tOff := if lOff then 0 else d.edgeTap k uOff
    if off && (!on || decide (tOn ≤ tOff)) then d.command n (d.pulseLevel n false) (d.tap0 + tOff)
    else if on then d.command n (d.pulseLevel n true) (d.tap0 + tOn)
    else d

/-- Ephemeris edges that have reached the leg (R137, R160). -/
def Dev.chartEdges (d : Dev) (k n : Nat) : Dev :=
  let due := (d.sh k).edges.filter (fun e => e.2.1 == n && decide (e.1 < d.tap0 + 32))
  let d := d.modStg k (fun s => { s with edges := s.edges.filter (fun e => !due.contains e) })
  if d.force n ≠ 0 then d
  else due.foldl (fun d e => d.command n e.2.2 (if d.coarseOnly then e.1 / 32 * 32 else e.1)) d

/-! ### Commit groups -/

/-- The addresses of the RWS registers of stage `k`'s commit group (R166). -/
def Dev.stageGroup (d : Dev) (k : Nat) : List Nat :=
  [pgSTG k + 0x48, pgSTG k + 0x4C, pgSTG k + 0x50, pgSTG k + 0x54, pgSTG k + 0x58, pgSTG k + 0x5C]
  ++ (d.stageLegs k).flatMap (fun n => [pgLEG n + 0x50, pgLEG n + 0x54, pgLEG n + 0x58, pgLEG n + 0x5C, pgLEG n + 0x60])
  ++ [pgEPH + 0x120 + 64 * k, pgEPH + 0x124 + 64 * k]

/-- FORCE as a level (R160): 1 L, 2 H, 3 OFF, 4 O. -/
def forceLevel (f : Nat) : Nat := match f with | 1 => 0 | 2 => 1 | 4 => 2 | _ => 3

/-- Edges of a leg that are reached without effect: those up to position `x`, and Ephemeris edges that have arrived. -/
def Dev.edgesPass (d : Dev) (k n : Nat) : Dev :=
  let x := d.xPos k
  let d := d.modStg k (fun s => { s with edges := s.edges.filter (fun e => e.2.1 != n || decide (d.tap0 + 32 ≤ e.1)) })
  if !d.compareCtl k then d
  else
    let onP := decide (d.edgeU k n true / 512 ≤ x)
    let offP := decide (d.edgeU k n false / 512 ≤ x)
    d.modLeg n (fun h => { h with onTaken := h.onTaken || onP, offTaken := h.offTaken || offP })

/-- FORCE of a leg loads (R160): a reserved value, or O on a leg that is not a pair master, loads as OFF. -/
def Dev.forceCheck (d : Dev) (n : Nat) : Dev :=
  let pg := pgLEG n
  let f := d.force n
  if decide (5 ≤ f) || (f == 4 && (!d.paired n || d.slave n)) then
    ((d.setAct (pg + 0x5C) (wordPut (d.actReg (pg + 0x5C)) 0 3 3)).irq pg LEG.IRQ_FORCE_BAD).err pg Err.LEG_FORCE
  else d

/-- The FORCE that has loaded acts on its unit (R160): a level, or, at the end of a FORCE, the passing of the edges up to
this TCLK (R169). A frozen stage keeps its legs OFF (R155). -/
def Dev.loadForce (d : Dev) (k n old : Nat) : Dev :=
  let f := d.force n
  if f ≠ 0 then
    let d := d.edgesPass k n
    if d.frozen k then d else d.command n (forceLevel f) d.tap0
  else if old ≠ 0 then d.edgesPass k n
  else d

/-- A commit loads ARM (R142, R144). -/
def Dev.loadArm (d : Dev) (k : Nat) : Dev :=
  if d.actGetAt pgEPH EPH.ARM k = 0 then d.putAt pgEPH EPH.STATE_ARMED k 0
  else if d.flagAt pgEPH EPH.STATE_IDLE_LOADED k then
    (d.putAt pgEPH EPH.STATE_ARMED k 1).modEst k (fun e => { e with armT := d.time })
  else
    let w := d.reg (pgEPH + 0x20)
    let d := d.err pgEPH Err.EPH_NOT_LOADED
    d.modEst k (fun e => { e with armRef := some (d.time, w, d.reg (pgEPH + 0x20)) })

/-- Every RWS field of stage `k`'s group loads (R24, R151, R160, R163). -/
def Dev.loadStageGroup (d : Dev) (k : Nat) : Dev :=
  let pg := pgSTG k
  let s := d.sh k
  let units := d.stageUnits k
  let olds := units.map (fun n => d.force n)
  let p0 := d.actGet pg STG.PERIOD
  let f0 := d.actGet pg STG.FB_PERIOD
  let bnd := s.armWhen != 0
  -- a write that completes in the boundary cycle stays for the next commit (R24)
  let later := if bnd then s.written.filter d.freshAt else []
  let written := if bnd then s.written.filter (fun a => !d.freshAt a) else s.written
  let d := (d.stageGroup k).foldl (fun d a => d.loadActAt bnd a) d
  let newP := d.actGet pg STG.PERIOD != p0
  let newF := d.actGet pg STG.FB_PERIOD != f0
  let all := units.all (fun n => written.contains (pgLEG n + 0x50) && written.contains (pgLEG n + 0x54))
  let d := d.modStg k (fun s => { s with
    loadT := d.time, perNew := s.perNew || (newP && d.stgSet k == 0) || (newF && d.stgSet k == 2), written := later
    splitNext := if written.contains (pg + STG.PERIOD.off) then !all else s.splitNext })
  let t := d.time + 1
  let d := if d.running k && (s.zeroT == t || s.startT == t) && d.stgSet k != 3
    then (let d := if d.stgSet k = 1 then d.clipCheck k else d.loadPeriod k; if s.zeroT = t then d.cmZero k else d)
    else if d.running k then d.clipCheck k else d
  let d := (d.stageLegs k).foldl (fun d n => d.forceCheck n) d
  let d := (units.zip olds).foldl (fun d u => d.loadForce k u.1 u.2) d
  if written.contains (pgEPH + 0x120 + 64 * k) then d.loadArm k else d

/-- A service that is the only writer of the stage arms its commit (R301, R326). It takes the place of one that is pending,
and stores no code (log entry 100). -/
def Dev.armStage (d : Dev) (k when : Nat) : Dev :=
  ((d.put (pgSTG k) COM.COMMIT_WHEN when).put (pgSTG k) COM.COMMIT_PENDING 1).modStg k (fun s => { s with
    reqT := d.time, armWhen := when })

/-- COMMIT_LOAD of a stage's group (R24, R167). WHEN = 2 loads with the array boundary. -/
def Dev.commitLoadStage (k : Fin 16) (d : Dev) : Dev :=
  if d.commitDue k then (d.put (pgSTG k) COM.COMMIT_PENDING 0).loadStageGroup k else d

/-! ### Edges and compares -/

/-- STAGE_COMPARE_EVENT (R159, R164). A load of this TCLK acts first (R169). -/
def Dev.stageCompare (k : Fin 16) (j : Fin 4) (d : Dev) : Dev :=
  let d := d.commitLoadStage k
  let c := d.cmpPos k j
  let x := d.xPos k
  if !d.compareCtl k || (d.sh k).cmpTaken.getD j false || decide (x < c) then d
  else
    let d := d.modStg k (fun s => { s with cmpTaken := s.cmpTaken.set j true })
    let d := d.irqIf (decide (c < x)) (pgSTG k) STG.IRQ_LATE_EDGE
    d.stageEvent k (2 + j)

/-- LEG_EDGE (R137, R159): Ephemeris edges that have reached the generator, whichever set is in force by now, and then the
edges of the compares. A load of this TCLK acts first (R169). On a frozen LEG page edges pass without effect (R15). -/
def Dev.legEdge (n : Fin 64) (d : Dev) : Dev :=
  let k := d.legStage n
  if !d.bound n || d.slave n || !d.running k || d.frozen k then d
  else
    let d := d.commitLoadStage (fin16 k)
    if d.flag (pgLEG n) COM.ST_FROZEN then d.edgesPass k n
    else
      let d := d.chartEdges k n
      if d.stgSet k = 3 then d else d.compareEdges k n

/-! ### Start, stop and freeze -/

/-- Every leg of a stage is commanded OFF (R154). -/
def Dev.legsOff (d : Dev) (k : Nat) : Dev := (d.stageUnits k).foldl (fun d n => d.command n 3 d.tap0) d

/-- COUNTER as the carrier shows it now. -/
def Dev.counter (d : Dev) (k : Nat) : Nat :=
  if d.stgSet k = 3 then 0 else counterAt (d.countMode k) (d.period k) (d.xPos k)

def Dev.stgCfgBad (d : Dev) (k : Nat) : Bool :=
  let pg := pgSTG k
  let src := d.get pg STG.CFG_SYNC_SRC
  d.get pg STG.CFG_MODE == 3 || d.get pg STG.CFG_BOUND == 3 || src == k || (decide (17 ≤ src) && decide (src ≤ 30))
  || (List.range 4).any (fun i => decide (6 ≤ d.get pg STG.INST_CFG / 16 ^ i % 16))
  || d.get pg COM.OWNER_KIND == 0

/-- The enable of a stage (R153, R154, R175, R141, R245). -/
def Dev.stgEnable (d : Dev) (k : Fin 16) : Dev :=
  let pg := pgSTG k
  -- no stage is enabled while a set is applied (R80): the enable has no effect, and no code answers it (log entry 91)
  if d.get pgALM ALM.ST_STATE = 3 then d
  else if d.stgCfgBad k then d.err pg Err.STG_CFG
  else if d.timing k = 1 ∧ d.absMode k then d.err pg Err.EPH_CFG
  else if d.cmBad k then d.err pg Err.CM_CFG
  else
    let d := (d.put pg COM.ST_ENABLED 1).put pg STG.CARRIER_CNT 0
    let d := d.modStg k (fun s => { s with irqCnt := List.replicate 6 0, trigCnt := List.replicate 16 0, perNew := true
                                           edges := [], forceZero := none, forcedT := 0 })
    let d := d.cmEnable k
    let d := (d.stageUnits k).foldl (fun (d : Dev) n =>
      (d.put (pgLEG n) LEG.LEVEL_CMD 3).modLeg n (fun h => h.noteCmd false d.time)) d
    if d.get pg STG.CFG_SYNC_SRC = 31 then
      let d := (d.put pg STG.ST_RUNNING 1).newCarrier k d.time
      let d := d.modStg k (fun s => { s with startT := d.time + 1 })
      (d.zeroNow k).refreshList (d.stageUnits k) d.tap0
    else d.put pg STG.ST_WAIT_SYNC 1

/-- A write of 0 to the enable of a stage (R154). -/
def Dev.stgDisable (d : Dev) (k : Fin 16) : Dev :=
  let pg := pgSTG k
  let d := if d.running k && !d.frozen k then d.put pg STG.COUNTER (d.counter k) else d
  let d := ((d.put pg COM.ST_ENABLED 0).put pg STG.ST_RUNNING 0).put pg STG.ST_WAIT_SYNC 0
  let d := d.put pg COM.ST_FROZEN 0
  let d := d.modStg k (fun s => { s with forceZero := none, edges := [], cm := { s.cm with
    act := false, e0 := none, e1 := none, inl := [] } })
  d.legsOff k

/-- SYNC_START (R153): `src` says that the source's zero event, or the array epoch, falls in this TCLK. -/
def Dev.syncStart (epoch : Dev → Bool) (k : Fin 16) (d : Dev) : Dev :=
  let pg := pgSTG k
  let j := d.get pg STG.CFG_SYNC_SRC
  let go := if j < 16 then (d.sh j).zeroT == d.time + 1 else j == 16 && epoch d
  if !d.enabled pg || !d.flag pg STG.ST_WAIT_SYNC || !go then d
  else
    let d := ((d.put pg STG.ST_WAIT_SYNC 0).put pg STG.ST_RUNNING 1).newCarrier k d.time
    let d := d.modStg k (fun s => { s with startT := d.time + 1 })
    -- a commit that waits for the start loads first (R167), since x comes from the period in force
    let due := d.commitDue k
    let d := if due && d.stgSet k != 1 then d else d.periodIn k
    let d := if due then d.commitLoadStage k else d
    let p := d.period k
    let x := if d.stgSet k = 3 then 0 else if p = 0 then 0 else d.get pg STG.SYNC_OFS % p
    let d := d.modStg k (fun s => { s with x0 := d.time - x })
    if x = 0 then
      let d := d.zeroMark k
      let d := (if due then d else d.clipCheck k).cmZero k
      (d.zeroRaise k).refreshList (d.stageUnits k) d.tap0
    else
      -- everything below x counts as taken, and nothing is measured before the first zero event (R153, R233)
      let d := d.modStg k (fun s => { s with
        cmpTaken := (List.range 4).map (fun i => decide (d.cmpPos k i < x))
        perTaken := decide (periodPos (d.countMode k) p < x)
        cm := { s.cm with act := false, on := [], off := [], offShifted := [] } })
      let d := (d.stageUnits k).foldl (fun d n =>
        let a := decide (d.edgeU k n true / 512 < x)
        let b := decide (d.edgeU k n false / 512 < x)
        d.modLeg n (fun h => { h with onTaken := a, offTaken := b })) d
      d.refreshList (d.stageUnits k) d.tap0

/-- A debug halt freezes a stage with HALT_FREEZE = 1 (R155). -/
def Dev.stgFreeze (d : Dev) (k : Nat) : Dev :=
  let pg := pgSTG k
  if !d.flag pg COM.ST_ENABLED || d.frozen k then d
  -- a stage that waits for its source goes on waiting after the freeze
  else if !d.running k then d.put pg COM.ST_FROZEN 1
  else
    let d := d.put pg STG.COUNTER (d.counter k)
    let d := d.put pg COM.ST_FROZEN 1
    let d := d.modStg k (fun s => { s with edges := [], forceZero := none
                                           cm := { s.cm with act := false, e0 := none, e1 := none } })
    d.legsOff k

/-- The freeze of a stage ends: the carrier restarts at x = 0 with a zero event (R155). -/
def Dev.stgFreezeEnd (d : Dev) (k : Nat) : Dev :=
  let pg := pgSTG k
  if !d.frozen k then d
  else if !d.running k then d.put pg COM.ST_FROZEN 0
  else
    let d := (d.put pg COM.ST_FROZEN 0).newCarrier k d.time
    -- a FORCE that stands commands its level again
    let d := (d.stageUnits k).foldl (fun d n => if d.force n = 0 then d else d.command n (forceLevel (d.force n)) d.tap0) d
    let d := d.modStg k (fun s => { s with startT := d.time + 1 })
    ((d.incWrap pg STG.CARRIER_CNT).zeroNow k)

def Dev.stgCntClr (k : Fin 16) (d : Dev) : Dev := d.put (pgSTG k) STG.CNT 0
def Dev.legCntClr (n : Fin 64) (d : Dev) : Dev := d.put (pgLEG n) LEG.CNT 0

/-- The enable of a leg (R173, R175): refused for the odd leg of a pair and for an unbound leg. -/
def Dev.legEnable (d : Dev) (n : Fin 64) : Dev :=
  let pg := pgLEG n
  if d.slave n then d.err pg Err.LEG_CFG
  else if !d.bound n then d.err pg Err.LEG_NOT_BOUND
  else (d.put pg COM.ST_ENABLED 1).refresh n d.tap0

def Dev.legDisable (d : Dev) (n : Fin 64) : Dev := (d.put (pgLEG n) COM.ST_ENABLED 0).refresh n d.tap0

end Sys2Proof.Machine
end

