-- ==== Sys2Proof/Machine/Ephemeris.lean ====
section
/-! DEFINITION. The Ephemeris: entries, chart loading, firing, chart switches, fallback and return (R129 to R149). -/

namespace Sys2Proof.Machine

/-! ### Entries (R131, R132) -/

def entryLeg (e : Nat) : Nat := e / 2 ^ 22 % 64
def entryState (e : Nat) : Nat := e / 2 ^ 20 % 4
def entryPrior (e : Nat) : Nat := e / 2 ^ 18 % 4
def entryInstant (e : Nat) : Nat := e / 2 ^ 26 % 4
def entryLoop (e : Nat) : Nat := e / 2 ^ 20 % 256

/-- Store entry `i`. -/
def Dev.setEntry (d : Dev) (i e : Nat) : Dev :=
  let m := mapPut ephDefault d.eph (2 * i) (BitVec.ofNat 32 e)
  { d with eph := mapPut ephDefault m (2 * i + 1) (BitVec.ofNat 32 (e / 2 ^ 32)) }

/-- Entry `e` is bad by itself for stage `k` (R133). -/
def Dev.entryBad (d : Dev) (k e : Nat) : Bool :=
  match entryAction e with
  | 0 => e % 2 ^ 28 != 0
  | 1 =>
    let n := entryLeg e
    e % 2 ^ 18 != 0 || !d.bound n || d.legStage n != k || d.slave n || (entryState e == 2 && !d.paired n)
  | 2 => e % 2 ^ 26 != 0 || decide (((d.stageDecl k).map (·.nInst)).getD 0 ≤ entryInstant e)
  | 3 => e % 2 ^ 20 != 0 || !(d.entryLoops k).contains (entryLoop e)
  | 4 => e % 2 ^ 26 != 0
  | _ => true

/-- Index of the first bad entry of a chart (R133), in chart order. -/
def Dev.firstBad (d : Dev) (k : Nat) : Nat → Option Nat → List Nat → List Nat → Option Nat
  | _, _, _, [] => none
  | j, prev, before, e :: t =>
    let falls := match prev with | some a => decide (entryAngle e < a) | none => false
    let twice := entryAction e == 1 && before.any (fun f =>
      entryAction f == 1 && entryLeg f == entryLeg e && entryAngle f == entryAngle e)
    if d.entryBad k e || falls || twice then some j
    else d.firstBad k (j + 1) (some (entryAngle e)) (before ++ [e]) t

/-- The PRIOR that validation writes into entry `j` of a chart (R133). -/
def priorOf (l : List Nat) (j : Nat) : Nat :=
  let e := l.getD j 0
  let same := fun f => entryAction f == 1 && entryLeg f == entryLeg e
  match ((l.take j).filter same).getLast? with
  | some f => entryState f
  | none => match ((l.drop j).filter same).getLast? with | some f => entryState f | none => entryState e

def withPriors (l : List Nat) : List Nat :=
  (List.range l.length).map (fun j =>
    let e := l.getD j 0
    if entryAction e = 1 then e - entryPrior e * 2 ^ 18 + priorOf l j * 2 ^ 18 else e)

/-! ### Loading (R134, R135) -/

def Dev.bankSize (d : Dev) (k : Nat) : Nat := d.getAt pgEPH EPH.REGION_LEN k / 2

def Dev.idleBase (d : Dev) (k : Nat) : Nat := d.bankBase k (1 - d.getAt pgEPH EPH.STATE_ACTIVE_BANK k)

def Dev.loadBusy (d : Dev) (k : Nat) : Bool :=
  d.flagAt pgEPH EPH.STATE_LOADING k || d.flagAt pgEPH EPH.STATE_ARMED k
  -- in the TCLK of a switch too (R144)
  || (d.est[fin16 k]).swapT == d.time + 1

/-- A load is accepted (R135): t_load from now at the latest. -/
def Dev.startLoad (d : Dev) (k c n span : Nat) : Dev :=
  (d.putAt pgEPH EPH.STATE_LOADING k 1).modEst k (fun e =>
    { e with loadEnd := d.time + span, loadChart := c, loadCount := n })

/-- LOAD of a library chart (R134, R135). -/
def Dev.ephLoad (mem : List Host.Cell) (k : Fin 16) (c : BitVec 16) (d : Dev) : Dev :=
  let lib := d.getAt pgEPH EPH.LIB_ADDR k
  let n := memNat mem (lib + 8 + 8 * c.toNat + 4) 2
  if d.loadBusy k then d.err pgEPH Err.EPH_LOAD_BUSY
  else if memNat mem lib 4 ≤ c.toNat then d.err pgEPH Err.EPH_CHART_RANGE
  else if n = 0 ∨ d.bankSize k < n then d.err pgEPH Err.EPH_CHART_SIZE
  else d.startLoad k c.toNat n (2000 + 8 * n)

/-- LOAD with CHART = 0xFFFF (R135). -/
def Dev.ephValidate (k : Fin 16) (count : BitVec 11) (d : Dev) : Dev :=
  let n := count.toNat
  if d.loadBusy k then d.err pgEPH Err.EPH_LOAD_BUSY
  else if n = 0 ∨ d.bankSize k < n then d.err pgEPH Err.EPH_CHART_SIZE
  else d.startLoad k 0xFFFF n (2000 + 4 * n)

/-- A load ends without a valid chart (R135). -/
def Dev.loadFail (d : Dev) (k code idx : Nat) : Dev :=
  let d := (d.putAt pgEPH EPH.LOAD_ERR_CODE k code).putAt pgEPH EPH.LOAD_ERR_INDEX k idx
  ((d.putAt pgEPH EPH.STATE_IDLE_LOADED k 0).ev k EPH.EV_LOAD_FAIL).err pgEPH code

/-- A load completes in the TCLK of a commit that loads ARM: the arm is accepted (R144), and the code that it stored before
the load completed goes. -/
def Dev.armAgain (d : Dev) (k : Fin 16) : Dev :=
  match (d.est[k]).armRef with
  | none => d
  | some (t, before, after) =>
    if t ≠ d.time then d
    else
      let d := if d.reg (pgEPH + 0x20) = after then d.setReg (pgEPH + 0x20) before
        else d.put pgEPH COM.ERRCODE_LOST (d.get pgEPH COM.ERRCODE_LOST - 1)
      (d.putAt pgEPH EPH.STATE_ARMED k 1).modEst k (fun e => { e with armT := d.time, armRef := none })

/-- A load or validation completes (R133, R135); `bad` tells of a word that ECC cannot correct. -/
def Dev.loadDone (mem : List Host.Cell) (bad : Nat → Bool) (k : Fin 16) (d : Dev) : Dev :=
  let e := d.est[k]
  if !d.flagAt pgEPH EPH.STATE_LOADING k then d
  else
    let base := d.idleBase k
    let n := e.loadCount
    let lib := d.getAt pgEPH EPH.LIB_ADDR k
    let src := lib + memNat mem (lib + 8 + 8 * e.loadChart) 4
    let d := d.putAt pgEPH EPH.STATE_LOADING k 0
    let broken := if e.loadChart = 0xFFFF then none
      else (List.range n).find? (fun j => bad (src + 8 * j) || bad (src + 8 * j + 4))
    match broken with
    | some j => d.loadFail k Err.EPH_LOAD_DRAM j
    | none =>
      let d := if e.loadChart = 0xFFFF then d
        else (List.range n).foldl (fun d j => d.setEntry (base + j) (memNat mem (src + 8 * j) 8)) d
      let l := (List.range n).map (fun j => d.entry (base + j))
      match d.firstBad k 0 none [] l with
      | some j => d.loadFail k Err.EPH_CHART_BAD j
      | none =>
        let d := ((withPriors l).zip (List.range n)).foldl (fun d p => d.setEntry (base + p.2) p.1) d
        let d := d.modEst k (fun e => { e with cntI := n, chartI := e.loadChart })
        (((d.putAt pgEPH EPH.STATE_IDLE_LOADED k 1).ev k EPH.EV_LOAD_DONE).armAgain k)

/-- The stage whose region holds entry `i` (R130). -/
def Dev.regionOf (d : Dev) (i : Nat) : Option Nat :=
  (List.range 16).find? (fun k =>
    let b := d.getAt pgEPH EPH.REGION_BASE k
    decide (b ≤ i ∧ i < b + d.getAt pgEPH EPH.REGION_LEN k))

/-- A host write to word `w` of the window (R13, R135); `whole` says that it is an aligned 32-bit write. -/
def Dev.ephWindowWrite (w : Fin 6144) (whole : Bool) (v : Word) (d : Dev) : Dev :=
  let i := w.val / 2
  if !whole then d.err pgEPH Err.ACCESS_WIDTH
  else match d.regionOf i with
  | none => d.err pgEPH Err.EPH_ACTIVE_WRITE
  | some k =>
    let inBank := fun (b : Nat) => decide (b ≤ i ∧ i < b + d.bankSize k)
    -- a region belongs to its stage's owner, and the host writes only its own (R135)
    if d.get (pgSTG k) COM.OWNER_KIND ≠ 1 || inBank (d.activeBase k) || (inBank (d.idleBase k) && d.loadBusy k) then d.err pgEPH Err.EPH_ACTIVE_WRITE
    else
      let d := { d with eph := mapPut ephDefault d.eph w v }
      if inBank (d.idleBase k) then d.putAt pgEPH EPH.STATE_IDLE_LOADED k 0 else d

def Dev.ephCntClr (k : Fin 16) (d : Dev) : Dev := (d.putAt pgEPH EPH.CNT_A k 0).putAt pgEPH EPH.CNT_B k 0

/-! ### Firing (R136 to R139) -/

/-- Queue an edge for a leg's generator (R137, R143). -/
def Dev.queueEdge (d : Dev) (k n level tap : Nat) : Dev :=
  d.modStg k (fun s => { s with edges := s.edges ++ [(32 * (d.time + 3) + tap, n, level)] })

/-- The travel of θ̂ in this TCLK (R136). -/
def Dev.travel (d : Dev) (k : Nat) : Nat := (d.est[fin16 k]).step.natAbs

/-- Entry `i` fires at tap `tap` (R137). -/
def Dev.fire (d : Dev) (k i tap : Nat) : Dev :=
  let e := d.entry i
  match entryAction e with
  | 1 => d.queueEdge k (entryLeg e) (if d.estDir k < 0 then entryPrior e else entryState e) tap
  | 2 => d.instant k (entryInstant e) (d.time + 3)
  | 3 => d.triggerSpaced k (entryLoop e) (d.getAt pgEPH EPH.TRIG_MIN k)
  | 4 =>
    match e / 2 ^ 26 % 4 with
    | 0 => d.stageEvent k 0
    | 1 => d.stageEvent k 1
    | 2 => d.ev k EPH.EV_MARK
    | _ => if bitOf (d.get pgCAP CAP.STAGE_MASK) k then d.capFire 3 else d
  | _ => d

/-- Entries of the active chart that pass in this TCLK beyond what has been dealt with and up to `upto`, in the order
in which θ̂ meets them: distance and number (R136). -/
def Dev.passing (d : Dev) (k upto : Nat) : List (Nat × Nat) :=
  let seen := (d.est[fin16 k]).seen
  let l := if d.estDir k < 0 then (d.chart k).reverse else d.chart k
  sortPos (l.filterMap (fun i => match d.passes k (entryAngle (d.entry i)) with
    | none => none
    | some r =>
      let old := match seen with | some s => decide (r ≤ s) | none => false
      if r ≤ upto ∧ !old then some (r, i) else none))

/-- Deal with the entries due up to a distance of this TCLK's travel (R138): the carried ones first, at tap 0, at most 8
in the TCLK; the rest carry over. -/
def Dev.fireUpTo (d : Dev) (k upto : Nat) : Dev :=
  let e := d.est[fin16 k]
  let first := e.seen.isNone
  let old := if first then e.carried.map (fun i => (i, 0, false)) else []
  let fresh := (d.passing k upto).map (fun p => (p.2, 32 * p.1 / d.travel k, true))
  let room := if !first && !e.carried.isEmpty then 0 else 8 - e.fired
  let due := old ++ fresh
  let now := due.take room
  let later := due.drop room
  let d := d.modEst k (fun e => { e with fired := e.fired + now.length, seen := some upto
                                         carried := (if first then [] else e.carried) ++ later.map (·.1) })
  let d := now.foldl (fun d p => d.fire k p.1 p.2.1) d
  (later.filter (fun p => p.2.2)).foldl (fun d _ => (d.incSatAt pgEPH EPH.CNT_A_LATE_CNT k).ev k EPH.EV_LATE) d

/-- The stage fires entries: angle mode, RUN, with a chart (R124, R136); not in a TCLK in which a condition of a fall-back
holds (R144, R146). -/
def Dev.firing (d : Dev) (k : Nat) : Bool :=
  d.timing k == 2 && (d.fallReason (fin16 k)).isNone && !d.ephFrozen && d.getAt pgEPH EPH.STATE_STATE k == 2 && (d.est[fin16 k]).on && d.running k && !d.frozen k

/-- The armed switch takes place in this TCLK (R142): the distance of CROSS_ANGLE. -/
def Dev.crossing (d : Dev) (k : Nat) : Option Nat :=
  if d.flagAt pgEPH EPH.STATE_ARMED k && decide ((d.est[fin16 k]).armT < d.time) then
    d.passes k (d.actGetAt pgEPH EPH.CROSS_ANGLE k)
  else none

/-- ENTRY_FIRE: everything of the active chart that is due in this TCLK (R136 to R138); before a switch, up to and
including CROSS_ANGLE (R142). -/
def Dev.entryFire (k : Fin 16) (d : Dev) : Dev :=
  if !d.firing k then d
  else d.fireUpTo k ((d.crossing k).getD (d.travel k))

/-! ### Switches (R142, R143) -/

/-- The last entry of leg `n` in `l`, the edges of a chart in ascending order, that satisfies `p`; the last of all when
none does (cyclic order). -/
def impliedLevel (l : List Nat) (p : Nat → Bool) (n : Nat) : Option Nat :=
  let own := l.filter (fun e => entryAction e == 1 && entryLeg e == n)
  match (own.filter p).getLast? with
  | some e => some (entryState e)
  | none => (own.getLast?).map entryState

/-- The level a leg is commanded to, edges on their way included. -/
def Dev.lastCommand (d : Dev) (k n : Nat) : Nat :=
  match ((d.sh k).edges.filter (fun e => e.2.1 == n && decide (d.tap0 ≤ e.1))).getLast? with
  | some e => e.2.2
  | none => d.get (pgLEG n) LEG.LEVEL_CMD

/-- The level check of R143 at an angle given by `p`. -/
def Dev.levelCheck (d : Dev) (k : Nat) (p : Nat → Bool) : Dev :=
  let l := (d.chart k).map d.entry
  (d.stageUnits k).foldl (fun d n =>
    match impliedLevel l p n with
    | none => d
    | some v =>
      if v = d.lastCommand k n then d
      else ((d.queueEdge k n v 0).incSatAt pgEPH EPH.CNT_B_STEP_CNT k).ev k EPH.EV_STEP) d

/-- The banks swap (R142). -/
def Dev.swapBanks (d : Dev) (k : Nat) : Dev :=
  let e := d.est[fin16 k]
  let d := d.putAt pgEPH EPH.STATE_ACTIVE_BANK k (1 - d.getAt pgEPH EPH.STATE_ACTIVE_BANK k)
  let d := (d.putAt pgEPH EPH.STATE_ACTIVE_CHART k e.chartI).putAt pgEPH EPH.STATE_CHART_VALID k 1
  let d := (d.putAt pgEPH EPH.STATE_ARMED k 0).putAt pgEPH EPH.STATE_IDLE_LOADED k 0
  (d.modEst k (fun e => { e with cntA := e.cntI, cntI := 0, swapT := d.time + 1 })).ev k EPH.EV_SWITCHED

/-- SWITCHED (R142, R143): CROSS_ANGLE passes with a switch armed. -/
def Dev.switched (k : Fin 16) (d : Dev) : Dev :=
  if !d.firing k then d
  else match d.crossing k with
  | none => d
  | some r =>
    let x := d.actGetAt pgEPH EPH.CROSS_ANGLE k
    let d := (d.fireUpTo k r).swapBanks k
    let neg := decide (d.estDir k < 0)
    let d := d.levelCheck k (fun e => if neg then decide (entryAngle e < x) else decide (entryAngle e ≤ x))
    d.fireUpTo k (d.travel k)

/-! ### Fallback and return (R144 to R147) -/

/-- The stage falls back, with its REASON (R146). -/
def Dev.fallBack (d : Dev) (k reason : Nat) : Dev :=
  let d := (d.putAt pgEPH EPH.STATE_STATE k 1).putAt pgEPH EPH.STATE_REASON k reason
  let d := d.put pgEPH EPH.ST_RUN (setBit (d.get pgEPH EPH.ST_RUN) k false)
  let d := (d.ev k EPH.EV_FALLBACK).err pgEPH Err.EPH_FALLBACK
  let d := d.modEst k (fun e => { e with carried := [], reversed := false, okSince := none })
  if d.running k then d.modStg k (fun s => { s with forceZero := some (d.time + 1) }) else d

/-- FALLBACK: the first row of R145 that holds. -/
def Dev.fallback (k : Fin 16) (d : Dev) : Dev :=
  if d.ephFrozen then d
  else match d.fallReason k with
  | some r => d.fallBack k r
  | none => d

/-- RETURN (R147): at a fallback zero event after RET_TIME. -/
def Dev.returnRun (k : Fin 16) (d : Dev) : Dev :=
  let e := d.est[k]
  if !d.returnDue k || d.ephFrozen then d
  else
    let d := (d.putAt pgEPH EPH.STATE_STATE k 2).putAt pgEPH EPH.STATE_DIR k (b2n (decide (e.omega < 0)))
    let d := d.put pgEPH EPH.ST_RUN (setBit (d.get pgEPH EPH.ST_RUN) k true)
    let d := d.modEst k (fun x => { x with reversed := false, carried := [], seen := some turn48 })
    let d := d.modStg k (fun s => { s with x0 := d.time, forceZero := none, forcedT := d.time + 1 })
    let d := d.ev k EPH.EV_RETURN
    if d.timing k = 1 then
      let d := ((d.put (pgSTG k) STG.ST_SET 1).setLocked k (d.lockNominal k)).clipCheck k
      if d.commitDue k then d else d.cmLatch k
    else
      let d := (d.put (pgSTG k) STG.ST_SET 3).put (pgSTG k) STG.P_ACT 0
      let d := if d.flagAt pgEPH EPH.STATE_ARMED k then d.swapBanks k else d
      let th := e.theta
      let neg := decide (e.omega < 0)
      d.levelCheck k (fun x => if neg then decide (entryAngle x * 2 ^ 16 < th) else decide (entryAngle x * 2 ^ 16 ≤ th))

/-! ### Enable of an estimator (R124, R141, R147, R149) -/

def Dev.estBad (d : Dev) (k : Nat) : Bool :=
  let t := d.timing k
  t == 0 || (t == 2 && decide (d.getAt pgEPH EPH.REGION_LEN k < 2)) || (t == 1 && d.absMode k)
  || decide (d.getAt pgEPH EPH.F_HIGH k ≤ d.getAt pgEPH EPH.F_LOW k) || d.getAt pgEPH EPH.EST_CFG_GLITCH_N k == 0

def Dev.estEnable (d : Dev) (k : Fin 16) : Dev :=
  if d.estBad k then d.err pgEPH Err.EPH_CFG
  else
    let d := ((d.putAt pgEPH EPH.STATE_STATE k 1).putAt pgEPH EPH.STATE_REASON k 0).ephCntClr k
    d.modEst k (fun e => { e with on := true, pend := 0, firstUpd := true, firstSpd := true, rejects := 0
                                  lastUpd := d.time, badSince := none, okSince := none, reversed := false
                                  newAngle := none, newSpeed := none, newRev := false, fired := 0, carried := [], seen := none })

/-- SCTRL.EN written 0 (R145 row 1, R146). -/
def Dev.estDisable (d : Dev) (k : Fin 16) : Dev :=
  if !(d.est[k]).on then d.putAt pgEPH EPH.STATE_ARMED k 0
  else
    let d := if d.inRun k then d.fallBack k 5 else d
    let d := (d.putAt pgEPH EPH.STATE_STATE k 0).putAt pgEPH EPH.STATE_REASON k 5
    (d.putAt pgEPH EPH.STATE_ARMED k 0).modEst k (fun e =>
      { e with on := false, okSince := none, badSince := none, newAngle := none, newSpeed := none, newRev := false })

end Sys2Proof.Machine
end

