-- ==== Sys2Proof/Machine/Trips.lean ====
section
/-! DEFINITION. Trip sources, release, interlock clear, configuration CRC and the comparator self-test (R178 to R201). -/

namespace Sys2Proof.Machine

/-! ### Sources -/

def Dev.srcEn (d : Dev) (s : Nat) : Bool := d.flagAt pgTRIP TRIP.SRC_CFG_EN s
def Dev.srcOwned (d : Dev) (s : Nat) : Bool := d.flagAt pgTRIP TRIP.TARGET_VALID s

/-- The stages that source `s` trips as stages: its owner, unless it is a leg status input that trips its leg alone, and
those of XMASK (R181). -/
def Dev.srcStages (d : Dev) (s : Nat) : Nat :=
  let own := 2 ^ d.getAt pgTRIP TRIP.TARGET_STAGE s
  let x := d.getAt pgTRIP TRIP.SRC_CFG_XMASK s
  if 80 ≤ s ∧ s < 144 ∧ ¬ d.flagAt pgTRIP TRIP.SRC_CFG_SCOPE s then x else own ||| x

/-- A source of kind 0 to 167 that is enabled and owned trips (R181, R182). -/
def Dev.tripFire (d : Dev) (s : Nat) : Dev :=
  if !d.srcEn s || !d.srcOwned s then d
  else
    let sel := d.getAt pgTRIP TRIP.SRC_CFG_STATE_SEL s
    let latch := d.flagAt pgTRIP TRIP.SRC_CFG_LATCH s
    let stages := d.srcStages s
    let d := d.tripMark s
    let d := (List.range 16).foldl (fun d k =>
      if bitOf stages k then d.addAct ⟨s, k, none, sel, latch, none⟩ else d) d
    let d := if 80 ≤ s ∧ s < 144 ∧ ¬ d.flagAt pgTRIP TRIP.SRC_CFG_SCOPE s
      then d.addAct ⟨s, d.getAt pgTRIP TRIP.TARGET_STAGE s, some (s - 80), sel, latch, none⟩ else d
    d.tripDrive

/-- A THR word with both sides enabled and LOW at or above HIGH holds its comparator active (R180). -/
def Dev.thrHeld (d : Dev) (b i : Nat) : Bool :=
  let pg := pgCMPB b
  d.flagAt pg CMPB.THR_EN_HIGH i && d.flagAt pg CMPB.THR_EN_LOW i
  && decide (d.getAt pg CMPB.THR_HIGH i ≤ d.getAt pg CMPB.THR_LOW i)

def Dev.modCmp (d : Dev) (b : Nat) (f : CmpH → CmpH) : Dev := { d with cmp := vmod d.cmp (fin4 b) f }

/-- The hysteresis of a THR word, in threshold codes (R201). -/
def hystCodes (h : Nat) : Nat := match h with | 0 => 0 | 1 => 4 | 2 => 8 | _ => 16

/-- The side outputs of a comparator on pin `i` that showed `a` and `l`, above and below, before (R180). Thresholds are
code × V_REF ÷ 1,024, and the pin is held in V_REF ÷ 2^20. -/
def Dev.sides (d : Dev) (b i : Nat) (a l : Bool) : Bool × Bool :=
  let pg := pgCMPB b
  let x := (d.trip.ins.getD (16 + 16 * b + i) ⟨0, false, 0⟩).x
  let hi : Int := d.getAt pg CMPB.THR_HIGH i
  let lo : Int := d.getAt pg CMPB.THR_LOW i
  let h : Int := hystCodes (d.getAt pg CMPB.THR_HYST i)
  (decide (hi * 1024 < x) || (a && decide ((hi - h) * 1024 ≤ x)),
   decide (x < lo * 1024) || (l && decide (x ≤ (lo + h) * 1024)))

/-- What covers pin `i` of a group (R195, R197): 0 its comparator, 1 both, 2 the spare alone. -/
def Dev.cmpPath (d : Dev) (b i : Nat) : Nat :=
  let h := d.cmp[fin4 b]
  let pg := pgCMPB b
  if d.flag pg CMPB.ST_SPARE_PERM && d.get pg CMPB.ST_SPARE_PIN == i then 2
  else if h.testing ≠ some i then 0
  else match h.steps with | 2 => 1 | 3 => 2 | 4 => 2 | 5 => 1 | _ => 0

/-- The comparator's and the spare's outputs on pin `i` follow the pin and its thresholds; OUT shows those of the trip path,
and the condition of the pin's source follows (R180, R195, R201). A comparator that is being stepped is left out. -/
def Dev.cmpUpd (d : Dev) (b i : Nat) : Dev :=
  let pg := pgCMPB b
  let h := d.cmp[fin4 b]
  let stepped := h.testing == some i && h.steps == 3
  let own := if stepped then (bitOf h.above i, bitOf h.below i) else d.sides b i (bitOf h.above i) (bitOf h.below i)
  let onSpare := d.flag pg CMPB.ST_SPARE_PERM || (h.testing == some i && decide (1 ≤ h.steps))
  let sp := if onSpare then d.sides b i h.spAbove h.spBelow else (false, false)
  let d := d.modCmp b (fun h => { h with
    above := setBit h.above i own.1, below := setBit h.below i own.2
    spAbove := if h.testing == some i || onSpare then sp.1 else h.spAbove
    spBelow := if h.testing == some i || onSpare then sp.2 else h.spBelow })
  let p := d.cmpPath b i
  let a := (p != 2 && own.1) || (p != 0 && sp.1)
  let l := (p != 2 && own.2) || (p != 0 && sp.2)
  let d := d.put pg CMPB.OUT_ABOVE (setBit (d.get pg CMPB.OUT_ABOVE) i a)
  let d := d.put pg CMPB.OUT_BELOW (setBit (d.get pg CMPB.OUT_BELOW) i l)
  d.noteInput (16 + 16 * b + i)
    (d.thrHeld b i || (a && d.flagAt pg CMPB.THR_EN_HIGH i) || (l && d.flagAt pg CMPB.THR_EN_LOW i)) d.time

/-- The input of a source is `x`, and has been for `held` TCLK (R178 to R180): the level of a pin at its synchroniser, or
the voltage at a comparator's pin. The overcurrent flags are the device's own. -/
def Dev.tripInput (s : Nat) (x : Int) (held : Nat) (d : Dev) : Dev :=
  if 144 ≤ s then d
  else
    let d := { d with trip := { d.trip with ins := d.trip.ins.modify s (fun i => { i with x := x }) } }
    if 16 ≤ s ∧ s < 80 then
      let was := (d.trip.ins.getD s ⟨0, false, 0⟩).act
      let d := d.cmpUpd ((s - 16) / 16) ((s - 16) % 16)
      if (d.trip.ins.getD s ⟨0, false, 0⟩).act = was then d
      else { d with trip := { d.trip with ins := d.trip.ins.modify s (fun i => { i with since := d.time - held }) } }
    else d.noteInput s (decide (x ≠ 0) != d.flagAt pgTRIP TRIP.SRC_CFG_POL s) (d.time - held)

/-- The filter of source `s` passes the level `b` on (R179): its input has held it for FILT TCLK. -/
def Dev.tripFiltered (d : Dev) (s : Nat) (b : Bool) : Bool :=
  let i := d.trip.ins.getD s ⟨0, false, 0⟩
  i.act == b && decide (i.since + d.getAt pgTRIP TRIP.SRC_CFG_FILT s ≤ d.time)

/-- A filtered source becomes active (R179, R182). -/
def Dev.tripSourceActive (s : Fin 168) (x : Int) (held : Nat) (d : Dev) : Dev :=
  let d := d.tripInput s x held
  if d.srcLevel s || !d.tripFiltered s true then d else (d.setLevel s true).tripFire s

/-- A filtered source becomes inactive (R187). -/
def Dev.tripSourceInactive (s : Fin 168) (x : Int) (held : Nat) (d : Dev) : Dev :=
  let d := d.tripInput s x held
  if !d.srcLevel s || !d.tripFiltered s false then d
  else
    let d := d.setLevel s false
    { d with trip := { d.trip with acts := d.trip.acts.map (fun a =>
        if a.src = s.val ∧ !a.latch then { a with rel := some d.time } else a) } }

/-- A trip of a stage is released: with RST_TRIP, the ramps of every context with a loop that names the stage among its
outputs initialise at a later dispatch (R283, R285). -/
def Dev.rampOnRelease (d : Dev) (k : Nat) : Dev :=
  match d.adm with
  | none => d
  | some a =>
    let cs := ((a.loops.filter (fun r => r.outs.contains (0x400 + k) && d.flagAt pgCTX CTX.CCTL_RST_TRIP r.ctx)).map
      (fun r => r.ctx)).eraseDups
    { d with rampPend := d.rampPend ++ cs.map (fun c => (c, d.time + 1)) }

/-- Trips without target left: the legs move to their commanded levels (R189). -/
def Dev.dropActs (d : Dev) (p : ActTrip → Bool) : Dev :=
  let was := (List.range 64).filter d.tripped
  let ks := ((d.trip.acts.filter p).map (fun a => a.stage)).eraseDups
  let d := { d with trip := { d.trip with acts := d.trip.acts.filter (fun a => !p a) } }
  let left := was.any (fun n => !d.tripped n)
  ks.foldl (fun (d : Dev) k => d.rampOnRelease k) ((d.refreshAll d.tap0).irqIf left pgTRIP TRIP.IRQ_RELEASED)

/-- TRIP_RELEASE: the release zero event of a stage (R187 to R190). -/
def Dev.tripRelease (k : Fin 16) (d : Dev) : Dev :=
  if (d.sh k).zeroT ≠ d.time + 1 then d
  else
    let due := fun (a : ActTrip) => a.stage == k.val && (match a.rel with | some t => decide (t < d.time) | none => false)
    if !d.trip.acts.any due then d
    else
      let u : TripUndo :=
        { t := d.time, stage := k, acts := d.trip.acts.filter due, raw := d.reg (pgTRIP + 0x10), ramps := d.rampPend
          legs := ((List.range 64).filter d.tripped).map (fun n => (n, d.lh n, d.reg (pgLEG n + LEG.LEVEL_CMD.off))) }
      let d := d.dropActs due
      { d with trip := { d.trip with undo := some u } }

/-- The source is active for the purpose of a flag clear (R188). -/
def Dev.srcActive (d : Dev) (s : Nat) : Bool :=
  if s < 168 then d.srcLevel s && d.srcOwned s
  else if s = 175 then d.trip.hostT == d.time + 1
  else d.srcLevel s

/-- One bit of a FLAG write (R188). -/
def Dev.flagClearBit (d : Dev) (s : Nat) : Dev :=
  let j := s / 32
  if 176 ≤ s || !bitOf (d.getAt pgTRIP TRIP.FLAG j) (s % 32) then d
  else if s = 172 then (d.irq pgTRIP TRIP.IRQ_CLEAR_REFUSED).err pgTRIP Err.TRIP_GNOMON
  else if d.srcActive s then (d.irq pgTRIP TRIP.IRQ_CLEAR_REFUSED).err pgTRIP Err.TRIP_ACTIVE
  else
    let d := d.putAt pgTRIP TRIP.FLAG j (setBit (d.getAt pgTRIP TRIP.FLAG j) (s % 32) false)
    { d with trip := { d.trip with
        acts := d.trip.acts.map (fun a => if a.src = s ∧ a.latch then { a with rel := some d.time } else a)
        clears := d.trip.clears.filter (fun c => c.2 == d.time) ++ [(s, d.time)] } }

/-- FLAG_CLEAR (R188). -/
def Dev.flagClear (j : Fin 6) (mask : Word) (d : Dev) : Dev :=
  (List.range 32).foldl (fun d b => if bitOf mask.toNat b then d.flagClearBit (32 * j + b) else d) d

/-- TRIP_REQ (R178, R188): HOST is active only in the TCLK of the write. -/
def Dev.tripReq (sel : BitVec 2) (stages : BitVec 16) (d : Dev) : Dev :=
  if sel = 3 then d.err pgTRIP Err.TRIP_CFG
  else
    let d := { d with trip := { d.trip with hostT := d.time + 1 } }
    (d.tripRequest 175 stages.toNat sel.toNat).tripConditionEnd 175

/-- INTLK_CLR (R193). -/
def Dev.intlkClr (n : Fin 64) (d : Dev) : Dev :=
  let k := d.legStage n
  if d.bound n && d.flag (pgSTG k) COM.CTRL_EN then d.err pgTRIP Err.INTLK_CLR_LIVE
  else
    let d := d.putAt pgTRIP TRIP.INTLK_STAT n 0
    let left := (List.range 64).filter (fun m => d.flagAt pgTRIP TRIP.INTLK_STAT_FAULT m)
    if left.isEmpty then d.tripConditionEnd 174
    else d.putAt pgTRIP TRIP.TARGET_IMASK 174 (left.foldl (fun a m => a ||| 2 ^ d.legStage m) 0)

/-! ### The REDUNDANCY source (R351, R371) -/

def Dev.redMask (d : Dev) : Nat := d.red.foldl (fun a c => a ||| c.2) 0

/-- A cause of the REDUNDANCY source arises. -/
def Dev.redRequest (d : Dev) (cause stages sel : Nat) : Dev :=
  ({ d with red := d.red.filter (fun c => c.1 != cause) ++ [(cause, stages)] } : Dev).tripRequest 170 stages sel

/-- A cause of the REDUNDANCY source ends; the source stays active while another holds. -/
def Dev.redEnd (d : Dev) (cause : Nat) : Dev :=
  let d := { d with red := d.red.filter (fun c => c.1 != cause) }
  if d.red.isEmpty then d.tripConditionEnd 170 else d.putAt pgTRIP TRIP.TARGET_IMASK 170 d.redMask

/-! ### Registers of the TRIP page -/

/-- A write to SRC_CFGs (R181, R182). -/
def Dev.srcCfgWrite (d : Dev) (s : Nat) (w : Word) : Dev :=
  if 168 ≤ s then d
  else
    let v := w.toNat
    let en := bitOf v 22
    let was := d.srcEn s
    let badEn := en && !d.srcOwned s
    let v := if badEn then setBit v 22 false else v
    let d := if badEn then d.err pgTRIP Err.TRIP_NOT_OWNED else d
    let badSel := v / 2 ^ 19 % 4 == 3
    let v := if badSel then v - 3 * 2 ^ 19 else v
    let d := if badSel then d.err pgTRIP Err.TRIP_CFG else d
    let badScope := bitOf v 18 && decide (s < 80 ∨ 144 ≤ s)
    let v := if badScope then setBit v 18 false else v
    let d := if badScope then d.err pgTRIP Err.TRIP_CFG else d
    let d := d.putAt pgTRIP TRIP.SRC_CFG s (v - v / 2 ^ 16 % 4 * 2 ^ 16)
    -- a change of POL changes the condition of a pin
    let d := if s < 16 ∨ (80 ≤ s ∧ s < 144) then
        d.noteInput s (decide ((d.trip.ins.getD s ⟨0, false, 0⟩).x ≠ 0) != d.flagAt pgTRIP TRIP.SRC_CFG_POL s) d.time
      else d
    -- a source that becomes enabled while its filtered level is active trips at once (R182)
    if !was && d.srcEn s && d.srcLevel s then d.tripFire s else d

/-- A write to the page's configuration changed what trips request: the legs follow (R184). -/
def Dev.tripCfgChanged (d : Dev) : Dev := d.refreshAll d.tap0

/-- The bytes of SRC_CFG0 to SRC_CFG175 (R194). -/
def Dev.srcCfgBytes (d : Dev) : List Byte :=
  (List.range 176).flatMap (fun s => natBytes 4 (d.getAt pgTRIP TRIP.SRC_CFG s))

/-- CRC_CHECK (R194): 1 ms after the lock and every 1 ms from then on. -/
def Dev.crcCheck (d : Dev) : Dev :=
  match d.trip.nextCrc with
  | none => d
  | some t =>
    if d.time < t then d
    else
      let d := { d with trip := { d.trip with nextCrc := some (t + 400000) } }
      let c := crc32c d.srcCfgBytes
      let d := d.put pgTRIP TRIP.CFG_CRC c
      if c = d.get pgTRIP TRIP.CFG_CRC_REF then
        (if d.flag pgTRIP TRIP.ST_CRC_FAIL then (d.put pgTRIP TRIP.ST_CRC_FAIL 0).redEnd (pgTRIP + 0x90) else d)
      else if d.flag pgTRIP TRIP.ST_CRC_FAIL then d
      else
        let d := ((d.put pgTRIP TRIP.ST_CRC_FAIL 1).irq pgTRIP TRIP.IRQ_CRC_FAIL).err pgTRIP Err.TRIP_CRC
        let d := (d.err pgTRIP Err.RX_DUP).redRequest (pgTRIP + 0x90) 0xFFFF 1
        { d with gnq := d.gnq ++ [⟨4, 0, 0, 0x51, 0, 0xFFFF⟩] }

/-! ### Comparators -/

/-- A write to THRi (R180): the side outputs follow at once, and the source through its filter (R179), at its
TRIP_SOURCE_ACTIVE. -/
def Dev.thrWrite (d : Dev) (b i : Nat) (w : Word) : Dev :=
  let d := (d.putAt (pgCMPB b) CMPB.THR i (w.toNat &&& 0xF3FF03FF)).cmpUpd b i
  if d.thrHeld b i then d.err (pgCMPB b) Err.CMP_CFG else d

/-- A write to TEST_CFG (R199). -/
def Dev.testCfgWrite (d : Dev) (b : Nat) (w : Word) : Dev :=
  let pg := pgCMPB b
  let was := d.flag pg CMPB.TEST_CFG_TEST_EN
  let d := d.put pg CMPB.TEST_CFG (w.toNat &&& 0xC00003FF)
  let n := d.get pg CMPB.TEST_CFG_INTERVAL
  let d := if d.flag pg CMPB.TEST_CFG_TEST_EN && (n == 0 || decide (1000 < n)) then d.err pg Err.CMP_CFG else d
  if d.flag pg CMPB.TEST_CFG_TEST_EN && !was then d.modCmp b (fun h => { h with nextT := d.time, nextI := 0 }) else d

/-- COMPARATOR_TEST_START (R195): at each INTERVAL ÷ 16, the next comparator with a side enabled. -/
def Dev.cmpTestStart (b : Fin 4) (d : Dev) : Dev :=
  let pg := pgCMPB b
  let h := d.cmp[b]
  let n := d.get pg CMPB.TEST_CFG_INTERVAL
  if d.flag pg COM.ST_FROZEN || !d.flag pg CMPB.TEST_CFG_TEST_EN || d.flag pg CMPB.ST_TEST_STOPPED || n = 0 || decide (1000 < n)
      || h.testing.isSome || decide (d.time < h.nextT) then d
  else
    let i := h.nextI
    let on := d.flagAt pg CMPB.THR_EN_HIGH i || d.flagAt pg CMPB.THR_EN_LOW i
    let d := d.modCmp b (fun h => { h with nextT := h.nextT + 25000 * n, nextI := (i + 1) % 16 })
    if on then (d.put pg CMPB.ST_SPARE_PIN i).modCmp b (fun h => { h with testing := some i, startT := d.time, steps := 0 })
    else d.irqIf (i == 15) pg CMPB.IRQ_ROUND_DONE

/-- TCLK of the timed steps of a test (R195). -/
def cmpSteps : List Nat := [800, 1200, 1600, 2400, 2600, 3000]

/-- COMPARATOR_TEST_STEP (R195): the spare is loaded with the pin's thresholds, joins the trip path, covers the pin alone
while the comparator is stepped, and leaves again once the comparator, with its thresholds restored, has rejoined. A load
of thresholds starts an output without hysteresis. -/
def Dev.cmpTestStep (b : Fin 4) (d : Dev) : Dev :=
  let pg := pgCMPB b
  let h := d.cmp[b]
  match h.testing, cmpSteps[h.steps]? with
  | some i, some t =>
    if d.time < h.startT + t || d.flag pg COM.ST_FROZEN then d
    else
      let d := d.modCmp b (fun h => { h with
        steps := h.steps + 1
        above := if h.steps = 3 then setBit h.above i false else h.above
        below := if h.steps = 3 then setBit h.below i false else h.below })
      let d := d.cmpUpd b i
      if h.steps = 2 then d.put pg CMPB.ST_SPARE_ACTIVE 1
      else if h.steps = 5 then d.put pg CMPB.ST_SPARE_ACTIVE 0 else d
  | _, _ => d

/-- One side is consistent: active at one extreme and inactive at the other (R196). The bits are the outputs with the
high threshold at V_TLO and V_THI, then with the low threshold at V_THI and V_TLO. -/
def sideOk (o : BitVec 4) (low : Bool) : Bool :=
  if low then bitOf o.toNat 2 && !bitOf o.toNat 3 else bitOf o.toNat 0 && !bitOf o.toNat 1

/-- A side gives the same output at both extremes. -/
def sideFlat (o : BitVec 4) (low : Bool) : Bool :=
  if low then bitOf o.toNat 2 == bitOf o.toNat 3 else bitOf o.toNat 0 == bitOf o.toNat 1

/-- The test round of a group stops (R197). -/
def Dev.cmpStop (d : Dev) (b stages : Nat) : Dev :=
  let pg := pgCMPB b
  let d := (d.irq pg CMPB.IRQ_STUCK).err pg Err.CMP_STUCK
  let d := ((d.put pg CMPB.ST_TEST_STOPPED 1).irq pg CMPB.IRQ_STOPPED).err pg Err.CMP_SPARE_LOST
  let d := d.modCmp b (fun h => { h with testing := none })
  if d.flag pg CMPB.TEST_CFG_FAIL_TRIP then d.tripRequest 173 stages 0 else d

/-- The stages that a source targets, when owned. -/
def Dev.srcTargets (d : Dev) (s : Nat) : Nat :=
  if d.srcOwned s then 2 ^ d.getAt pgTRIP TRIP.TARGET_STAGE s ||| d.getAt pgTRIP TRIP.SRC_CFG_XMASK s else 0

/-- COMPARATOR_TEST_VERDICT (R196, R197): outputs of the spare's and of the comparator's four steps. -/
def Dev.cmpVerdict (b : Fin 4) (spare comp : BitVec 4) (d : Dev) : Dev :=
  let pg := pgCMPB b
  let h := d.cmp[b]
  match h.testing with
  | none => d
  | some i =>
    let bad := fun (o : BitVec 4) => !sideOk o false || !sideOk o true
    let range := (List.map (fun low => !sideOk spare low && !sideOk comp low && sideFlat spare low && sideFlat comp low)
      [false, true]).any id
    let spareBad := bad spare && !range
    if h.steps < (if spareBad then 1 else 6) then d
    else if spareBad then
      let d := (d.put pg CMPB.ST_SPARE_FAILED 1).put pg CMPB.ST_SPARE_ACTIVE 0
      d.cmpStop b ((List.range 16).foldl (fun a j => a ||| d.srcTargets (16 + 16 * b.val + j)) 0)
    else
      let done := fun (d : Dev) =>
        (d.modCmp b (fun h => { h with testing := none })).irqIf (i == 15) pg CMPB.IRQ_ROUND_DONE
      if range then
        done (((d.putAt pg CMPB.RESULT_INCONCL i 1).irq pg CMPB.IRQ_INCONCL).err pg Err.CMP_TEST_RANGE)
      else if bad comp then
        let d := ((d.putAt pg CMPB.RESULT_FAILED i 1).putAt pg CMPB.RESULT_INCONCL i 0).put pg CMPB.ST_SPARE_PERM 1
        let d := ((d.put pg CMPB.ST_SPARE_ACTIVE 1).put pg CMPB.ST_SPARE_PIN i).cmpUpd b i
        d.cmpStop b (d.srcTargets (16 + 16 * b.val + i))
      else done ((d.putAt pg CMPB.RESULT_INCONCL i 0).incSatAt pg CMPB.RESULT_PASS_CNT i)

end Sys2Proof.Machine
end

