-- ==== Sys2Proof/Machine/Common.lean ====
section
/-! DEFINITION. The rules common to every page (chapter 00): access types (R11 to R14), interrupts (R17, R18), error
capture (R21), lock and commit (R23 to R25), duplicate-copy images (R26, R27, R557) with their reaction (R371 to
R373). -/

namespace Sys2Proof.Machine

/-! ### Access types -/

/-- Bits of a register's fields with one access type. -/
def RegDesc.mask (r : RegDesc) (a : Access) : Nat :=
  (r.fields.map (fun f => if f.acc = a then (2 ^ f.width - 1) * 2 ^ f.lo else 0)).sum

/-- Bits of every field of a register. -/
def RegDesc.bits (r : RegDesc) : Nat := (r.fields.map (fun f => (2 ^ f.width - 1) * 2 ^ f.lo)).sum

/-- The commit group that a shadow belongs to: a stage (R166), by the address of the shadow. -/
def Dev.shadowStage (d : Dev) (k : PageKind) (inst off : Nat) : Option Nat :=
  match k with
  | .stg => some inst
  | .leg => if d.bound inst then some (d.legStage inst) else none
  | .eph => if 0x100 ≤ off ∧ off < 0x500 then some ((off - 0x100) / 64) else none
  | _ => none

/-- Note that a shadow was written in this TCLK, and what it held in `was` before (R24). -/
def Dev.noteFresh (d was : Dev) (a : Nat) : Dev :=
  let f := d.newShadow.filter (fun e => e.2.2 == d.time)
  { d with newShadow := if f.any (fun e => e.1 == a) then f else f ++ [(a, was.reg a, d.time)] }

/-- Note that a shadow of a stage's group was written (R24, R163); `was` is the state before the write. -/
def Dev.noteShadow (d was : Dev) (k : PageKind) (inst off a : Nat) : Dev :=
  let d := d.noteFresh was a
  match d.shadowStage k inst off with
  | some s => d.modStg s (fun h => { h with written := h.written.filter (fun b => b != a) ++ [a] })
  | none => d

/-- A write to a register by the access types of its fields (R11, R12); `orig` is the originator (R20), 0xFF the
Almanac. -/
def Dev.fieldWrite (d : Dev) (k : PageKind) (inst off a : Nat) (r : RegDesc) (w : Word) (orig : Nat) : Dev :=
  let v := w.toNat
  let old := (d.reg a).toNat
  let pg := a - off
  let lk := d.locked pg
  let alm := orig == 0xFF
  let take := r.mask .rw ||| r.mask .rws ||| (if lk then 0 else r.mask .rwl) ||| (if alm then r.mask .rwa else 0)
  -- every bit that this write does not take keeps its value
  let new := (old ^^^ (old &&& take)) ||| (v &&& take)
  let c := r.mask .w1c
  let new := new ^^^ (new &&& v &&& c)
  let new := new ||| (v &&& r.mask .w1s)
  let d := if lk && r.mask .rwl != 0 then d.errBy pg Err.WRITE_LOCKED orig else d
  let d := if !alm && r.mask .rwa != 0 then d.errBy pg Err.ALMANAC_ONLY orig else d
  if r.mask .rws != 0 then (d.setReg a (BitVec.ofNat 32 new)).noteShadow d k inst off a
  else d.setReg a (BitVec.ofNat 32 new)

/-! ### Interrupts, errors, lock -/

/-- IRQ_FLAG_CLEAR (R17, R18): `again` holds the events that recur in the same cycle. -/
def Dev.irqFlagClear (d : Dev) (k : PageKind) (pg : Nat) (w again : Word) : Dev :=
  let raw := d.reg (pg + 0x10)
  let d := d.setReg (pg + 0x10) (raw &&& ~~~w)
  d.irqBits pg (again.toNat &&& (irqMask k).toNat)

/-- IRQ_FORCE (R17). -/
def Dev.irqForce (d : Dev) (k : PageKind) (pg : Nat) (w : Word) : Dev := d.irqBits pg (w.toNat &&& (irqMask k).toNat)

/-- IRQ_EN_WRITE (R18): a bit already set in IRQ_RAW raises the interrupt at once. -/
def Dev.irqEnWrite (d : Dev) (k : PageKind) (pg : Nat) (w : Word) : Dev :=
  let d' := d.setReg (pg + 0x14) (BitVec.ofNat 32 (w.toNat &&& (irqMask k).toNat))
  Dev.latchRise d d' pg

/-- ERRCODE_CLR (R21): `again` is an error that arises in the same cycle, code and originator. -/
def Dev.errClr (d : Dev) (pg : Nat) (again : Option (Nat × Nat)) : Dev :=
  let d := ((d.put pg COM.ERRCODE_CODE 0).put pg COM.ERRCODE_ORIGIN 0).put pg COM.ERRCODE_LOST 0
  match again with
  | some (c, o) => d.errBy pg c o
  | none => d

/-- LOCK_SET (R23). The lock of the TRIP page starts the CRC checks of R194; GNM has no lock (R404). -/
def Dev.lockSet (d : Dev) (k : PageKind) (pg : Nat) : Dev :=
  if k = .gnm then d
  else
    let was := d.locked pg
    let d := d.put pg COM.LOCK 1
    if k = .trip ∧ !was then { d with trip := { d.trip with nextCrc := some (d.time + 400000) } } else d

/-- A COMMIT write (R25): REQ and WHEN of the write. Pages without a commit group ignore it. -/
def Dev.commitReq (d : Dev) (k : PageKind) (pg inst : Nat) (req : Bool) (when orig : Nat) : Dev :=
  if !hasCommit k then d
  else
    let pend := d.flag pg COM.COMMIT_PENDING
    if req && pend then d.errBy pg Err.COMMIT_BUSY orig
    else if when = 3 then d.errBy pg Err.COMMIT_WHEN orig
    else
      let d := d.put pg COM.COMMIT_WHEN when
      if !req then d
      else
        let d := d.put pg COM.COMMIT_PENDING 1
        if k = .stg then d.modStg inst (fun s => { s with reqT := d.time, armWhen := when })
        else { d with ctxWhen := when, ctxReqT := d.time }

/-! ### Duplicate-copy images -/

/-- The pages that keep a duplicate-copy image (R26). -/
def dupPages : List (PageKind × Nat × Nat) :=
  (pageMap.filter (fun p => !(dupRuns p.kind).isEmpty)).flatMap
    (fun p => (List.range p.count).map (fun i => (p.kind, i, p.base + 0x1000 * i)))

/-- Offsets of the primary word and of its image, for every word of a page's image. -/
def dupWords (k : PageKind) : List (Nat × Nat) :=
  (dupRuns k).flatMap (fun r => (List.range r.count).map (fun i => (r.off + r.stride * i, r.image + 4 * i)))

def fieldBits (f : Fld) : Nat := (2 ^ f.width - 1) * 2 ^ f.lo

/-- Bits of a primary word that the mode it sets leaves unused (R372). -/
def Dev.unusedBits (d : Dev) (k : PageKind) (pg off : Nat) : Nat :=
  match k with
  | .cmpb =>
    if off < 0x80 then
      let i := (off - 0x40) / 4
      let h := d.flagAt pg CMPB.THR_EN_HIGH i
      let l := d.flagAt pg CMPB.THR_EN_LOW i
      (if h then 0 else fieldBits CMPB.THR_HIGH) ||| (if l then 0 else fieldBits CMPB.THR_LOW)
        ||| (if h || l then 0 else fieldBits CMPB.THR_HYST)
    else if d.flag pg CMPB.TEST_CFG_TEST_EN then 0
      else fieldBits CMPB.TEST_CFG_INTERVAL ||| fieldBits CMPB.TEST_CFG_FAIL_TRIP
  | .sdi => if off = 0x40 ∧ d.get pg SDI.CFG_FORMAT = 1 then fieldBits SDI.CFG_SKEW else 0
  | .clu =>
    let m := d.get pg CLU.CFG_MODE
    (if m = 1 then fieldBits CLU.CFG_MAIN ||| fieldBits CLU.CFG_CHECK ||| fieldBits CLU.CFG_FINDER
        ||| fieldBits CLU.CFG_QUOTA1 else 0)
      ||| (if m = 0 ∨ m = 1 then fieldBits CLU.CFG_QUOTA2 else 0)
  | .thm => if off = 0x44 then 0
      else if d.flagAt pg THM.MCFG_VALID ((off - 0x230) / 64) then 0 else 0xFFFFFFFF
  | _ => 0

/-- Mode-deciding bits of a primary word, which R373 guards. MODE of CLU changes through MODE_REQ only. -/
def modeBits (k : PageKind) (off : Nat) : Nat :=
  match k with
  | .cmpb => if off < 0x80 then fieldBits CMPB.THR_EN_HIGH ||| fieldBits CMPB.THR_EN_LOW else fieldBits CMPB.TEST_CFG_TEST_EN
  | .sdi => if off = 0x40 then fieldBits SDI.CFG_FORMAT else 0
  | _ => 0

/-- Differing bits of a word and its image. -/
def Dev.dupDiff (d : Dev) (pg : Nat) (w : Nat × Nat) : Nat :=
  (d.reg (pg + w.1)).toNat ^^^ (d.reg (pg + w.2)).toNat

/-- A word differs in a field that the mode uses. -/
def Dev.dupLive (d : Dev) (k : PageKind) (pg : Nat) (w : Nat × Nat) : Bool :=
  let x := d.dupDiff pg w
  x != (x &&& d.unusedBits k pg w.1)

/-- A word differs, in unused fields only (R372). -/
def Dev.dupLatent (d : Dev) (k : PageKind) (pg : Nat) (w : Nat × Nat) : Bool :=
  d.dupDiff pg w != 0 && !d.dupLive k pg w

/-- The page reports MISMATCH; LATENT_DIFF (R26, R372). -/
def Dev.dupMismatch (d : Dev) (k : PageKind) (pg : Nat) : Bool := (dupWords k).any (fun w => d.dupLive k pg w)

def Dev.dupLatentDiff (d : Dev) (k : PageKind) (pg : Nat) : Bool :=
  !d.dupMismatch k pg && (dupWords k).any (fun w => d.dupDiff pg w != 0)

/-- DUP_STATUS as it reads (R26). -/
def Dev.dupStatus (d : Dev) (k : PageKind) (pg : Nat) : Nat :=
  match (dupWords k).find? (fun w => d.dupDiff pg w != 0) with
  | none => 0
  | some w => (w.2 - 0xF00) / 4 * 256 + 2 * b2n (d.dupLatentDiff k pg) + b2n (d.dupMismatch k pg)

/-- Stages that a reactive mismatch of a word trips, and the state requested (R371). -/
def Dev.dupStages (d : Dev) (k : PageKind) (inst pg : Nat) (w : Nat × Nat) : Nat × Nat :=
  match k with
  | .leg => (if d.bound inst then 2 ^ d.legStage inst else 0, 1)
  | .trip => (0xFFFF, 1)
  | .cmpb => ((List.range 16).foldl (fun m i => m ||| d.srcTargets (16 + 16 * inst + i)) 0, 0)
  | .sdi => (if d.flag pg SDI.MAP_VALID then 2 ^ d.get pg SDI.MAP_STAGE else 0, 0)
  | .clu => (d.get pg CLU.SERVED_ALL, 0)
  | .nrg =>
    let m := (List.range 8).foldl (fun m i =>
      if d.flagAt pg NRG.MACH_A_VALID i then m ||| 2 ^ d.getAt pg NRG.MACH_A_STAGE i else m) 0
    let c := d.get pg NRG.CHOP_CFG_LEG
    (m ||| (if d.bound c then 2 ^ d.legStage c else 0), 0)
  | .thm => if w.1 = 0x44 then (0xFFFF, 0) else (2 ^ d.getAt pg THM.MCFG_STAGE ((w.1 - 0x230) / 64), 0)
  | _ => (0, 0)

/-- The type code of a page (R510). -/
def typeCode (k : PageKind) : Nat := match pageMap.find? (fun p => p.kind == k) with | some p => p.typeCode | none => 0

/-- A mismatch becomes reactive (R371). -/
def Dev.dupReact (d : Dev) (k : PageKind) (inst pg : Nat) (w : Nat × Nat) : Dev :=
  let on := d.flag pg COM.ST_ENABLED || d.locked pg
  let d := d.err pg Err.RX_DUP
  if !on then d
  else
    let t := d.dupStages k inst pg w
    let d := d.redRequest (pg + 0xF00) t.1 t.2
    { d with gnq := d.gnq ++ [⟨4, 0, 0, typeCode k, inst, t.1⟩] }

/-- A mismatch is outstanding: it is live and no window covers it (R371). -/
def Dev.dupOutstanding (d : Dev) (k : PageKind) (pg : Nat) : Bool :=
  (dupWords k).any (fun w => d.dupLive k pg w && !d.dupWin.any (fun x => x.1 == pg + w.2))

/-- After a write to either copy: the word's pairing window opens anew, and a request whose copies agree again ends
(R371). -/
def Dev.dupWritten (d : Dev) (k : PageKind) (pg img : Nat) : Dev :=
  let a := pg + img
  let d := { d with dupWin := d.dupWin.filter (fun x => x.1 != a) ++ [(a, d.time + 1024)] }
  if !d.dupMismatch k pg && d.red.any (fun c => c.1 == pg + 0xF00) then d.redEnd (pg + 0xF00) else d

/-- A write to a copy of a word, which was `was` before: a latent difference that it clears is remembered for the rest of
the cycle (R374). -/
def Dev.latentCleared (d was : Dev) (k : PageKind) (pg img : Nat) : Dev :=
  match (dupWords k).find? (fun p => p.2 == img) with
  | some p =>
    if was.dupLatent k pg p && !d.dupLatent k pg p then
      { d with latWas := d.latWas.filter (fun x => x.2 == d.time) ++ [(pg + img, d.time)] }
    else d
  | none => d

/-- A difference of the word is latent, or was before this cycle's writes (R373, R374). -/
def Dev.latentNow (d : Dev) (k : PageKind) (pg : Nat) (p : Nat × Nat) : Bool :=
  d.dupLatent k pg p || d.latWas.contains (pg + p.2, d.time)

/-- PAIRING_WINDOW_CLOSE (R371, R374): every window that has run out closes. -/
def Dev.pairingClose (d : Dev) : Dev :=
  let due := d.dupWin.filter (fun x => decide (x.2 ≤ d.time))
  let d := { d with dupWin := d.dupWin.filter (fun x => decide (d.time < x.2)) }
  due.foldl (fun (d : Dev) x =>
    let pg := x.1 / 0x1000 * 0x1000
    match pageOf x.1 with
    | some (k, inst, off) =>
      match (dupWords k).find? (fun w => w.2 == off) with
      | some w => if d.dupLive k pg w then d.dupReact k inst pg w else d
      | none => d
    | none => d) d

/-- A mode-deciding write meets a latent difference of the word (R373): `off` is the primary or the image offset. -/
def Dev.latentGuard (d : Dev) (k : PageKind) (pg off : Nat) (w : Word) : Bool :=
  match (dupWords k).find? (fun p => p.1 == off || p.2 == off) with
  | some p => d.latentNow k pg p && ((d.reg (pg + off)).toNat ^^^ w.toNat) &&& modeBits k p.1 != 0
  | none =>
    match k with
    | .thm =>
      -- VALID of module m decides whether its threshold word is used
      if 0x200 ≤ off ∧ off < 0x600 ∧ (off - 0x200) % 64 = 0 then
        let m := (off - 0x200) / 64
        d.latentNow k pg (0x230 + 64 * m, 0xF04 + 4 * m)
          && ((d.reg (pg + off)).toNat ^^^ w.toNat) &&& fieldBits THM.MCFG_VALID != 0
      else false
    | _ => false

end Sys2Proof.Machine
end

