-- ==== Sys2Proof/Machine/Tables.lean ====
section
/-! DEFINITION. The admitted tables and their promoted slices (R59, R61, R512, R515, R516), words of memory, and the
values that the agreement exchange carries (R253, R365). -/

namespace Sys2Proof.Machine

/-- A 32-bit word of memory (R9). -/
def Soc.word (s : Soc) (a : Nat) : Nat := memNat s.mem a 4

def Soc.putWord (s : Soc) (a v : Nat) : Soc :=
  { s with mem := memPutNat s.mem a 4 v, ue := s.ue.filter (fun x => x != a / 4 * 4) }

def Soc.map (s : Soc) (f : Dev → Dev) : Soc := { s with dev := f s.dev }

/-- The word at an address holds an uncorrectable error (R517). -/
def Soc.bad (s : Soc) (a : Nat) : Bool := s.ue.contains (a / 4 * 4)

/-! ### Tables -/

def Dev.tables (d : Dev) : List TableDecl := match d.adm with | some a => a.tables | none => []

/-- Rank of a table among the ACCESS 1 tables, in record order (R533). -/
def Dev.tableRank (d : Dev) (t : Nat) : Nat := ((d.tables.take t).filter (fun r => r.access == 1)).length

/-- Position of the ACCESS 1 table of rank `r`. -/
def Dev.tableAt (d : Dev) (r : Nat) : Option TableDecl := (d.tables.filter (fun t => t.access == 1))[r]?

def fin32 (n : Nat) : Fin 32 := Fin.ofNat 32 n

/-- SRAM slices are aligned to 64 bytes (R512). -/
def align64 (n : Nat) : Nat := (n + 63) / 64 * 64

/-- SRAM address of slice slot `j` of a promoted table (R512). -/
def TableDecl.slotAddr (t : TableDecl) (j : Nat) : Nat := t.sram + j * align64 t.slice

/-- Address and words of the table that a reader sees (R61, R271, R515). -/
def Dev.tableView (d : Dev) (i : Nat) : Option (Nat × Nat) :=
  match d.tables[i]? with
  | none => none
  | some t =>
    if t.access = 0 then some (t.home, t.size / 4)
    else if t.access = 1 then some (t.slotAddr (d.promo[fin32 (d.tableRank i)]).slot, t.slice / 4)
    else none

/-- Table `j` among a loop's input codes, when the loop may read it (R61, R271). -/
def Dev.loopTable (d : Dev) (r : LoopDecl) (j : Nat) : Option (Nat × Nat) :=
  match (r.ins.filter (fun c => c / 1024 == 0x0B))[j]? with
  | none => none
  | some c =>
    match d.tables[c % 1024]? with
    | some t => if t.reader = r.id then d.tableView (c % 1024) else none
    | none => none

def Dev.modPromo (d : Dev) (r : Nat) (f : PromoH → PromoH) : Dev := { d with promo := vmod d.promo (fin32 r) f }

/-- A copy of slice `s` starts: 2 µs and SLICE ÷ 800 MB/s, in TCLK (R516). -/
def Dev.promoStart (d : Dev) (r s : Nat) : Dev :=
  match d.tableAt r with
  | none => d
  | some t =>
    let d := d.modPromo r (fun p => { p with copy := some (s, d.time + 800 + (t.slice + 1) / 2), ready := none })
    d.putAt pgDBG DBG.PROMO_LOADING r 1

/-- A new request for slice `s` (R516): it is served now, or after the copy that runs. -/
def Dev.promoRequest (d : Dev) (r s : Nat) : Dev :=
  let p := d.promo[fin32 r]
  if d.getAt pgDBG DBG.PROMO_REQ r = s ∧ p.asked then d
  else
    let d := (d.putAt pgDBG DBG.PROMO_REQ r s).modPromo r (fun p => { p with asked := true })
    match p.copy with
    | some _ => d.modPromo r (fun p => { p with wait := some s })
    | none => d.promoStart r s

/-- The copied slice of table `r` becomes active (R516). -/
def Dev.promoActivate (d : Dev) (r : Nat) : Dev :=
  let p := d.promo[fin32 r]
  match p.ready with
  | none => d
  | some s =>
    let d := d.modPromo r (fun p => { p with slot := 1 - p.slot, ready := none })
    d.putAt pgDBG DBG.PROMO_ACTIVE r s

/-- The library of stage `k` is an ACCESS 1 table: the loader's view follows the active slice (R515, log entry 31). -/
def Dev.libFollow (d : Dev) (r : Nat) : Dev :=
  match d.tableAt r with
  | none => d
  | some t =>
    let old := t.slotAddr (1 - (d.promo[fin32 r]).slot)
    let new := t.slotAddr (d.promo[fin32 r]).slot
    (List.range 16).foldl (fun (d : Dev) k =>
      if t.kind = 2 ∧ d.getAt pgEPH EPH.LIB_ADDR k = old then d.putAt pgEPH EPH.LIB_ADDR k new else d) d

/-- A library's copied slice becomes active in the first TCLK in which no load of it runs (R516). -/
def Dev.promoLibrary (d : Dev) (r : Nat) : Dev :=
  match d.tableAt r with
  | none => d
  | some t =>
    if t.kind ≠ 2 then d
    else
      let cur := t.slotAddr (d.promo[fin32 r]).slot
      let busy := (List.range 16).any (fun k => d.getAt pgEPH EPH.LIB_ADDR k == cur && d.flagAt pgEPH EPH.STATE_LOADING k)
      if busy || (d.promo[fin32 r]).ready.isNone then d else (d.promoActivate r).libFollow r

/-- At a dispatch, the copied slices of tables that loops of the context read become active (R516). -/
def Dev.promoDispatch (d : Dev) (c : Nat) : Dev :=
  match d.adm with
  | none => d
  | some a =>
    let ids := (a.loops.filter (fun l => l.ctx == c)).map (fun l => l.id)
    (List.range 32).foldl (fun (d : Dev) r =>
      match d.tableAt r with
      | some t => if t.kind ≠ 2 ∧ ids.contains t.reader then d.promoActivate r else d
      | none => d) d

/-! ### Values of the agreement exchange -/

/-- θ̂, ω̂ as the EPH page shows them (R149). -/
def Dev.thetaWord (d : Dev) (k : Nat) : Nat := (d.est[fin16 k]).theta / 2 ^ 16
def Dev.omegaWord (d : Dev) (k : Nat) : Nat := unsig 32 (d.est[fin16 k]).omega

/-- STATUS with its common bits (R15). -/
def Dev.statusWord (d : Dev) (k : PageKind) (pg : Nat) : Nat :=
  let w := (d.reg (pg + 0xC)).toNat
  let own := if k = .gnm then true else d.get pg COM.OWNER_KIND != 0
  let w := setBit w 2 own
  let w := setBit w 3 (d.locked pg)
  let w := setBit w 4 (hasCommit k && d.flag pg COM.COMMIT_PENDING)
  setBit w 5 (d.dupMismatch k pg)

/-- The INJ entry that converts an analogue pin for an instant (R209, R253). -/
def Dev.pinEntry (d : Dev) (p : Nat) : Option Nat :=
  let pg := pgADCG (p / 16)
  (List.range 32).find? (fun r => d.flagAt pg ADCG.INJ_VALID r && d.getAt pg ADCG.INJ_KIND r == 0
    && d.getAt pg ADCG.INJ_PIN r == p % 16)

/-- The words of an input code, as the sources hold them now (R253). -/
def Dev.inputWords (d : Dev) (code : Nat) : List Nat :=
  let n := code % 1024
  match code / 1024 with
  | 0x01 =>
    let pg := pgSTG (n % 16)
    -- without RECON and STARS the measurement registers read 0 (R246)
    let cm := fun (w : Nat) => if d.get pg STG.CM_MODE_RECON = 0 ∧ d.get pg STG.CM_MODE_STARS = 0 then 0 else w
    cm (d.get pg STG.CM_STAT) :: (List.range 6).map (fun i => cm (d.getAt pg STG.CM_I i))
      ++ [d.thetaWord n, d.omegaWord n, cm (d.get pg STG.CM_TIME)]
  | 0x04 => match d.pinEntry n with
    | some r => [d.getAt (pgADCG (n / 16)) ADCG.INJ_RES r]
    | none => [0]
  | 0x05 => [d.get (pgSDI n) SDI.DATA]
  | 0x06 => [d.get (pgPOS n) POS.ANGLE, d.get (pgPOS n) POS.SPEED, d.statusWord .pos (pgPOS n)]
  | 0x07 => [d.get (pgRSV n) RSV.ANGLE, d.get (pgRSV n) RSV.SPEED, d.statusWord .rsv (pgRSV n)]
  | 0x08 => [d.get (pgSSI n) SSI.ANGLE, d.get (pgSSI n) SSI.SPEED,
             setBit (d.statusWord .ssi (pgSSI n)) 17 ((d.ssi[Fin.ofNat 4 n]).inFrame)]
  | 0x09 =>
    let pg := pgPOS n
    let e := d.get pg POS.PRB_CFG_EDGE
    -- EDGE 1 rising, 2 falling; 3 both: the edge latched last
    let age := fun (t : Nat) => (d.time32 + 2 ^ 32 - t) % 2 ^ 32
    let fall := e == 2 || (e == 3 && d.flag pg POS.PRB_STAT_F_VALID
      && (!d.flag pg POS.PRB_STAT_R_VALID || decide (age (d.get pg POS.PRB_F_TIME) < age (d.get pg POS.PRB_R_TIME))))
    if fall then [d.get pg POS.PRB_F_ANGLE, d.get pg POS.PRB_F_TIME] else [d.get pg POS.PRB_R_ANGLE, d.get pg POS.PRB_R_TIME]
  | _ => []

/-- Number of image words of an input code (R253). -/
def inputCount (code : Nat) : Nat :=
  match code / 1024 with
  | 0x01 => 10
  | 0x04 => 1
  | 0x05 => 1
  | 0x06 => 3
  | 0x07 => 3
  | 0x08 => 3
  | 0x09 => 2
  | 0x0C => 8
  | _ => 0

/-- Published mailbox word of a loop (R254). -/
def Dev.mailbox (d : Dev) (id w : Nat) : Nat := mapGet (fun _ => 0) d.mbox (8 * id + w)

end Sys2Proof.Machine
end

