-- ==== Sys2Proof/Machine/Jobs.lean ====
section
/-! DEFINITION. Jobs of the loop engines: release, dispatch, RUN, context memory under the memory guard, and the
comparison of redundant copies (R248 to R262, R284, R285, R350, R351, R358, R359). -/

namespace Sys2Proof.Machine

def fin3 (n : Nat) : Fin 3 := Fin.ofNat 3 n

def Dev.cl (d : Dev) (c : Nat) : CluH := d.clu[fin4 c]
def Dev.modClu (d : Dev) (c : Nat) (f : CluH → CluH) : Dev := { d with clu := vmod d.clu (fin4 c) f }

/-! ### Modes, streams and copies -/

/-- Mode in force of a cluster: 0 pair, 1 triad, 2 split, 3 none (R287). -/
def Dev.mode (d : Dev) (c : Nat) : Nat := d.get (pgCLU c) CLU.ST_MODE_ACT

/-- The stream code of stream `s` of a cluster in its mode (R85). -/
def Dev.streamCode (d : Dev) (c s : Nat) : Nat :=
  16 * c + (match d.mode c with | 0 => s | 1 => 2 | _ => 3 + s)

def Dev.live (d : Dev) (c j : Nat) : Bool := bitOf (d.get (pgCLU c) CLU.ST_LIVE) j

def Dev.liveCount (d : Dev) (c : Nat) : Nat := ((List.range 3).filter (d.live c)).length

/-- The datapaths that execute stream `s` (R349, R358, R359): none when the cluster does not offer the stream (R68).
The first is the one a debugger reaches (R368). -/
def Dev.copies (d : Dev) (c s : Nat) : List Nat :=
  let pg := pgCLU c
  let role := fun (f : Fld) => (let j := d.get pg f; if j < 3 ∧ d.live c j then [j] else [])
  match d.mode c with
  | 0 => if s = 0 then (let l := role CLU.CFG_MAIN ++ role CLU.CFG_CHECK; if l.length = 2 then l else [])
         else if s = 1 then role CLU.CFG_FINDER else []
  | 1 => if s = 0 ∧ d.liveCount c = 3
         then (List.range 3).filter (fun j => !(d.get pg CLU.TRIAD_PHASE == 1 && d.get pg CLU.TRIAD_ODD == j)) else []
  | 2 => if d.liveCount c < 2 then []
         else role (if s = 0 then CLU.CFG_MAIN else if s = 1 then CLU.CFG_CHECK else CLU.CFG_FINDER)
  | _ => []

/-- The stream is the protected one (R349). -/
def Dev.protectedStream (d : Dev) (c s : Nat) : Bool := s == 0 && decide (d.mode c < 2)

/-! ### Reports of a context -/

/-- Output stages of a context's loops, and of the loops that they monitor (R393). -/
def Dev.ctxStages (d : Dev) (c : Nat) : Nat :=
  match d.adm with
  | none => 0
  | some a =>
    let own := a.loops.filter (fun l => l.ctx == c)
    let mon := a.loops.filter (fun l => own.any (fun o => o.monitors == l.id))
    (own ++ mon).foldl (fun m l => l.outs.foldl (fun m o => if o / 1024 = 1 then m ||| 2 ^ (o % 16) else m) m) 0

def Dev.classS (d : Dev) (c : Nat) : Bool := d.flagAt pgCTX CTX.CCFG_CLASS c

/-- A saturation in a class S context (R267); one that falls in the TCLK in which Gnomon clears S_SAT undoes the clear
(R285). -/
def Dev.saturated (d : Dev) (c : Nat) : Dev :=
  let d := match d.ctx.clr with
    | some (x, t, n) => if x = c ∧ t = d.time then
        { d.putAt pgCTX CTX.STICKY_SAT_CNT c n with ctx := { d.ctx with clr := none } } else d
    | none => d
  let d := { d with ctx := { d.ctx with satT := mapPut (fun _ => 0) d.ctx.satT c (d.time + 1) } }
  let d := (d.putAt pgCTX CTX.STICKY_S_SAT c 1).incSatAt pgCTX CTX.STICKY_SAT_CNT c
  let d := (d.irq pgCTX CTX.IRQ_S_SAT).errBy pgCTX Err.CTX_SAT_S c
  { d with gnq := d.gnq ++ [⟨1, c, 0, 0, 0, d.ctxStages c⟩] }

/-- What the operation of an instruction reports (R267). -/
def Dev.report (d : Dev) (c : Nat) (e : Eff) : Dev :=
  if d.classS c then (if e.sat then d.saturated c else d)
  else
    let d := if e.ovf then d.putAt pgCTX CTX.STICKY_A_OVF c 1 else d
    if e.clamp then d.putAt pgCTX CTX.STICKY_A_CLAMP c 1 else d

/-- Remove the jobs, triggers and timers of a context that wait (R285). -/
def Dev.dropWaiting (d : Dev) (c : Nat) : Dev :=
  let of := fun (id : Nat) => match d.loopDecl id with | some l => l.ctx == c | none => false
  { d with ready := d.ready.filter (fun j => j.ctx != c), trigs := d.trigs.filter (fun t => !of t.1)
           timers := d.timers.filter (fun t => !of t.1) }

/-! ### Moves of contexts (R86) -/

/-- A context moves to another stream for a reason of R86. -/
def Dev.moveNow (d : Dev) (reason to_ x : Nat) : Dev :=
  let from_ := d.ctxStream x
  let d := (d.putAt pgCTX CTX.CCFG_STREAM x to_).incWrap pgALM ALM.REPLACE_CNT
  (d.put pgALM ALM.REPLACE_LAST (reason * 2 ^ 28 + x * 2 ^ 22 + from_ * 2 ^ 8 + to_)).irq pgALM ALM.IRQ_REPLACED

/-- A re-placement of a context is due: between jobs, so that a running job completes on its stream (R285). -/
def Dev.moveCtx (d : Dev) (reason to_ x : Nat) : Dev :=
  if d.flagAt pgCTX CTX.CSTAT_RUNNING x then { d with ctx := { d.ctx with moves := d.ctx.moves ++ [(reason, to_, x)] } }
  else d.moveNow reason to_ x

def Dev.moveAll (d : Dev) (reason to_ : Nat) (xs : List Nat) : Dev := xs.foldl (fun (d : Dev) x => d.moveCtx reason to_ x) d

/-- The re-placements that waited for the end of a job of context `x` take place. -/
def Dev.movesDue (d : Dev) (x : Nat) : Dev :=
  let l := d.ctx.moves.filter (fun m => m.2.2 == x)
  let d := { d with ctx := { d.ctx with moves := d.ctx.moves.filter (fun m => m.2.2 != x) } }
  l.foldl (fun (d : Dev) m => d.moveNow m.1 m.2.1 x) d

/-- Stream `s` becomes free: its registers of R287 and R288, its scoreboard entries, and the moves that waited. -/
def Dev.streamFree (d : Dev) (c s : Nat) (r : JobRun) : Dev :=
  let pg := pgCLU c
  let used := fun (r : Option JobRun) => match r with | some r => r.infl.length | none => 0
  let d := d.put pg CLU.ST_INFLIGHT (((d.cl c).run.set (fin3 s) none).toList.foldl (fun n r => n + used r) 0)
  let d := d.putAt pg CLU.BUSY s ((d.getAt pg CLU.BUSY s + r.cyc) % 2 ^ 32)
  let d := ((d.putAt pg CLU.STREAM_BUSY s 0).putAt pg CLU.STREAM_CTX s 0).putAt pg CLU.STREAM_LOOP_ID s 0
  let d := d.putAt pgCTX CTX.CSTAT_RUNNING r.job.ctx 0
  (d.modClu c (fun h => { h with run := h.run.set (fin3 s) none })).movesDue r.job.ctx

/-- A job faults (R284): it stops, FAULT and RUN change, and nothing is published. -/
def Dev.jobFault (d : Dev) (c s : Nat) (r : JobRun) (kind : Nat) : Dev :=
  let x := r.job.ctx
  let d := d.streamFree c s r
  let d := ((d.putAt pgCTX CTX.CSTAT_FAULT x 1).putAt pgCTX CTX.CSTAT_FAULT_KIND x kind).putAt pgCTX CTX.CCTL_RUN x 0
  let d := ((d.dropWaiting x).irq pgCTX CTX.IRQ_FAULT).errBy pgCTX (0x7000 + kind) x
  if d.classS x then { d with gnq := d.gnq ++ [⟨2, x, 0, 0, 0, d.ctxStages x⟩] } else d

/-! ### Comparison of copies -/

/-- The compare fault of R351 with KIND `kind`; `extra` is the code stored besides RX_MISMATCH, 0 none. A fault while
LATCHED is 1 keeps the first record. -/
def Dev.mmFault (d : Dev) (c kind extra : Nat) : Dev :=
  let pg := pgCLU c
  let run := (d.cl c).run[0]
  let ctx := match run with | some r => r.job.ctx | none => 0
  let d := if extra ≠ 0 then d.errBy pg extra ctx else d
  if d.flag pg CLU.MM_INFO_LATCHED then d
  else
    let idx := match run with | some _ => ((d.cl c).dp[fin3 ((d.copies c 0).headD 0)]).pc % 2 ^ 13 | none => 0
    let d := (((d.put pg CLU.MM_INFO_LATCHED 1).put pg CLU.MM_INFO_KIND kind).put pg CLU.MM_INFO_CTX ctx)
    let d := (d.put pg CLU.MM_INFO_LOOP_ID (match run with | some r => r.job.loop | none => 0)).put pg CLU.MM_INFO_INDEX idx
    let d := d.put pg CLU.MM_TIME d.time32
    let d := match run with | some r => d.streamFree c 0 r | none => d
    let d := { d with ready := d.ready.filter (fun j => !d.streamLatched j.ctx) }
    let d := d.redRequest pg (d.get pg CLU.SERVED_PAIR) 0
    let d := d.errBy pg Err.RX_MISMATCH ctx
    let d := d.modClu c (fun h => { h with recov := some {
      todo := if d.mode c = 1 then (List.range 3).filter (d.live c) else d.copies c 0
      triad := d.mode c == 1, finder := d.mode c == 0 && !(d.copies c 1).isEmpty, failed := [] } })
    { d with gnq := d.gnq ++ [⟨3, 0, c, 0, 0, d.get pg CLU.SERVED_PAIR⟩] }

/-- The comparison of a retirement (R350, R351, R358); none: the copies to go on with; some: the state after a fault
that abandons the job. -/
def Dev.compare (d : Dev) (c s : Nat) (v : Vote) : Dev × Bool :=
  if !d.protectedStream c s then (d, true)
  else
    let pg := pgCLU c
    -- in the cycle of the rejoining a disagreement counts as before it (R374)
    let ph := if (d.cl c).rejoinT = d.time + 1 then 2 else d.get pg CLU.TRIAD_PHASE
    match d.mode c, v with
    | _, .agree => (d, true)
    | 0, _ => (d.mmFault c 1 0, false)
    | _, .differ => (d.mmFault c 2 (if ph = 0 then 0 else Err.RX_VOTE_FAULT), false)
    | _, .odd j =>
      if ph = 0 then
        let ctx := match (d.cl c).run[0] with | some r => r.job.ctx | none => 0
        (((d.put pg CLU.TRIAD_ODD j).put pg CLU.TRIAD_PHASE 1).errBy pg Err.RX_VOTE ctx, true)
      else if ph = 1 ∧ d.get pg CLU.TRIAD_ODD = j.val then (d, true)
      else (d.mmFault c 2 Err.RX_VOTE_FAULT, false)

/-! ### Release -/

/-- Half nanoseconds of the time counter. -/
def Dev.halfNs (d : Dev) : Nat := 5 * d.time

/-- Period of a timer or background loop in half nanoseconds (R71). -/
def LoopDecl.halfPeriod (r : LoopDecl) : Nat := if r.trigger = 3 then 2000 * r.period else 2 * r.period

/-- Timer and background loops whose time has come are triggered (R71, R251). -/
def Dev.timerTriggers (d : Dev) : Dev :=
  let due := d.timers.filter (fun t => decide (t.2 ≤ d.halfNs))
  let d := { d with timers := d.timers.map (fun t =>
    if t.2 ≤ d.halfNs then (t.1, t.2 + (match d.loopDecl t.1 with | some r => r.halfPeriod | none => 0)) else t) }
  due.foldl (fun d t => d.triggerLoop t.1) d

/-- JOB_RELEASE (R251): every trigger whose L_in has elapsed releases its job; jobs of a latched protected stream are
discarded (R351), and so are those of a context placed on another device (R493). -/
def Dev.jobRelease (d : Dev) : Dev :=
  if d.flag pgCTX COM.ST_FROZEN then d else
  let d := d.timerTriggers
  let lin := fun (id : Nat) => match d.loopDecl id with | some r => r.lin | none => 0
  let due := d.trigs.filter (fun t => decide (t.2 + lin t.1 ≤ d.time))
  let d := { d with trigs := d.trigs.filter (fun t => !decide (t.2 + lin t.1 ≤ d.time)) }
  due.foldl (fun (d : Dev) t =>
    match d.loopDecl t.1 with
    | none => d
    | some r =>
      if d.streamLatched r.ctx || !d.flagAt pgCTX CTX.CCTL_RUN r.ctx || d.ctxStream r.ctx / 16 == 15 then d
      else { d with ready := d.ready ++ [⟨t.1, r.ctx, t.2, false⟩] }) d

/-! ### Dispatch -/

/-- Order of ready jobs (R73, R79, R250): band, D_c, LOOP_ID. -/
def Dev.jobRank (d : Dev) (j : Job) : Nat × Nat × Nat :=
  match d.loopDecl j.loop with
  | none => (3, 0, 0)
  | some r => (if r.trigger ≠ 3 then 0 else if j.promoted then 1 else 2, r.dc, r.id)

def rankLt (a b : Nat × Nat × Nat) : Bool :=
  decide (a.1 < b.1) || (a.1 == b.1 && (decide (a.2.1 < b.2.1) || (a.2.1 == b.2.1 && decide (a.2.2 < b.2.2))))

/-- The ready job that a stream takes next. -/
def Dev.bestJob (d : Dev) (code : Nat) : Option Job :=
  (d.ready.filter (fun j => d.ctxStream j.ctx == code)).foldl (fun best j =>
    match best with
    | none => some j
    | some b => if rankLt (d.jobRank j) (d.jobRank b) then some j else some b) none

/-- Background loops in placement order (R89). -/
def Admitted.background (a : Admitted) : List LoopDecl :=
  a.order.flatMap (fun x => a.loops.filter (fun l => l.ctx == x && l.trigger == 3))

/-- AGE slot of a background loop: its place among the background loops of the set in placement order (R89). -/
def Dev.ageSlot (d : Dev) (id : Nat) : Option Nat :=
  match d.adm with
  | none => none
  | some a =>
    let l := a.background.map (fun r => r.id)
    if l.contains id then some (l.idxOf id) else none

/-- A stream may dispatch: it exists, is idle and not halted, its fault is not latched, and no mode change has passed
its boundary (R351, R364, R368). -/
def Dev.canDispatch (d : Dev) (c s : Nat) : Bool :=
  let h := d.cl c
  h.run[fin3 s].isNone && !h.halt[fin3 s] && !d.flag (pgCLU c) COM.ST_FROZEN && !d.flag pgCTX COM.ST_FROZEN && !(d.copies c s).isEmpty && !h.bound
  && !(d.protectedStream c s && d.flag (pgCLU c) CLU.MM_INFO_LATCHED)

/-- The bank of a context at a dispatch (R252, R260): a pending bank comes into force. A commit that completes in this
TCLK has not loaded yet for this job (R285): the bank requested before it counts. -/
def Dev.takeBank (d : Dev) (x : Nat) : Dev :=
  let now := d.actGetAt pgCTX CTX.CCTL_BANK_REQ x
  let b := if d.ctx.loadT = d.time + 1 then d.ctx.was.getD (x - 1) now else now
  if b ≠ d.getAt pgCTX CTX.CSTAT_ACTIVE_BANK x then
    let d := d.putAt pgCTX CTX.CSTAT_ACTIVE_BANK x b
    (d.putAt pgCTX CTX.CSTAT_BANK_PENDING x (b2n (now != b))).irq pgCTX CTX.IRQ_SWAPPED
  else d

/-- The triad at a dispatch (R359): an excluded datapath starts its probation, or rejoins the vote. -/
def Dev.triadDispatch (d : Dev) (c s : Nat) : Dev :=
  let pg := pgCLU c
  if d.mode c ≠ 1 ∨ s ≠ 0 then d
  else if d.get pg CLU.TRIAD_PHASE = 1 then (d.put pg CLU.TRIAD_PHASE 2).modClu c (fun h => { h with agreed := 0 })
  else if d.get pg CLU.TRIAD_PHASE = 2 ∧ 2 ≤ (d.cl c).agreed then
    (((d.put pg CLU.TRIAD_PHASE 0).put pg CLU.TRIAD_ODD 3).incSat pg CLU.TRIAD_RESYNC_CNT).modClu c (fun h => { h with
      rejoinT := d.time + 1 })
  else d

/-- The input image of a loop (R252, R253, R367): released values, and published mailboxes. -/
def Dev.image (d : Dev) (c : Nat) (r : LoopDecl) : List Nat :=
  (r.ins.flatMap (fun code =>
    if code / 1024 = 0x0C then (List.range 8).map (fun w => d.mailbox (code % 1024) w)
    else match (d.cl c).rel.find? (fun e => e.1 == code) with
      | some e => e.2
      | none => List.replicate (inputCount code) 0)).take 64

/-- Address of word `w` of a context's memory (R257). -/
def Dev.ctxWord (d : Dev) (x w : Nat) : Nat := d.getAt pgCTX CTX.CADDR x + 4 * w

/-- Write consecutive words of memory. -/
def Soc.putWords (s : Soc) (a : Nat) : List Nat → Soc
  | [] => s
  | v :: t => (s.putWord a v).putWords (a + 4) t

/-- Pending ramp initialisations take effect at a dispatch (R252, R283, R285). -/
def Soc.rampDispatch (s : Soc) (x : Nat) : Soc :=
  let d := s.dev
  let due := fun (p : Nat × Nat) => p.1 == x && decide (p.2 ≤ d.time)
  if d.rampPend.any due then
    let s := s.putWord (d.ctxWord x 840) (s.word (d.ctxWord x 840) ||| 15)
    s.map (fun d => { d with rampPend := d.rampPend.filter (fun p => !due p) })
  else s

/-- DISPATCH on stream `st` of cluster `c` (R250, R252). -/
def Soc.dispatch (c : Fin 4) (st : Fin 3) (s : Soc) : Soc :=
  let d := s.dev
  if !d.canDispatch c st then s
  else match d.bestJob (d.streamCode c st) with
    | none => s
    | some j =>
      match d.loopDecl j.loop with
      | none => s.map (fun d => { d with ready := d.ready.filter (fun i => i != j) })
      | some r =>
        let pg := pgCLU c
        let d := { d with ready := d.ready.erase j }
        let d := (d.takeBank j.ctx).promoDispatch j.ctx
        let d := d.triadDispatch c st
        let d := match d.ageSlot j.loop with
          | some a =>
            let w := (d.time - j.trigT) / 400
            if d.getAt pgALM ALM.AGE_MAX a < w then d.putAt pgALM ALM.AGE_MAX a (min w (2 ^ 32 - 1)) else d
          | none => d
        let own := d.mbox.filter (fun e => e.1 / 8 == j.loop)
        let d := { d with stage := d.stage.filter (fun e => e.1 / 8 != j.loop) }
        let d := { d with stage := own.foldl (fun m (e : Nat × Nat) => mapPut (fun _ => 0) m e.1 e.2) d.stage }
        let run : JobRun := ⟨j, d.getAt pgCTX CTX.CSTAT_ACTIVE_BANK j.ctx, 12, [], []⟩
        let d := d.modClu c (fun h => { h with
          run := h.run.set st (some run)
          dp := (d.copies c st).foldl (fun v k => v.set (fin3 k) Dpath.cleared) h.dp })
        let d := ((d.putAt pg CLU.STREAM_BUSY st 1).putAt pg CLU.STREAM_CTX st j.ctx).putAt pg CLU.STREAM_LOOP_ID st j.loop
        let d := (d.putAt pg CLU.STREAM_CODE st (d.streamCode c st)).putAt pgCTX CTX.CSTAT_RUNNING j.ctx 1
        let s := ({ s with dev := d } : Soc).putWords (d.ctxWord j.ctx 768) (d.image c r)
        let s := s.rampDispatch j.ctx
        if r.progLen = 0 then s.map (fun d => d.jobFault c st run 4) else s

/-! ### RUN, ramps and counters -/

/-- RUN of a context is written (R262, R284, R285). -/
def Dev.runWrite (x : Nat) (run : Bool) (d : Dev) : Dev :=
  if run then
    if !d.flagAt pgCTX CTX.CCFG_VALID x then (d.putAt pgCTX CTX.CCTL_RUN x 0).err pgCTX Err.CTX_NOT_ADMITTED
    else
      let was := d.flagAt pgCTX CTX.CCTL_RUN x
      let d := (d.putAt pgCTX CTX.CCTL_RUN x 1).putAt pgCTX CTX.CSTAT_FAULT x 0
      let d := { d with rampPend := d.rampPend ++ [(x, 0)] }
      if was then d
      else match d.adm with
        | none => d
        | some a =>
          let l := (a.loops.filter (fun r => r.ctx == x && (r.trigger == 2 || r.trigger == 3))).map (fun r => (r.id, d.halfNs))
          { d with timers := d.timers ++ l }
  else (d.putAt pgCTX CTX.CCTL_RUN x 0).dropWaiting x

/-- RAMP_RESTART (R283). -/
def Dev.rampRestart (x : Nat) (d : Dev) : Dev := { d with rampPend := d.rampPend ++ [(x, 0)] }

/-- A host write of CCTL of context `x` (R288). -/
def Dev.cctlWrite (x : Nat) (w : Word) (d : Dev) : Dev :=
  let v := w.toNat
  let d := d.noteFresh d (pgCTX + CTX.CCTL.off + CTX.CCTL.stride * x)
  let d := d.putAt pgCTX CTX.CCTL_RST_TRIP x (b2n (bitOf v 29))
  let d := d.putAt pgCTX CTX.CCTL_BANK_REQ x (v % 2)
  let d := if bitOf v 30 then d.rampRestart x else d
  d.runWrite x (bitOf v 31)

/-- Clear JOBS, MAX_CYC and CNT of a context (R288). -/
def Dev.ctxClear (d : Dev) (x : Nat) : Dev :=
  ((d.putAt pgCTX CTX.JOBS x 0).putAt pgCTX CTX.MAX_CYC x 0).putAt pgCTX CTX.CNT x 0

/-- CTX_CNT_CLR (R288). -/
def Dev.ctxCntClr (all : Bool) (x : BitVec 6) (d : Dev) : Dev :=
  if all then (List.range 63).foldl (fun (d : Dev) i => d.ctxClear (i + 1)) d
  else if x = 0 then d else d.ctxClear x.toNat

/-- CLU_CNT_CLR (R287). -/
def Dev.cluCntClr (c : Fin 4) (d : Dev) : Dev :=
  let pg := pgCLU c
  (((d.put pg CLU.SB 0).putAt pg CLU.BUSY 0 0).putAt pg CLU.BUSY 1 0).putAt pg CLU.BUSY 2 0

/-! ### Commits of the CTX group -/

/-- Every BANK_REQ loads (R260). -/
def Dev.loadCtxGroup (d : Dev) : Dev :=
  let d := d.put pgCTX COM.COMMIT_PENDING 0
  let was := if d.ctx.loadT = d.time + 1 then d.ctx.was
    else (List.range 63).map (fun i => d.actGetAt pgCTX CTX.CCTL_BANK_REQ (i + 1))
  let d := { d with ctx := { d.ctx with loadT := d.time + 1, was := was } }
  (List.range 63).foldl (fun (d : Dev) i =>
    let x := i + 1
    let d := d.loadActAt (d.ctxWhen != 0) (pgCTX + CTX.CCTL.off + CTX.CCTL.stride * x)
    d.putAt pgCTX CTX.CSTAT_BANK_PENDING x
      (b2n (d.actGetAt pgCTX CTX.CCTL_BANK_REQ x != d.getAt pgCTX CTX.CSTAT_ACTIVE_BANK x))) d

/-- COMMIT_LOAD of the CTX group (R24, R260): at once, or at the zero event of CFG.BSTAGE. -/
def Dev.commitLoadCtx (d : Dev) : Dev :=
  if d.flag pgCTX COM.COMMIT_PENDING
      && (d.ctxWhen == 0
        || (d.ctxWhen == 1 && decide (d.ctxReqT < d.time) && (d.sh (d.get pgCTX CTX.CFG)).zeroT == d.time + 1))
  then d.loadCtxGroup else d

/-! ### Context memory from the host -/

/-- The context whose memory holds an address, with the word (R257). -/
def Dev.ctxAt (d : Dev) (a : Nat) : Option (Nat × Nat) :=
  ((List.range 63).find? (fun i =>
    let b := d.getAt pgCTX CTX.CADDR (i + 1)
    d.flagAt pgCTX CTX.CCFG_VALID (i + 1) && decide (b ≤ a ∧ a < b + 4096))).map
    (fun i => (i + 1, (a - d.getAt pgCTX CTX.CADDR (i + 1)) / 4))

/-- The context whose gain points hold an address (R261). -/
def Dev.gainOwner (d : Dev) (a : Nat) : Option Nat :=
  let p := d.get pgCTX CTX.POOL_ADDR
  if p ≤ a ∧ a < p + 4 * 2048 then
    ((List.range 63).find? (fun i =>
      let b := d.getAt pgCTX CTX.CCFG_GT_BASE (i + 1)
      decide (b ≤ (a - p) / 4 ∧ (a - p) / 4 < b + d.getAt pgCTX CTX.CCFG_GT_N (i + 1)))).map (fun i => i + 1)
  else none

/-- The memory guard (R259; R493 for a context that is away): none when the write is allowed, else the code of the refusal; the outer none when the
address is in no context's memory and no context's gain points. -/
def Dev.ctxGuard (d : Dev) (a : Nat) : Option (Option Nat) :=
  match d.ctxAt a with
  | some (x, w) =>
    let live := d.flagAt pgCTX CTX.CCTL_RUN x || d.flagAt pgCTX CTX.CSTAT_RUNNING x || d.ctxStream x / 16 == 15
    if w < 256 ∨ (832 ≤ w ∧ w < 848) then some (if live then some Err.CTX_LIVE else none)
    else if w < 768 then
      let bank := (w - 256) / 256
      some (if d.ctxStream x / 16 = 15 then some Err.CTX_LIVE else if bank = d.getAt pgCTX CTX.CSTAT_ACTIVE_BANK x ∨ d.flagAt pgCTX CTX.CSTAT_BANK_PENDING x
        then some Err.CTX_BANK_ACTIVE else none)
    else if w < 832 then some (some (if d.ctxStream x / 16 = 15 then Err.CTX_LIVE else Err.CTX_BANK_ACTIVE))
    else if d.ctxStream x / 16 = 15 then some (some Err.CTX_LIVE)
    else none
  | none =>
    match d.gainOwner a with
    | some x => some (if d.flagAt pgCTX CTX.CCTL_RUN x then some Err.CTX_LIVE else none)
    | none => none

end Sys2Proof.Machine
end

