-- ==== Sys2Proof/Machine/Admission.lean ====
section
/-! DEFINITION. The Almanac's checks (chapter 02): reading a declaration set (R51 to R53), check groups 1 to 9 of R54,
placement (R59 to R79) and the placement record (R84). -/

namespace Sys2Proof.Machine

/-- A refusal (R54, R88): code, record kind (0 header, 1 stage, 2 loop, 3 table) and index, and the two details. -/
structure Refuse where
  code : Nat
  kind : Nat
  idx : Nat
  d0 : Nat
  d1 : Nat
  deriving DecidableEq, Repr

abbrev Check (α : Type) := Except Refuse α

def fmtErr (kind idx off : Nat) : Refuse := ⟨Err.ADM_FORMAT, kind, idx, off, 0⟩

/-- Refuse when a condition holds. -/
def refuseIf (b : Bool) (r : Refuse) : Check Unit := if b then .error r else .ok ()

/-- Run checks in order; the first failure ends them (R54). -/
def checkAll : List (Check Unit) → Check Unit
  | [] => .ok ()
  | c :: t => match c with
    | .error r => .error r
    | .ok _ => checkAll t

/-- Number the elements of a list. -/
def numbered {α : Type} (l : List α) : List (Nat × α) := (List.range l.length).zip l

def sumOf {α : Type} (f : α → Nat) (l : List α) : Nat := (l.map f).sum

/-! ### Group 1: format, CRC, ranges, triggers, floor -/

/-- Codes of 2 bytes (R52). -/
def readCodes (b : List Byte) (o n : Nat) : List Nat := (List.range n).map (fun j => listNat b (o + 2 * j) 2)

/-- A stage record at an offset. -/
def readStage (b : List Byte) (o : Nat) : StageDecl :=
  let u := fun k n => listNat b (o + k) n
  { stage := u 0 1, sensing := u 1 1, timing := u 2 1, fallback := u 3 1, threeLevel := u 4 1 != 0, nInst := u 5 1
    legMask := u 8 8, periodMin := u 16 4, fMax := u 20 4, ephEntries := u 24 2
    lockRatio := if u 2 1 = 1 then u 26 1 else 0
    res := readCodes b (o + 64) (u 6 2) }

/-- A loop record at an offset. -/
def readLoop (b : List Byte) (o : Nat) : LoopDecl :=
  let u := fun k n => listNat b (o + k) n
  LoopDecl.linked
  { id := u 0 1, ctx := u 1 1, cls := u 2 1, stream := u 3 1, cluster := u 4 1, fmt := u 5 1, trigger := u 6 1
    trigStage := u 7 1, trigEvent := u 8 1, prescale := u 9 1, monitors := u 10 1, period := u 12 4
    deadline := u 16 4, angleStep := u 20 4, progAddr := u 24 4, progLen := u 28 2, gainPoints := u 30 2
    ins := readCodes b (o + 64) (u 32 2), outs := readCodes b (o + 64 + 2 * u 32 2) (u 34 2)
    cyc := 0, lin := 0, resp := 0, rank := 0, dc := 0, tc := 0, emig := 0 }

/-- A table record at an offset. -/
def readTable (b : List Byte) (o : Nat) : TableDecl :=
  let u := fun k n => listNat b (o + k) n
  { id := u 0 2, kind := u 2 1, access := u 3 1, size := u 4 4, slice := u 8 4, rate := u 12 4, reader := u 16 1
    home := 0, sram := 0 }

/-- Offsets of `n` records that follow one another from `o`; `len` gives the length of a record at an offset. -/
def recordsAt (len : Nat → Nat) : Nat → Nat → List Nat × Nat
  | 0, o => ([], o)
  | n + 1, o => let r := recordsAt len n (o + len o); (o :: r.1, r.2)

/-- The parts of a set: offsets of its records, and the end of the last (R51). -/
structure Layout where
  stages : List Nat
  loops : List Nat
  tables : List Nat
  past : Nat

def layout (b : List Byte) : Layout :=
  let s := recordsAt (fun o => 64 + 2 * listNat b (o + 6) 2) (listNat b 20 2) 64
  let l := recordsAt (fun o => 64 + 2 * (listNat b (o + 32) 2 + listNat b (o + 34) 2)) (listNat b 22 2) s.2
  let t := recordsAt (fun _ => 32) (listNat b 24 2) l.2
  ⟨s.1, l.1, t.1, t.2⟩

/-- Every reserved byte of a record is 0 (R52). -/
def reservedZero (b : List Byte) (kind idx o lo hi : Nat) : Check Unit :=
  match (List.range (hi - lo)).find? (fun i => listNat b (o + lo + i) 1 != 0) with
  | some i => .error (fmtErr kind idx (o + lo + i))
  | none => .ok ()

/-- A field lies in its range. -/
def inRange (b : List Byte) (kind idx o off n lo hi : Nat) : Check Unit :=
  refuseIf (decide (listNat b (o + off) n < lo ∨ hi < listNat b (o + off) n)) (fmtErr kind idx (o + off))

/-- Instances of a resource kind (R53). -/
def resourceMax : Nat → Option Nat
  | 0x01 | 0x02 => some 15
  | 0x03 | 0x04 => some 63
  | 0x05 => some 23
  | 0x06 | 0x09 => some 7
  | 0x07 | 0x08 | 0x0A => some 3
  | 0x0B | 0x0C => some 255
  | _ => none

/-- A resource code names nothing (R53). -/
def badCode (nTable c : Nat) : Bool :=
  (match resourceMax (c / 1024) with | some m => decide (m < c % 1024) | none => true)
  || (c / 1024 == 0x0C && c % 1024 == 0) || (c / 1024 == 0x0B && decide (nTable ≤ c % 1024))

def checkCodes (nTable kind idx o : Nat) (codes : List Nat) : Check Unit :=
  match codes.findIdx? (badCode nTable) with
  | some j => .error (fmtErr kind idx (o + 64 + 2 * j))
  | none => .ok ()

/-- Legs of a mask, ascending. -/
def maskLegs (m : Nat) : List Nat := (List.range 64).filter (bitOf m)

def StageDecl.legs (s : StageDecl) : List Nat := maskLegs s.legMask

/-- Phases of a stage: its legs, counting only the masters of three-level pairs (R230). -/
def StageDecl.phases (s : StageDecl) : List Nat := s.legs.filter (fun n => !(s.threeLevel && n % 2 == 1))

def codesOf (kind : Nat) (l : List Nat) : List Nat := (l.filter (fun c => c / 1024 == kind)).map (fun c => c % 1024)

/-- Analogue pins of a stage record, in order (R209). -/
def StageDecl.pins (s : StageDecl) : List Nat := codesOf 0x04 s.res

/-- Group 1 on a stage record (R52, R32, R152, R230). -/
def checkStage (b : List Byte) (nTable i o : Nat) : Check Unit :=
  let s := readStage b o
  checkAll [
    reservedZero b 1 i o 27 64,
    inRange b 1 i o 0 1 0 15, inRange b 1 i o 1 1 0 2, inRange b 1 i o 2 1 0 2,
    inRange b 1 i o 3 1 (if s.timing = 0 then 0 else 1) (if s.timing = 0 then 0 else 3),
    inRange b 1 i o 4 1 0 1, inRange b 1 i o 5 1 0 4,
    refuseIf (s.legs.isEmpty || decide (16 < s.legs.length)) (fmtErr 1 i (o + 8)),
    inRange b 1 i o 16 4 0 0xFFFFFF, inRange b 1 i o 20 4 0 (3000 * 4096),
    refuseIf (s.timing == 1 && s.lockRatio == 0) (fmtErr 1 i (o + 26)),
    checkCodes nTable 1 i o s.res,
    refuseIf (s.sensing == 1 && s.timing == 2) (fmtErr 1 i (o + 1)),
    refuseIf (s.sensing == 2 && s.phases.length != 3 && s.phases.length != 6) (fmtErr 1 i (o + 8)),
    refuseIf (s.sensing == 2 && 3 * (codesOf 0x05 s.res).length != 2 * s.phases.length) (fmtErr 1 i (o + 6))]

def Admitted.stageOf (a : Admitted) (k : Nat) : Option StageDecl := a.stages.find? (fun s => s.stage == k)

/-- The period T of a loop in ns, as numerator and denominator (R71); 0 where the record gives none. -/
def Admitted.periodNs (a : Admitted) (l : LoopDecl) : Nat × Nat :=
  match l.trigger with
  | 0 => match a.stageOf l.trigStage with | some s => (l.prescale * s.periodMin * 5, 2) | none => (0, 1)
  | 1 => match a.stageOf l.trigStage with
    | some s => if s.fMax = 0 then (0, 1) else (l.angleStep * 4096 * 10 ^ 9, 2 ^ 32 * s.fMax)
    | none => (0, 1)
  | 2 => (l.period, 1)
  | _ => (l.period * 1000, 1)

/-- The deadline D in ns (R71). -/
def LoopDecl.deadlineNs (l : LoopDecl) : Nat := if l.trigger = 3 then l.period * 1000 else l.deadline

/-- The counting modes in which the carrier of a declared stage can run under compare control (R152): MODE of CFG as it
stands, and MODE of its fallback declaration. -/
def Dev.carrierModes (d : Dev) (s : StageDecl) : List Nat :=
  (if s.timing = 2 then [] else [d.get (pgSTG s.stage) STG.CFG_MODE]) ++ (if s.timing = 0 then [] else [s.fallback - 1])

/-- Position of the period event of a carrier of period `p` (R150). -/
def eventPos (mode p : Nat) : Nat := match mode with | 0 => p - 1 | 1 => 1 | _ => p / 2

/-- Shortest span from a stage event to the next commit boundary of its stage, in TCLK, with the carrier at PERIOD_MIN
and BOUND of CFG as it stands (R71, R150, R167; log entry 16). -/
def Dev.boundaryGap (d : Dev) (s : StageDecl) (event : Nat) : Nat :=
  let p := s.periodMin
  let gap := fun (mode : Nat) =>
    let per := eventPos mode p
    match d.get (pgSTG s.stage) STG.CFG_BOUND with
    | 1 => if event = 0 then per else p
    | 2 => if event = 0 then min per p else if event = 1 then p - per else min per (p - per)
    | _ => if event = 1 then p - per else p
  let l := (d.carrierModes s).map gap
  l.foldl min (l.headD p)

/-- The trigger, period and deadline of a loop are inconsistent (R71, R243). A loop with TRIGGER 1 starts at a zero event
while its stage is in FALLBACK (R139); where its triggering entries lie among the boundaries of a chart, the set does not
declare (log entry 16). -/
def Dev.triggerBad (d : Dev) (a : Admitted) (l : LoopDecl) : Bool :=
  let t := a.periodNs l
  let st := a.stageOf l.trigStage
  (decide (l.trigger ≤ 1) && st.isNone)
  || (match st with
      | some s => (l.trigger == 1 && s.timing != 2)
        || (decide (l.trigger ≤ 1)
            && decide (d.boundaryGap s (if l.trigger = 1 then 0 else l.trigEvent) * 5 < 2 * l.deadline))
      | none => false)
  || (l.trigger != 3 && decide (t.1 < l.deadline * t.2))
  || ((codesOf 0x01 l.ins).any (fun k => match a.stageOf k with | some s => s.sensing == 2 | none => false)
      && decide (t.1 < 10000 * t.2))

/-- Group 1 on a loop record (R52, R253, R261, R71). -/
def Dev.checkLoop (d : Dev) (b : List Byte) (a : Admitted) (i o : Nat) (l : LoopDecl) : Check Unit :=
  let gain := sumOf (fun x => x.gainPoints) (a.loops.filter (fun x => x.ctx == l.ctx))
  let first := (a.loops.take i).all (fun x => x.ctx != l.ctx)
  checkAll [
    reservedZero b 2 i o 11 12, reservedZero b 2 i o 36 64,
    inRange b 2 i o 0 1 1 255, inRange b 2 i o 1 1 1 63, inRange b 2 i o 2 1 0 1, inRange b 2 i o 3 1 0 2,
    refuseIf (decide (3 < l.cluster) && l.cluster != 0xFF) (fmtErr 2 i (o + 4)),
    inRange b 2 i o 5 1 0 1, inRange b 2 i o 6 1 0 3, inRange b 2 i o 7 1 0 15, inRange b 2 i o 8 1 0 5,
    inRange b 2 i o 9 1 1 16,
    refuseIf (!decide (0x10000000 ≤ l.progAddr ∧ l.progAddr + 8 * l.progLen ≤ 0x10800000)) (fmtErr 2 i (o + 24)),
    refuseIf ((a.loops.take i).any (fun x => x.id == l.id)) (fmtErr 2 i o),
    checkCodes a.tables.length 2 i o (l.ins ++ l.outs),
    refuseIf (decide (64 < sumOf inputCount l.ins)) (fmtErr 2 i (o + 32)),
    refuseIf (first && (gain == 1 || decide (65 < gain))) (fmtErr 2 i (o + 30)),
    refuseIf (d.triggerBad a l) ⟨Err.ADM_TRIGGER, 2, i, l.id, 0⟩]

/-- Group 1 on a table record (R52, R513). -/
def checkTable (b : List Byte) (a : Admitted) (i o : Nat) (t : TableDecl) : Check Unit :=
  checkAll [
    reservedZero b 3 i o 17 32,
    inRange b 3 i o 0 2 1 65535, inRange b 3 i o 2 1 0 4, inRange b 3 i o 3 1 0 2,
    refuseIf ((a.tables.take i).any (fun x => x.id == t.id)) (fmtErr 3 i o),
    refuseIf (t.access != 1 && t.slice != 0) (fmtErr 3 i (o + 8)),
    refuseIf (t.access == 1 && (t.slice == 0 || t.size % t.slice != 0)) (fmtErr 3 i (o + 4))]

/-- Group 1 on the header (R52, R55, R65, R439). `imgBad`: DEPLOYED, and the set lies in no verified image; `slices`: a
verified slice programme is in place. -/
def checkHeader (b : List Byte) (imgBad slices : Bool) : Check Unit :=
  if b.length < 64 then .error (fmtErr 0 0 b.length)
  else checkAll [
    refuseIf (crc32c (b.drop 12) != listNat b 8 4) (fmtErr 0 0 8),
    refuseIf imgBad ⟨Err.ADM_IMAGE, 0, 0, 0, 0⟩,
    reservedZero b 0 0 0 15 16, reservedZero b 0 0 0 26 64,
    inRange b 0 0 0 0 4 0x10000 0x10000, inRange b 0 0 0 12 1 0 2, inRange b 0 0 0 13 1 0 2,
    inRange b 0 0 0 14 1 0 (if slices then 1 else 0),
    inRange b 0 0 0 16 4 1000 1000000, inRange b 0 0 0 20 2 0 16, inRange b 0 0 0 22 2 0 255,
    inRange b 0 0 0 24 2 0 255,
    refuseIf (decide (listNat b 12 1 < listNat b 13 1)) ⟨Err.ADM_FLOOR, 0, 0, listNat b 13 1, listNat b 12 1⟩]

/-- The set that the bytes describe, before any check but the header's. -/
def readSet (b : List Byte) : Admitted :=
  let y := layout b
  { setupId := listNat b 4 4, floorOp := listNat b 12 1, runOp := listNat b 13 1, sliceEn := listNat b 14 1 == 1
    slicePeriod := listNat b 16 4, stages := y.stages.map (readStage b), loops := y.loops.map (readLoop b)
    tables := y.tables.map (readTable b), order := [], hosts := [], insts := [] }

/-- Group 1 (R54). -/
def Dev.group1 (d : Dev) (b : List Byte) (imgBad : Bool) : Check Admitted :=
  match checkHeader b imgBad (d.flag pgBIST BIST.ST_PROG_VALID) with
  | .error r => .error r
  | .ok _ =>
    let y := layout b
    if y.past ≠ b.length then .error (fmtErr 0 0 (min y.past b.length))
    else
      let a := readSet b
      match checkAll ((numbered y.stages).map (fun x => checkStage b a.tables.length x.1 x.2)
        ++ ((numbered y.loops).zip a.loops).map (fun x => d.checkLoop b a x.1.1 x.1.2 x.2)
        ++ ((numbered y.tables).zip a.tables).map (fun x => checkTable b a x.1.1 x.1.2 x.2)) with
      | .error r => .error r
      | .ok _ => .ok a

/-! ### Group 2: device counts -/

/-- Refuse at the first record by which a running total passes its limit. -/
def totalOver {α : Type} (l : List α) (f : α → Nat) (limit : Nat) (r : Nat → Refuse) (i : Nat) : Check Unit :=
  let upTo := sumOf f (l.take i)
  refuseIf (decide (upTo ≤ limit ∧ limit < upTo + (match l[i]? with | some x => f x | none => 0))) (r i)

/-- Resolver triples of a record's codes (R91): resolver, sine pin, cosine pin. -/
def resolverTriples : List Nat → List (Nat × Option (Nat × Nat))
  | [] => []
  | c :: t =>
    if c / 1024 = 0x07 then
      (c % 1024, match t with
        | s :: k :: _ => if s / 1024 = 0x04 ∧ k / 1024 = 0x04 then some (s % 1024, k % 1024) else none
        | _ => none) :: resolverTriples t
    else resolverTriples t

/-- SAR pins that a stage's instants convert (R209, R223). -/
def StageDecl.instPins (s : StageDecl) : List Nat := if s.sensing = 2 then [] else s.pins.take s.nInst

/-- INJ entries of group `g` that a stage record needs (R209). -/
def StageDecl.injCount (s : StageDecl) (g : Nat) : Nat :=
  (s.instPins.filter (fun p => p / 16 == g)).length
  + 2 * ((resolverTriples s.res).filter (fun t => match t.2 with | some (p, _) => p / 16 == g | none => false)).length

/-- A leg of a three-level stage whose partner is missing (R30). -/
def StageDecl.loneLeg (s : StageDecl) : Option Nat :=
  if s.threeLevel then s.legs.find? (fun n => !bitOf s.legMask (if n % 2 = 0 then n + 1 else n - 1)) else none

/-- Group 2 (R54, R56, R165, R209, R513). A count without a resource kind of R53 reports kind 0 (log entry 16). -/
def group2 (a : Admitted) : Check Unit :=
  let st := a.stages
  let tot := fun (f : StageDecl → Nat) => sumOf f st
  let inl := fun (s : StageDecl) => b2n (s.sensing == 2)
  let sdi := fun (s : StageDecl) => (codesOf 0x05 s.res).length
  let cnt := fun (kind total rk i : Nat) => (⟨Err.ADM_COUNT, rk, i, kind, total⟩ : Refuse)
  let lTot := fun (f : LoopDecl → Nat) => sumOf f a.loops
  let onStage := fun (k : Nat) (l : LoopDecl) => b2n (l.trigger == 0 && l.trigStage == k)
  let tTot := fun (f : TableDecl → Nat) => sumOf f a.tables
  checkAll (
    (List.range st.length).flatMap (fun i => [
      totalOver st inl 8 (fun i => ⟨Err.ADM_INLINE, 1, i, tot inl, 8⟩) i,
      totalOver st sdi 24 (fun i => cnt 0x05 (tot sdi) 1 i) i,
      totalOver st (fun s => s.ephEntries) 3072 (fun i => cnt 0 (tot (fun s => s.ephEntries)) 1 i) i,
      totalOver st (fun s => s.injCount 0) 32 (fun i => cnt 0x04 (tot (fun s => s.injCount 0)) 1 i) i,
      totalOver st (fun s => s.injCount 1) 32 (fun i => cnt 0x04 (tot (fun s => s.injCount 1)) 1 i) i,
      totalOver st (fun s => s.injCount 2) 32 (fun i => cnt 0x04 (tot (fun s => s.injCount 2)) 1 i) i,
      totalOver st (fun s => s.injCount 3) 32 (fun i => cnt 0x04 (tot (fun s => s.injCount 3)) 1 i) i,
      match st[i]? with
      | some s => match s.loneLeg with
        | some n => .error ⟨Err.ADM_LEG_PAIR, 1, i, n, 0⟩
        | none => .ok ()
      | none => .ok ()])
    ++ (List.range a.loops.length).flatMap (fun i => [
      totalOver a.loops (fun l => l.gainPoints) 2048 (fun i => cnt 0 (lTot (fun l => l.gainPoints)) 2 i) i,
      totalOver a.loops (fun l => b2n (l.trigger == 3)) 16 (fun i => cnt 0 (lTot (fun l => b2n (l.trigger == 3))) 2 i) i,
      match a.loops[i]? with
      | some l => totalOver a.loops (onStage l.trigStage) 16 (fun i => cnt 0x01 (lTot (onStage l.trigStage)) 2 i) i
      | none => .ok ()])
    ++ (List.range a.tables.length).flatMap (fun i => [
      totalOver a.tables (fun t => b2n (t.access == 1)) 32 (fun i => cnt 0x0B (tTot (fun t => b2n (t.access == 1))) 3 i) i,
      totalOver a.tables (fun t => b2n (t.kind == 4)) 1 (fun i => cnt 0x0B (tTot (fun t => b2n (t.kind == 4))) 3 i) i]))

/-! ### Group 3: ownership -/

/-- Owned resources so far: key, record kind and index. A leg n has the key 0x10000 + n, a stage's output 0x20000 plus
its code. A leg has no resource code, so that REFUSE_DETAIL0 of a second owner shows the leg's number (DESIGN CHOICE, log
entry 89). -/
abbrev Owners := List (Nat × Nat × Nat)

/-- A record takes a resource (R57). -/
def own (key detail kind idx : Nat) (o : Owners) : Check Owners :=
  match o.find? (fun e => e.1 == key) with
  | some e => if e.2 = (kind, idx) then .ok o else .error ⟨Err.ADM_OWNER_CONFLICT, kind, idx, detail, e.2.1 * 2 ^ 30 + e.2.2⟩
  | none => .ok ((key, kind, idx) :: o)

def ownAll (kind idx : Nat) : List (Nat × Nat) → Owners → Check Owners
  | [], o => .ok o
  | (key, detail) :: t, o => match own key detail kind idx o with
    | .error r => .error r
    | .ok o => ownAll kind idx t o

/-- Analogue pins that housekeeping converts as module NTC inputs (R58, R205). -/
def Dev.ntcPins (d : Dev) : List Nat :=
  ((List.range 16).filter (fun m => d.flagAt pgTHM THM.MCFG_VALID m)).map (fun m => d.getAt pgTHM THM.MCFG_NTC_PIN m)

/-- A record names a resource of firmware (R58). -/
def Dev.reservedCheck (d : Dev) (kind idx : Nat) (codes : List Nat) : Check Unit :=
  match codes.find? (fun c => c / 1024 == 0x04 && d.ntcPins.contains (c % 1024)) with
  | some c => .error ⟨Err.ADM_RESERVED_RES, kind, idx, c, 0⟩
  | none => .ok ()

def Dev.ownStages (d : Dev) : List (Nat × StageDecl) → Owners → Check Owners
  | [], o => .ok o
  | (i, s) :: t, o =>
    let mine := 0x01 * 1024 + s.stage
    match d.reservedCheck 1 i s.res with
    | .error r => .error r
    | .ok _ =>
      match ownAll 1 i ((mine, mine) :: s.legs.map (fun n => (0x10000 + n, n)) ++ s.res.map (fun c => (c, c))) o with
      | .error r => .error r
      | .ok o => d.ownStages t o

/-- A loop owns its outputs; a stage has one writing loop (R57, R272). -/
def Dev.ownLoops (d : Dev) : List (Nat × LoopDecl) → Owners → Check Owners
  | [], o => .ok o
  | (i, l) :: t, o =>
    match d.reservedCheck 2 i (l.ins ++ l.outs) with
    | .error r => .error r
    | .ok _ =>
      match ownAll 2 i (l.outs.map (fun c => (if c / 1024 = 1 then 0x20000 + c else c, c))) o with
      | .error r => .error r
      | .ok o => d.ownLoops t o

def Dev.group3 (d : Dev) (a : Admitted) : Check Unit :=
  match d.ownStages (numbered a.stages) [] with
  | .error r => .error r
  | .ok o => match d.ownLoops (numbered a.loops) o with
    | .error r => .error r
    | .ok _ => .ok ()

/-! ### Group 4: memory and bandwidth -/

def alignUp (n k : Nat) : Nat := (n + k - 1) / k * k

/-- Place the tables in record order (R59, R512): next free addresses of SRAM and DRAM. -/
def placeTables : List (Nat × TableDecl) → Nat → Nat → Check (List TableDecl)
  | [], _, _ => .ok []
  | (i, t) :: rest, sram, dram =>
    let home := alignUp dram 4096
    let lo := alignUp sram 64
    let n := if t.access = 0 then t.size else t.slice
    let need := if t.access = 0 then n else align64 n + n
    if t.access ≠ 0 ∧ 0x83C00000 < home + t.size then
      .error ⟨Err.ADM_DRAM, 3, i, t.size, 0x83C00000 - home⟩
    else if t.access ≠ 2 ∧ 0x10680000 < lo + need then
      .error ⟨Err.ADM_SRAM, 3, i, need, 0x10680000 - lo⟩
    else
      let t' := if t.access = 0 then { t with home := lo }
        else if t.access = 1 then { t with home := home, sram := lo } else { t with home := home }
      match placeTables rest (if t.access = 2 then sram else lo + need) (if t.access = 0 then dram else home + t.size) with
      | .error r => .error r
      | .ok l => .ok (t' :: l)

/-- The bandwidth test (R60, R513), over a common denominator: bytes per second × `den`. A background loop reads the DRAM
tables that its input codes name (DESIGN CHOICE, log entry 89). -/
def bandwidth (a : Admitted) : Nat × Nat :=
  let tab := sumOf (fun t => if t.kind = 4 then 0 else if t.access = 1 then max t.rate (100 * t.slice) else t.rate) a.tables
  a.loops.foldl (fun (s : Nat × Nat) l =>
    if l.trigger ≠ 3 ∨ l.period = 0 then s
    else
      let size := sumOf (fun j => match a.tables[j]? with
        | some t => if t.access = 0 then 0 else t.size
        | none => 0) (codesOf 0x0B l.ins)
      (s.1 * l.period + size * 10 ^ 6 * s.2, s.2 * l.period)) (tab, 1)

/-- Group 4. ADM_DRAM_BW concerns the whole set: it comes after every table's own check, names the header, and shows the
requested MB/s rounded up (DESIGN CHOICE, log entry 89). -/
def group4 (a : Admitted) : Check Admitted :=
  match placeTables (numbered a.tables) 0x10080000 0x80000000 with
  | .error r => .error r
  | .ok t =>
    let w := bandwidth a
    if 2400000000 * w.2 < w.1 then
      .error ⟨Err.ADM_DRAM_BW, 0, 0, (w.1 + w.2 * 10 ^ 6 - 1) / (w.2 * 10 ^ 6), 2400⟩
    else .ok { a with tables := t }

/-! ### Group 5: converters -/

/-- Instants of a group on a converter so far. -/
def convLoad (l : List Inst) (g c : Nat) : Nat := (l.filter (fun x => x.pin / 16 == g && x.conv == c)).length

/-- RECON of a stage declaration (R230). -/
def StageDecl.recon (s : StageDecl) : Bool := s.sensing == 1 && !s.threeLevel && s.legs.length == 3 && s.nInst == 2

/-- The stage event that starts instant `i` of a declared stage under compare control, when it has a fixed place in the
carrier: 0 the zero, 1 the period event (R164). RECON places instants 0 and 1 itself, a SAMPLE entry or a compare
stands in registers that change while the stage runs. -/
def Dev.fixedEvent (d : Dev) (s : StageDecl) (i : Nat) : Option Nat :=
  let e := d.get (pgSTG s.stage) STG.INST_CFG / 16 ^ i % 16
  if s.timing = 2 ∨ (s.recon ∧ i < 2) ∨ 2 ≤ e then none else some e

/-- Two stage instants never lie nearer than 50 TCLK (R62): one starts at the zero event and the other at the period event
of one timebase, as CFG and INST_CFG stand, in every carrier from PERIOD_MIN on (log entry 16). -/
def Dev.apart (d : Dev) (a : Admitted) (x y : Inst) : Bool :=
  x.kind == 0 && y.kind == 0 && x.src == y.src &&
  (match a.stageOf x.src with
   | none => false
   | some s => match d.fixedEvent s x.inst, d.fixedEvent s y.inst with
     | some e, some f => e != f && (d.carrierModes s).all (fun m =>
         let per := eventPos m s.periodMin
         decide (50 ≤ per ∧ per + 50 ≤ s.periodMin))
     | _, _ => false)

/-- Instants on converter `c` of the group that can coincide with `x`. -/
def Dev.coinciding (d : Dev) (a : Admitted) (l : List Inst) (x : Inst) (c : Nat) : Nat :=
  convLoad (l.filter (fun y => !d.apart a x y)) (x.pin / 16) c

/-- The converter with the fewest coinciding instants, the lowest number on a tie (R62). -/
def Dev.chooseConv (d : Dev) (a : Admitted) (l : List Inst) (x : Inst) (not : Option Nat) : Nat :=
  ((List.range 3).filter (fun c => some c != not)).foldl
    (fun (b : Option Nat) c => match b with
      | none => some c
      | some k => if d.coinciding a l x c < d.coinciding a l x k then some c else b) none |>.getD 0

def Dev.addInst (d : Dev) (a : Admitted) (l : List Inst) (x : Inst) (not : Option Nat) : List Inst :=
  let c := d.chooseConv a l x not
  l ++ [{ x with conv := c, q := d.coinciding a l x c }]

/-- The group that holds a pin is enabled (R63). -/
def Dev.pinEnabled (d : Dev) (p : Nat) : Bool := d.flag (pgADCG (p / 16)) COM.ST_ENABLED

/-- The instants of one stage (R63). REFUSE_DETAIL0 of ADM_CONVERTER holds the stage in [15:8] and the instant in [7:0]
(DESIGN CHOICE, log entry 89). -/
def Dev.stageInsts (d : Dev) (a : Admitted) (i : Nat) (s : StageDecl) (l : List Inst) : Check (List Inst) :=
  if s.sensing = 2 then .ok l
  else
    (List.range s.nInst).foldl (fun (acc : Check (List Inst)) j =>
      match acc with
      | .error r => .error r
      | .ok l => match s.pins[j]? with
        | none => .error ⟨Err.ADM_CONVERTER, 1, i, s.stage * 256 + j, 0⟩
        | some p =>
          if !d.pinEnabled p then .error ⟨Err.ADM_CONVERTER, 1, i, s.stage * 256 + j, p⟩
          else .ok (d.addInst a l ⟨s.stage, j, 0, p, 0, 0, if s.timing = 2 then 3 else 1⟩ none)) (.ok l)

/-- Stage records in ascending order of stage. -/
def sortedStages (a : Admitted) : List (Nat × StageDecl) :=
  (List.range 16).flatMap (fun k => (numbered a.stages).filter (fun x => x.2.stage == k))

/-- The resolver pairs of one record, after every stage instant (R91). -/
def Dev.resolverInsts (d : Dev) (a : Admitted) (kind i : Nat) (codes : List Nat) (l : List Inst) : Check (List Inst) :=
  (resolverTriples codes).foldl (fun (acc : Check (List Inst)) t =>
    match acc with
    | .error r => .error r
    | .ok l => match t.2 with
      | none => .error ⟨Err.ADM_CONVERTER, kind, i, 0x07 * 1024 + t.1, 0⟩
      | some (s, c) =>
        if s / 16 ≠ c / 16 ∨ !d.pinEnabled s then .error ⟨Err.ADM_CONVERTER, kind, i, 0x07 * 1024 + t.1, c⟩
        else
          let l := d.addInst a l ⟨t.1, 0, 1, s, 0, 0, 1⟩ none
          .ok (d.addInst a l ⟨t.1, 0, 2, c, 0, 0, 1⟩ ((l.getLast?).map (fun x => x.conv)))) (.ok l)

/-- A loop's input codes without the resolvers that a stage record owns (R57). -/
def Admitted.ownInputs (a : Admitted) (l : LoopDecl) : List Nat :=
  l.ins.filter (fun c => !(c / 1024 == 0x07 && a.stages.any (fun s => s.res.contains c)))

/-- A loop whose resolver inputs are its own: the first loop that names the resolver owns it (log entry 19). -/
def Admitted.resolverLoops (a : Admitted) : List (Nat × LoopDecl) :=
  (numbered a.loops).map (fun x => (x.1, { x.2 with ins := (a.ownInputs x.2).filter (fun c =>
    !(c / 1024 == 0x07 && (a.loops.take x.1).any (fun y => y.ins.contains c))) }))

/-- Group 5. -/
def Dev.group5 (d : Dev) (a : Admitted) : Check (List Inst) :=
  let st := (sortedStages a).foldl (fun (acc : Check (List Inst)) x =>
    match acc with
    | .error r => .error r
    | .ok l => d.stageInsts a x.1 x.2 l) (.ok [])
  let st := (sortedStages a).foldl (fun (acc : Check (List Inst)) x =>
    match acc with
    | .error r => .error r
    | .ok l => d.resolverInsts a 1 x.1 x.2.res l) st
  a.resolverLoops.foldl (fun (acc : Check (List Inst)) x =>
    match acc with
    | .error r => .error r
    | .ok l => d.resolverInsts a 2 x.1 x.2.ins l) st

/-- SEQ_CONV and HK_CONV of a group (R205). -/
def seqConv (l : List Inst) (g : Nat) : Nat :=
  let m := sumOf (fun c => if convLoad l g c = 0 then 2 ^ c else 0) (List.range 3)
  if m = 0 then 4 else m

def hkConv (l : List Inst) (g : Nat) : Nat := Nat.log2 (seqConv l g)

/-- The SAR term of one entry alone (R211). -/
def Inst.term (l : List Inst) (x : Inst) : Nat :=
  let g := x.pin / 16
  let shared := bitOf (seqConv l g) x.conv || hkConv l g == x.conv
  x.lead + (if shared then 49 else 0) + 52 + 50 * x.q

/-- The SAR term of L_in in TCLK (R211): for a linked pair the larger of the two. -/
def Inst.lat (l : List Inst) (x : Inst) : Nat :=
  if x.kind = 0 then x.term l
  else ((l.filter (fun y => y.kind != 0 && y.src == x.src)).map (Inst.term l)).foldl max (x.term l)

/-! ### Group 6: the energy ledger -/

/-- The feasibility of the regeneration path (R321). A machine whose loops the set does not declare has no path to
test (log entry 16). -/
def Dev.regenCheck (d : Dev) (a : Admitted) : Check Unit :=
  let machs := (List.range 8).filter (fun k => d.flagAt pgNRG NRG.MACH_A_VALID k)
  checkAll ((numbered a.loops).map (fun x =>
    let (i, r) := x
    let long := fun (k : Nat) =>
      match a.loops.find? (fun c => c.id == d.getAt pgNRG NRG.MACH_A_MB_LOOP k) with
      | none => false
      | some c =>
        let tr := a.periodNs r
        let tc := a.periodNs c
        -- T_r + T_c > 890,000 ns − D_r − D_c
        decide (890000 * tr.2 * tc.2 < tr.1 * tc.2 + tc.1 * tr.2 + (r.deadlineNs + c.deadlineNs) * tr.2 * tc.2)
    refuseIf (machs.any (fun k => d.getAt pgNRG NRG.MACH_A_REF_LOOP k == r.id && long k)) ⟨Err.NRG_REGEN_PATH, 2, i, 0, 0⟩))

/-- Group 6 (R321, R329). -/
def Dev.group6 (d : Dev) (a : Admitted) (dis : Admitted → Check Unit) : Check Unit :=
  checkAll [dis a, d.regenCheck a]

/-! ### Group 7: cycle counts -/

/-- Target of a BR at index `i` (R273). -/
def brTarget (i w : Nat) : Int := (i : Int) + 1 + signed 16 (immOf w)

/-- Longest count from index `start` to leaving the range `start … stop` (R64); `f` bounds the nesting of loops.
A branch out of a loop's body ends that loop and goes on at its target. A reserved instruction counts its one cycle, and
the count of the path goes on past it (DESIGN CHOICE, log entry 89: the rule does not say whether the path ends there). -/
def longest (prog : List Nat) (fmt : Nat) : Nat → Nat → Nat → Nat
  | 0, _, _ => 0
  | f + 1, start, stop =>
    let step := fun (i : Nat) (best : List Nat) =>
      -- best: counts from i + 1 to stop
      let at' := fun (t : Int) => if (i : Int) < t ∧ t ≤ stop then best.getD (t.toNat - (i + 1)) 0 else 0
      let w := prog.getD i 0
      let c := insnCycles w
      let bfp := if fmt = 1 then 8 else 0
      let next := at' (i + 1)
      if insnReserved w then c + next
      else match opOf w with
        | 0x1B => c + bfp
        | 0x1A => c + bfp + next
        | 0x18 => c + (if scOf w = 0 then at' (brTarget i w) else max next (at' (brTarget i w)))
        | 0x19 =>
          let n := immOf w / 65536
          let b := immOf w % 65536
          if prog.length < i + 1 + b then c
          else
            let body := longest prog fmt f (i + 1) (i + 1 + b)
            let outs := (List.range b).map (fun j =>
              let v := prog.getD (i + 1 + j) 0
              let t := brTarget (i + 1 + j) v
              if opOf v = 0x18 ∧ insnReserved v = false ∧ ¬ ((i : Int) < t ∧ t < ((i + 1 + b : Nat) : Int)) then at' t else 0)
            c + n * (body + 1) + outs.foldl max (at' ((i + 1 + b : Nat) : Int))
        | _ => c + next
    ((List.range (stop - start)).foldl (fun best j => let i := stop - 1 - j; step i best :: best) [0]).headD 0

/-- The first unbounded back edge of a program (R64 rule 4). -/
def backEdge (prog : List Nat) : Option Nat :=
  prog.findIdx? (fun w => opOf w == 0x18 && !insnReserved w && bitOf (immOf w) 15)

/-- C of a program (R64). -/
def worstCycles (prog : List Nat) (fmt : Nat) : Nat := 12 + longest prog fmt (prog.length + 1) 0 prog.length

/-- The instructions of a loop's program. -/
def Soc.program (s : Soc) (l : LoopDecl) : List Nat :=
  (List.range l.progLen).map (fun i => memNat s.mem (l.progAddr + 8 * i) 8)

def Soc.group7 (s : Soc) : List (Nat × LoopDecl) → Check (List LoopDecl)
  | [] => .ok []
  | (i, l) :: t =>
    let p := s.program l
    match backEdge p with
    | some n => .error ⟨Err.ADM_UNBOUNDED, 2, i, n, 0⟩
    | none => match s.group7 t with
      | .error r => .error r
      | .ok r => .ok ({ l with cyc := worstCycles p l.fmt } :: r)

/-! ### Input latency -/

/-- The ΣΔ term of R223 for one input, with its registers as they stand. -/
def Dev.sdiTerm (d : Dev) (n lead : Nat) : Nat :=
  let pg := pgSDI n
  let per := d.get pg SDI.OSR_OSR * d.get pg SDI.CFG_DIV
  if d.get pg SDI.CFG_FORMAT = 1 then per + 6 else lead + per + d.get pg SDI.CFG_SKEW + 4

/-- The lead of a sampling instant of a declared stage: 3 for a SAMPLE entry, 1 for a stage event (R210). -/
def StageDecl.lead (s : StageDecl) : Nat := if s.timing = 2 then 3 else 1

/-- The longest time from a loop's event to the following period event of a RECON stage (R240): the carrier at the longest
period that the Almanac knows of, PERIOD_MIN or PERIOD as it stands (log entry 16). -/
def Dev.reconGap (d : Dev) (s : StageDecl) (r : LoopDecl) : Nat :=
  let pg := pgSTG s.stage
  let p := max s.periodMin (max (d.get pg STG.PERIOD) (if s.timing = 0 then 0 else d.get pg STG.FB_PERIOD))
  if r.trigger = 0 ∧ r.trigStage = s.stage ∧ r.trigEvent < 2 then
    (if r.trigEvent = 1 then 0 else ((d.carrierModes s).map (fun m => eventPos m p)).foldl max 0)
  else p

/-- L_in of one input of a loop (R72, R211, R223, R240, R243, R366), in TCLK. -/
def Dev.inputLatency (d : Dev) (a : Admitted) (l : List Inst) (r : LoopDecl) (code : Nat) : Nat :=
  let n := code % 1024
  match code / 1024 with
  | 0x01 => match a.stageOf n with
    | none => 50
    | some s =>
      if s.sensing = 2 then
        ((codesOf 0x05 s.res).map (fun i => d.sdiTerm i s.lead)).foldl max 0 + 53
      else if s.recon then d.reconGap s r + 120
      else 50
  | 0x04 => match l.find? (fun x => x.kind == 0 && x.pin == n) with
    | some x => x.lat l + 50
    | none => 50
  | 0x05 => d.sdiTerm n (match a.stages.find? (fun s => s.res.contains code) with | some s => s.lead | none => 1) + 50
  | 0x06 | 0x07 | 0x08 | 0x09 => 50
  | _ => 0

/-- The loop waits for this input whatever its place in the list: the currents of a RECON or an in-line stage (R240,
R243). -/
def Admitted.currents (a : Admitted) (code : Nat) : Bool :=
  code / 1024 == 0x01 && (match a.stageOf (code % 1024) with | some s => s.sensing == 2 || s.recon | none => false)

/-- L_in of a loop in TCLK (R72): the term of its first input, and of each stage whose currents it reads (log entry 16). -/
def Dev.loopLatency (d : Dev) (a : Admitted) (l : List Inst) (r : LoopDecl) : Nat :=
  if 2 ≤ r.trigger then 0
  else ((r.ins.take 1 ++ r.ins.filter a.currents).map (d.inputLatency a l r)).foldl max 0

/-! ### Group 8: streams and their tests -/

/-- f(OP) in Hz (R65). -/
def opHz : Nat → Nat
  | 0 => 400000000
  | 1 => 300000000
  | _ => 200000000

/-- The down-spread of PLL1 in thousandths (R65, R420). -/
def Dev.spread (d : Dev) : Nat :=
  if d.flag pgCLK CLK.SS_CFG_SS_EN then (match d.get pgCLK CLK.SS_CFG_DEPTH with | 0 => 5 | 1 => 10 | _ => 20) else 0

/-- f_F in Hz (R65). -/
def Dev.floorHz (d : Dev) (a : Admitted) : Nat := opHz a.floorOp * (1000 - d.spread) / 1000

/-- A loop in the tests of R73 and R74, in cycles: C, T_c, D_c, J_c, B_RL, background, and the stream it is at home
on. -/
structure RtItem where
  id : Nat
  c : Nat
  t : Nat
  d : Int
  j : Nat
  b : Nat
  bg : Bool
  home : Nat
  deriving DecidableEq, Repr

/-- The blocking of operating-point changes in cycles (R67). -/
def blockRl (a : Admitted) (ff dNs : Nat) : Nat :=
  if a.runOp = a.floorOp then 0 else (dNs + 999999) / 1000000 * ((12000 * ff + 999999999) / 1000000000 - 1194)

/-- The test item of a loop (R66, R67, R71); its home is set at placement. -/
def Admitted.item (a : Admitted) (ff : Nat) (l : LoopDecl) : RtItem :=
  let t := a.periodNs l
  { id := l.id, c := l.cyc, t := max 1 (t.1 * ff / (t.2 * 1000000000))
    d := ((2 * l.deadlineNs : Nat) - (5 * l.lin : Nat) : Int) * (ff : Nat) / (2000000000 : Nat)
    j := 0, b := blockRl a ff l.deadlineNs, bg := l.trigger == 3, home := 0 }

/-- Rank on a stream (R73, R79). -/
def RtItem.before (x y : RtItem) : Bool :=
  if x.bg == y.bg then decide (x.d < y.d) || (decide (x.d = y.d) && decide (x.id < y.id)) else !x.bg

def insertItem (x : RtItem) : List RtItem → List RtItem
  | [] => [x]
  | y :: t => if x.before y then x :: y :: t else y :: insertItem x t

def rankItems (l : List RtItem) : List RtItem := l.foldl (fun s x => insertItem x s) []

/-- The queueing time of R73; `lim` is D_c − J_c − C, beyond which the iteration stops. -/
def queueTime (above : List RtItem) (b : Nat) (lim : Int) : Nat → Nat → Nat
  | 0, w => w
  | f + 1, w =>
    let n := b + sumOf (fun y => ((w + y.j) / y.t + 1) * y.c) above
    if n = w then w else if lim < n then n else queueTime above b lim f n

/-- The busy period of R74. Where the load reaches 1 it need not stop changing, and the first value beyond T_c is taken
(log entry 16). -/
def busyPeriod (l : List RtItem) (b tc : Nat) (grows : Bool) : Nat → Nat → Nat
  | 0, t => t
  | f + 1, t =>
    let n := b + sumOf (fun y => (t + y.j + y.t - 1) / y.t * y.c) l
    if n = t then t else if grows && decide (tc < n) then n else busyPeriod l b tc grows f n

/-- Σ C ÷ T as numerator and denominator. -/
def loadOf (l : List RtItem) : Nat × Nat := l.foldl (fun (s : Nat × Nat) y => (s.1 * y.t + y.c * s.2, s.2 * y.t)) (0, 1)

/-- Bound on the steps of R74's iteration when the load is below 1. -/
def busyFuel (l : List RtItem) (b : Nat) : Nat :=
  let u := loadOf l
  (b + sumOf (fun y => y.c * (y.j / y.t + 3)) l) * u.2 / (u.2 - u.1) + 2

/-- A failed test (R73, R74): code, loop, its home stream, and the time shown in DETAIL1. -/
abbrev TestFail := Nat × Nat × Nat × Nat

/-- The tests of R73 and R74 of the item ranked after `above` and before `below`: E_i, or the failure. -/
def testItem (above : List RtItem) (x : RtItem) (below : List RtItem) : Except TestFail Nat :=
  let b := (below.map (fun y => y.c)).foldl max 0 + x.b
  let w := queueTime above b (x.d - x.j - x.c) (x.d.toNat + 2) b
  let e := x.j + w + x.c
  if x.d < e then .error (Err.ADM_DEADLINE, x.id, x.home, e)
  else
    let l := above ++ [x]
    let u := loadOf l
    let grows := decide (u.2 ≤ u.1)
    let t := busyPeriod l b x.t grows (if grows then x.t + 2 else busyFuel l b) x.c
    if x.t < t then .error (Err.ADM_OVERLOAD, x.id, x.home, t) else .ok e

/-- Every loop of a stream, by rank: response times, or the first failure. -/
def testStream (above : List RtItem) : List RtItem → Except TestFail (List (Nat × Nat))
  | [] => .ok []
  | x :: t => match testItem above x t with
    | .error f => .error f
    | .ok e => match testStream (above ++ [x]) t with
      | .error f => .error f
      | .ok l => .ok ((x.id, e) :: l)

def rta (l : List RtItem) : Except TestFail (List (Nat × Nat)) := testStream [] (rankItems l)

/-- What placement depends on: the streams that the clusters offer (R68), the hosts (R76), J_c of a move (R77), the
jitter of a mode change and its cluster (R363), and the fixed streams of a mode change. -/
structure PlaceEnv where
  offered : List Nat
  hosts : List (Nat × Nat)
  jmig : Nat
  jmode : Option (Nat × Nat)
  fixed : Option (List (Nat × Nat))

/-- Streams of a cluster in a mode with a number of live datapaths (R68). -/
def offeredBy (c mode live : Nat) : List Nat :=
  match mode with
  | 0 => if live = 3 then [16 * c, 16 * c + 1] else if live = 2 then [16 * c] else []
  | 1 => if live = 3 then [16 * c + 2] else []
  | 2 => if live = 3 then [16 * c + 3, 16 * c + 4, 16 * c + 5] else if live = 2 then [16 * c + 3, 16 * c + 4] else []
  | _ => []

/-- h(c) of every pair-mode cluster with a finder (R76). -/
def hostsOf (offered : List Nat) : List (Nat × Nat) :=
  let m := (List.range 4).filter (fun c => offered.contains (16 * c + 1))
  m.map (fun c =>
    if m.length = 1 then (c, 16 * c)
    else
      let later := m.filter (fun x => decide (c < x))
      (c, 16 * (later ++ m).headD c + 1))

abbrev Streams := List (Nat × List RtItem)

def Streams.at (σ : Streams) (s : Nat) : List RtItem := match σ.find? (fun e => e.1 == s) with | some e => e.2 | none => []

def Streams.add (σ : Streams) (s : Nat) (xs : List RtItem) : Streams :=
  (s, σ.at s ++ xs.map (fun x => { x with home := s })) :: σ.filter (fun e => e.1 != s)

/-- The jitter of a mode change (R363). -/
def PlaceEnv.jitter (v : PlaceEnv) (l : List RtItem) : List RtItem :=
  match v.jmode with
  | none => l
  | some (c, j) => l.map (fun x => if x.home / 16 = c then { x with j := max x.j j } else x)

/-- The union of Fc and h(c) (R77). -/
def PlaceEnv.union (v : PlaceEnv) (σ : Streams) (c h : Nat) : List RtItem :=
  v.jitter ((σ.at (16 * c + 1)).map (fun x => { x with j := max x.j v.jmig }) ++ σ.at h)

/-- Try items on a stream (R75, R77): none when every test passes. -/
def PlaceEnv.tryStream (v : PlaceEnv) (σ : Streams) (s : Nat) (xs : List RtItem) : Option TestFail :=
  let σ' := σ.add s xs
  match rta (v.jitter (σ'.at s)) with
  | .error f => some f
  | .ok _ =>
    (v.hosts.filter (fun e => s == 16 * e.1 + 1 || s == e.2)).findSome? (fun e =>
      match rta (v.union σ' e.1 e.2) with
      | .error f => some (Err.ADM_MIGRATION, f.2)
      | .ok _ => none)

/-- Candidate streams of a context (R69). -/
def candidates (offered : List Nat) (classS : Bool) (prefs : List Nat) : List Nat :=
  let p := (List.range 4).flatMap (fun c => [16 * c, 16 * c + 2])
  let f := (List.range 4).map (fun c => 16 * c + 1)
  let sp := (List.range 4).flatMap (fun c => [16 * c + 3, 16 * c + 4, 16 * c + 5])
  let list := fun (k : Nat) => if k = 1 then p else if k = 2 then f ++ sp else f ++ sp ++ p
  let all := if classS then p else (f ++ sp ++ p).filter (fun s => prefs.all (fun k => (list k).contains s))
  all.filter (fun s => offered.contains s)

/-- Clusters that diversity excludes for the loops of a context (R70), each with the monitored LOOP_ID. -/
def excluded (a : Admitted) (placed : List (Nat × Nat)) (xs : List LoopDecl) : List (Nat × Nat) :=
  let ids := xs.map (fun l => l.id)
  let streamOf := fun (id : Nat) => (a.loops.find? (fun l => l.id == id)).bind
    (fun l => (placed.find? (fun e => e.1 == l.ctx)).map (fun e => e.2))
  xs.flatMap (fun l =>
    if l.cls ≠ 1 ∨ l.monitors = 0 then []
    else if ids.contains l.monitors then (List.range 4).map (fun c => (c, l.monitors))
    else match streamOf l.monitors with
      | some s => [(s / 16, l.monitors)]
      | none => [])
  ++ (a.loops.filter (fun l => l.cls == 1 && l.monitors != 0 && ids.contains l.monitors && !ids.contains l.id)).flatMap
    (fun l => match streamOf l.id with | some s => [(s / 16, l.monitors)] | none => [])

/-- The state of placement: streams so far, and the stream of each placed context, latest last. -/
structure Placing where
  σ : Streams
  placed : List (Nat × Nat)

/-- Try streams in order; the last failure is reported (R69). -/
def PlaceEnv.tryAll (v : PlaceEnv) (σ : Streams) (xs : List RtItem) : List Nat → TestFail → Except TestFail Nat
  | [], f => .error f
  | s :: t, _ => match v.tryStream σ s xs with
    | none => .ok s
    | some f => v.tryAll σ xs t f

/-- The loops of a context are of class S. -/
def ctxClassS (xs : List LoopDecl) : Bool := xs.any (fun l => l.cls == 1)

/-- Place one context (R69, R70). -/
def PlaceEnv.placeCtx (v : PlaceEnv) (a : Admitted) (ff x : Nat) (p : Placing) : Check Placing :=
  let xs : List LoopDecl := a.loops.filter (fun l => l.ctx == x)
  let i := (a.loops.findIdx? (fun l => l.ctx == x)).getD 0
  let items := xs.map (a.item ff)
  let s := ctxClassS xs
  let pins := (xs.map (fun l => l.cluster)).filter (fun c => c != 0xFF)
  let pinned := fun (c : Nat) => pins.all (fun k => k == c)
  let cands : List Nat := match v.fixed with
    | some m => (m.filter (fun e => e.1 == x && v.offered.contains e.2 && !(s && decide (3 ≤ e.2 % 16)))).map (fun e => e.2)
    | none => (candidates v.offered s (xs.map (fun l => l.stream))).filter (fun c => pinned (c / 16))
  let split := pins.find? (fun c => s && v.fixed.isNone && v.offered.contains (16 * c + 3))
  match split with
  | some c => .error ⟨Err.ADM_CLASS, 2, i, 16 * c + 3, 0⟩
  | none =>
    if cands.isEmpty then .error ⟨Err.ADM_CLASS, 2, i, 0, 0⟩
    else
      let ex : List (Nat × Nat) := if v.fixed.isSome then [] else excluded a p.placed xs
      let left := cands.filter (fun c => !ex.any (fun e => e.1 == c / 16))
      if left.isEmpty then
        let c := cands.getLastD 0 / 16
        .error ⟨Err.ADM_DIVERSITY, 2, i, (match ex.find? (fun e => e.1 == c) with | some e => e.2 | none => 0), c⟩
      else match v.tryAll p.σ items left (0, 0, 0, 0) with
        | .error f => .error ⟨f.1, 2, i, f.2.1 + f.2.2.1 * 2 ^ 16, f.2.2.2⟩
        | .ok c => .ok ⟨p.σ.add c items, p.placed ++ [(x, c)]⟩

/-- Contexts in the order of placement (R69): class, shortest DEADLINE with background loops last, context ID. -/
def ctxOrder (a : Admitted) : List Nat :=
  let ids := (List.range 64).filter (fun x => a.loops.any (fun l => l.ctx == x))
  let key := fun (x : Nat) =>
    let xs : List LoopDecl := a.loops.filter (fun l => l.ctx == x)
    let dl := (xs.filter (fun l => l.trigger != 3)).map (fun l => l.deadline)
    let m := fun (l : List Nat) => l.foldl min (l.headD 0)
    (b2n (!ctxClassS xs), b2n dl.isEmpty, if dl.isEmpty then m (xs.map (fun l => l.deadlineNs)) else m dl)
  let lt := fun (x y : Nat) =>
    let a := key x
    let b := key y
    decide (a.1 < b.1) || (a.1 == b.1 && (decide (a.2.1 < b.2.1) || (a.2.1 == b.2.1 &&
      (decide (a.2.2 < b.2.2) || (a.2.2 == b.2.2 && decide (x < y))))))
  let ins := fun (l : List Nat) (x : Nat) => l.takeWhile (fun y => !lt x y) ++ x :: l.dropWhile (fun y => !lt x y)
  ids.foldl ins []

def PlaceEnv.placeAll (v : PlaceEnv) (a : Admitted) (ff : Nat) : List Nat → Placing → Check Placing
  | [], p => .ok p
  | x :: t, p => match v.placeCtx a ff x p with
    | .error r => .error r
    | .ok p => v.placeAll a ff t p

/-- Group 9 (R78). -/
def group9 (a : Admitted) (v : PlaceEnv) : Check Unit :=
  let n := v.hosts.length
  refuseIf (a.sliceEn && decide (a.slicePeriod < n * 54)) ⟨Err.ADM_SLICE, 0, 0, n * 54, a.slicePeriod⟩

/-- E_i of every loop and its rank, with every context in place (R73, R84). The rank counts from 0, and a cluster without
a host has the host byte 0xFF (DESIGN CHOICE, log entry 90). -/
def PlaceEnv.finish (v : PlaceEnv) (a : Admitted) (ff : Nat) (σ : Streams) : Admitted :=
  let e := σ.flatMap (fun s => match rta (v.jitter s.2) with | .ok l => l | .error _ => [])
  let m := v.hosts.flatMap (fun h => match rta (v.union σ h.1 h.2) with | .ok l => l | .error _ => [])
  let ranks := σ.flatMap (fun s => let l := rankItems s.2; (List.range l.length).zip (l.map (fun x => x.id)))
  let look := fun (l : List (Nat × Nat)) (id : Nat) => ((l.filter (fun x => x.1 == id)).map (fun x => x.2)).foldl max 0
  { a with
    hosts := (List.range 4).map (fun c => match v.hosts.find? (fun h => h.1 == c) with | some h => h.2 | none => 0xFF)
    loops := a.loops.map (fun l =>
      let it := a.item ff l
      { l with dc := it.d.toNat, tc := it.t, resp := look e l.id, emig := look m l.id
               rank := (match ranks.find? (fun r => r.2 == l.id) with | some r => r.1 | none => 0) }) }

/-- Groups 8 and 9: the placed set, with the stream of each context. -/
def Dev.placeSet (d : Dev) (v : PlaceEnv) (a : Admitted) : Check (Admitted × List (Nat × Nat)) :=
  let ff := d.floorHz a
  let order := ctxOrder a
  match v.placeAll a ff order ⟨[], []⟩ with
  | .error r => .error r
  | .ok p => match group9 a v with
    | .error r => .error r
    | .ok _ => .ok (v.finish { a with order := order } ff p.σ, p.placed)

/-- The environment of an admission: clusters as they stand. -/
def Dev.placeEnv (d : Dev) (a : Admitted) : PlaceEnv :=
  let off := (List.range 4).flatMap (fun c => offeredBy c (d.mode c) (d.liveCount c))
  ⟨off, hostsOf off, (2000 * d.floorHz a + 999999999) / 1000000000, none, none⟩

/-! ### All groups -/

/-- Groups 1 to 9 (R54) over the bytes of a set. -/
def Soc.checkSet (s : Soc) (b : List Byte) (imgBad : Bool) (dis : Admitted → Check Unit) : Check Plan :=
  let d := s.dev
  match d.group1 b imgBad with
  | .error r => .error r
  | .ok a =>
  match group2 a with
  | .error r => .error r
  | .ok _ =>
  match d.group3 a with
  | .error r => .error r
  | .ok _ =>
  match group4 a with
  | .error r => .error r
  | .ok a =>
  match d.group5 a with
  | .error r => .error r
  | .ok l =>
  match d.group6 a dis with
  | .error r => .error r
  | .ok _ =>
  match s.group7 (numbered a.loops) with
  | .error r => .error r
  | .ok loops =>
  let a := { a with loops := loops.map (fun x => { x with lin := d.loopLatency a l x }), insts := l }
  match d.placeSet (d.placeEnv a) a with
  | .error r => .error r
  | .ok (a, st) => .ok ⟨a, st⟩

/-! ### The placement record -/

/-- Where the Almanac keeps its own memory (DESIGN CHOICE, log entry 17: the spec leaves the addresses to firmware). -/
def poolAddr : Nat := 0x10680000
def ctxMemory (x : Nat) : Nat := 0x10690000 + 0x1000 * x
def placeRecord : Nat := 0x106E0000

/-- Slice start offset of a cluster in µs (R78, R84). -/
def Admitted.sliceOffset (a : Admitted) (c : Nat) : Nat :=
  let m := (List.range 4).filter (fun k => a.hosts.getD k 0xFF != 0xFF)
  if a.sliceEn && m.contains c then m.idxOf c * a.slicePeriod / m.length else 0

/-- The entry of an instant (R84): stage and instant, group and converter, queue position, L_in in ns, a half nanosecond
rounded up (DESIGN CHOICE, log entry 90). -/
def instEntry (l : List Inst) (x : Inst) : List Nat :=
  [x.src + x.inst * 2 ^ 8 + x.pin / 16 * 2 ^ 16 + x.conv * 2 ^ 24, x.q, (x.lat l * 5 + 1) / 2, 0]

/-- The placement record as words (R84). Contexts stand in the order of placement, the loops context by context in the
order of their records, and the load of a context is rounded to the nearest 2^-16, at most 0xFFFF (DESIGN CHOICE, log
entry 90). -/
def Dev.recordWords (d : Dev) (p : Plan) : List Nat :=
  let a := p.set
  let ff := d.floorHz a
  let streamOf := fun (x : Nat) => match p.streams.find? (fun e => e.1 == x) with | some e => e.2 | none => 0
  let inst := a.insts.filter (fun x => x.kind == 0)
  let ids := a.order.flatMap (fun x => a.loops.filter (fun l => l.ctx == x))
  let n := a.order.length + ids.length + a.tables.length + inst.length
  let head := [a.setupId % 65536 + n % 65536 * 65536, ff / 1000, a.sliceOffset 0,
    sumOf (fun c => a.hosts.getD c 0xFF * 2 ^ (8 * c)) (List.range 4), 0, 0, 0, 0]
  let ctxs := a.order.flatMap (fun x =>
    let u := loadOf ((a.loops.filter (fun l => l.ctx == x)).map (a.item ff))
    [x + streamOf x * 65536, min 0xFFFF ((2 * u.1 * 65536 + u.2) / (2 * u.2)), ctxMemory x, 0])
  let loops := ids.flatMap (fun l => [l.id + l.rank * 65536, l.cyc % 2 ^ 32, l.resp % 2 ^ 32, l.emig % 2 ^ 32])
  let tabs := a.tables.flatMap (fun t => [t.id + t.access * 65536, t.home, t.sram, 0])
  head ++ ctxs ++ loops ++ tabs ++ inst.flatMap (instEntry a.insts)

end Sys2Proof.Machine
end

