-- ==== Sys2Proof/Machine/Almanac.lean ====
section
/-! DEFINITION. The Almanac's commands (R47, R80 to R89): CHECK, ADMIT and RELEASE, applying a set and releasing one.
The set is copied in the first TCLK after the command, and checked and applied when ADMISSION_COMPLETE comes (log entry 18). -/

namespace Sys2Proof.Machine

/-- ALM.STATUS.STATE (R89): 0 EMPTY, 1 COPYING, 2 CHECKING, 3 APPLYING, 4 ADMITTED, 5 REDUCED. -/
def Dev.almState (d : Dev) : Nat := d.get pgALM ALM.ST_STATE
def Dev.almBusy (d : Dev) : Bool := decide (1 ≤ d.almState ∧ d.almState ≤ 3)
def Dev.setAdmitted (d : Dev) : Bool := d.almState == 4 || d.almState == 5

/-- A range lies inside the verified configuration image (R466). -/
def Dev.inImage (d : Dev) (a n : Nat) : Bool :=
  d.flag pgSEC SEC.ST_CFG_VERIFIED && decide (d.get pgSEC SEC.CFG_BASE ≤ a ∧ a + n ≤ d.get pgSEC SEC.CFG_END)

/-- The DEPLOYED life-cycle state (R55, R467). -/
def Dev.deployed (d : Dev) : Bool := d.get pgLCS LCS.ST_STATE == 2

/-- Store a refusal in the REFUSE registers (R54, R88). -/
def Dev.admRefuse (d : Dev) (r : Refuse) : Dev :=
  let d := (d.put pgALM ALM.REFUSE_CODE r.code).put pgALM ALM.REFUSE_DECL (r.kind % 4 * 2 ^ 30 + r.idx % 65536)
  ((d.putAt pgALM ALM.REFUSE_DETAIL 0 (r.d0 % 2 ^ 32)).putAt pgALM ALM.REFUSE_DETAIL 1 (r.d1 % 2 ^ 32)).irq pgALM
    ALM.IRQ_REFUSED

/-- The first stage record of the admitted set whose stage has CTRL.EN = 1 (R80). -/
def Dev.admRunning (d : Dev) : Option Refuse :=
  match d.adm with
  | none => none
  | some a => ((numbered a.stages).find? (fun x => d.flag (pgSTG x.2.stage) COM.CTRL_EN)).map
      (fun x => ⟨Err.ADM_RUNNING, 1, x.1, x.2.stage, 0⟩)

/-! ### Writing RWA fields -/

/-- Store a word in a register the Almanac writes. -/
def Dev.rwa (d : Dev) (pg : Nat) (f : Fld) (i v : Nat) : Dev := d.putAt pg f i v

/-- OWNER of a page (R22): the owning device is this one. -/
def Dev.setOwner (d : Dev) (pg kind ctx : Nat) : Dev :=
  d.put pg COM.OWNER (d.get (pgVLK 0) VLK.ARRAY_CFG_ID * 2048 + kind * 256 + ctx)

/-- Return the RWA bits of one register to their reset value. -/
def Dev.rwaResetReg (d : Dev) (pg : Nat) (r : RegDesc) : Dev :=
  let m := BitVec.ofNat 32 (r.mask .rwa)
  if m = 0 then d
  else (List.range r.count).foldl (fun (d : Dev) i =>
    let a := pg + r.off + r.stride * i
    d.setReg a ((d.reg a &&& ~~~m) ||| (BitVec.ofNat 32 r.resetWord &&& m))) d

/-- Return every OWNER and RWA field of a page to its reset value; the redundancy mode of a cluster is kept (R81). -/
def Dev.rwaReset (d : Dev) (k : PageKind) (pg : Nat) : Dev :=
  let d := if k = .gnm then d else d.put pg COM.OWNER 0
  ((blockRegs k).filter (fun r => !(k == .clu && r.off == 0x40))).foldl (fun d r => d.rwaResetReg pg r) d

/-- The bank state of a stage returns to its reset values (R130). -/
def Dev.bankReset (d : Dev) (k : Nat) : Dev :=
  let d := ((d.putAt pgEPH EPH.STATE_ACTIVE_BANK k 0).putAt pgEPH EPH.STATE_CHART_VALID k 0).putAt pgEPH EPH.STATE_IDLE_LOADED k 0
  let d := ((d.putAt pgEPH EPH.STATE_ARMED k 0).putAt pgEPH EPH.STATE_ACTIVE_CHART k 0).putAt pgEPH EPH.STATE_LOADING k 0
  d.modEst k (fun e => { e with cntA := 0, cntI := 0, chartI := 0 })

/-! ### Release -/

/-- Some job runs. -/
def Dev.jobRuns (d : Dev) : Bool := d.clu.toList.any (fun (c : CluH) => c.run.toList.any Option.isSome)

/-- Step 1 of R81, up to the wait for running jobs. -/
def Dev.stopContexts (d : Dev) : Dev :=
  (List.range 63).foldl (fun (d : Dev) i => (d.putAt pgCTX CTX.CCTL_RUN (i + 1) 0).dropWaiting (i + 1)) d

/-- Steps 1 (end) to 5 of R81. -/
def Dev.releaseSet (d : Dev) : Dev :=
  -- no source of the set acts any longer, and the legs it held leave their trip states (R181, R189)
  let d := d.dropActs (fun a => decide (a.src < 168))
  let d := (pageMap.flatMap (fun p => (List.range p.count).map (fun i => (p.kind, p.base + 0x1000 * i)))).foldl
    (fun (d : Dev) p => d.rwaReset p.1 p.2) d
  let d := (List.range 16).foldl (fun (d : Dev) k => d.bankReset k) d
  -- every leg is unbound (R31)
  let d := { d with
    adm := none, trigs := [], timers := [], ready := [], mbox := [], stage := [], rampPend := [], lastTrig := []
    sliceDue := []
    slice := d.slice.map (fun (s : SliceH) => { s with moved := [] })
    clu := d.clu.map (fun (c : CluH) => { c with agr := [], rel := [] })
    promo := Vector.replicate 32 PromoH.initial
    ctx := { d.ctx with moves := [] }
    thm := { d.thm with mods := false } }
  -- RUN written while the change waited does not outlive it (R262)
  let d := (List.range 63).foldl (fun (d : Dev) i => d.putAt pgCTX CTX.CCTL_RUN (i + 1) 0) d
  let d := d.tripCfgChanged
  let d := (List.range 16).foldl (fun (d : Dev) k => d.putAt pgFLD FLD.DSTAT_ENABLED k 0) d
  let d := (d.put pgNRG COM.ST_ENABLED 0).put pgCAP CAP.ST_STATE 0
  let d := (((d.put pgALM ALM.SETUP_ID 0).put pgALM ALM.PLACE_ADDR 0).put pgALM ALM.PLACE_LEN 0).put pgALM ALM.REPLACE_CNT 0
  (List.range 16).foldl (fun (d : Dev) n =>
    ((d.putAt pgALM ALM.AGE_BOUND n 0).putAt pgALM ALM.AGE_PROM n 0).putAt pgALM ALM.AGE_MAX n 0) d

/-! ### Apply -/

/-- The loop that writes a stage (R272). -/
def Admitted.writer (a : Admitted) (k : Nat) : Option LoopDecl := a.loops.find? (fun l => l.outs.contains (0x0400 + k))

/-- Pages that a resource code owns. -/
def ownedPage (c : Nat) : Option Nat :=
  let n := c % 1024
  match c / 1024 with
  | 0x05 => some (pgSDI n)
  | 0x06 => some (pgPOS n)
  | 0x07 => some (pgRSV n)
  | 0x08 => some (pgSSI n)
  | 0x0A => some (pgEMU n)
  | _ => none

/-- Trip source owned through a resource code (R178). -/
def ownedSource (c : Nat) : Option Nat :=
  let n := c % 1024
  match c / 1024 with
  | 0x02 => some n
  | 0x03 => some (16 + n)
  | 0x05 => some (144 + n)
  | _ => none

/-- CM_MODE of a stage declaration (R230). -/
def StageDecl.cmMode (s : StageDecl) : Nat :=
  b2n s.recon * 2 ^ 31 + s.sensing * 2 ^ 29 + (if s.sensing = 2 then s.phases.length / 3 else 0) * 2 ^ 27

/-- The library of a stage (R134): the address its loader sees (R515). -/
def Admitted.library (a : Admitted) (s : StageDecl) : Nat :=
  match ((codesOf 0x0B s.res).filterMap (fun j => a.tables[j]?)).find? (fun t => t.kind == 2) with
  | some t => if t.access = 1 then t.slotAddr 0 else t.home
  | none => 0

/-- TRIG_MIN of a stage (R139): the shortest T of its TRIGGER 1 loops, in TCLK. -/
def Admitted.trigMin (a : Admitted) (k : Nat) : Nat :=
  let t := (a.loops.filter (fun l => l.trigger == 1 && l.trigStage == k)).map (fun l =>
    let p := a.periodNs l
    p.1 * 2 / (p.2 * 5))
  t.foldl min (t.headD 0)

/-- VSENSE of a stage declaration (R299); 0 when its record does not name the three terminal pins. -/
def StageDecl.vsense (s : StageDecl) : Nat :=
  let p := s.pins
  let l := p.drop s.nInst
  match l with
  | [u, v, w] => if s.nInst ≤ p.length ∧ u / 16 = v / 16 ∧ v / 16 = w / 16
      then 2 ^ 31 + u / 16 * 2 ^ 28 + u % 16 * 2 ^ 8 + v % 16 * 2 ^ 4 + w % 16 else 0
  | _ => 0

/-- Apply one stage record (R37, R47, R80). The stage, its legs and its resources belong to the context of the loop
that writes the stage, else to the host (log entry 19). -/
def Dev.applyStage (d : Dev) (a : Admitted) (base : Nat) (s : StageDecl) : Dev :=
  let k := s.stage
  let pg := pgSTG k
  let (kind, ctx) := match a.writer k with | some l => (2, l.ctx) | none => (1, 0)
  let d := d.setOwner pg kind ctx
  let d := d.put pg STG.LIMITS ((if s.timing = 0 then 0 else s.fallback - 1) * 2 ^ 24 + s.periodMin)
  let d := d.put pg STG.CM_MODE s.cmMode
  let trig := a.loops.filter (fun l => l.trigger == 0 && l.trigStage == k)
  let d := (numbered trig).foldl (fun (d : Dev) x =>
    d.putAt pg STG.TRIG x.1 (2 ^ 31 + x.2.trigEvent * 2 ^ 28 + (x.2.prescale - 1) * 2 ^ 24 + x.2.id * 2 ^ 8)) d
  let d := s.legs.foldl (fun (d : Dev) n =>
    let d := (d.setOwner (pgLEG n) kind ctx).put (pgLEG n) LEG.BIND (2 ^ 31 + b2n s.threeLevel * 2 ^ 30 + k * 2 ^ 24)
    -- the leg's active values are those of its shadows (R166)
    let d := [0x50, 0x54, 0x58, 0x5C, 0x60].foldl (fun (d : Dev) o => d.loadAct (pgLEG n + o)) d
    d.putAt pgTRIP TRIP.TARGET (80 + n) (2 ^ 31 + k * 2 ^ 16)) d
  let d := s.res.foldl (fun (d : Dev) c =>
    let d := match ownedPage c with | some p => d.setOwner p kind ctx | none => d
    let d := match ownedSource c with | some t => d.putAt pgTRIP TRIP.TARGET t (2 ^ 31 + k * 2 ^ 16) | none => d
    if c / 1024 = 0x05 then d.put (pgSDI (c % 1024)) SDI.MAP (2 ^ 31 + k * 2 ^ 24) else d) d
  let d := d.putAt pgEPH EPH.REGION k (s.lockRatio * 2 ^ 24 + base * 2 ^ 12 + s.ephEntries)
  let d := (d.bankReset k).putAt pgEPH EPH.TRIG_MIN k (a.trigMin k)
  (d.putAt pgEPH EPH.LIB_ADDR k (a.library s)).putAt pgFLD FLD.VSENSE k s.vsense

/-- Apply the stage records in order, with their Ephemeris regions (R130). -/
def Dev.applyStages (d : Dev) (a : Admitted) : List StageDecl → Nat → Dev
  | [], _ => d
  | s :: t, base => (d.applyStage a base s).applyStages a t (base + s.ephEntries)

/-- INJ entries, SEQ_CONV and HK_CONV of a group (R205, R209). -/
def Dev.applyGroup (d : Dev) (l : List Inst) (g : Nat) : Dev :=
  let pg := pgADCG g
  let d := (numbered (l.filter (fun x => x.pin / 16 == g))).foldl (fun (d : Dev) x =>
    d.putAt pg ADCG.INJ x.1 (2 ^ 31 + b2n (x.2.kind == 1) * 2 ^ 30 + x.2.conv * 2 ^ 28 + x.2.pin % 16 * 2 ^ 24
      + x.2.src * 2 ^ 20 + x.2.inst * 2 ^ 18 + x.2.kind * 2 ^ 16 + x.2.lat l)) d
  (d.put pg ADCG.CFG_SEQ_CONV (seqConv l g)).put pg ADCG.CFG_HK_CONV (hkConv l g)

/-- PINS of a resolver (R91). -/
def Dev.applyResolver (d : Dev) (l : List Inst) (n : Nat) : Dev :=
  match l.find? (fun x => x.kind == 1 && x.src == n), l.find? (fun x => x.kind == 2 && x.src == n) with
  | some s, some c => d.put (pgRSV n) RSV.PINS
      (s.pin / 16 * 2 ^ 22 + s.conv * 2 ^ 20 + c.conv * 2 ^ 18 + s.pin * 2 ^ 12 + c.pin * 2 ^ 6)
  | _, _ => d

/-- A loop's outputs belong to its context, and so do its inputs that no stage record owns (R57, log entry 19). -/
def Dev.applyInputs (d : Dev) (a : Admitted) : Dev :=
  a.loops.foldl (fun (d : Dev) l => (l.outs ++ l.ins).foldl (fun (d : Dev) c =>
    match ownedPage c with
    | some p => if d.get p COM.OWNER_KIND = 0 then d.setOwner p 2 l.ctx else d
    | none => d) d) d

/-- CCFG and CADDR of the contexts (R257, R261, R262). -/
def Dev.applyContexts (d : Dev) (a : Admitted) (st : List (Nat × Nat)) : Dev :=
  ((List.range 64).foldl (fun (s : Dev × Nat) x =>
    match st.find? (fun e => e.1 == x) with
    | none => s
    | some e =>
      let xs := a.loops.filter (fun l => l.ctx == x)
      let n := sumOf (fun l => l.gainPoints) xs
      let d := s.1.putAt pgCTX CTX.CCFG x (2 ^ 31 + b2n (ctxClassS xs) * 2 ^ 30 + b2n (xs.any (fun l => l.fmt == 1)) * 2 ^ 29
        + e.2 * 2 ^ 21 + s.2 % 2048 * 2 ^ 10 + n * 2 ^ 3)
      (d.putAt pgCTX CTX.CADDR x (ctxMemory x), s.2 + n)) (d, 0)).1

/-- Loops of a set whose effect reaches a stage through the given ones: readers of their mailboxes, directly or through
further mailboxes, and the loops that class S loops among them monitor (R352). -/
def Admitted.reach (a : Admitted) : Nat → List LoopDecl → List LoopDecl
  | 0, l => l
  | f + 1, l =>
    let more := a.loops.filter (fun x => !l.any (fun y => y.id == x.id) && l.any (fun y => x.ins.contains (0x3000 + y.id)))
    if more.isEmpty then l else a.reach f (l ++ more)

/-- Stages that a cluster's streams serve (R352). -/
def Admitted.servedBy (a : Admitted) (on : LoopDecl → Bool) : Nat :=
  let own := a.loops.filter on
  let all := a.reach a.loops.length own
  let mon := a.loops.filter (fun x => own.any (fun y => y.cls == 1 && y.monitors == x.id))
  (all ++ mon).foldl (fun m l => l.outs.foldl (fun m o => if o / 1024 = 1 then m ||| 2 ^ (o % 16) else m) m) 0

/-- SERVED and TS of a cluster (R352, R359), from the streams as CCFG holds them. -/
def Dev.applyServed (d : Dev) (a : Admitted) (c : Nat) : Dev :=
  let pg := pgCLU c
  let s := fun (l : LoopDecl) => d.ctxStream l.ctx
  let d' := d.put pg CLU.SERVED
    (a.servedBy (fun l => s l == 16 * c || s l == 16 * c + 2) * 65536 + a.servedBy (fun l => s l / 16 == c))
  let t := (a.loops.filter (fun l => s l == 16 * c + 2 && l.trigger != 3)).map (fun l => let p := a.periodNs l; p.1 / (p.2 * 1000))
  d'.put pg CLU.TS (min (2 ^ 24 - 1) (t.foldl min (t.headD 0)))

/-- AGE registers (R89). -/
def Dev.applyAge (d : Dev) (a : Admitted) : Dev :=
  (numbered a.background).foldl (fun (d : Dev) x =>
    d.putAt pgALM ALM.AGE_BOUND x.1 (2 ^ 31 + x.2.ctx * 2 ^ 24 + x.2.period % 2 ^ 24)) d

/-- At least 1 ms has passed since the start of the last operating-point change (R425). -/
def Dev.opSpaced (d : Dev) : Bool := match d.pwr.lastOp with | some t => decide (t + 400000 ≤ d.time) | none => true

/-- The target of the operating-point sequencer: the slower of the two requests (R425). -/
def Dev.opTarget (d : Dev) : Dev :=
  let host := d.get pgPWR PWR.OP_STAT_HOST
  let thm := d.get pgPWR PWR.OP_STAT_THM
  let d := (d.put pgPWR PWR.OP_STAT_TARGET (max host thm)).putB pgPWR PWR.ST_THM_LIMITED (decide (host < thm))
  -- a change under way has its own goal; a target apart from it waits
  let at_ := if d.flag pgPWR PWR.ST_SEQ_BUSY then d.pwr.goal else d.get pgPWR PWR.ST_OP_ACT
  d.putB pgPWR PWR.ST_DEFERRED (max host thm != at_ && !d.opSpaced)

/-- The floor of a new set binds the sequencer at once (R46, R346): from a point slower than the floor it moves to RUN_OP,
a limit of THM reaches no further than the floor, and a change under way to a slower point locks at the present one. -/
def Dev.applyFloor (d : Dev) (a : Admitted) : Dev :=
  let act := d.get pgPWR PWR.ST_OP_ACT
  let thm := d.get pgPWR PWR.OP_STAT_THM
  let d := d.put pgPWR PWR.OP_STAT_THM (if a.floorOp < act then a.runOp else min thm a.floorOp)
  if d.flag pgPWR PWR.ST_SEQ_BUSY ∧ a.floorOp < d.pwr.goal then
    { d.put pgCLK CLK.ST_PLL1_LOCK 0 with pwr := { d.pwr with goal := act, step := 2 } }
  else d

/-- The scheduled slices (R78): the first period begins one SLICE_PERIOD after the set is applied (log entry 20). -/
def Dev.applySlices (d : Dev) (a : Admitted) : Dev :=
  let m := (List.range 4).filter (fun c => a.hosts.getD c 0xFF != 0xFF)
  { d with sliceDue := if a.sliceEn then m.map (fun c => (c, d.time + 400 * (a.slicePeriod + a.sliceOffset c))) else [] }

/-- A cluster whose fault stayed latched runs again with the new set (R354). -/
def Dev.clearLatches (d : Dev) : Dev :=
  (List.range 4).foldl (fun (d : Dev) c =>
    let pg := pgCLU c
    let d := ((d.put pg CLU.MM_INFO_LATCHED 0).put pg CLU.MM_INFO_RECOVERING 0).modClu c (fun h => { h with recov := none })
    if d.red.any (fun x => x.1 == pg) then d.redEnd pg else d) d

/-- A source that the new set owns and that is enabled and active trips at once (R182). -/
def Dev.applySources (d : Dev) : Dev :=
  (List.range 168).foldl (fun (d : Dev) s => if d.srcLevel s then d.tripFire s else d) d

/-- Apply a checked set (R80). -/
def Dev.applySet (d : Dev) (p : Plan) : Dev :=
  let a := p.set
  let d := d.applyStages a ((sortedStages a).map (fun x => x.2)) 0
  let d := (List.range 4).foldl (fun (d : Dev) g => d.applyGroup a.insts g) d
  let d := (List.range 4).foldl (fun (d : Dev) n => d.applyResolver a.insts n) d
  let d := (d.applyInputs a).applyContexts a p.streams
  let d := (List.range 4).foldl (fun (d : Dev) c => d.applyServed a c) d
  let d := match a.tables.find? (fun t => t.kind == 4) with
    | some t => (d.put pgCAP CAP.BUF_ADDR t.home).put pgCAP CAP.BUF_SIZE t.size
    | none => d
  let d := { d with adm := some a }.applySources
  let d := (d.applyAge a).put pgALM ALM.SETUP_ID a.setupId
  let d := d.put pgALM ALM.FLOOR (a.floorOp * 2 ^ 30 + a.runOp * 2 ^ 28 + d.floorHz a / 400000)
  let d := (d.put pgALM ALM.REPLACE_CNT 0).put pgALM ALM.ST_SLICES_STOPPED 0
  let d := (d.put pgBIST BIST.ST_SLICES_STOPPED 0).clearLatches
  let d := d.applyFloor a
  let d := (d.put pgPWR PWR.OP_STAT_HOST a.runOp).opTarget
  d.applySlices a

/-! ### Commands -/

/-- A command that is no refusal of a set: the code goes to ERRCODE, and with its DETAIL0 to the REFUSE registers (R82,
R88, log entry 91). -/
def Dev.admStore (d : Dev) (code d0 : Nat) : Dev :=
  let d := ((d.err pgALM code).put pgALM ALM.REFUSE_CODE code).put pgALM ALM.REFUSE_DECL 0
  (d.putAt pgALM ALM.REFUSE_DETAIL 0 d0).putAt pgALM ALM.REFUSE_DETAIL 1 0

/-- ADM_BUSY (R82). -/
def Dev.admBusyErr (d : Dev) : Dev := d.admStore Err.ADM_BUSY d.almState

/-- A write of ADM_CMD with CMD 0: no command, but a write all the same (R82). -/
def Dev.admNone (d : Dev) : Dev := if d.almBusy then d.admBusyErr else d

/-- A write of ADM_CMD with CMD 1 CHECK, 2 ADMIT or 3 RELEASE (R80 to R82). -/
def Dev.admCommand (cmd : Nat) (d : Dev) : Dev :=
  if d.almBusy then d.admBusyErr
  else match (if cmd = 1 then none else d.admRunning) with
  | some r =>
    let d := d.admRefuse r
    if cmd = 2 then d.put pgALM ALM.ST_LAST_REFUSED 1 else d
  | none =>
    let d := { d with almanac :=
      ⟨cmd, d.almState, d.get pgALM ALM.DECL_ADDR * 4, d.get pgALM ALM.DECL_LEN, [], none, false⟩ }
    if cmd = 3 then
      if d.almState = 0 then d.irq pgALM ALM.IRQ_DONE else (d.put pgALM ALM.ST_STATE 3).stopContexts
    else d.put pgALM ALM.ST_STATE 1

def Dev.admCheck (d : Dev) : Dev := d.admCommand 1
def Dev.admAdmit (d : Dev) : Dev := d.admCommand 2
def Dev.admRelease (d : Dev) : Dev := d.admCommand 3

/-- A reserved command (R89). -/
def Dev.admReserved (cmd : Nat) (d : Dev) : Dev :=
  if d.almBusy then d.admBusyErr else d.admStore Err.ADM_CMD_CODE cmd

/-- Write the placement record (R84). -/
def Soc.writeRecord (s : Soc) (p : Plan) : Soc :=
  let w := s.dev.recordWords p
  let s := s.putWords placeRecord w
  s.map (fun d => (d.put pgALM ALM.PLACE_ADDR placeRecord).put pgALM ALM.PLACE_LEN (4 * w.length))

/-- The set has been copied into the Almanac's private memory (R54, R82): the first TCLK after the command (log entry
18). -/
def Dev.copied (d : Dev) (mem : List Host.Cell) : Dev :=
  if d.almState = 1 then
    let m := d.almanac
    { d with almanac := { m with copy := memGetList mem m.addr m.len } }.put pgALM ALM.ST_STATE 2
  else d

def Soc.copied (s : Soc) : Soc := s.map (fun d => d.copied s.mem)

/-- The check groups over the copy of the set (R54). -/
def Soc.admVerify (s : Soc) (dis : Dev → Admitted → Check Unit) : Check Plan :=
  let d := s.dev
  let m := d.almanac
  s.checkSet m.copy (d.deployed && !d.inImage m.addr m.len) (dis d)

/-- STATE after a command that left the set in place; a retirement meanwhile has reduced it (R80, R87). -/
def Dev.almBack (d : Dev) : Dev :=
  d.put pgALM ALM.ST_STATE (if d.almanac.reduced && d.almanac.prev != 0 then 5 else d.almanac.prev)

/-- The release and apply steps, once no job runs (R80, R81). The record is written after the release, which clears
PLACE_ADDR and PLACE_LEN. -/
def Soc.admFinish (s : Soc) (p : Option Plan) : Soc :=
  let reduced := s.dev.almanac.reduced
  let s := s.map Dev.releaseSet
  match p with
  | none => s.map (fun d => (d.put pgALM ALM.ST_STATE 0).irq pgALM ALM.IRQ_DONE)
  | some p => (s.writeRecord p).map (fun d =>
      ((d.applySet p).put pgALM ALM.ST_STATE (if reduced then 5 else 4)).irq pgALM ALM.IRQ_DONE)

/-- The command in APPLYING completes once no job runs, an ADMIT also once no host run of the self-test does (R449). -/
def Soc.admTryFinish (s : Soc) : Soc :=
  if s.dev.jobRuns || (s.dev.almanac.cmd == 2 && s.dev.flag pgBIST BIST.ST_BUSY) then s else s.admFinish s.dev.almanac.next

/-- The end of a check (R54, R80): a CHECK is recorded, an ADMIT goes on to APPLYING. -/
def Soc.admChecked (dis : Dev → Admitted → Check Unit) (s : Soc) : Soc :=
  let m := s.dev.almanac
  let refuse := fun (r : Refuse) => s.map (fun d => (d.almBack.put pgALM ALM.ST_LAST_REFUSED 1).admRefuse r)
  match s.admVerify dis with
  | .error r => refuse r
  | .ok p =>
    match (if m.cmd = 1 then none else s.dev.admRunning) with
    | some r => refuse r
    | none =>
      let s := s.map (fun d => d.put pgALM ALM.ST_LAST_REFUSED 0)
      if m.cmd = 1 then (s.writeRecord p).map (fun d => d.almBack.irq pgALM ALM.IRQ_DONE)
      else (s.map (fun d => ({ d with almanac := { m with next := some p } }.put pgALM ALM.ST_STATE 3).stopContexts)).admTryFinish

/-- ADMISSION_COMPLETE: a copied set is checked, then recorded (CHECK) or applied (ADMIT); a release or an application
that waited for running jobs completes (R80 to R84). -/
def Soc.admissionComplete (dis : Dev → Admitted → Check Unit) (s : Soc) : Soc :=
  match s.dev.almState with
  | 1 => s.copied.admChecked dis
  | 2 => s.admChecked dis
  | 3 => s.admTryFinish
  | _ => s

end Sys2Proof.Machine
end

