-- ==== Sys2Proof/Machine/Energy.lean ====
section
/-! DEFINITION. The energy ledger (chapter 11): the 100 µs tick with its measurement, resistor models, chopper check and
escalation, the active discharge, and group 6 of an admission. Arithmetic is exact on the units of the registers and
rounded down into them (log entry 21). -/

namespace Sys2Proof.Machine

/-! ### Quantities -/

/-- U of the latest word of the DC-link input in mV, and whether the word is good (R316). -/
def Dev.linkU (d : Dev) : Int :=
  d.getI (pgSDI (d.get pgNRG NRG.LINK_CFG)) SDI.DATA_VALUE * d.get pgNRG NRG.U_FS / 32768

def Dev.linkGood (d : Dev) : Bool :=
  let pg := pgSDI (d.get pgNRG NRG.LINK_CFG)
  d.flag pg SDI.DATA_VALID && !d.flag pg SDI.DATA_BAD

/-- U as the last tick measured it, in mV. -/
def Dev.nrgU (d : Dev) : Int := d.getI pgNRG NRG.U_DC

/-- A signed mailbox word (R254). -/
def Dev.mailI (d : Dev) (id w : Nat) : Int := signed 16 (d.mailbox id w)

def Dev.machValid (d : Dev) (k : Nat) : Bool := d.flagAt pgNRG NRG.MACH_A_VALID k
def Dev.machLoop (d : Dev) (k : Nat) : Nat := d.getAt pgNRG NRG.MACH_A_MB_LOOP k
def Dev.machStage (d : Dev) (k : Nat) : Nat := d.getAt pgNRG NRG.MACH_A_STAGE k
def Dev.machines (d : Dev) : List Nat := (List.range 8).filter d.machValid

/-- The sample of machine k is not valid at this tick (R319). -/
def Dev.machStale (d : Dev) (k : Nat) : Bool :=
  decide (10 ≤ d.nrg.age.getD k 10) || !bitOf (d.mailbox (d.machLoop k) 5) 15

/-- P_k in units of 2^-31 µW (R319); 0 while the mailbox is stale. -/
def Dev.machPower (d : Dev) (k : Nat) : Int :=
  if d.machStale k then 0
  else
    let l := d.machLoop k
    let s := d.machStage k
    3 * (d.mailI l 2 * d.mailI l 0 + d.mailI l 3 * d.mailI l 1) * d.getAt pgFLD FLD.U_BASE s * d.getAt pgFLD FLD.I_BASE s

/-- E_LL,k > u, for u in mV (R319, R324): √3 × 2π × f × PSI against u, both squared. -/
def Dev.machAbove (d : Dev) (k : Nat) (u : Int) : Bool :=
  let f := ((d.mailI (d.machLoop k) 4).natAbs + 1) * 16
  let e := fyTau * f * d.getAt pgNRG NRG.MACH_B k
  let v := u * 1000 * fy
  decide (v < 0) || decide (v * v < 3 * e * e)

/-- ½ C (a² − b²) in pJ, for C in µF and a, b in mV: twice that value. -/
def capEnergy2 (c : Nat) (a2 b2 : Int) : Int := c * (a2 - b2)

/-- The time of R328 in units of 2^-40 ms, from U_0² in mV²; none where the formula has no value. -/
def dischargeTime (c r pmax ulim : Nat) (u02 : Int) : Option Int :=
  if pmax = 0 ∨ ulim = 0 then none
  else
    let u12 : Int := pmax * r * 1000
    let flat := max 0 (capEnergy2 c u02 u12) * fx / (2 * 1000000000 * (pmax : Int))
    let lo := min u02 u12
    some (flat + (r * c : Nat) * fxLn lo.toNat (ulim * ulim * 1000000) / 2000000)

/-! ### Writing the limit and the requests -/

/-- REGEN_LIM goes to word 247 of the context of each valid machine's REF_LOOP (R320). -/
def Soc.regenLimit (s : Soc) (v : Nat) : Soc :=
  let s := s.map (fun d => { d with nrg := { d.nrg with regenT := d.time + 1 } }.put pgNRG NRG.REGEN_LIM v)
  s.dev.machines.foldl (fun (s : Soc) k =>
    match s.dev.loopDecl (s.dev.getAt pgNRG NRG.MACH_A_REF_LOOP k) with
    | some l => s.putWord (s.dev.ctxWord l.ctx 247) v
    | none => s) s

/-- The per-machine ENERGY requests (R324): ASC for a stale mailbox or a back-EMF above `u`, else OFF. They take the place
of what the source requested before; machines of one stage merge under R184. -/
def Dev.energyRequests (d : Dev) (u : Int) : Dev :=
  d.machines.foldl (fun (d : Dev) k =>
    -- the first machine of a stage replaces what stood there
    let first := d.machines.find? (fun j => d.machStage j == d.machStage k) == some k
    let d := if first then { d with trip := { d.trip with
      acts := d.trip.acts.filter (fun a => !(a.src == 169 && a.stage == d.machStage k)) } } else d
    let asc := d.machStale k || d.machAbove k u
    let d := d.put pgNRG NRG.ESC_MAP_ASC (setBit (d.get pgNRG NRG.ESC_MAP_ASC) k asc)
    let d := d.put pgNRG NRG.ESC_MAP_OFF (setBit (d.get pgNRG NRG.ESC_MAP_OFF) k !asc)
    d.tripRequest 169 (2 ^ d.machStage k) (if asc then 2 else 1)) d

/-! ### Steps of a tick -/

/-- Step 1, measurement (R316, R317). -/
def Dev.ledgerMeasure (d : Dev) : Dev :=
  let u := d.linkU
  let ok := d.linkGood
  let was := d.flag pgNRG NRG.ST_U_VALID
  let c := d.get pgNRG NRG.CAP
  let d := (d.putB pgNRG NRG.ST_U_VALID ok).putI pgNRG NRG.U_DC u
  let d := d.putI pgNRG NRG.SLOPE ((u - d.nrg.uPrev) * 10)
  let d := { d with nrg := { d.nrg with uPrev := u } }
  let d := if was && !ok then (d.irq pgNRG NRG.IRQ_U_INVALID).errFw pgNRG Err.NRG_U_INVALID else d
  if ok then d.put pgNRG NRG.E_LINK ((c * u * u / 2000000000).toNat) else d

/-- TCLK with GATEn_H on and with the commanded level H in the tick that ends (R318). -/
def Dev.tickDuty (d : Dev) (n : Nat) : Nat × Nat :=
  let h := d.lh n
  let spell := fun (o : Option Nat) => match o with | some s => d.time - s | none => 0
  (h.hSum + spell h.hSince, h.cSum + spell h.cSince)

/-- Both counts of a leg start again. -/
def Dev.clearDuty (d : Dev) (n : Nat) : Dev :=
  d.modLeg n (fun h => { h with
    hSum := 0, cSum := 0, hSince := h.hSince.map (fun _ => d.time), cSince := h.cSince.map (fun _ => d.time) })

/-- One resistor model (R318): E in units of 2^-20 mJ, TCLK on, U in mV, R in mΩ, τ in ms. -/
def resistorStep (e on : Nat) (u : Int) (r tau : Nat) : Nat :=
  let gain := if r = 0 then 0 else on * (u * u).toNat * 2 ^ 20 / (400000000 * r)
  let loss := if tau = 0 then 0 else e / (10 * tau)
  e + gain - loss

/-- The leg that switches the discharge resistor (R326). -/
def Dev.disLeg (d : Dev) : Option Nat := (d.stageLegs (d.get pgNRG NRG.DIS_CFG_STAGE)).head?

def q16 (n : Nat) : Nat := min 0xFFFF (n * 65536 / 40000)

/-- Step 2, resistor models (R318). -/
def Dev.ledgerResistors (d : Dev) : Dev :=
  let u := d.nrgU
  let chop := d.get pgNRG NRG.CHOP_CFG_LEG
  let dis := if d.flag pgNRG NRG.DIS_CFG_DIS_EN then d.disLeg else none
  let (on, cmd) := d.tickDuty chop
  let (on', cmd') := match dis with | some n => d.tickDuty n | none => (0, 0)
  let d := d.clearDuty chop
  let d := match dis with | some n => d.clearDuty n | none => d
  let d := (d.put pgNRG NRG.CHOP_DUTY_ON (q16 on)).put pgNRG NRG.CHOP_DUTY_CMD (q16 cmd)
  let e := resistorStep d.nrg.eBr (min on 40000) u (d.get pgNRG NRG.BR_R) (d.get pgNRG NRG.BR_TAU)
  let d := { d with nrg := { d.nrg with eBr := e } }.put pgNRG NRG.E_BR (min (e / 2 ^ 20) (2 ^ 32 - 1))
  let d := (d.put pgNRG NRG.DIS_DUTY_ON (q16 on')).put pgNRG NRG.DIS_DUTY_CMD (q16 cmd')
  let e' := resistorStep d.nrg.eDis (min on' 40000) u (d.get pgNRG NRG.DIS_R) (d.get pgNRG NRG.DIS_TAU)
  let d := { d with nrg := { d.nrg with eDis := e' } }.put pgNRG NRG.E_DIS (min (e' / 2 ^ 20) (2 ^ 32 - 1))
  let top := d.get pgNRG NRG.BR_EMAX * 1000 * 2 ^ 20
  let hot := d.flag pgNRG NRG.ST_RES_HOT
  if !hot && decide (top ≤ e) then
    ((d.put pgNRG NRG.ST_RES_HOT 1).irq pgNRG NRG.IRQ_RES_HOT).errFw pgNRG Err.NRG_RES_HOT
  else if hot && decide (4 * e < 3 * top) then d.put pgNRG NRG.ST_RES_HOT 0
  else d

/-- EFF (R317): the power that leaves the link over the power at the commanded duty, Q0.16. -/
def Dev.chopEff (d : Dev) (cmd : Nat) (regen : Int) : Dev :=
  if cmd = 0 then d.put pgNRG NRG.EFF 0xFFFF
  else
    let u := d.nrgU
    let r := d.get pgNRG NRG.BR_R
    -- both powers in nW
    let num := regen * 1000 / 2 ^ 31 - d.get pgNRG NRG.CAP * u * d.getI pgNRG NRG.SLOPE
    let den := (cmd : Int) * u * u * 1000000
    if den = 0 then
      let (v, d) := d.free 16
      d.put pgNRG NRG.EFF v
    else d.put pgNRG NRG.EFF (min 0xFFFF (max 0 (num * 65536 * 65536 * r / den)).toNat)

/-- T_PRED (R317, R328): a value the formula does not give is free (log entry 21). -/
def Dev.predictTime (d : Dev) : Dev :=
  if !d.flag pgNRG NRG.ST_U_VALID then d.put pgNRG NRG.T_PRED 0xFFFFFFFF
  else
    let u := d.nrgU
    match dischargeTime (d.get pgNRG NRG.CAP) (d.get pgNRG NRG.DIS_R) (d.get pgNRG NRG.DIS_PMAX)
        (d.get pgNRG NRG.DIS_CFG_U_LIM) (u * u) with
    | some t =>
      if 0 ≤ t ∧ t < 2 ^ 32 * fx then d.put pgNRG NRG.T_PRED (t.toNat / fx)
      else let (v, d) := d.free 32; d.put pgNRG NRG.T_PRED v
    | none => let (v, d) := d.free 32; d.put pgNRG NRG.T_PRED v

/-- Step 3, machine power (R317, R319), with EFF and T_PRED. -/
def Dev.ledgerPower (d : Dev) : Dev :=
  let h := d.nrg
  let seq := (List.range 8).map (fun k => d.mailbox (d.machLoop k) 7)
  let age := (List.range 8).map (fun k =>
    if seq.getD k 0 = h.seq.getD k 0 then min 10 (h.age.getD k 10 + 1) else 0)
  let d := { d with nrg := { h with seq := seq, age := age } }
  let d := d.put pgNRG NRG.ESC_MAP_STALE ((d.machines.filter d.machStale).foldl (fun m k => m + 2 ^ k) 0)
  let p : Int := (d.machines.map (fun k => max 0 (-d.machPower k))).sum
  let d := d.put pgNRG NRG.P_REGEN (min (p / (2 ^ 31 * 1000000)).toNat (2 ^ 32 - 1))
  (d.chopEff (d.get pgNRG NRG.CHOP_DUTY_CMD) p).predictTime

/-- CHOP_FAULT (R322): the count of rising ticks has reached CHOP_T. -/
def Dev.chopFault (d : Dev) : Dev :=
  if d.enabled pgNRG && !d.flag pgNRG NRG.ST_CHOP_FAULT && decide (d.get pgNRG NRG.CHOP_CFG_CHOP_T ≤ d.nrg.rising)
  then ((d.put pgNRG NRG.ST_CHOP_FAULT 1).irq pgNRG NRG.IRQ_CHOP_FAULT).errFw pgNRG Err.NRG_CHOP_FAULT
  else d

/-- Step 4, the chopper check (R322). -/
def Dev.ledgerChopper (d : Dev) : Dev :=
  if !d.flag pgNRG NRG.ST_U_VALID then d
  else
    let up := decide (d.get pgNRG NRG.CHOP_CFG_D_MIN * 256 ≤ d.get pgNRG NRG.CHOP_DUTY_CMD)
      && decide ((d.get pgNRG NRG.CHOP_CFG_SLOPE_TH * 100 : Int) ≤ d.getI pgNRG NRG.SLOPE)
    let d := { d with nrg := { d.nrg with rising := if up then min 1023 (d.nrg.rising + 1) else 0 } }
    if up then d.chopFault else d

/-- Step 5, escalation (R323, R324). -/
def Soc.ledgerEscalate (s : Soc) : Soc :=
  let d := s.dev
  let esc := d.get pgNRG NRG.ST_ESC
  let ok := d.flag pgNRG NRG.ST_U_VALID
  if ok && decide ((d.get pgNRG NRG.OV_CFG_U_OV * 1000 : Int) ≤ d.nrgU) && decide (esc < 2) then
    (s.regenLimit 0).map (fun d =>
      let d := { d with nrg := { d.nrg with escTick := d.nrg.tick + 1 } }
      let d := (d.put pgNRG NRG.ST_ESC 2).energyRequests d.nrgU
      ((d.setLevel 169 true).irq pgNRG NRG.IRQ_OV_TRIP).errFw pgNRG Err.NRG_OVERVOLT |>.capFire 6)
  else if (d.flag pgNRG NRG.ST_CHOP_FAULT || d.flag pgNRG NRG.ST_RES_HOT || !ok) && esc == 0 then
    (s.regenLimit 0).map (fun d => ((d.put pgNRG NRG.ST_ESC 1).irq pgNRG NRG.IRQ_REGEN_ZERO).capFire 6)
  else s

/-! ### Active discharge -/

def Dev.disRunning (d : Dev) : Bool := d.get pgNRG NRG.ST_DIS == 1

/-- The ledger writes a shadow of the discharge leg and remembers it (R326). -/
def Dev.disShadow (d : Dev) (n off : Nat) (f : Fld) (v : Nat) : Dev :=
  let pg := pgLEG n
  let d := (d.put pg f v).noteShadow d .leg n off (pg + off)
  { d with nrg := { d.nrg with
    wrote := d.nrg.wrote.filter (fun e => e.1 != pg + off) ++ [(pg + off, (d.reg (pg + off)).toNat)] } }

/-- The ledger drives the discharge leg with its commit (R327). -/
def Dev.disDrive (d : Dev) (force : Nat) (off : Option Nat) : Dev :=
  match d.disLeg with
  | none => d
  | some n =>
    let d := match off with
      | some v => (d.disShadow n 0x50 LEG.CMP_ON 0).disShadow n 0x54 LEG.CMP_OFF v
      | none => d
    (d.disShadow n 0x5C LEG.CTL_FORCE force).armStage (d.get pgNRG NRG.DIS_CFG_STAGE) 1

/-- Every shadow that the ledger wrote reads as written (R326). -/
def Dev.disClean (d : Dev) : Bool := d.nrg.wrote.all (fun e => (d.reg e.1).toNat == e.2)

/-- A running discharge ends with all switches off. -/
def Dev.disEnd (d : Dev) (state : Nat) : Dev := (d.put pgNRG NRG.ST_DIS state).disDrive 3 none

def Dev.disStop (d : Dev) (code : Nat) : Dev := ((d.disEnd 3).irq pgNRG NRG.IRQ_DIS_STOPPED).errFw pgNRG code

/-- DIS_LATE (R327 row 4): T_DIS has elapsed since the start, once. -/
def Dev.disLate (d : Dev) : Dev :=
  if d.enabled pgNRG && d.disRunning && !d.nrg.disLate
      && decide (d.nrg.disStart + 4000000 * d.get pgNRG NRG.DIS_CFG_T_DIS ≤ d.time)
  then ({ d with nrg := { d.nrg with disLate := true } }.irq pgNRG NRG.IRQ_DIS_LATE).errFw pgNRG Err.NRG_DIS_LATE
  else d

/-- The duty of a tick (R327): DIS_PMAX × R_D ÷ U² as a fractional compare, or forced high at 1. -/
def Dev.disDuty (d : Dev) : Dev :=
  let u : Int := if d.flag pgNRG NRG.ST_U_VALID then d.nrgU else d.get pgNRG NRG.DIS_PRE_U_DC_MAX * 1000
  let n := d.get pgNRG NRG.DIS_PMAX * d.get pgNRG NRG.DIS_R * 1000
  let u2 := (u * u).toNat
  if u2 ≤ n then d.disDrive 2 none else d.disDrive 0 (some (n * 2 ^ 16 / u2 * 2 ^ 16))

/-- A discharge starts, or is refused (R326). The request for the machines uses U_LIM; the decisions of an escalation
that has reached state 2 in the same tick stand (R331). The source stays active in state 2 (R324). -/
def Dev.disStartNow (d : Dev) : Dev :=
  if d.disRunning then d
  else if !d.enabled pgNRG || !d.flag pgNRG NRG.DIS_CFG_DIS_EN || !d.enabled (pgSTG (d.get pgNRG NRG.DIS_CFG_STAGE)) then
    (d.put pgNRG NRG.ST_DIS 3).err pgNRG Err.NRG_DIS_ABORT
  else
    let d := { d with nrg := { d.nrg with disStart := d.time, disLate := false, wrote := [] } }.put pgNRG NRG.ST_DIS 1
    if d.nrg.escTick = d.time / 40000 + 1 then d
    else
      let esc := d.get pgNRG NRG.ST_ESC
      let d := d.energyRequests (d.get pgNRG NRG.DIS_CFG_U_LIM * 1000)
      if esc = 2 then d.setLevel 169 true else d.tripConditionEnd 169

/-- DIS_REQ (R326). -/
def Dev.disReq (d : Dev) : Dev := d.disStartNow

/-- DIS_ABORT (R327 row 1). -/
def Dev.disAbort (d : Dev) : Dev := if d.disRunning then d.disStop Err.NRG_DIS_ABORT else d

/-- The STO condition that starts a discharge with ON_STO = 1 (R326). -/
def Dev.stoCondition (d : Dev) : Bool := d.flag pgGNM GNM.ST_STO || d.flag pgGNM GNM.ST_LOCKOUT

/-- Step 6, discharge (R326, R327). -/
def Dev.ledgerDischarge (d : Dev) : Dev :=
  let now := d.stoCondition
  let go := now && !d.nrg.stoWas && d.flag pgNRG NRG.DIS_CFG_ON_STO
  let d := { d with nrg := { d.nrg with stoWas := now } }
  let d := if go then d.disStartNow else d
  if !d.disRunning then d
  else if (d.stageLegs (d.get pgNRG NRG.DIS_CFG_STAGE)).any d.tripped || !d.disClean then d.disStop Err.NRG_DIS_ABORT
  else if d.get pgNRG NRG.DIS_EMAX * 1000 * 2 ^ 20 ≤ d.nrg.eDis then d.disStop Err.NRG_DIS_ENERGY
  else if d.flag pgNRG NRG.ST_U_VALID && decide (d.nrgU < d.get pgNRG NRG.DIS_CFG_U_LIM * 1000) then
    (d.disEnd 2).irq pgNRG NRG.IRQ_DIS_DONE
  else d.disLate.disDuty

/-! ### Commands -/

/-- LEDGER_TICK (R315): due once per 40,000 TCLK while the ledger is enabled. -/
def Soc.ledgerTick (s : Soc) : Soc :=
  let d := s.dev
  if !d.enabled pgNRG || d.time / 40000 == d.nrg.tick then s
  else
    let s := s.map (fun d =>
      ({ d with nrg := { d.nrg with tick := d.time / 40000 } }.ledgerMeasure.ledgerResistors.ledgerPower).ledgerChopper)
    s.ledgerEscalate.map Dev.ledgerDischarge

/-- ESC_CLR.CLR (R325), by the latest word of the DC-link input (R316): a clear that falls together with an overvoltage is
refused (R331). -/
def Soc.escClr (s : Soc) : Soc :=
  let d := s.dev
  if d.linkGood && decide (d.linkU < d.get pgNRG NRG.OV_CFG_U_REARM * 1000)
      && !d.flag pgNRG NRG.ST_RES_HOT then
    (s.regenLimit 0x7FFF).map (fun d =>
      ((d.put pgNRG NRG.ST_ESC 0).put pgNRG NRG.ST_CHOP_FAULT 0).tripConditionEnd 169)
  else s.map (fun d => d.err pgNRG Err.NRG_ESC_ACTIVE)

/-- The enable conditions fail (R330). -/
def Dev.nrgCfgBad (d : Dev) : Bool :=
  let n := d.get pgNRG NRG.LINK_CFG
  decide (23 < n) || !d.enabled (pgSDI n)
    || d.get pgNRG NRG.CAP == 0 || d.get pgNRG NRG.U_FS == 0 || d.get pgNRG NRG.BR_R == 0 || d.get pgNRG NRG.BR_TAU == 0
    || d.get pgNRG NRG.CHOP_CFG_CHOP_T == 0
    || decide (d.get pgNRG NRG.OV_CFG_U_OV ≤ d.get pgNRG NRG.OV_CFG_U_REARM)
    || !d.bound (d.get pgNRG NRG.CHOP_CFG_LEG)
    || (d.flag pgNRG NRG.DIS_CFG_DIS_EN && (d.get pgNRG NRG.DIS_R == 0 || d.get pgNRG NRG.DIS_TAU == 0))
    || d.machines.any (fun k => !d.flagAt pgFLD FLD.DSTAT_ENABLED (d.machStage k))

/-- Enabling the ledger (R320, R330): the first tick measures its slope from the voltage at the enable, and every
mailbox is stale until it advances (log entry 21). -/
def Soc.nrgEnable (s : Soc) : Soc :=
  let d := s.dev
  if d.nrgCfgBad then s.map (fun d => d.err pgNRG Err.NRG_CFG)
  else
    let s := s.map (fun d =>
      let seq := (List.range 8).map (fun k => d.mailbox (d.machLoop k) 7)
      let d := { d with nrg := { d.nrg with
        tick := d.time / 40000, uPrev := d.linkU, rising := 0, seq := seq, age := List.replicate 8 10,
        stoWas := d.stoCondition } }
      let d := d.clearDuty (d.get pgNRG NRG.CHOP_CFG_LEG)
      let d := match d.disLeg with | some n => d.clearDuty n | none => d
      d.put pgNRG COM.ST_ENABLED 1)
    s.regenLimit 0x7FFF

def Dev.nrgDisable (d : Dev) : Dev := d.put pgNRG COM.ST_ENABLED 0

/-! ### Group 6 -/

/-- R329: the discharge of a set. -/
def disCheck (d : Dev) (a : Admitted) : Check Unit :=
  if !d.flag pgNRG NRG.DIS_CFG_DIS_EN then .ok ()
  else
    let k := d.get pgNRG NRG.DIS_CFG_STAGE
    let c := d.get pgNRG NRG.CAP
    let lim := d.get pgNRG NRG.DIS_CFG_U_LIM
    let u2 : Int := (d.get pgNRG NRG.DIS_PRE_U_DC_MAX * 1000) ^ 2
    let (kind, i, bad) := match (numbered a.stages).find? (fun x => x.2.stage == k) with
      | none => (0, 0, true)
      | some (i, s) => (1, i, s.legs.length != 1 || s.timing != 0 || s.sensing != 0)
    let e2 := capEnergy2 c u2 ((lim * 1000) ^ 2 : Nat)
    let pre := d.get pgNRG NRG.DIS_PRE_E_PRE
    let emax := d.get pgNRG NRG.DIS_EMAX
    let tmax := 10 * d.get pgNRG NRG.DIS_CFG_T_DIS
    let t := dischargeTime c (d.get pgNRG NRG.DIS_R) (d.get pgNRG NRG.DIS_PMAX) lim u2
    let tms := match t with | some t => (t / fx).toNat | none => 0xFFFFFFFF
    checkAll
      [refuseIf (match t with | some t => decide ((tmax : Int) * fx < t) | none => true)
         ⟨Err.NRG_DIS_INFEASIBLE, kind, i, tms, tmax⟩,
       refuseIf (decide (((emax : Int) - pre) * 2000000000000 < e2))
         ⟨Err.NRG_DIS_RATING, kind, i, (e2 / 2000000000000 + pre).toNat, emax⟩,
       refuseIf bad ⟨Err.NRG_DIS_STAGE, kind, i, k, 0⟩]

end Sys2Proof.Machine
end

