-- ==== Sys2Proof/Machine/Gnomon.lean ====
section
/-! DEFINITION. Gnomon (chapter 14): safe torque off, lock-out and the deliberate reset, the safety configuration,
application events, torque monitors and the dual-path safe channel. What Gnomon does at its own ticks is the effect of
the tick commands; a request on SREQ is served at the next sub-tick. -/

namespace Sys2Proof.Machine

def Dev.modGnm (d : Dev) (f : GnmH → GnmH) : Dev := { d with gnm := f d.gnm }

/-- Milliseconds and microseconds in units of `Dev.wall`. -/
def wallMs (n : Nat) : Nat := 400000 * n
def wallUs (n : Nat) : Nat := 400 * n

/-- Gnomon stores a class 0xB code (R403). -/
def Dev.gnErr (d : Dev) (pg code : Nat) : Dev := (d.err pg code).modGnm (fun g => { g with lastCode := code })

/-- A code that answers the safe channel, with the path and the copy's bytes for the journal (R500). -/
def Dev.gnErrPartner (d : Dev) (code path : Nat) (b : List Byte) : Dev :=
  (d.errPartner pgSNET code path 0 b).modGnm (fun g => { g with lastCode := code })

/-- The STATE value of the life cycle in which a debugger reaches Gnomon (R378, R467). -/
def Dev.analysis (d : Dev) : Bool := d.get pgLCS LCS.ST_STATE == 3

/-! ### Output enables -/

def allLegs : Nat := 2 ^ 64 - 1

/-- Every output enable goes inactive at once (R386, R389). -/
def Dev.outputsOff (d : Dev) : Dev := ({ d with legDis := allLegs }.modGnm (fun g => { g with settle := none })).refreshAll d.tap0

def Dev.lockedOut (d : Dev) : Bool := d.flag pgGNM GNM.ST_LOCKOUT

def Dev.resetRefused (d : Dev) (result : Nat) : Dev :=
  ((d.put pgGNM GNM.RESET_STAT_RESULT result).irq pgGNM GNM.IRQ_RESET_REFUSED).gnErr pgGNM Err.GN_RESET_REFUSED

/-- A cause that falls together with a reset edge is present at it: the reset that came first is taken back and refused
(R402). -/
def Dev.resetUndone (d : Dev) : Dev :=
  match d.gnm.undo with
  | none => d
  | some u =>
    if u.t ≠ d.wall ∨ d.lockedOut then d
    else
      let d := ((d.put pgGNM GNM.LOCK_CAUSE u.cause).put pgGNM GNM.LOCK_TIME u.time).put pgGNM GNM.ST_LOCKOUT 1
      let d := if u.done then d
        else d.setReg (pgGNM + 0x10) (BitVec.ofNat 32 (setBit (d.reg (pgGNM + 0x10)).toNat GNM.IRQ_RESET_DONE.lo false))
      (d.modGnm (fun g => { g with evLock := u.evLock ++ g.evLock, lockAt := u.lockAt, undo := none })).resetRefused 3

/-- A cause latches the lock-out (R389). -/
def Dev.gnLockout (d : Dev) (cause : Nat) : Dev :=
  if !d.gnm.running then d
  else
    let d := d.resetUndone
    let set := d.get pgGNM GNM.LOCK_CAUSE_CAUSE
    let d := if d.lockedOut then d
      else
        let d := ((d.put pgGNM GNM.ST_LOCKOUT 1).put pgGNM GNM.LOCK_CAUSE_FIRST cause).put pgGNM GNM.LOCK_TIME d.time32
        (d.modGnm (fun g => { g with lockAt := d.wall })).capFire 4
    let d := d.put pgGNM GNM.LOCK_CAUSE_CAUSE (setBit set cause true)
    let d := if bitOf set cause then d else (d.irq pgGNM GNM.IRQ_LOCKOUT).gnErr pgGNM Err.GN_LOCKOUT
    d.outputsOff

/-- STO as the channels and the safe channel demand it (R386, R399). -/
def Dev.stoUpdate (d : Dev) : Dev :=
  let now := d.flag pgGNM GNM.ST_CH_A || d.flag pgGNM GNM.ST_CH_B || d.flag pgGNM GNM.ST_SN_DEMAND
  let was := d.flag pgGNM GNM.ST_STO
  let d := d.putB pgGNM GNM.ST_STO now
  if now then (if was then d else d.irq pgGNM GNM.IRQ_STO).outputsOff else d

/-- Active configuration, as bytes; none before the first confirmation. -/
def Dev.gnCfg (d : Dev) (o n : Nat) : Nat := match d.gnm.active with | some b => listNat b o n | none => 0

/-- Exactly one filtered channel demands (R388). -/
def Dev.chDiffer (d : Dev) : Bool := d.flag pgGNM GNM.ST_CH_A != d.flag pgGNM GNM.ST_CH_B

/-- STO_CHANNEL_CHANGE (R385): the synchronised level of channel B or A has been low (it demands), or high, for `held`
GCLK. The filtered channel follows once this is STO_FILT, with an uncertainty of one GCLK; there are 32 in a
microsecond. -/
def Dev.stoChannel (chB demand : Bool) (held : Nat) (d : Dev) : Dev :=
  if !d.gnm.running || decide (held + 1 < 32 * d.gnCfg 8 2) then d
  else
    let d := d.modGnm (fun g => if g.chT = d.time + 1 then g else { g with chT := d.time + 1, chWas := d.chDiffer })
    (d.putB pgGNM (if chB then GNM.ST_CH_B else GNM.ST_CH_A) demand).stoUpdate

/-- GDEN_A and GDEN_B are commanded; their pads follow (R380, R386). -/
def Dev.setGden (d : Dev) (on : Bool) : Dev :=
  if d.gnm.gdenCmd = on then d
  else ((d.putB pgGNM GNM.ST_GDEN_A on).putB pgGNM GNM.ST_GDEN_B on).modGnm (fun g => { g with gdenCmd := on })

/-! ### Trip requests of source 172 -/

/-- Stages that source 172 is requested for become IMASK; without any the source is inactive. -/
def Dev.gnReqsChanged (d : Dev) : Dev :=
  let m := d.gnm.reqs.foldl (fun m r => m ||| r.stages) 0
  if m = 0 then d.tripConditionEnd 172 else d.putAt pgTRIP TRIP.TARGET_IMASK 172 m

def Dev.gnTrip (d : Dev) (r : GnReq) (sel : Nat) : Dev :=
  (d.modGnm (fun g => { g with reqs := g.reqs ++ [r], reqT := d.time + 1 })).tripRequest 172 r.stages sel

/-- The condition of an event holds no longer (R393). -/
def Dev.eventGone (d : Dev) (e : GnEvent) : Bool :=
  match e.kind with
  | 1 => !d.flagAt pgCTX CTX.STICKY_S_SAT e.ctx
  | 2 => !d.flagAt pgCTX CTX.CSTAT_FAULT e.ctx
  | 3 => !d.flag (pgCLU e.cluster) CLU.MM_INFO_LATCHED
  | 4 => match pageMap.find? (fun p => p.typeCode == e.type) with
    | some p => !d.dupMismatch p.kind (p.base + 0x1000 * e.inst)
    | none => true
  | _ => true

/-- Requests of events whose condition is cleared end (R393). -/
def Dev.gnReqsCheck (d : Dev) : Dev :=
  let keep := fun (r : GnReq) => match r.event with | some e => !d.eventGone e | none => true
  if d.gnm.reqs.all keep then d
  else (d.modGnm (fun g => { g with reqs := g.reqs.filter keep })).gnReqsChanged

/-- APPLICATION_EVENT (R393): the oldest event signalled to Gnomon. -/
def Dev.applicationEvent (d : Dev) : Dev :=
  match d.gnq with
  | [] => d
  | e :: rest =>
    let d := { d with gnq := rest }
    if !d.gnm.running then d
    else
      let r := if e.kind = 5 then 0 else d.gnCfg 13 1 / 4 ^ (e.kind - 1) % 4
      let d := d.put pgGNM GNM.EVT_LAST
        (e.kind * 2 ^ 28 + r * 2 ^ 26 + e.ctx * 2 ^ 20 + e.cluster * 2 ^ 16 + e.type * 2 ^ 8 + e.inst)
      let d := ((d.incSat pgGNM GNM.EVT_CNT).irq pgGNM GNM.IRQ_EVENT).gnErr pgGNM Err.GN_EVENT
      if e.kind = 5 then
        let d := d.tripRequest 168 e.stages 0
        if d.thm.shut = 0 then d.tripConditionEnd 168 else d
      else match r with
        | 1 => d.gnTrip ⟨some e, 0, e.stages⟩ 0
        | 2 => d.gnTrip ⟨some e, 0, e.stages⟩ 1
        | 3 => (d.modGnm (fun g => { g with evLock := g.evLock ++ [e] })).gnLockout 4
        | _ => d

/-! ### Ticks -/

/-- GDEN follows STO and lock-out; the release starts GDEN_SETTLE (R380, R386, R387). -/
def Dev.gdenTick (d : Dev) : Dev :=
  let d := d.gnReqsCheck
  if d.flag pgGNM GNM.ST_STO || d.lockedOut then d.setGden false
  else if d.gnm.gdenCmd && (d.gnm.settle.isSome || d.legDis == 0) then d
  else (d.setGden true).modGnm (fun g => { g with settle := some (d.wall + wallMs (d.gnCfg 12 1)) })

/-- OUTPUT_ENABLE_RESTORE (R387). -/
def Dev.enablesRestore (d : Dev) : Dev :=
  match d.gnm.settle with
  | some t =>
    if t ≤ d.wall ∧ d.gnm.running ∧ !d.flag pgGNM GNM.ST_STO ∧ !d.lockedOut then
      (({ d with legDis := 0 }.modGnm (fun g => { g with settle := none })).refreshAll d.tap0).irq pgGNM GNM.IRQ_STO_REL
    else d
  | none => d

/-- DISC_FAULT (R388): the count has passed N; without an active configuration T has no value and nothing faults. -/
def Dev.discFault (d : Dev) : Dev :=
  if d.gnm.running && d.gnm.active.isSome && !d.gnm.discFault && decide (d.gnCfg 10 2 * 10 < d.gnm.disc) then
    ((d.modGnm (fun g => { g with discFault := true })).gnErr pgGNM Err.GN_DISC).gnLockout 1
  else d

/-- SAFETY_TICK (R388, R391, R404): the discrepancy count, one sample of SRST_REQ, and the mirror. -/
def Dev.safetyTick (srst : Bool) (d : Dev) : Dev :=
  if !d.gnm.running then d
  else
    let g := d.gnm
    -- a fault that is due in the TCLK in which the channels come to agree is a fault (R402)
    let late := g.chT == d.time + 1 && g.chWas && g.active.isSome && g.disc == d.gnCfg 10 2 * 10
    let d := if d.chDiffer || late then
        (d.modGnm (fun g => { g with disc := g.disc + 1 })).discFault
      else if g.disc = 0 then d
      else
        let d := (d.put pgGNM GNM.DISC_LEN (min g.disc 0xFFFF)).put pgGNM GNM.DISC_RESULT (if g.discFault then 2 else 1)
        (d.irq pgGNM GNM.IRQ_DISC).modGnm (fun g => { g with disc := 0, discFault := false })
    let d := d.modGnm (fun g =>
      if srst then { g with high := g.high + 1, highAt := if g.high = 0 then d.wall else g.highAt }
      else if g.high = 0 then g else { g with high := 0, edge := some (g.high, g.highAt) })
    d.modGnm (fun g => { g with
      mirror := d.regs.filter (fun e => decide (pgGNM ≤ e.1 ∧ e.1 < pgGNM + 0x1000)) })

/-! ### Lock-out and reset -/

/-- A cause is gone (R389). -/
def Dev.causeGone (d : Dev) (c : Nat) : Bool :=
  let since := fun (o : Option Nat) => match o with | some t => decide (t + wallMs 10 ≤ d.wall) | none => false
  match c with
  | 0 => d.gnm.active.isSome
  | 1 => d.flag pgGNM GNM.ST_CH_A == d.flag pgGNM GNM.ST_CH_B
  | 2 => decide (2 ≤ d.gnm.pairs)
  | 3 => (List.range 8).all (fun n => d.gnCfg (78 + 8 * n) 1 != 1 || !d.flagAt pgGNM GNM.TQ_STAT_OUTSIDE n)
  | 4 => d.gnm.evLock.all d.eventGone
  | 5 => !d.gnm.coreBad
  | 6 => !d.flagAt pgCLK CLK.MON_FAIL 2
  | 7 => since d.gnm.supplyOk
  | 8 => !d.gnm.gdenBad
  | 9 => !d.gnm.crcBad
  | 10 => since d.gnm.beatOk
  | 11 => !d.gnm.dbg
  | _ => true

/-- The reset at an edge whose pulse or command began at `t` (R390): refused at the first condition that fails. -/
def Dev.resetAttempt (d : Dev) (t : Nat) : Dev :=
  let set := d.get pgGNM GNM.LOCK_CAUSE_CAUSE
  if !d.lockedOut || decide (t ≤ d.gnm.lockAt) then d.resetRefused 5
  else if d.flag pgGNM GNM.ST_STO then d.resetRefused 2
  else if (List.range 13).any (fun c => bitOf set c && !d.causeGone c) then d.resetRefused 3
  else
    let d := d.modGnm (fun g => { g with undo := some {
      t := d.wall, cause := d.get pgGNM GNM.LOCK_CAUSE, time := d.get pgGNM GNM.LOCK_TIME, evLock := g.evLock
      lockAt := g.lockAt, done := bitOf (d.reg (pgGNM + 0x10)).toNat GNM.IRQ_RESET_DONE.lo } })
    let d := (d.put pgGNM GNM.LOCK_CAUSE_CAUSE 0).put pgGNM GNM.LOCK_CAUSE_FIRST 0xFF
    let d := (d.put pgGNM GNM.ST_LOCKOUT 0).put pgGNM GNM.RESET_STAT_RESULT 1
    (d.irq pgGNM GNM.IRQ_RESET_DONE).modGnm (fun g => { g with evLock := [] })

/-- A reset has taken effect in this TCLK (R402). -/
def Dev.resetNow (d : Dev) : Bool := match d.gnm.undo with | some u => u.t == d.wall && !d.lockedOut | none => false

/-- RESET_EDGE (R390, R391): the first low tick after a pulse of SRST_REQ. -/
def Dev.resetEdge (d : Dev) : Dev :=
  match d.gnm.edge with
  | none => d
  | some (n, t) =>
    let d := d.modGnm (fun g => { g with edge := none })
    if !d.gnm.running then d
    else
      let d := (d.put pgGNM GNM.RESET_STAT_COUNT (min n 0xFFFF)).put pgGNM GNM.RESET_STAT_SRC 0
      if n < 500 ∨ 20000 < n then d.resetRefused 4
      -- together with an accepted pair there is one reset (R402)
      else if d.resetNow then d else d.resetAttempt t

/-- A cause that hardware or firmware reports (R389). `bad` false: its condition is gone. -/
def Dev.coreFault (d : Dev) : Dev := (d.modGnm (fun g => { g with coreBad := true })).gnLockout 5

/-- GDEN_READBACK_FAULT: the pads of GDEN_A and GDEN_B have read `a` and `b` for `held` GCLK (R389, R404). -/
def Dev.gdenReadback (a b : Bool) (held : Nat) (d : Dev) : Dev :=
  if !d.gnm.running then d
  else
    let d := (d.putB pgGNM GNM.ST_GDEN_A a).putB pgGNM GNM.ST_GDEN_B b
    if a == d.gnm.gdenCmd && b == d.gnm.gdenCmd then d.modGnm (fun g => { g with gdenBad := false })
    else if held ≤ 3200 then d
    else (d.modGnm (fun g => { g with gdenBad := true })).gnLockout 8

def Dev.cfgCrcRecheck (bad : Bool) (d : Dev) : Dev :=
  if bad && d.gnm.active.isSome then (d.modGnm (fun g => { g with crcBad := true })).gnLockout 9 else d

/-- HEARTBEAT_LOSS (R389, R430): not counted while the device sleeps, nor in the first 10 ms after. -/
def Dev.heartbeat (lost : Bool) (d : Dev) : Dev :=
  if lost then (if d.pwrMode = 0 ∧ !d.justWoken then (d.modGnm (fun g => { g with beatOk := none })).gnLockout 10 else d)
  else d.modGnm (fun g => { g with beatOk := some (g.beatOk.getD d.wall) })

def Dev.vddGnWindow (inside : Bool) (d : Dev) : Dev :=
  if inside then d.modGnm (fun g => { g with supplyOk := some (g.supplyOk.getD d.wall) })
  else (d.modGnm (fun g => { g with supplyOk := none })).gnLockout 7

def Dev.debugAttach (d : Dev) : Dev :=
  if d.analysis then (d.modGnm (fun g => { g with dbg := true })).gnLockout 11 else d

def Dev.debugDetach (d : Dev) : Dev := d.modGnm (fun g => { g with dbg := false })

/-- The reset state of Gnomon's own state (R384). -/
def GnmH.initial (running : Bool) : GnmH :=
  ⟨running, [], 0, false, 0, none, 0, 0, none, none, none, 0, List.replicate 8 [], [], [], false, false, false, false,
   some 0, some 0, [], [], false, 0, false, 0, 0, 0, 0, 0, [], 0, none, 0, false, 0, false, none⟩

/-- Return the register words of a page to reset. -/
def Dev.pageReset (d : Dev) (pg : Nat) : Dev :=
  { d with regs := d.regs.filter (fun e => !decide (pg ≤ e.1 ∧ e.1 < pg + 0x1000)) }

/-- GNOMON_RESET (R379, R384): Gnomon is reset; it runs once its supply is present. -/
def Dev.gnomonReset (running : Bool) (d : Dev) : Dev :=
  let d := (d.pageReset pgGNM).pageReset pgSNET
  let d := { d with gnm := { GnmH.initial running with
    supplyOk := d.gnm.supplyOk, beatOk := d.gnm.beatOk, dbg := d.gnm.dbg, gdenBad := d.gnm.gdenBad } }
  let d := (List.range 16).foldl (fun (d : Dev) k => d.putAt pgTRIP TRIP.FLOOR k 800) d
  (d.tripConditionEnd 172).outputsOff

/-! ### Safety configuration -/

/-- Format and ranges of a block (R381). -/
def gnBlockOk (b : List Byte) : Bool :=
  let f := listNat b
  let rng := fun (o n lo hi : Nat) => decide (lo ≤ f o n ∧ f o n ≤ hi)
  b.length == 140 && f 0 4 == 0x00010000 && f 4 4 == crc32c (b.drop 8)
    && rng 8 2 0 5000 && rng 10 2 1 1000 && rng 12 1 0 50 && rng 14 1 0 7 && f 15 1 == 0
    && rng 20 4 100 100000 && rng 24 4 1000 1000000 && decide (2 * f 20 4 ≤ f 24 4) && rng 28 4 1000 1000000
    && f 32 4 / 2 ^ 29 % 4 == 0 && f 36 4 / 2 ^ 29 % 4 == 0 && f 42 2 == 0
    && (List.range 16).all (fun k => rng (44 + 2 * k) 2 20 800)
    && (List.range 8).all (fun n => rng (77 + 8 * n) 1 0 15 && rng (78 + 8 * n) 1 0 3 && f (79 + 8 * n) 1 == 0
        && (f (78 + 8 * n) 1 == 0 || rng (82 + 8 * n) 2 1 1000))

/-- The GNM mirror shows a block's values (R382, R404). -/
def Dev.mirrorBlock (d : Dev) (b : List Byte) : Dev :=
  let f := listNat b
  let d := d.put pgGNM GNM.STO_CFG (f 8 2 * 2 ^ 19 + f 10 2 * 2 ^ 9 + f 12 1 * 8)
  let d := d.put pgGNM GNM.REACT (f 13 1)
  (List.range 8).foldl (fun (d : Dev) n =>
    (d.putAt pgGNM GNM.TQ_CFG n
      (f (76 + 8 * n) 1 * 2 ^ 24 + f (77 + 8 * n) 1 * 2 ^ 20 + f (78 + 8 * n) 1 * 2 ^ 18 + f (80 + 8 * n) 2)).putAt
      pgGNM GNM.TQ_STAT_TIME n (f (82 + 8 * n) 2)) d

/-- A loaded block is dropped: the mirror and STATE return to the active configuration (R383). -/
def Dev.dropLoaded (d : Dev) : Dev :=
  let d := d.modGnm (fun g => { g with loaded := none })
  let d := match d.gnm.active with
    | some b => ((d.mirrorBlock b).put pgGNM GNM.CFG_CRC (crc32c b)).put pgGNM GNM.CFG_STAT_STATE 2
    | none => ((d.mirrorBlock []).put pgGNM GNM.CFG_CRC 0).put pgGNM GNM.CFG_STAT_STATE 0
  d.irq pgGNM GNM.IRQ_CFG

/-- A request ends with a code, 0 when accepted (R403, R405). -/
def Dev.sreqDone (d : Dev) (cmd code : Nat) : Dev :=
  let d := if code = 0 then d else d.gnErr pgGNM code
  let d := if code ≠ 0 ∧ (cmd = 1 ∨ cmd = 2) then d.put pgGNM GNM.CFG_STAT_CODE code else d
  (((d.put pgSNET SNET.SREQ_STAT_BUSY 0).put pgSNET SNET.SREQ_STAT_CMD cmd).put pgSNET SNET.SREQ_STAT_CODE code).irq pgSNET
    SNET.IRQ_REQ_DONE

/-- A request is in progress until Gnomon's next sub-tick; a further one is ignored (R394, R402). -/
def Dev.sreq (cmd ctx : Nat) (d : Dev) : Dev :=
  if d.flag pgSNET SNET.SREQ_STAT_BUSY then d.gnErr pgGNM Err.GN_REQ
  else ((d.put pgSNET SNET.SREQ_STAT_BUSY 1).put pgSNET SNET.SREQ_STAT_CMD cmd).modGnm (fun g => { g with req := some (cmd, ctx, d.get pgSNET SNET.SREQ_ARG) })

/-- CFG_LOAD of the block at `a` (R382); one that falls together with a reset is judged before it (R402). -/
def Dev.cfgLoad (mem : List Host.Cell) (a : Nat) (d : Dev) : Dev :=
  let b := memGetList mem a 140
  let sram := decide (0x10000000 ≤ a ∧ a + 140 ≤ 0x10800000)
  if !d.lockedOut && !d.resetNow then d.sreqDone 1 Err.GN_CFG_LIVE
  else if d.gnm.loaded.isSome then d.sreqDone 1 Err.GN_CFG_BUSY
  else if !sram || !gnBlockOk b then d.sreqDone 1 Err.GN_CFG_FORMAT
  else if d.deployed && !d.inImage a 140 then d.sreqDone 1 Err.GN_CFG_SIGN
  else
    let d := d.modGnm (fun g => { g with loaded := some b, loadT := d.wall })
    let d := ((d.mirrorBlock b).put pgGNM GNM.CFG_CRC (crc32c b)).put pgGNM GNM.CFG_STAT_STATE 1
    (d.irq pgGNM GNM.IRQ_CFG).sreqDone 1 0

/-- Safe-channel registers and state at activation (R398, R405). -/
def Dev.snConfigure (d : Dev) (b : List Byte) : Dev :=
  let f := listNat b
  let d := ((d.put pgSNET SNET.SN_CFG (f 14 1)).put pgSNET SNET.W_P (f 20 4)).put pgSNET SNET.WD (f 24 4)
  let d := (d.put pgSNET SNET.SN_ID (f 16 2 * 65536 + f 18 2)).putB pgSNET SNET.ST_SN_EN (bitOf (f 14 1) 0)
  let d := (d.putB pgSNET SNET.ST_BASE_WAIT (bitOf (f 14 1) 0)).put pgSNET SNET.ST_SN_DEMAND 0
  let d := d.modGnm (fun g => { g with
    qA := [], qB := [], hasLast := false, lastReset := false, wd := d.wall, txT := d.wall })
  (d.put pgGNM GNM.ST_SN_DEMAND 0).stoUpdate

/-- CFG_CONFIRM with a CRC (R383, R402). -/
def Dev.cfgConfirm (crc : Nat) (d : Dev) : Dev :=
  match d.gnm.loaded with
  | none => d.sreqDone 2 Err.GN_CFG_BUSY
  | some b =>
    if d.gnm.loadT + wallMs 10000 ≤ d.wall then d.dropLoaded.sreqDone 2 Err.GN_CFG_TIMEOUT
    else if crc ≠ d.get pgGNM GNM.CFG_CRC then d.dropLoaded.sreqDone 2 Err.GN_CFG_CONFIRM
    else
      let d := d.modGnm (fun g => { g with active := some b, loaded := none, tqSeq := List.replicate 8 [] })
      let d := (d.put pgGNM GNM.CFG_STAT_STATE 2).put pgGNM GNM.ST_CONFIG_ACTIVE 1
      let d := (List.range 16).foldl (fun (d : Dev) k => d.putAt pgTRIP TRIP.FLOOR k (listNat b (44 + 2 * k) 2)) d
      let d := (List.range 8).foldl (fun (d : Dev) n =>
        ((d.putAt pgGNM GNM.TQ_STAT_RUN n 0).putAt pgGNM GNM.TQ_STAT_OUTSIDE n 0).putAt pgGNM GNM.TQ_STAT_REACTED n 0) d
      ((d.snConfigure b).irq pgGNM GNM.IRQ_CFG).sreqDone 2 0

/-- CFG_TIMEOUT (R383). -/
def Dev.cfgTimeout (d : Dev) : Dev :=
  if d.gnm.loaded.isSome && decide (d.gnm.loadT + wallMs 10000 ≤ d.wall) then
    d.dropLoaded.gnErr pgGNM Err.GN_CFG_TIMEOUT |>.put pgGNM GNM.CFG_STAT_CODE Err.GN_CFG_TIMEOUT
  else d

/-- LOCK (R389 bit 12). -/
def Dev.gnLock (d : Dev) : Dev := (d.gnLockout 12).sreqDone 3 0

/-- CLR_SSAT (R285, R394). -/
def Dev.clrSsat (x : Nat) (d : Dev) : Dev :=
  if !d.classS x then d.sreqDone 4 Err.GN_REQ
  -- a saturation of this TCLK keeps S_SAT set (R285)
  else if mapGet (fun _ => 0) d.ctx.satT x = d.time + 1 then d.sreqDone 4 0
  else
    let d := { d with ctx := { d.ctx with clr := some (x, d.time, d.getAt pgCTX CTX.STICKY_SAT_CNT x) } }
    (((d.putAt pgCTX CTX.STICKY_S_SAT x 0).putAt pgCTX CTX.STICKY_SAT_CNT x 0).gnReqsCheck).sreqDone 4 0

/-- CLR_GTRIP (R394): the flag clears when no request is active, and the latched trips release under R188. -/
def Dev.clrGtrip (d : Dev) : Dev :=
  if d.getAt pgTRIP TRIP.TARGET_IMASK 172 ≠ 0 then d.sreqDone 5 Err.GN_REQ_ACTIVE
  else
    let d := d.putAt pgTRIP TRIP.FLAG 5 (setBit (d.getAt pgTRIP TRIP.FLAG 5) 12 false)
    let acts := d.trip.acts.map (fun (a : ActTrip) => if a.src = 172 ∧ a.latch then { a with rel := some d.time } else a)
    { d with trip := { d.trip with acts := acts } }.sreqDone 5 0

/-- The request in progress is served (R382, R383, R394, R405); CMD 0 asks for nothing. -/
def Dev.sreqServe (mem : List Host.Cell) (d : Dev) : Dev :=
  match d.gnm.req with
  | none => d
  | some (cmd, ctx, arg) =>
    let d := d.modGnm (fun g => { g with req := none })
    match cmd with
    | 0 => d.sreqDone 0 0
    | 1 => d.cfgLoad mem arg
    | 2 => d.cfgConfirm arg
    | 3 => d.gnLock
    | 4 => d.clrSsat ctx
    | 5 => d.clrGtrip
    | _ => d.sreqDone cmd Err.GN_REQ

/-- SUB_TICK (R380, R394). -/
def Soc.subTick (s : Soc) : Soc := s.map (fun d => if !d.gnm.running then d else (d.sreqServe s.mem).gdenTick)

/-! ### Torque monitors -/

/-- The sample of a monitor is outside (R395). -/
def Dev.tqOutside (d : Dev) (n : Nat) : Bool :=
  let id := d.gnCfg (76 + 8 * n) 1
  let okLoop := match d.loopDecl id with
    | some l => l.cls == 1 && d.flagAt pgCTX CTX.CCTL_RUN l.ctx
    | none => false
  let h := d.gnm.tqSeq.getD n []
  decide (d.gnCfg (80 + 8 * n) 2 < (signed 16 (d.mailbox id 2)).natAbs)
    || !bitOf (d.mailbox id 3) 15
    || (h.length == 10 && h.head? == some (d.mailbox id 7))
    || !okLoop

/-- TORQUE_REACT (R395). -/
def Dev.torqueReact (n : Fin 8) (d : Dev) : Dev :=
  let react := d.gnCfg (78 + 8 * n) 1
  if !d.gnm.running || react == 0 || d.flagAt pgGNM GNM.TQ_STAT_REACTED n
      || decide (d.getAt pgGNM GNM.TQ_STAT_RUN n < 10 * d.gnCfg (82 + 8 * n) 2) then d
  else
    let d := d.putAt pgGNM GNM.TQ_STAT_REACTED n 1
    let d := (d.irq pgGNM GNM.IRQ_TORQUE).gnErr pgGNM Err.GN_TORQUE
    let st := 2 ^ (d.gnCfg (77 + 8 * n) 1 % 16)
    match react with
    | 1 => d.gnLockout 3
    | 2 => d.gnTrip ⟨none, n, st⟩ 2
    | _ => d.gnTrip ⟨none, n, st⟩ 1

/-- TORQUE_SAMPLE (R395). -/
def Dev.torqueSample (n : Fin 8) (d : Dev) : Dev :=
  if !d.gnm.running || d.gnCfg (78 + 8 * n) 1 == 0 then d
  else
    let out := d.tqOutside n
    let id := d.gnCfg (76 + 8 * n) 1
    let h := d.gnm.tqSeq.getD n []
    let h := (if h.length = 10 then h.drop 1 else h) ++ [d.mailbox id 7]
    let d := d.modGnm (fun g => { g with tqSeq := g.tqSeq.set n h })
    let d := d.putAt pgGNM GNM.TQ_STAT_OUTSIDE n (b2n out)
    if out then (d.incSatAt pgGNM GNM.TQ_STAT_RUN n).torqueReact n
    else
      let d := (d.putAt pgGNM GNM.TQ_STAT_RUN n 0).putAt pgGNM GNM.TQ_STAT_REACTED n 0
      if d.gnm.reqs.any (fun r => r.event.isNone && r.tq == n.val) then
        (d.modGnm (fun g => { g with reqs := g.reqs.filter (fun r => !(r.event.isNone && r.tq == n.val)) })).gnReqsChanged
      else d

/-! ### The safe channel -/

def Dev.snOn (d : Dev) : Bool := d.gnm.running && d.flag pgSNET SNET.ST_SN_EN

/-- A safe-channel fault (R398). -/
def Dev.snFault (d : Dev) (kind path seq : Nat) : Dev :=
  let code := Err.SN_MISMATCH + kind - 1
  let d := d.put pgSNET SNET.FAULT (kind * 2 ^ 29 + path % 2 * 2 ^ 28 + seq % 2 ^ 16)
  let d := (d.irq pgSNET SNET.IRQ_FAULT).gnErrPartner code (path % 2) []
  let d := (d.put pgSNET SNET.ST_BASE_WAIT 1).modGnm (fun g => { g with qA := [], qB := [], pairs := 0, wd := d.wall })
  d.gnLockout 2

def SafeCopy.seq (c : SafeCopy) : Nat := listNat c.bytes 4 4

/-- SAFE_COPY_RECEIVED (R397, R398). -/
def Dev.safeCopy (pathB : Bool) (b : List Byte) (d : Dev) : Dev :=
  if !d.snOn then d
  else
    let crcBad := b.length != 36 || listNat b 32 4 != crc32c (b.take 32)
    let seq := listNat b 4 4
    let behind := d.gnm.hasLast && (let x := (seq + 2 ^ 32 - d.get pgSNET SNET.LAST_SEQ) % 2 ^ 32; x == 0 || decide (2 ^ 31 ≤ x))
    let bad := listNat b 2 1 != 1 || listNat b 0 2 != d.get pgSNET SNET.SN_ID_CONN_RX || listNat b 3 1 != 0
      || decide (4 ≤ listNat b 16 1) || behind
    if crcBad || bad then
      let f := if pathB then (if crcBad then SNET.CNT_B_CRC_CNT else SNET.CNT_B_DISC_CNT)
        else (if crcBad then SNET.CNT_A_CRC_CNT else SNET.CNT_A_DISC_CNT)
      ((d.incSat pgSNET f).irq pgSNET SNET.IRQ_DISCARD).gnErrPartner Err.SN_DISCARD (b2n pathB) b
    else
      let q := if pathB then d.gnm.qB else d.gnm.qA
      if 4 ≤ q.length then
        -- a fifth copy: row 3
        d.snFault 2 (b2n pathB) ((q.head?.map SafeCopy.seq).getD seq)
      else d.modGnm (fun g => if pathB then { g with qB := g.qB ++ [⟨b, d.wall⟩] } else { g with qA := g.qA ++ [⟨b, d.wall⟩] })

/-- An accepted pair acts (R392, R399). -/
def Dev.pairAccept (d : Dev) (c : SafeCopy) (t : Nat) : Dev :=
  let b := c.bytes
  let ts := listNat b 8 8
  if !d.flag pgSNET SNET.ST_BASE_WAIT &&
      (c.seq != (d.get pgSNET SNET.LAST_SEQ + 1) % 2 ^ 32 || decide (ts ≤ d.gnm.lastTs)) then
    d.snFault 3 0 c.seq
  else
    let d := (List.range 4).foldl (fun (d : Dev) i => d.putAt pgSNET SNET.RX_DATA i (listNat b (16 + 4 * i) 4)) d
    let d := (d.put pgSNET SNET.LAST_SEQ c.seq).put pgSNET SNET.LAST_TIME d.time32
    let d := ((d.incWrap pgSNET SNET.CNT_PAIR).put pgSNET SNET.ST_BASE_WAIT 0).irq pgSNET SNET.IRQ_PAIR
    let was := !d.gnm.hasLast || d.gnm.lastReset
    let rst := bitOf (listNat b 16 1) 1
    let d := d.modGnm (fun g => { g with
      hasLast := true, lastTs := ts, lastReset := rst, pairs := g.pairs + 1, wd := d.wall })
    let sto := bitOf (listNat b 16 1) 0
    let d := ((d.putB pgSNET SNET.ST_SN_DEMAND sto).putB pgGNM GNM.ST_SN_DEMAND sto).stoUpdate
    if rst && !was && d.lockedOut then (d.put pgGNM GNM.RESET_STAT_SRC 1).resetAttempt t else d

/-- Row 3 of R398: an unpaired copy is older than W_P. -/
def Dev.snMissing (d : Dev) : Dev :=
  let old := fun (c : SafeCopy) => decide (c.t + wallUs (d.get pgSNET SNET.W_P) < d.wall)
  if !d.snOn then d
  else match d.gnm.qA.find? old, d.gnm.qB.find? old with
    | some a, some b => if a.t ≤ b.t then d.snFault 2 0 a.seq else d.snFault 2 1 b.seq
    | some a, none => d.snFault 2 0 a.seq
    | none, some b => d.snFault 2 1 b.seq
    | none, none => d

/-- Row 5 of R398. -/
def Dev.snWatchdog (d : Dev) : Dev :=
  if d.snOn && decide (d.gnm.wd + wallUs (d.get pgSNET SNET.WD) ≤ d.wall) then d.snFault 4 0 (d.get pgSNET SNET.LAST_SEQ)
  else d

/-- Pair the oldest copies of both paths while there are any (R398 rows 1, 2 and 4). -/
def Dev.pairLoop : Nat → Dev → Dev
  | 0, d => d
  | f + 1, d =>
    match d.gnm.qA, d.gnm.qB with
    | a :: ta, b :: tb =>
      if a.bytes = b.bytes then
        Dev.pairLoop f ((d.modGnm (fun g => { g with qA := ta, qB := tb })).pairAccept a (min a.t b.t))
      else if a.t ≤ b.t then d.snFault 1 0 a.seq else d.snFault 1 1 b.seq
    | _, _ => d

/-- PAIRING_EVALUATION (R398): the first row that applies to what waits. -/
def Dev.pairing (d : Dev) : Dev :=
  if !d.snOn then d
  else if d.gnm.qA.isEmpty || d.gnm.qB.isEmpty then (d.snMissing).snWatchdog
  else d.pairLoop 4

/-- FLAGS of a status PDU (R396). -/
def Dev.snFlags (d : Dev) : Nat :=
  b2n (d.flag pgGNM GNM.ST_STO) + 2 * b2n d.lockedOut + 4 * b2n (d.flag pgGNM GNM.ST_CONFIG_ACTIVE)
    + 8 * b2n (d.flag pgGNM GNM.ST_CH_A) + 16 * b2n (d.flag pgGNM GNM.ST_CH_B)

/-- STATUS_PDU_TX (R396, R400): due after TX_PERIOD or on a change of FLAGS. -/
def Dev.statusPdu (d : Dev) : Dev :=
  if !d.snOn || (decide (d.wall < d.gnm.txT + wallUs (d.gnCfg 28 4)) && d.snFlags == d.gnm.txFlags) then d
  else
    let seq := (d.gnm.txSeq + 1) % 2 ^ 32
    let first := if d.lockedOut then d.get pgGNM GNM.LOCK_CAUSE_FIRST else 0xFF
    let body := natBytes 2 (d.gnCfg 18 2) ++ natBytes 1 2 ++ natBytes 1 0 ++ natBytes 4 seq
      ++ natBytes 8 (d.time * 5 / 2) ++ natBytes 1 d.snFlags ++ natBytes 1 first ++ natBytes 2 d.gnm.lastCode
      ++ (List.range 3).flatMap (fun i => natBytes 4 (d.getAt pgSNET SNET.TX_DATA i))
    d.modGnm (fun g => { g with
      txSeq := seq, txT := d.wall, txFlags := d.snFlags, pdu := body ++ natBytes 4 (crc32c body) })

/-- SNET_CNT_CLR (R405). -/
def Dev.snetCntClr (d : Dev) : Dev := ((d.put pgSNET SNET.CNT_A 0).put pgSNET SNET.CNT_B 0).put pgSNET SNET.CNT_PAIR 0

end Sys2Proof.Machine
end

