-- ==== Sys2Proof/Machine/Thermal.lean ====
section
/-! DEFINITION. The thermal service (chapter 12): the housekeeping round, the die and module models, thresholds,
throttles and shutdown. Temperatures are in units of 2^-32 K inside; a register holds 1/16 °C, rounded down (log
entry 23). -/

namespace Sys2Proof.Machine

def Dev.modThm (d : Dev) (f : ThmH → ThmH) : Dev := { d with thm := f d.thm }

def Dev.modValid (d : Dev) (k : Nat) : Bool := d.flagAt pgTHM THM.MCFG_VALID k
def Dev.modules (d : Dev) : List Nat := (List.range 16).filter d.modValid

/-- One sixteenth of a kelvin in the models' unit. -/
def sixteenth : Int := 2 ^ 28

/-! ### The round -/

/-- Channels of group b in a round, in order (R334): 16 the diode, 17 and 18 the supply monitors b and b + 4, 19 the
reference check, 32 + k the NTC of module k. -/
def Dev.roundChannels (d : Dev) (b : Nat) : List Nat :=
  [16, 17, 18, 19] ++ ((d.modules.filter (fun k => d.getAt pgTHM THM.MCFG_NTC_PIN k / 16 == b)).map (fun k => 32 + k))

/-- Number of the round period in which the time counter stands. -/
def Dev.roundNumber (d : Dev) : Nat := d.time / (max 1 (d.get pgTHM THM.HK_CFG) * 400000)

/-- HK_ROUND_START (R334, R335). -/
def Dev.hkRoundStart (d : Dev) : Dev :=
  if !d.enabled pgTHM || !d.fwRuns || d.roundNumber == d.thm.round then d
  else
    let d := d.modThm (fun t => { t with round := d.roundNumber })
    match d.thm.missing with
    | some _ =>
      let d := (d.put pgTHM THM.ST_HK_LATE 1).incSat pgTHM THM.SKIP_CNT
      (d.irq pgTHM THM.IRQ_HK_LATE).errFw pgTHM Err.THM_HK_LATE
    | none =>
      let d := d.put pgTHM THM.ST_HK_LATE 0
      let n := ((List.range 4).map (fun b => (d.roundChannels b).length)).sum
      let d := d.modThm (fun t => { t with res := [], missing := some n, startT := d.time })
      (List.range 4).foldl (fun (d : Dev) b =>
        let ch := d.roundChannels b
        d.modAdc b (fun a => { a with hkq := a.hkq ++ ch })) d

/-- A housekeeping conversion of group b, started at `start`, has its result (R335). An input outside the range is kept as
such (R336). -/
def Dev.hkResult (d : Dev) (b ch start : Nat) (x : Analog) : Dev :=
  match d.thm.missing with
  | some (n + 1) =>
    if start < d.thm.startT then d
    else
    let v := match x with | .code c => c.toNat | _ => 0x10000
    d.modThm (fun t => { t with res := t.res ++ [(64 * b + ch, v)], missing := some n })
  | _ => d

def Dev.hkValue (d : Dev) (b ch : Nat) : Option Nat := (d.thm.res.find? (fun r => r.1 == 64 * b + ch)).map (fun r => r.2)

/-- Temperature of an NTC in 1/16 °C from its code (R336), rounded to nearest; none where the formula has no value. -/
def ntcTemp (rpu r25 beta c : Nat) : Option Int :=
  let ln := fxLn (rpu * c) ((16384 - c) * r25 * 10)
  let den : Int := 100 * (beta : Int) * fx + 29815 * ln
  if den ≤ 0 then none
  else some (roundDiv (16 * 29815 * 100 * (beta : Int) * fx - 16 * 27315 * den) (100 * den))

/-- Publish the NTC of a module (R336). -/
def Dev.publishNtc (d : Dev) (k : Nat) : Dev :=
  match d.hkValue (d.getAt pgTHM THM.MCFG_NTC_PIN k / 16) (32 + k) with
  | none => d
  | some c =>
    if c < 0x40 ∨ 0x3FC0 < c then
      ((d.putAt pgTHM THM.T_NTC_NTC_FAULT k 1).irq pgTHM THM.IRQ_NTC).errFw pgTHM Err.THM_NTC
    else
      let d := d.putAt pgTHM THM.T_NTC_NTC_FAULT k 0
      match ntcTemp (d.getAt pgTHM THM.NTC_B k) (d.getAt pgTHM THM.NTC_A_R25 k) (d.getAt pgTHM THM.NTC_A_B k) c with
      | some t => d.putIAt pgTHM THM.T_NTC_T k t
      | none => let (v, d) := d.free 16; d.putAt pgTHM THM.T_NTC_T k v

/-- Nominal VDD of a point in mV (R424). -/
def opVdd (op : Nat) : Nat := match op with | 0 => 880 | 1 => 800 | _ => 720

/-- The window of a supply monitor in mV (R540, R541); none for the bias, which has no window. -/
def Dev.supplyWindow (d : Dev) (m : Nat) : Option (Nat × Nat) :=
  match m with
  | 0 =>
    let a := d.get pgPWR PWR.ST_OP_ACT
    let g := if d.flag pgPWR PWR.ST_SEQ_BUSY then d.pwr.goal else a
    some (opVdd (max a g) - 15, opVdd (min a g) + 30)
  | 1 => some (825, 875)
  | 2 => some (1140, 1260)
  | 3 | 4 => some (3135, 3465)
  | 5 => some (1710, 1890)
  | 6 => some (1060, 1170)
  | _ => none

def Dev.publishSupply (d : Dev) (m : Nat) : Dev :=
  match d.hkValue (m % 4) (17 + m / 4) with
  | none => d
  | some c =>
    let v := Config.supplyMv m c % 2 ^ 32
    let d := d.putAt pgTHM THM.SUP m v
    match d.supplyWindow m with
    | some (lo, hi) => if v < lo ∨ hi < v then (d.irq pgTHM THM.IRQ_SUPPLY).errFw pgTHM Err.THM_SUPPLY else d
    | none => d

/-! ### Levels -/

/-- Hysteresis of R340: the highest threshold that is entered. -/
def levelOf (old : Nat) (t hyst : Int) (thr : List Int) : Nat :=
  let on := fun (l : Nat) => let x := thr.getD (l - 1) 0; decide (x ≤ t) || (decide (l ≤ old) && decide (x - hyst ≤ t))
  if on 3 then 3 else if on 2 then 2 else if on 1 then 1 else 0

/-- Entering levels raises their events (R340). -/
def Dev.levelEvents (d : Dev) (old new : Nat) : Dev :=
  (List.range 3).foldl (fun (d : Dev) i =>
    if old < i + 1 ∧ i + 1 ≤ new then
      (d.irqBits pgTHM (2 ^ (i + 1))).errFw pgTHM (Err.THM_WARN + i)
    else d) d

/-- A model enters or leaves LEVEL 3 (R344): bit 0 of `shut` is the die. Gnomon raises the source for a request; it ends
when no model requests it. -/
def Dev.shutdownChange (d : Dev) (bit : Nat) (old new stages : Nat) : Dev :=
  if old < 3 ∧ new = 3 then
    let d := d.modThm (fun t => { t with shut := setBit t.shut bit true })
    { d with gnq := d.gnq ++ [⟨5, 0, 0, typeCode .thm, 0, stages⟩] }
  else if old = 3 ∧ new < 3 then
    let d := d.modThm (fun t => { t with shut := setBit t.shut bit false })
    if d.thm.shut = 0 then d.tripConditionEnd 168 else d
  else d

/-- The slowest point that throttling may request (R342). -/
def Dev.throttleFloor (d : Dev) : Nat := if d.adm.isSome then d.get pgALM ALM.FLOOR_FLOOR_OP else 2

/-- One throttle request (R342): the next slower point, unless the floor forbids it; within 1 ms of an earlier change it
waits for the first round after the spacing (R346). -/
def Dev.throttle (d : Dev) : Dev :=
  let t := d.get pgPWR PWR.OP_STAT_TARGET
  if d.throttleFloor ≤ t then (d.put pgTHM THM.ST_FLOOR_HELD 1).irqIf (!d.flag pgTHM THM.ST_FLOOR_HELD) pgTHM THM.IRQ_FLOOR_HELD
  else if !d.opSpaced then d
  else ((d.put pgTHM THM.ST_FLOOR_HELD 0).put pgPWR PWR.OP_STAT_THM (t + 1)).opTarget

/-- A step back towards RUN_OP (R342). -/
def Dev.unthrottle (d : Dev) : Dev :=
  let d := d.put pgTHM THM.ST_FLOOR_HELD 0
  let t := d.get pgPWR PWR.OP_STAT_THM
  let run := if d.adm.isSome then d.get pgALM ALM.FLOOR_RUN_OP else 0
  if run < t && d.opSpaced then (d.put pgPWR PWR.OP_STAT_THM (t - 1)).opTarget else d

def thrByte (w i : Nat) : Int := ((w / 2 ^ (24 - 8 * i) % 256 : Nat) : Int) * 2 ^ 32

/-- Thresholds and hysteresis of a threshold word, in the models' unit. -/
def thrList (w : Nat) : List Int := [thrByte w 0, thrByte w 1, thrByte w 2]

/-- Node temperatures and T_DIE (R338): before the first round, the highest diode value that BS1 reports. -/
def Dev.dieMax (d : Dev) : Int :=
  let t := (List.range 4).map (fun j => d.thm.base.getD j 0 + d.thm.die.getD j 0)
  if d.flag pgTHM THM.ST_ROUND_VALID then t.foldl max (t.headD 0) else d.thm.bootDie * sixteenth

/-- The die's level at an update (R340, R342, R344). -/
def Dev.dieLevel (d : Dev) : Dev :=
  let t := d.dieMax
  let d := d.putI pgTHM THM.T_DIE (t / sixteenth)
  let d := (List.range 4).foldl (fun (d : Dev) j =>
    d.putIAt pgTHM THM.DIE_T j ((d.thm.base.getD j 0 + d.thm.die.getD j 0) / sixteenth)) d
  if !d.thm.live then d
  else
    let w := d.get pgTHM THM.DIE_THR
    let old := d.get pgTHM THM.ST_DIE_LEVEL
    let new := levelOf old t (thrByte w 3) (thrList w)
    let d := ((d.put pgTHM THM.ST_DIE_LEVEL new).levelEvents old new).shutdownChange 0 old new 0xFFFF
    if old < 2 ∧ 2 ≤ new then d.throttle else d

/-- T_J of module k (R339). -/
def Dev.junction (d : Dev) (k : Nat) : Int :=
  d.getIAt pgTHM THM.T_NTC_T k * sixteenth + ((List.range 4).map (fun i => d.thm.foster.getD (4 * k + i) 0)).sum

def Dev.moduleLevel (d : Dev) (k : Nat) : Dev :=
  let t := d.junction k
  let d := d.putIAt pgTHM THM.T_J k (t / sixteenth)
  if !d.thm.live then d
  else
    let w := d.getAt pgTHM THM.MTHR k
    let old := d.getAt pgTHM THM.T_NTC_LEVEL k
    let new := levelOf old t (thrByte w 3) (thrList w)
    ((d.putAt pgTHM THM.T_NTC_LEVEL k new).levelEvents old new).shutdownChange (1 + k) old new
      (2 ^ d.getAt pgTHM THM.MCFG_STAGE k)

/-! ### The models -/

/-- a = 1 − e^(−100 µs ÷ τ) in fixed point, τ in 0.1 ms (R337); 1 where τ is 0. -/
def decay (tau : Nat) : Int := if tau = 0 then fx else (fx : Int) - fxExpNeg (fx / tau)

/-- One node: T + (R × P − T) × a. -/
def nodeStep (t rp : Int) (tau : Nat) : Int := t + (rp - t) * decay tau / fx

/-- P_k in units of 2^-32 W (R339). -/
def Dev.moduleLoss (d : Dev) (k : Nat) : Int :=
  let s := d.getAt pgTHM THM.MCFG_STAGE k
  let ifs := d.getAt pgTHM THM.I_FS k
  let v0 := d.getAt pgTHM THM.LOSS_A_V0 k
  let r0 := d.getAt pgTHM THM.LOSS_A_R0 k
  let esw := d.getAt pgTHM THM.LOSS_B k
  let iref := d.getAt pgTHM THM.SCALE_I_REF k
  let uref := d.getAt pgTHM THM.SCALE_U_REF k
  -- U in mV
  let u := if d.flag pgNRG NRG.ST_U_VALID then (max 0 d.nrgU).toNat else uref * 1000
  (((numbered (d.stageUnits s)).map (fun x =>
    let i := if x.1 < 6 then (d.getIAt (pgSTG s) STG.CM_I x.1).natAbs * ifs else 0
    let n := (d.lh x.2).nOn
    v0 * i * 2 ^ 17 / 1000 + r0 * i * i * 4 / 100000 + n * esw * i * u * 2 ^ 17 / (100000 * iref * uref))).sum : Nat)

/-- THM_MODEL_UPDATE (R337 to R340): due once per 40,000 TCLK; `pdie` is the die power in mW that the supply-current
sensors show. -/
def Dev.modelUpdate (pdie : Word) (d : Dev) : Dev :=
  if !d.enabled pgTHM || !d.fwRuns || d.time / 40000 == d.thm.upd then d
  else
    let d := d.modThm (fun t => { t with upd := d.time / 40000 })
    let p : Int := pdie.toNat
    let d := d.put pgTHM THM.P_DIE pdie.toNat
    let die := (List.range 4).map (fun j =>
      nodeStep (d.thm.die.getD j 0) ((Config.dieRes j % 65536 : Nat) * p * 2 ^ 32 / 1000000) (Config.dieTau j % 65536))
    let mods := d.thm.mods
    let foster := (List.range 64).map (fun x =>
      let k := x / 4
      let old := d.thm.foster.getD x 0
      if mods && d.modValid k then
        let r := match x % 4 with
          | 0 => d.getAt pgTHM THM.FR_A_R0 k | 1 => d.getAt pgTHM THM.FR_A_R1 k
          | 2 => d.getAt pgTHM THM.FR_B_R2 k | _ => d.getAt pgTHM THM.FR_B_R3 k
        let tau := match x % 4 with
          | 0 => d.getAt pgTHM THM.FT_A_TAU0 k | 1 => d.getAt pgTHM THM.FT_A_TAU1 k
          | 2 => d.getAt pgTHM THM.FT_B_TAU2 k | _ => d.getAt pgTHM THM.FT_B_TAU3 k
        nodeStep old (r * d.moduleLoss k / 1000) tau
      else old)
    let d := d.modThm (fun t => { t with die := die, foster := foster })
    let d := { d with leg := d.leg.map (fun (h : LegH) => { h with nOn := 0 }) }
    let d := d.dieLevel
    if mods then d.modules.foldl (fun (d : Dev) k => d.moduleLevel k) d else d

/-- The target of g, Q0.16 with 65,536 for 1.0 (R343). -/
def Dev.gTarget (d : Dev) (k : Nat) : Nat :=
  let gmin := d.getAt pgTHM THM.DRT_G_MIN k
  let thr := d.getAt pgTHM THM.MTHR_THR k
  let shut := d.getAt pgTHM THM.MTHR_SHUT k
  let lvl := if d.getAt pgTHM THM.T_NTC_LEVEL k < 2 then 65536
    else max gmin (min 65536 (65536 * ((shut : Int) * 2 ^ 32 - d.junction k) / (((shut : Int) - thr) * 2 ^ 32)).toNat)
  if d.flagAt pgTHM THM.T_NTC_NTC_FAULT k && d.flagAt pgTHM THM.MCFG_FAULT_ACT k then min lvl gmin else lvl

/-- Write I_LIM of a module to word 246 of its REF_LOOP's context (R343). -/
def Soc.writeLimit (s : Soc) (k : Nat) : Soc :=
  let d := s.dev
  let v := (d.getAt pgTHM THM.I_NOM_I_NOM k * d.thm.g.getD k 65536 + 32768) / 65536
  let s := s.map (fun d => (d.putAt pgTHM THM.I_NOM_I_LIM k v).modThm (fun t => { t with limT := d.time + 1 }))
  match d.loopDecl (d.getAt pgTHM THM.MCFG_REF_LOOP k) with
  | some l => s.putWord (d.ctxWord l.ctx 246) v
  | none => s

/-- LIMIT_RAMP (R343): due once per millisecond. -/
def Soc.limitRamp (s : Soc) : Soc :=
  let d := s.dev
  if !d.enabled pgTHM || !d.fwRuns || !d.thm.mods || d.time / 400000 == d.thm.ramp then s
  else
    let g := (List.range 16).map (fun k =>
      let old := d.thm.g.getD k 65536
      let t := d.gTarget k
      let r := d.getAt pgTHM THM.DRT_RAMP k
      if d.modValid k then (if old < t then min t (old + r) else max t (old - r)) else old)
    let s := s.map (fun d => d.modThm (fun t => { t with ramp := d.time / 400000, g := g }))
    d.modules.foldl (fun (s : Soc) k => s.writeLimit k) s

/-! ### Completion of a round -/

/-- A tap calibration starts (R345, R423), at the present mean die temperature. -/
def Dev.tapCalStart (d : Dev) : Dev :=
  if d.flag pgCLK CLK.DLL_CAL_BUSY then d
  else
    let d := { d with clk := { d.clk with calEnd := some (d.time + 4096) } }.put pgCLK CLK.DLL_CAL_BUSY 1
    d.modThm (fun t => { t with calMean := some (((List.range 4).map (fun j => d.getIAt pgTHM THM.DIE_D j)).sum / 4) })

/-- Temperature compensation (R345). -/
def Dev.compensate (d : Dev) : Dev :=
  let mean := ((List.range 4).map (fun j => d.getIAt pgTHM THM.DIE_D j)).sum / 4
  let d := d.put pgCLK CLK.IRC_TRIM_TEMP (Config.ircTrim mean)
  let d := d.modThm (fun t => { t with refTrim := (List.range 4).map (fun b => Config.refTrim b mean) })
  match d.thm.calMean with
  | some m => if 32 ≤ (mean - m).natAbs then d.tapCalStart else d
  | none => d.tapCalStart

/-- HK_ROUND_COMPLETE (R335, R336, R338, R342, R345): the last conversion of the round has its result. -/
def Dev.hkRoundComplete (d : Dev) : Dev :=
  if d.thm.missing ≠ some 0 || !d.enabled pgTHM || !d.fwRuns then d
  else
    let d := (List.range 4).foldl (fun (d : Dev) j =>
      match d.hkValue j 16 with
      | some c => d.putIAt pgTHM THM.DIE_D j (Config.diodeTemp j c)
      | none => d) d
    let d := (List.range 8).foldl (fun (d : Dev) m => d.publishSupply m) d
    let d := (List.range 4).foldl (fun (d : Dev) b =>
      match d.hkValue b 19 with
      | some c => d.putAt pgTHM THM.REF b (Config.refMv b c)
      | none => d) d
    let d := d.modules.foldl (fun (d : Dev) k => d.publishNtc k) d
    let d := d.putB pgTHM THM.ST_NTC_ANY ((List.range 16).any (fun k => d.flagAt pgTHM THM.T_NTC_NTC_FAULT k))
    let base := (List.range 4).map (fun j => d.getIAt pgTHM THM.DIE_D j * sixteenth - d.thm.dieAt.getD j 0)
    let d := d.modThm (fun t => { t with base := base, missing := none, res := [], live := true })
    let d := ((d.incWrap pgTHM THM.ROUND_CNT).put pgTHM THM.ST_ROUND_VALID 1).irq pgTHM THM.IRQ_ROUND
    let d := if 2 ≤ d.get pgTHM THM.ST_DIE_LEVEL then d.throttle else d.unthrottle
    d.compensate

/-! ### Enable and thresholds -/

/-- The enable conditions fail (R348). -/
def Dev.thmCfgBad (d : Dev) : Bool :=
  let p := d.get pgTHM THM.HK_CFG
  decide (p < 5 ∨ 50 < p) || d.modules.any (fun k =>
    d.getAt pgTHM THM.NTC_A_B k == 0 || d.getAt pgTHM THM.NTC_A_R25 k == 0 || d.getAt pgTHM THM.NTC_B k == 0
      || d.getAt pgTHM THM.I_FS k == 0 || d.getAt pgTHM THM.SCALE_I_REF k == 0 || d.getAt pgTHM THM.SCALE_U_REF k == 0
      || d.getAt pgTHM THM.FT_A_TAU0 k == 0 || d.getAt pgTHM THM.FT_A_TAU1 k == 0
      || d.getAt pgTHM THM.FT_B_TAU2 k == 0 || d.getAt pgTHM THM.FT_B_TAU3 k == 0
      || (d.stageLegs (d.getAt pgTHM THM.MCFG_STAGE k)).isEmpty)

/-- The models start from zero (R337). -/
def ThmH.zeroed (t : ThmH) : ThmH :=
  { t with die := List.replicate 4 0, base := List.replicate 4 0, dieAt := List.replicate 4 0
           foster := List.replicate 64 0, res := [], missing := none }

/-- Requests of an earlier round are withdrawn. -/
def Dev.thmUnask (d : Dev) : Dev :=
  (List.range 4).foldl (fun (d : Dev) b =>
    d.modAdc b (fun a => { a with hkq := a.hkq.filter (fun ch => decide (64 ≤ ch)) })) d

/-- Enabling the service; with EN already 1, the module models that a release stopped start again (R81, R348). -/
def Soc.thmEnable (s : Soc) : Soc :=
  let d := s.dev
  if d.thmCfgBad then s.map (fun d => d.err pgTHM Err.THM_CFG)
  else if d.enabled pgTHM && d.thm.mods then s
  else
    let s := s.map (fun d =>
      let n := d.roundNumber
      let fresh := !d.enabled pgTHM
      let d := d.modThm (fun t =>
        let t := if fresh then { t.zeroed with round := n, live := true } else { t with foster := List.replicate 64 0 }
        { t with mods := true, upd := d.time / 40000, ramp := d.time / 400000, g := List.replicate 16 65536 })
      (if fresh then d.thmUnask.put pgTHM THM.ST_ROUND_VALID 0 else d).put pgTHM COM.ST_ENABLED 1)
    d.modules.foldl (fun (s : Soc) k => s.writeLimit k) s

def Dev.thmDisable (d : Dev) : Dev := (d.put pgTHM COM.ST_ENABLED 0).modThm (fun t => { t with mods := false })

/-- At a wake the models start from zero, a round starts within 1 ms, and nothing is supervised until it completes
(R430). -/
def Dev.thmWake (d : Dev) : Dev :=
  if !d.enabled pgTHM then d
  else (d.thmUnask.modThm (fun t => { t.zeroed with round := 2 ^ 64, live := false })).put pgTHM THM.ST_ROUND_VALID 0

/-- The ordering rule of R341 fails. -/
def thrDisorder (w : Nat) : Bool :=
  decide (w / 2 ^ 16 % 256 ≤ w / 2 ^ 24 % 256) || decide (w / 2 ^ 8 % 256 ≤ w / 2 ^ 16 % 256)

/-- A write of DIE_THR (R341): a field above its reset value loads that value. -/
def Dev.dieThrWrite (d : Dev) (w : Word) : Dev :=
  let f := fun (i top : Nat) => min top (w.toNat / 2 ^ i % 256)
  let v := f 24 125 * 2 ^ 24 + f 16 135 * 2 ^ 16 + f 8 150 * 2 ^ 8 + f 0 5
  let d := if v = w.toNat then d else d.err pgTHM Err.THM_LIMIT
  if thrDisorder v then d.err pgTHM Err.THM_CFG else d.put pgTHM THM.DIE_THR v

/-- A write of MTHR (R341): the same order, with no threshold above 200 °C. -/
def Dev.mthrWrite (d : Dev) (k : Nat) (w : Word) : Dev :=
  let v := w.toNat
  if thrDisorder v || decide (200 < v / 2 ^ 8 % 256) then d.err pgTHM Err.THM_CFG else d.putAt pgTHM THM.MTHR k v

end Sys2Proof.Machine
end

