-- ==== Sys2Proof/Machine/Field.lean ====
section
/-! DEFINITION. The field-control service (chapter 10): starting a drive with its measurement, initial position
detection and hand-over, stopping and aborting it, and the back-EMF monitor. -/

namespace Sys2Proof.Machine

def Dev.modFld (d : Dev) (k : Nat) (f : FldH → FldH) : Dev := { d with fld := vmod d.fld (fin16 k) f }
def Dev.fh (d : Dev) (k : Nat) : FldH := d.fld[fin16 k]

def Dev.phase (d : Dev) (k : Nat) : Nat := d.getAt pgFLD FLD.DSTAT_PHASE k

/-- Set a bit of a drive's EV, and the drive's interrupt bit (R314). -/
def Dev.fldEv (d : Dev) (k : Nat) (f : Fld) : Dev := (d.putAt pgFLD f k 1).irqBits pgFLD (2 ^ k)

/-- PHASE of a drive: 0 IDLE, 1 MEASURE, 2 IPD, 3 HANDOVER, 4 RUN (R314). -/
def Dev.setPhase (d : Dev) (k p : Nat) : Dev :=
  (d.putAt pgFLD FLD.DSTAT_PHASE k p).put pgFLD FLD.ST_STARTING
    (setBit (d.get pgFLD FLD.ST_STARTING) k (decide (1 ≤ p ∧ p ≤ 3)))

/-- The contexts that a drive lists (R291): CTX_AUX, CTX_OUT and CTX_CUR, in the order of their start. -/
def Dev.driveCtx (d : Dev) (k : Nat) : List Nat :=
  [d.getAt pgFLD FLD.DCFG_CTX_AUX k, d.getAt pgFLD FLD.DCFG_CTX_OUT k, d.getAt pgFLD FLD.DCFG_CTX_CUR k].filter (fun x => x != 0)

/-! ### Shadows and commits -/

/-- The service writes a shadow and remembers it (R301). -/
def Dev.fldShadow (d : Dev) (k : Nat) (kind : PageKind) (inst off : Nat) (f : Fld) (v : Nat) : Dev :=
  let pg := match kind with | .leg => pgLEG inst | _ => pgSTG inst
  let d := (d.put pg f v).noteShadow d kind inst off (pg + off)
  d.modFld k (fun h => { h with wrote := h.wrote.filter (fun e => e.1 != pg + off) ++ [(pg + off, (d.reg (pg + off)).toNat)] })

/-- FORCE of every leg of the stage, in ascending order (R306). -/
def Dev.fldForce (d : Dev) (k : Nat) (f : Nat → Nat) : Dev :=
  (numbered (d.stageUnits k)).foldl (fun (d : Dev) x => d.fldShadow k .leg x.2 0x5C LEG.CTL_FORCE (f x.1)) d

def Dev.fldClean (d : Dev) (k : Nat) : Bool := (d.fh k).wrote.all (fun e => (d.reg e.1).toNat == e.2)

def Dev.fldPeriod (d : Dev) (k v : Nat) : Dev := d.fldShadow k .stg k 0x48 STG.PERIOD v

/-- RUN of a listed context is cleared. -/
def Dev.fldStopCtx (d : Dev) (k : Nat) : Dev := (d.driveCtx k).foldl (fun (d : Dev) x => d.runWrite x false) d

/-- The gates go off and PERIOD returns, in a commit with WHEN = 0 (R302). -/
def Dev.fldOff (d : Dev) (k : Nat) : Dev :=
  let d := match (d.fh k).period with | some p => d.fldPeriod k p | none => d
  ((d.fldForce k (fun _ => 3)).armStage k 0).modFld k (fun h => { h with period := none, wrote := [] })

/-- STOP (R302). -/
def Dev.fldStop (k : Fin 16) (d : Dev) : Dev := ((d.fldOff k).fldStopCtx k).setPhase k 0

/-- An accepted start ends without a hand-over (R304, R307): PHASE returns to IDLE with every leg at FORCE = 3. -/
def Dev.fldRefuse (d : Dev) (k code : Nat) : Dev :=
  ((((d.fldOff k).putAt pgFLD FLD.DSTAT_LAST k code).errFw pgFLD code).fldEv k FLD.EV_REFUSED).setPhase k 0

/-- A start is aborted (R301, R308). -/
def Dev.fldAbort (d : Dev) (k code : Nat) : Dev := (d.fldRefuse k code).fldStopCtx k

/-- A commit that the service arms: the shadows it wrote are read back first (R301). -/
def Dev.fldCommit (d : Dev) (k when : Nat) : Dev :=
  if d.fldClean k then d.armStage k when else d.fldAbort k Err.FLD_INTERFERED

/-- Trips, STO, lock-out and a stage that no longer runs abort a start (R308). -/
def Dev.fldWatch (d : Dev) : Dev :=
  (List.range 16).foldl (fun (d : Dev) k =>
    let p := d.phase k
    if (p == 2 || p == 3) && (d.stageLegs k).any d.tripped then d.fldAbort k Err.FLD_ABORTED
    else if decide (1 ≤ p ∧ p ≤ 3) && (d.stoCondition || !d.running k) then d.fldAbort k Err.FLD_ABORTED
    else d) d

/-! ### Hand-over -/

/-- The source of a drive is Hall, or a quadrature interface (R94). -/
def Dev.srcHall (d : Dev) (s : Nat) : Bool := decide (s < 8) && d.get (pgPOS s) POS.CFG_MODE == 1
def Dev.srcQuad (d : Dev) (s : Nat) : Bool := decide (s < 8) && d.get (pgPOS s) POS.CFG_MODE == 0

/-- A source is absolute (R304). -/
def Dev.srcAbsolute (d : Dev) (s : Nat) : Bool :=
  if 16 ≤ s then false
  else if d.srcHall s then d.srcValid s && !d.flag (pgPOS s) POS.ST_HALL_INVALID
  else if s < 8 then d.flag (pgPOS s) POS.ST_REFERENCED
  else d.srcValid s

/-- ANGLE of a turn position (R100). -/
def Dev.angleOfTurn (d : Dev) (s x : Nat) : Nat :=
  (({ d with regs := d.regs }.put (pgPOS s) POS.TURN_POS x).posQuadAngle (pgPOS s))

def angleDist (a b : Nat) : Nat := let x := (a + 2 ^ 32 - b % 2 ^ 32) % 2 ^ 32; min x (2 ^ 32 - x)

/-- The smallest turn position whose angle lies nearest θ (R305): one candidate or two in each electrical period. -/
def Dev.nearestTurn (d : Dev) (s theta : Nat) : Nat :=
  let pg := pgPOS s
  let m := max 1 (d.get pg POS.COUNT_MOD)
  let pp := max 1 (d.get pg POS.CFG_PP)
  let ofs := d.get pg POS.ANGLE_OFS
  let phi := (theta + 2 ^ 32 - ofs) % 2 ^ 32
  let cand := (List.range pp).flatMap (fun p =>
    let x := (phi + p * 2 ^ 32) * m / (pp * 2 ^ 32)
    [x % m, (x + 1) % m])
  cand.foldl (fun best x =>
    let a := angleDist (d.angleOfTurn s x) theta
    let b := angleDist (d.angleOfTurn s best) theta
    if a < b ∨ (a = b ∧ x < best) then x else best) (cand.headD 0)

/-- A context runs CURFOC (R289, R305). -/
def Dev.runsCurfoc (d : Dev) (x : Nat) : Bool :=
  match d.adm with
  | none => false
  | some a => a.loops.any (fun l => l.ctx == x && isCurfoc l.progAddr)

/-- Write the hand-over block and, for a caught machine, the state of CURFOC (R291, R305). `emf` is in 2^-20 µV. -/
def Soc.handBlock (s : Soc) (k kind theta : Nat) (f : Int) (t0 : Nat) (emf : Nat) : Soc :=
  let d := s.dev
  let hold := if kind = 1 then d.getAt pgFLD FLD.DLINK_CATCH_HOLD k else 0
  let udc := d.linkU
  -- d_0 = min(1, √3 × EMF ÷ u_dc) in Q0.16, √3 with 40 fraction bits
  let d0 := if kind ≠ 1 then 0
    else if udc ≤ 0 then 0xFFFF else min 0xFFFF (bigSqrt (3 * fx * fx) * emf * 65536 / (udc.toNat * 1000 * 2 ^ 20 * fx))
  let ub := d.getAt pgFLD FLD.U_BASE k
  let s := (d.driveCtx k).foldl (fun (s : Soc) x =>
    s.putWords (s.dev.ctxWord x 248)
      [theta, unsig 32 f, t0 % 2 ^ 32, kind * 2 ^ 24 + hold * 2 ^ 16 + (d.fh k).seq % 2 ^ 16, d0, 0, 0, 0]) s
  if kind ≠ 1 then s
  else
    ((d.driveCtx k).filter d.runsCurfoc).foldl (fun (s : Soc) x =>
      let (acc, s) : Int × Soc := if ub = 0 then
          let (v, d') := s.dev.free 40
          (signed 40 v, { s with dev := d' })
        else ((if 0 ≤ f then 1 else -1) * roundDiv (emf * 32768) (ub * 1000 * 2 ^ 20) * 32768, s)
      s.putWords (s.dev.ctxWord x 0)
        [0, 0, 0, 0, unsig 32 acc, unsig 32 (acc / 2 ^ 32), 0, 0]) s

/-- Hand-over (R305). -/
def Soc.handOver (s : Soc) (k kind theta : Nat) (f : Int) (t0 emf : Nat) : Soc :=
  let s := s.map (fun d =>
    let d := d.modFld k (fun h => { h with seq := h.seq + 1 })
    let src := d.getAt pgFLD FLD.DLINK_SRC k
    if d.srcQuad src && !d.flag (pgPOS src) POS.ST_REFERENCED then
      -- θ_w = θ_0 + f × (t_w − T0): a speed code counts 1/4096 Hz
      let w := unsig 32 (theta + roundDiv (f * (d.time - t0 : Nat) * 2 ^ 20) 400000000)
      d.setCount (Fin.ofNat 8 src) (BitVec.ofNat 32 (d.nearestTurn src w))
    else d)
  let s := s.handBlock k kind theta f t0 emf
  s.map (fun d =>
    let d := d.fldForce k (fun _ => 0)
    let d := (d.driveCtx k).foldl (fun (d : Dev) x => d.runWrite x true) d
    let d := (d.putAt pgFLD FLD.DSTAT_KIND k kind).putAt pgFLD FLD.DSTAT_DIR k (b2n (decide (f < 0)))
    let d := (d.putAt pgFLD FLD.T0 k (t0 % 2 ^ 32)).modFld k (fun h => { h with wrote := [] })
    (d.setPhase k 4).fldEv k FLD.EV_HANDED_OVER)

/-! ### Starting -/

/-- The decision of R304 from EMF in 2^-20 µV, θ_0, f and the window's consistency; T0 is `t0`. -/
def Soc.fldDecide (s : Soc) (k emf theta : Nat) (f : Int) (bad : Bool) (t0 : Nat) : Soc :=
  let d := s.dev
  let turning := decide (d.getAt pgFLD FLD.EMF_MIN k * 1000 * 2 ^ 20 ≤ emf)
  let src := d.getAt pgFLD FLD.DLINK_SRC k
  let abs := d.srcAbsolute src
  let far := decide ((if d.srcHall src then 2 ^ 32 / 6 else 2 ^ 32 / 12) < angleDist (d.srcAngle src) theta)
    || decide (f.natAbs < 10 * (d.srcSpeed src - f).natAbs)
  let refuse := fun (code : Nat) => s.map (fun d => d.fldRefuse k code)
  if (d.stageLegs k).any d.tripped then refuse Err.FLD_ABORTED
  else if turning && bad then refuse Err.FLD_MEAS
  else if turning && decide (d.getAt pgFLD FLD.CATCH_MAX k < f.natAbs) then refuse Err.CATCH_TOO_FAST
  else if turning && abs && far then refuse Err.FLD_PLAUS
  else if turning then s.handOver k 1 theta f t0 emf
  else if abs then s.handOver k (if d.srcHall src then 4 else 3) (d.srcAngle src) 0 t0 emf
  else if d.flagAt pgFLD FLD.DCFG_IPD_EN k && d.get (pgSTG k) STG.CM_MODE_SENSING == 2 then
    s.map (fun d =>
      let d := d.modFld k (fun h => { h with
        step := 0, resp := [], pol := [], period := some (d.get (pgSTG k) STG.PERIOD) })
      (d.fldPeriod k (400 * d.getAt pgFLD FLD.IPD_CFG_T_P k)).setPhase k 2)
  else refuse Err.FLD_NO_ANGLE

/-- Requests of an earlier start are withdrawn. -/
def Dev.fldUnask (d : Dev) (k : Nat) : Dev :=
  (List.range 4).foldl (fun (d : Dev) b =>
    d.modAdc b (fun a => { a with hkq := a.hkq.filter (fun ch => ch / 4 != 16 + k) })) d

/-- START (R300, R303). A drive whose enable has not taken effect is not ready (log entry 26). -/
def Soc.fldStart (k : Fin 16) (s : Soc) : Soc :=
  let d := s.dev
  let refuse := fun (code : Nat) => s.map (fun (d : Dev) =>
    let d := ((d.putAt pgFLD FLD.DSTAT_LAST k code).err pgFLD code).fldEv k FLD.EV_REFUSED
    d)
  if d.phase k ≠ 0 ∨ !d.flagAt pgFLD FLD.DSTAT_ENABLED k then refuse Err.FLD_NOT_READY
  else if !d.running k || (d.stageLegs k).any d.tripped || d.stoCondition then refuse Err.FLD_NOT_READY
  else if (d.driveCtx k).any (fun x => d.flagAt pgCTX CTX.CCTL_RUN x || !d.flagAt pgCTX CTX.CCFG_VALID x) then
    refuse Err.FLD_NOT_READY
  else if d.flagAt pgFLD FLD.DSTAT_WRONG_MACHINE k then refuse Err.FLD_WRONG_MACHINE
  else
    let s := s.map (fun d => (d.modFld k (fun h => { h with
      t0 := d.time, asked := 0, cur := [], triples := [], lastV := none, lastW := none, period := none
      wrote := [] })).fldUnask k)
    if d.flagAt pgFLD FLD.DCFG_FS_EN k then
      s.map (fun d => ((d.fldForce k (fun _ => 3)).fldCommit k 0).setPhase k 1)
    else s.fldDecide k 0 0 0 false d.time

/-- The value at time `t` on the line through the last sample and this one; without a last sample, this one. -/
def interpolate (last : Option (Nat × Nat)) (c t1 t : Nat) : Int :=
  match last with
  | some (c0, t0) => if t1 ≤ t0 then (c : Int) * 2 ^ 20
    else (c0 : Int) * 2 ^ 20 + ((c : Int) - c0) * 2 ^ 20 * ((t : Int) - t0) / ((t1 : Int) - t0)
  | none => (c : Int) * 2 ^ 20

/-- A triple from the starts and codes of U, V and W (R303): V and W are taken back to the TCLK of U. -/
def Dev.fldTriple (d : Dev) (k : Nat) (u v w : Nat × Nat) : Dev :=
  let h := d.fh k
  let sc : Int := d.getAt pgFLD FLD.VS_SCALE k
  let vu := (u.2 : Int) * 2 ^ 20 * sc
  let vv := interpolate h.lastV v.2 v.1 u.1 * sc
  let vw := interpolate h.lastW w.2 w.1 u.1 * sc
  d.modFld k (fun h => { h with
    cur := [], triples := h.triples ++ [⟨u.1, 2 * vu - vv - vw, vv - vw⟩]
    lastV := some (v.2, v.1), lastW := some (w.2, w.1) })

/-- A conversion of a terminal voltage, started at `start`, has its result; the third completes a triple (R303). -/
def Dev.fldSample (d : Dev) (k i start c : Nat) : Dev :=
  let h := d.fh k
  if d.phase k ≠ 1 ∨ start < h.t0 then d
  else
    match (if i = 0 then [] else h.cur) ++ [(start, c)] with
    | [u, v, w] => d.fldTriple k u v w
    | l => d.modFld k (fun h => { h with cur := l })

/-- A housekeeping conversion has its result: a terminal voltage (R303), or an input of the round (R335). -/
def Dev.hkDone (d : Dev) (b ch start : Nat) (x : Analog) : Dev :=
  if 64 ≤ ch then d.fldSample (ch / 4 - 16) (ch % 4) start x.val else d.hkResult b ch start x

/-- MEASURE_TRIPLE (R303): every SAMPLE µs of the window, one housekeeping request for U, V and W in this order. They stand
together in the queue, so no other housekeeping conversion comes between them. -/
def Dev.measureTriple (k : Fin 16) (d : Dev) : Dev :=
  let h := d.fh k
  let i := (d.time - h.t0) / (400 * max 1 (d.getAt pgFLD FLD.FS_TIME_SAMPLE k))
  if d.phase k ≠ 1 ∨ i < h.asked ∨ h.t0 + 4000 * d.getAt pgFLD FLD.FS_TIME_MEAS_TIME k ≤ d.time then d
  else
    (d.modFld k (fun h => { h with asked := i + 1 })).modAdc (d.getAt pgFLD FLD.VSENSE_GROUP k) (fun a => { a with
      hkq := a.hkq ++ [64 + 4 * k.val, 65 + 4 * k.val, 66 + 4 * k.val] })

/-- √3 with 40 fraction bits. -/
def sqrt3 : Int := 1904408332690

/-- φ of a triple, in 2^-48 turn: atan2 of u_β and u_α, from √3 u_β × √3 and 3 u_α. -/
def Triple.phi (x : Triple) : Nat := atan2Turn (x.ub * sqrt3) (x.ua * fx)

/-- 9 × the squared magnitude. -/
def Triple.mag2 (x : Triple) : Nat := (x.ua * x.ua + 3 * x.ub * x.ub).toNat

/-- Unwrap a sequence of angles. -/
def unwrap : Int → List Nat → List Int
  | _, [] => []
  | last, p :: t => let x := last + signed 48 (((p : Int) - last) % (2 ^ 48 : Nat)).toNat; x :: unwrap x t

/-- What the window yields (R303): EMF in 2^-20 µV, f as a speed code, φ_end, inconsistent. -/
def fitWindow (ts : List Triple) (t0 : Nat) : Nat × Int × Nat × Bool :=
  let n : Int := ts.length
  let mags := ts.map (fun x => bigSqrt x.mag2)
  let emf := mags.sum / (3 * max 1 ts.length)
  let ph := match ts with | [] => [] | x :: _ => unwrap x.phi (ts.map Triple.phi)
  let xs := ts.map (fun x => (x.t : Int) - t0)
  let sx := xs.sum
  let sp := ph.sum
  let sxx := (xs.map (fun x => x * x)).sum
  let sxp := ((xs.zip ph).map (fun z => z.1 * z.2)).sum
  let den := n * sxx - sx * sx
  let num := n * sxp - sx * sp
  if n < 2 ∨ den ≤ 0 then (emf, 0, (ph.headD 0 % (2 ^ 48 : Nat)).toNat / 2 ^ 16, false)
  else
    let f := roundDiv (num * 400000000 * 4096) (den * 2 ^ 48)
    let endN := sp * den - num * sx
    let phiEnd := (roundDiv endN (n * den * 65536) % (2 ^ 32 : Nat)).toNat
    -- residuals times n × den
    let res := (xs.zip ph).map (fun z => z.2 * n * den - endN - num * z.1 * n)
    let rms := (res.map (fun r => r * r)).sum
    let lim : Int := 2 ^ 48 * n * den
    let m2 := ts.map Triple.mag2
    let lo := m2.foldl min (m2.headD 0)
    let hi := m2.foldl max 0
    (emf, f, phiEnd, decide (n * lim * lim < 36 * 36 * rms) || decide (4 * lo < hi))

/-- MEAS_DONE (R303, R304): the window has ended. -/
def Soc.measDone (k : Fin 16) (s : Soc) : Soc :=
  let d := s.dev
  let h := d.fh k
  let t0 := h.t0 + 4000 * d.getAt pgFLD FLD.FS_TIME_MEAS_TIME k
  if d.phase k ≠ 1 ∨ d.time < t0 then s
  else
    let (emf, f, phi, bad) := fitWindow h.triples t0
    let theta := (if 0 ≤ f then phi + 2 ^ 32 - 2 ^ 30 else phi + 2 ^ 30) % 2 ^ 32
    let s := s.map (fun d =>
      let d := ((d.putAt pgFLD FLD.MEAS_ANGLE k theta).putIAt pgFLD FLD.MEAS_SPEED k f).putAt pgFLD FLD.MEAS_EMF k
        (min (emf / (2 ^ 20 * 1000)) (2 ^ 32 - 1))
      d.fldEv k FLD.EV_MEAS_DONE)
    s.fldDecide k emf theta f bad t0

/-! ### Initial position detection -/

/-- 2 cos and 2 sin ÷ √3 of n × 60°. -/
def cos60 (n : Nat) : Int := [2, 1, -1, -2, -1, 1].getD (n % 6) 0
def sin60 (n : Nat) : Int := [0, 1, 1, 0, -1, -1].getD (n % 6) 0

/-- FORCE of leg j for vector n (R306): 2 is H, 1 is L. -/
def vectorForce (n j : Nat) : Nat :=
  let h := match n % 6 with
    | 0 => [2, 1, 1] | 1 => [2, 2, 1] | 2 => [1, 2, 1] | 3 => [1, 2, 2] | 4 => [1, 1, 2] | _ => [2, 1, 2]
  h.getD j 3

/-- 3 × the projection of the published set onto n × 60° (R306). -/
def Dev.ipdResponse (d : Dev) (k n : Nat) : Int :=
  let i := fun (l : Nat) => d.getIAt (pgSTG k) STG.CM_I l
  i 0 * cos60 n + i 1 * cos60 (n + 4) + i 2 * cos60 (n + 2)

/-- The vector nearest θ_d (in 2^-48 turn). -/
def nearestVector (theta : Nat) : Nat := ((theta * 12 / 2 ^ 48 + 1) / 2) % 6

/-- θ_d, θ_p, the sums of R307: √(a2'² + 3 b2'²), √(a1'² + 3 b1'²) and Σ i. -/
def ipdSums (r : List Int) : Nat × Nat × Nat × Nat × Int :=
  let z := (List.range 6).zip r
  let a2 := (z.map (fun x => x.2 * cos60 (2 * x.1))).sum
  let b2 := (z.map (fun x => x.2 * sin60 (2 * x.1))).sum
  let a1 := (z.map (fun x => x.2 * cos60 x.1)).sum
  let b1 := (z.map (fun x => x.2 * sin60 x.1)).sum
  (atan2Turn (b2 * sqrt3) (a2 * fx) / 2, atan2Turn (b1 * sqrt3) (a1 * fx),
   bigSqrt ((a2 * a2 + 3 * b2 * b2).toNat * 2 ^ 32), bigSqrt ((a1 * a1 + 3 * b1 * b1).toNat * 2 ^ 32), r.sum)

/-- Some phase current of the published set exceeds IMAX (R306). -/
def Dev.ipdOver (d : Dev) (k : Nat) : Bool :=
  (List.range 3).any (fun l => decide (d.getAt pgFLD FLD.IPD_LIM_IMAX k < (d.getIAt (pgSTG k) STG.CM_I l).natAbs))

/-- The commit of the service that was armed last has loaded. -/
def Dev.fldLoaded (d : Dev) (k : Nat) : Bool := !d.flag (pgSTG k) COM.COMMIT_PENDING

/-- The gap ends at the next zero event, or has ended (R306): T_GAP has then passed since the legs went to FORCE = 3. -/
def Dev.ipdGapOver (d : Dev) (k : Nat) : Bool :=
  d.fldLoaded k
  && decide ((d.sh k).loadT + 4000 * d.getAt pgFLD FLD.IPD_CFG_T_GAP k ≤ max d.time ((d.sh k).x0 + d.period k))

/-- Direction of the polarity step's pulse j (R307). -/
def Dev.pulseVector (d : Dev) (k j : Nat) : Nat := nearestVector (ipdSums (d.fh k).resp).1 + 3 * j

/-- An in-line set of the stage has been published (R306, R307). A current above IMAX aborts the detection. The first set
after the end of a vector's first carrier, or of a pulse, is its response: the commit that ends it, of step `n`, has
loaded. -/
def Dev.ipdSet (d : Dev) (k : Nat) : Dev :=
  let h := d.fh k
  let past := fun (n : Nat) => decide (n < h.step) || (h.step == n && d.fldLoaded k)
  if d.phase k ≠ 2 ∨ d.flag pgFLD COM.ST_FROZEN then d
  else if d.ipdOver k then d.fldAbort k Err.FLD_IPD_CURRENT
  else if h.resp.length < 6 then
    if past (3 * h.resp.length + 2) then
      d.modFld k (fun h => { h with resp := h.resp ++ [d.ipdResponse k h.resp.length] })
    else d
  else if h.pol.length < 2 ∧ past (22 + 2 * h.pol.length) then
    d.modFld k (fun h => { h with pol := h.pol ++ [d.ipdResponse k (d.pulseVector k h.pol.length)] })
  else d

/-- INLINE_PUBLISH, and what the service does with the set (R241, R306). -/
def Dev.inlineSet (k : Fin 16) (d : Dev) : Dev :=
  let d' := d.inlinePublish k
  if d'.get (pgSTG k) STG.CM_STAT_SEQ = d.get (pgSTG k) STG.CM_STAT_SEQ then d' else d'.ipdSet k

/-- The levels of step `n` of the detection (R306, R307): a vector, the opposite one and the gap; from step 20 a pulse and
its gap for each direction. -/
def Dev.ipdForce (d : Dev) (k n : Nat) : Nat → Nat :=
  if n < 18 then
    match n % 3 with
    | 0 => vectorForce (n / 3)
    | 1 => vectorForce (n / 3 + 3)
    | _ => fun _ => 3
  else if n % 2 = 0 then vectorForce (d.pulseVector k ((n - 20) / 2)) else fun _ => 3

/-- The next step of the detection is due: the commit of the last one has loaded, and before a vector or a pulse the gap
is over. -/
def Dev.ipdStepDue (d : Dev) (k : Nat) : Bool :=
  let n := (d.fh k).step
  let first := if n < 18 then n % 3 == 0 else n % 2 == 0
  (decide (n < 18) || decide (20 ≤ n ∧ n < 24))
  && (if first && n != 0 then d.ipdGapOver k else decide (n = 0) || d.fldLoaded k)

/-- IPD_VECTOR (R306, R307): the next step of the detection. A vector has three: its carrier, the opposite one, and the
gap; a polarity step has a pulse and a gap for each direction. The shadows written before are read back before the next
ones are written (R301). -/
def Dev.ipdVector (k : Fin 16) (d : Dev) : Dev :=
  if d.phase k ≠ 2 ∨ !d.ipdStepDue k then d
  else if !d.fldClean k then d.fldAbort k Err.FLD_INTERFERED
  else
    let d := d.fldForce k (d.ipdForce k (d.fh k).step)
    (d.modFld k (fun h => { h with step := h.step + 1 })).fldCommit k 1

/-- The detection ends with θ_0 (in 2^-48 turn): PERIOD returns, the result is recorded and handed over (R307). -/
def Soc.ipdEnd (s : Soc) (k theta : Nat) : Soc :=
  let a := theta % 2 ^ 48 / 2 ^ 16
  let s := s.map (fun d =>
    let d := match (d.fh k).period with | some p => d.fldPeriod k p | none => d
    ((d.modFld k (fun h => { h with period := none })).putAt pgFLD FLD.IPD_ANGLE k a).fldEv k FLD.EV_IPD_DONE)
  s.handOver k 2 a 0 s.dev.time 0

/-- IPD_DONE (R307): the responses are judged. -/
def Soc.ipdDone (k : Fin 16) (s : Soc) : Soc :=
  let d := s.dev
  let h := d.fh k
  if d.phase k ≠ 2 ∨ !d.ipdGapOver k then s
  else if h.step = 18 ∧ h.resp.length = 6 then
    let (td, tp, m2, m1, sum) := ipdSums h.resp
    let q := fun (m : Nat) => if sum ≤ 0 then 0 else min 255 (m * 256 / (sum.toNat * 65536))
    let s := s.map (fun d => (d.putAt pgFLD FLD.RATIO_SAL k (q m2)).putAt pgFLD FLD.RATIO_POL k (q m1))
    let ge := fun (m lim : Nat) => decide (0 < sum) && decide (lim * sum.toNat * 65536 ≤ m * 256)
    if !ge m2 (d.getAt pgFLD FLD.IPD_LIM_SAL_MIN k) then s.map (fun d => d.fldRefuse k Err.FLD_IPD_AMBIG)
    else if ge m1 (d.getAt pgFLD FLD.IPD_LIM_POL_MIN k) then
      let far := let x := (td + 2 ^ 48 - tp) % 2 ^ 48; decide (2 ^ 46 < min x (2 ^ 48 - x))
      s.ipdEnd k (if far then td + 2 ^ 47 else td)
    else
      s.map (fun d => (d.modFld k (fun h => { h with step := 20, pol := [] })).fldPeriod k
        (800 * d.getAt pgFLD FLD.IPD_CFG_T_P k))
  else if h.step = 24 ∧ h.pol.length = 2 then
    let td := (ipdSums h.resp).1
    let r1 := h.pol.getD 0 0
    let r2 := h.pol.getD 1 0
    if 512 * ((r1 - r2).natAbs : Int) < d.getAt pgFLD FLD.IPD_LIM_POL_MIN k * (r1 + r2) then
      s.map (fun d => d.fldRefuse k Err.FLD_IPD_AMBIG)
    else s.ipdEnd k (if r1 < r2 then td + 2 ^ 47 else td)
  else s

/-! ### The back-EMF monitor -/

/-- T_mag in 1/16 °C (R310). -/
def Dev.magnetTemp (d : Dev) (k : Nat) : Int :=
  let n := d.getAt pgFLD FLD.TSRC_SRC k
  if n = 0 then d.getIAt pgFLD FLD.T_MAG k
  else d.getIAt pgTHM THM.T_NTC_T (n - 1) + 16 * d.getIAt pgFLD FLD.TSRC_OFFSET k

/-- A verdict (R309, R311). -/
def Dev.bemfVerdict (d : Dev) (k : Nat) : Dev :=
  let h := d.fh k
  let est := roundDiv h.sum (h.n * 65536 : Nat)
  let d := d.putIAt pgFLD FLD.PSI_EST k est
  let den := 16000000 + d.getIAt pgFLD FLD.MAG_ALPHA k * (d.magnetTemp k - 16 * d.getIAt pgFLD FLD.MAG_T_REF k)
  let (comp, d) : Int × Dev := if den ≤ 0 then (let (v, d) := d.free 32; (signed 32 v, d))
    else (roundDiv (h.sum * 16000000) (h.n * 65536 * den), d)
  let d := d.putIAt pgFLD FLD.PSI_COMP k comp
  let nom := d.getAt pgFLD FLD.PSI_NOM k
  let (ratio, d) : Nat × Dev := if nom = 0 ∨ comp < 0 then d.free 16
    else (min 0xFFFF (roundDiv (16384 * comp) nom).toNat, d)
  let d := (d.putAt pgFLD FLD.RATIO_RATIO k ratio).fldEv k FLD.EV_VERDICT
  let d := d.modFld k (fun h => { h with n := 0, sum := 0 })
  let first := !d.flagAt pgFLD FLD.DSTAT_FIRST_DONE k
  let d := d.putAt pgFLD FLD.DSTAT_FIRST_DONE k 1
  let wrong := fun (d : Dev) =>
    ((d.putAt pgFLD FLD.DSTAT_WRONG_MACHINE k 1).fldEv k FLD.EV_WRONG_MACHINE).errFw pgFLD Err.BEMF_WRONG_MACHINE
  let demag := fun (d : Dev) => ((d.putAt pgFLD FLD.DSTAT_DEMAG k 1).fldEv k FLD.EV_DEMAG).errFw pgFLD Err.BEMF_DEMAG
  if d.getAt pgFLD FLD.BAND_A_HIGH k < ratio then wrong d
  else if d.getAt pgFLD FLD.BAND_A_LOW k ≤ ratio then d
  else if d.getAt pgFLD FLD.BAND_B_FLOOR k ≤ ratio then demag d
  else if first then wrong d else demag d

/-- ψ_k in units of 2^-16 µV·s (R309), for a speed word that is not 0. -/
def Dev.bemfPsi (d : Dev) (k : Nat) : Int :=
  let l := d.getAt pgFLD FLD.DLINK_MB_LOOP k
  let ib : Int := d.getAt pgFLD FLD.I_BASE k
  let w4 := d.mailI l 4
  let v := d.mailI l 3 * d.getAt pgFLD FLD.U_BASE k * 1000000 - d.getAt pgFLD FLD.RES_S k * d.mailI l 1 * ib
  let sgn : Int := if w4 < 0 then -1 else 1
  roundDiv (sgn * v * 2 * fy) (1000 * 16 * (w4.natAbs : Int) * fyTau)
    - roundDiv (d.getAt pgFLD FLD.L_D k * d.mailI l 0 * ib * 2) 1000000

/-- BEMF_SAMPLE (R309): due once per millisecond. -/
def Dev.bemfSample (k : Fin 16) (d : Dev) : Dev :=
  let mt := d.getAt pgFLD FLD.DCFG_MTYPE k
  if !d.flagAt pgFLD FLD.DCFG_MON_EN k || !(mt == 0 || mt == 2) || d.phase k != 4 || d.time / 400000 == (d.fh k).tick then d
  else
    let h := d.fh k
    let l := d.getAt pgFLD FLD.DLINK_MB_LOOP k
    let q := d.mailbox l 7
    let w4 := (d.mailI l 4).natAbs
    let ok := q != h.mbSeq && bitOf (d.mailbox l 5) 15 && decide (d.getAt pgFLD FLD.F_BASE k ≤ 10 * w4 * 65536)
      && !d.flagAt pgFLD FLD.DSTAT_STALE k && w4 != 0
    let d := d.modFld k (fun h => { h with tick := d.time / 400000, mbSeq := q })
    if !ok then d
    else
      let p := d.bemfPsi k
      let d := d.modFld k (fun h => { h with n := h.n + 1, sum := h.sum + p })
      if d.getAt pgFLD FLD.BAND_B_EST_N k ≤ (d.fh k).n then d.bemfVerdict k else d

/-- T_MAG_WRITE (R310). -/
def Dev.tMagWrite (k : Fin 16) (v : BitVec 16) (d : Dev) : Dev :=
  let d := (d.putAt pgFLD FLD.T_MAG k v.toNat).putAt pgFLD FLD.DSTAT_STALE k 0
  d.modFld k (fun h => { h with magT := d.time })

/-- STALE (R310). -/
def Dev.magStale (k : Fin 16) (d : Dev) : Dev :=
  if d.getAt pgFLD FLD.TSRC_SRC k == 0 && !d.flagAt pgFLD FLD.DSTAT_STALE k
      && decide ((d.fh k).magT + 40000000 * d.getAt pgFLD FLD.TSRC_AGE k ≤ d.time) then
    (d.putAt pgFLD FLD.DSTAT_STALE k 1).fldEv k FLD.EV_STALE
  else d

/-- NEW_MACHINE and CLR_DEMAG (R311). -/
def Dev.newMachine (k : Fin 16) (d : Dev) : Dev :=
  (d.putAt pgFLD FLD.DSTAT_WRONG_MACHINE k 0).putAt pgFLD FLD.DSTAT_FIRST_DONE k 0

def Dev.clrDemag (k : Fin 16) (d : Dev) : Dev := d.putAt pgFLD FLD.DSTAT_DEMAG k 0

/-! ### Enable -/

/-- The enable conditions fail (R298). -/
def Dev.fldCfgBad (d : Dev) (k : Nat) : Bool :=
  let g := fun (f : Fld) => d.getAt pgFLD f k
  d.get (pgSTG k) COM.OWNER_KIND != 2 || g FLD.DCFG_MTYPE == 3
    || !d.flagAt pgCTX CTX.CCFG_VALID (g FLD.DCFG_CTX_CUR) || g FLD.DCFG_CTX_CUR == 0
    || (g FLD.DCFG_FS_EN == 1 && g FLD.VSENSE_VALID == 0)
    || decide (g FLD.FS_TIME_SAMPLE < 5 ∨ 83 < g FLD.FS_TIME_SAMPLE)
    || decide (g FLD.FS_TIME_MEAS_TIME < 50 ∨ 2000 < g FLD.FS_TIME_MEAS_TIME)
    || decide (g FLD.IPD_CFG_T_P < 5 ∨ 500 < g FLD.IPD_CFG_T_P)
    || g FLD.BAND_B_EST_N == 0

/-- A write of DCFG (R298). -/
def Dev.dcfgWrite (k : Fin 16) (w : Word) (d : Dev) : Dev :=
  let en := bitOf w.toNat 31
  let store := fun (d : Dev) => d.putAt pgFLD FLD.DCFG k (w.toNat &&& 0xFCFFFFC0)
  if d.flagAt pgFLD FLD.DSTAT_ENABLED k then
    if en then d.err pgFLD Err.FLD_CFG_LIVE
    else (store (d.fldStop k)).putAt pgFLD FLD.DSTAT_ENABLED k 0
  else
    let d := store d
    if !en then d
    else if d.fldCfgBad k then d.err pgFLD Err.FLD_CFG
    else (d.putAt pgFLD FLD.DSTAT_ENABLED k 1).modFld k (fun h => { h with n := 0, sum := 0 })

end Sys2Proof.Machine
end

