-- ==== Sys2Proof/Machine/Link.lean ====
section
/-! DEFINITION. The sending side of the Vernier link (R482 to R485): ports, sequence numbers, wrapped frames. The frames
themselves leave the device; the model keeps those of the last command that sent any (log entry 28). -/

namespace Sys2Proof.Machine

def Dev.modVlk (d : Dev) (f : VlkH → VlkH) : Dev := { d with vlk := f d.vlk }

/-- The array ID (R479). -/
def Dev.vId (d : Dev) : Nat := d.get (pgVLK 0) VLK.ARRAY_CFG_ID

/-- The device's link is enabled (R479). -/
def Dev.vOn (d : Dev) : Bool := d.enabled (pgVLK 0) || d.enabled (pgVLK 1)

/-- Port state (R481): 0 DOWN, 1 TRAINING, 2 UP, 3 DEGRADED. -/
def Dev.vPort (d : Dev) (p : Nat) : Nat := d.get (pgVLK p) VLK.PSTAT_STATE

def Dev.vUp (d : Dev) (p : Nat) : Bool := d.vPort p == 2

/-- Update element `i` of a list. -/
def listMod {α : Type} (l : List α) (i : Nat) (f : α → α) : List α :=
  match l, i with
  | [], _ => []
  | x :: t, 0 => f x :: t
  | x :: t, n + 1 => x :: listMod t n f

/-- Put a frame on a ring (R482): 0 ring A through VLK0, 1 ring B through VLK1. Through a port that is not UP it leaves
on the other ring with WRAPPED set; with no port UP it is not sent. -/
def Dev.vOut (d : Dev) (ring type sub src dst hops seq : Nat) (wrapped : Bool) (payload : List Byte) : Dev :=
  let other := 1 - ring
  let add := fun (r : Nat) (w : Bool) =>
    d.modVlk (fun v => { v with sent := v.sent ++ [⟨r, type, sub, src, dst, r + 2 * b2n w, hops, seq, payload⟩] })
  if d.vUp ring then add ring wrapped else if d.vUp other then add other true else d

/-- Send one frame of the device's own on some rings, all copies with one SEQ (R483, R485). -/
def Dev.vSend (d : Dev) (rings : List Nat) (type sub dst : Nat) (payload : List Byte) : Dev :=
  let seq := d.vlk.seqTx.getD (type - 1) 0
  let src := d.vId
  let d := d.modVlk (fun v => { v with seqTx := listMod v.seqTx (type - 1) (fun n => (n + 1) % 2 ^ 32) })
  rings.foldl (fun (d : Dev) r => d.vOut r type sub src dst 32 seq false payload) d

/-- A loop of context `x` reads the mailbox of loop `id` (R492). -/
def Dev.readsMailbox (d : Dev) (x id : Nat) : Bool :=
  match d.adm with
  | none => false
  | some a => a.loops.any (fun l => l.ctx == x && l.ins.contains (0x0C * 1024 + id))

/-- A publication that guests of this device read is mirrored to them (R493). -/
def Dev.mailboxOut (d : Dev) (l : LoopDecl) : Dev :=
  let to_ := ((d.vlk.away.filter (fun a => !a.lost && d.readsMailbox a.ctx l.id)).map (fun a => a.target)).eraseDups
  let words := (List.range 8).flatMap (fun w => natBytes 2 (d.mailbox l.id w))
  let body := [BitVec.ofNat 8 d.vId, BitVec.ofNat 8 l.ctx, BitVec.ofNat 8 l.id] ++ words
  to_.foldl (fun (d : Dev) t => d.vSend [0] 2 1 t body) (if to_.isEmpty then d else d.modVlk (fun v => { v with sent := [] }))

end Sys2Proof.Machine
end

