-- ==== Sys2Proof/Machine/Isa.lean ====
section
/-! DEFINITION. The loop-engine instructions (R263 to R284): fetching, comparing, executing and retiring one instruction
of a running job, one meaning per operation of R270. -/

namespace Sys2Proof.Machine

/-- An instruction that issues: the job, its loop record, the word, the registers of the leading copy, class S and
FORMAT 1. -/
structure Iss where
  run : JobRun
  loop : LoopDecl
  w : Nat
  dp : Dpath
  clsS : Bool
  fmt : Bool
  deriving DecidableEq, Repr

/-- What an instruction did: memory and device, registers, branch target, further cycles. -/
structure Done where
  soc : Soc
  eff : Eff
  next : Option Nat
  extra : Nat

/-- A fault kind of R284, or the effect. -/
inductive Res where
  | fault (kind : Nat)
  | ok (o : Done)

/-- The instruction that stream `st` of cluster `c` would issue (R249, R263): none on an idle, halted or frozen stream
(R15, R368). -/
def Soc.issue (s : Soc) (c : Fin 4) (st : Fin 3) : Option Iss :=
  let h := s.dev.clu[c]
  match h.run[st], h.halt[st] || s.dev.flag (pgCLU c) COM.ST_FROZEN with
  | some r, false =>
    match s.dev.loopDecl r.job.loop, s.dev.copies c st with
    | some l, j :: _ =>
      let p := h.dp[fin3 j]
      some ⟨r, l, memNat s.mem (l.progAddr + 8 * p.pc) 8, p, s.dev.classS r.job.ctx,
        s.dev.flagAt pgCTX CTX.CCFG_FORMAT r.job.ctx⟩
    | _, _ => none
  | _, _ => none

/-- Store the registers of a stream into each of its copies, and its cycles. -/
def Dev.putStream (d : Dev) (c : Fin 4) (st : Fin 3) (r : JobRun) (p : Dpath) : Dev :=
  let l := d.copies c st
  d.modClu c (fun h => { h with dp := l.foldl (fun v k => v.set (fin3 k) p) h.dp, run := h.run.set st (some r) })

/-- When an instruction issues: its operands can be used, and the stream, which has `quota` entries, has one free if
the instruction takes one (R248, R249). The second value counts the cycles it waited for the entry. -/
def JobRun.issueAt (r : JobRun) (quota w : Nat) : Nat × Nat :=
  let t := (insnReads w).foldl (fun t n => max t (mapGet (fun _ => 0) r.ready n)) r.cyc
  let used := r.infl.filter (fun e => decide (t < e))
  if insnCycles w ≤ 1 ∨ used.length < quota then (t, 0)
  else
    let f := used.foldl min (used.headD t)
    (f, f - t)

/-- The scoreboard of the job after an instruction that issued in cycle `t`: a transfer of control goes on when its own
count has passed, `more` cycles further on (R249, R268, R273). -/
def JobRun.issued (r : JobRun) (t w more : Nat) : JobRun :=
  let n := insnCycles w
  let usable := t + n + more
  { r with
    cyc := (if [0x18, 0x19].contains (opOf w) then t + n else t + 1) + more
    ready := (insnWrites w).foldl (fun m i =>
      mapPut (fun _ => 0) m i (if i = 20 then max usable (mapGet (fun _ => 0) m 20) else usable)) r.ready
    infl := r.infl.filter (fun e => decide (t < e)) ++ (if 1 < n then [usable] else []) }

/-- The cycle in which everything that the job has issued can be used: END retires one cycle after it. -/
def JobRun.drained (r : JobRun) : Nat := (r.infl ++ r.ready.map (fun e => e.2)).foldl max r.cyc

/-- The entries in use on a cluster, into INFLIGHT and PEAK (R248, R287). -/
def Dev.noteInflight (d : Dev) (c : Nat) : Dev :=
  let pg := pgCLU c
  let n := (d.cl c).run.toList.foldl (fun n r => n + (match r with | some r => r.infl.length | none => 0)) 0
  let d := d.put pg CLU.ST_INFLIGHT n
  if d.get pg CLU.SB_PEAK < n then d.put pg CLU.SB_PEAK n else d

/-- Retire an instruction: registers, program counter, loops, scoreboard, reports (R248, R249, R267, R273); a program
that runs past its end faults with CTX_PC. -/
def Soc.finish (c : Fin 4) (st : Fin 3) (i : Iss) (o : Done) : Soc :=
  let p := o.eff.dp
  let pc := match o.next with | some t => t | none => p.pc + 1
  let n := closeLoops p.stack pc
  let d := o.soc.dev
  let at_ := i.run.issueAt (d.getAt (pgCLU c) ⟨CLU.CFG.off, 0, 19 - 5 * st.val, 5⟩ 0) i.w
  let r := i.run.issued at_.1 i.w (o.extra + n.2.2)
  let d := d.report r.job.ctx o.eff
  let d := d.put (pgCLU c) CLU.SB_STALL_CNT (min 0xFFFF (d.get (pgCLU c) CLU.SB_STALL_CNT + at_.2))
  let d := (d.putStream c st r { p with pc := n.1, stack := n.2.1 }).noteInflight c
  let d := if i.loop.progLen ≤ n.1 then d.jobFault c st r 4 else d
  { o.soc with dev := d }

/-- One instruction of operation `op` on stream `st` of cluster `c`. Nothing happens unless the stream is about to issue
a well-formed instruction with that OP. -/
def Soc.instr (op : Nat) (f : Soc → Iss → Res) (c : Fin 4) (st : Fin 3) (v : Vote) (s : Soc) : Soc :=
  match s.issue c st with
  | none => s
  | some i =>
    if opOf i.w ≠ op ∨ insnReserved i.w then s
    else
      let r := s.dev.compare c st v
      let s := { s with dev := r.1 }
      if !r.2 then s
      else match f s i with
        | .fault k => s.map (fun d => d.jobFault c st { i.run with cyc := i.run.drained + insnCycles i.w } k)
        | .ok o => Soc.finish c st i o

/-- An operation on the registers alone. -/
def pureOp (f : Bool → Nat → Dpath → Eff) (s : Soc) (i : Iss) : Res := .ok ⟨s, f i.clsS i.w i.dp, none, 0⟩

def Soc.isaNop := Soc.instr 0x00 (pureOp opNop)
def Soc.isaLdi := Soc.instr 0x01 (pureOp opLdi)
def Soc.isaMov := Soc.instr 0x02 (pureOp opMov)
def Soc.isaAdd := Soc.instr 0x03 (pureOp opAdd)
def Soc.isaSub := Soc.instr 0x04 (pureOp opSub)
def Soc.isaNeg := Soc.instr 0x05 (pureOp opNeg)
def Soc.isaAbs := Soc.instr 0x06 (pureOp opAbs)
def Soc.isaMin := Soc.instr 0x07 (pureOp opMin)
def Soc.isaMax := Soc.instr 0x08 (pureOp opMax)
def Soc.isaMul := Soc.instr 0x09 (pureOp opMul)
def Soc.isaMac := Soc.instr 0x0A (pureOp opMac)
def Soc.isaMsu := Soc.instr 0x0B (pureOp opMsu)
def Soc.isaAclr := Soc.instr 0x0C (pureOp opAclr)
def Soc.isaRnd := Soc.instr 0x0D (pureOp opRnd)
def Soc.isaAsh := Soc.instr 0x0E (pureOp opAsh)
def Soc.isaSat := Soc.instr 0x21 (pureOp opSat)
def Soc.isaClarke := Soc.instr 0x28 (pureOp opClarke)
def Soc.isaPark := Soc.instr 0x29 (pureOp opPark)
def Soc.isaIpark := Soc.instr 0x2A (pureOp opIpark)
def Soc.isaSincos := Soc.instr 0x2B (pureOp opSincos)
def Soc.isaSvm := Soc.instr 0x2C (pureOp opSvm)

/-! ### Memory (R271) -/

/-- Word number that an access addresses: IMM[11:0], plus Vb with IDX. -/
def Iss.addr (i : Iss) : Nat :=
  immOf i.w % 4096 + (if bitOf (immOf i.w) 13 then i.dp.ru (sbOf i.w) else 0)

def Iss.half (i : Iss) : Bool := bitOf (immOf i.w) 12

/-- Address of word `w` of the context of an issuing instruction. -/
def Soc.ctxAddr (s : Soc) (i : Iss) (w : Nat) : Nat := s.dev.ctxWord i.run.job.ctx w

/-- A word of context memory, or fault kind 6 on an uncorrectable error (R284). -/
def Soc.ctxRead (s : Soc) (i : Iss) (w : Nat) : Except Nat Nat :=
  let a := s.ctxAddr i w
  if s.bad a then .error 6 else .ok (s.word a)

/-- A word of a space that LD reads: its value and whether it carries an exponent (R263, R269). -/
def Soc.spaceRead (s : Soc) (i : Iss) : Except Nat (Nat × Bool) :=
  let a := i.addr
  let area := fun (base size : Nat) (e : Bool) =>
    if size ≤ a then (.error 3 : Except Nat (Nat × Bool))
    else match s.ctxRead i (base + a) with
      | .ok v => .ok (v, e)
      | .error k => .error k
  match spaceOf i.w with
  | 0 => area 0 256 true
  | 1 => area (256 + 256 * i.run.bank) 256 true
  | 2 => area 768 64 false
  | 4 =>
    match s.dev.loopTable i.loop (immOf i.w / 2 ^ 24) with
    | none => .error 2
    | some t => if t.2 ≤ a then .error 3 else .ok (s.word (t.1 + 4 * a), false)
  | _ => .error 2

/-- LD (R269, R271). -/
def ldOp (s : Soc) (i : Iss) : Res :=
  match s.spaceRead i with
  | .error k => .fault k
  | .ok (v, e) =>
    let m := if i.half then signed 16 (v / 65536) else signed 16 v
    let ew := if e && !i.half then signed 6 (v / 65536) else 0
    let x := if i.fmt then toStage m ew i.dp.e else m
    .ok ⟨s, ⟨(i.dp.setR (dstOf i.w) x).zn x, i.fmt && stageLimited m (ew - i.dp.e), false, false⟩, none, 0⟩

/-- ST (R269, R271). -/
def stOp (s : Soc) (i : Iss) : Res :=
  if spaceOf i.w ≠ 0 then .fault 2
  else if 256 ≤ i.addr then .fault 3
  else
    let a := s.ctxAddr i i.addr
    if s.bad a then .fault 6
    else
      let old := s.word a
      let m := i.dp.ru (saOf i.w)
      let v :=
        if i.half then
          (if i.fmt then unsig 16 (fromStage (i.dp.r (saOf i.w)) i.dp.e) else m) * 65536 + old % 65536
        else if i.fmt then old / 2 ^ 22 * 2 ^ 22 + unsig 6 i.dp.e * 65536 + m
        else old / 65536 * 65536 + m
      .ok ⟨s.putWord a v, ⟨i.dp, i.fmt && i.half && stageLimited (i.dp.r (saOf i.w)) i.dp.e, false, false⟩, none, 0⟩

/-- LDA (R271). -/
def ldaOp (s : Soc) (i : Iss) : Res :=
  if spaceOf i.w ≠ 0 then .fault 2
  else if 256 ≤ i.addr + 1 then .fault 3
  else match s.ctxRead i i.addr, s.ctxRead i (i.addr + 1) with
    | .ok lo, .ok hi =>
      let x := signed 40 (lo + hi % 256 * 2 ^ 32)
      .ok ⟨s, .plain ((i.dp.setA (accOf i.w) x).zn x), none, 0⟩
    | _, _ => .fault 6

/-- STA (R271). -/
def staOp (s : Soc) (i : Iss) : Res :=
  if spaceOf i.w ≠ 0 then .fault 2
  else if 256 ≤ i.addr + 1 then .fault 3
  else
    let a := s.ctxAddr i i.addr
    let b := s.ctxAddr i (i.addr + 1)
    if s.bad a || s.bad b then .fault 6
    else
      let x := i.dp.a (accOf i.w)
      .ok ⟨(s.putWord a (unsig 32 x)).putWord b (unsig 32 (x.fdiv 4294967296)), .plain i.dp, none, 0⟩

def Soc.isaLd := Soc.instr 0x10 ldOp
def Soc.isaSt := Soc.instr 0x11 stOp
def Soc.isaLda := Soc.instr 0x12 ldaOp
def Soc.isaSta := Soc.instr 0x13 staOp

/-! ### Control (R254, R255, R268, R273) -/

/-- BR (R273). -/
def brOp (s : Soc) (i : Iss) : Res :=
  if !brCond i.dp i.w then .ok ⟨s, .plain i.dp, none, 0⟩
  else
    let t : Int := (i.dp.pc : Int) + 1 + signed 16 (immOf i.w)
    if t < 0 ∨ (i.loop.progLen : Int) ≤ t then .fault 4
    else .ok ⟨s, .plain { i.dp with stack := leaveLoops t.toNat i.dp.stack }, some t.toNat, 0⟩

/-- LOOP (R273). -/
def loopOp (s : Soc) (i : Iss) : Res :=
  let n := immOf i.w / 65536
  let b := immOf i.w % 65536
  if i.loop.progLen ≤ i.dp.pc + b then .fault 4
  else if 4 ≤ i.dp.stack.length then .fault 5
  else if b = 0 then .ok ⟨s, .plain i.dp, none, n⟩
  else .ok ⟨s, .plain { i.dp with stack := ⟨i.dp.pc + 1, i.dp.pc + 1 + b, n⟩ :: i.dp.stack }, none, 0⟩

/-- STAGE (R268). -/
def stageOp (s : Soc) (i : Iss) : Res :=
  let r := opStage i.fmt i.dp
  let s := if r.2 then s.map (fun d => d.errBy pgCTX Err.CTX_EXP i.run.job.ctx) else s
  .ok ⟨s, r.1, none, if i.fmt then 8 else 0⟩

def Soc.isaBr := Soc.instr 0x18 brOp
def Soc.isaLoop := Soc.instr 0x19 loopOp
def Soc.isaStage := Soc.instr 0x1A stageOp

/-- The loop's deadline in half nanoseconds (R71, R255). -/
def LoopDecl.halfDeadline (r : LoopDecl) : Nat := if r.trigger = 3 then 2000 * r.period else 2 * r.deadline

/-- A job completes: mailbox, counters, deadline (R254, R255, R287, R288, R359). -/
def Dev.jobEnd (d : Dev) (c : Fin 4) (st : Fin 3) (l : LoopDecl) (r : JobRun) : Dev :=
  let x := r.job.ctx
  let d := if l.outs.contains (0x0C * 1024 + l.id) then
      { d with mbox := (List.range 8).foldl (fun m w =>
        mapPut (fun _ => 0) m (8 * l.id + w) (mapGet (fun _ => 0) d.stage (8 * l.id + w))) d.mbox }.mailboxOut l
    else d
  let d := d.incWrapAt pgCTX CTX.JOBS x
  let d := if d.getAt pgCTX CTX.MAX_CYC x < r.cyc then d.putAt pgCTX CTX.MAX_CYC x r.cyc else d
  let d := d.streamFree c st r
  let d := if d.mode c = 1 ∧ d.get (pgCLU c) CLU.TRIAD_PHASE = 2 ∧ st.val = 0
    then d.modClu c (fun h => { h with agreed := h.agreed + 1 }) else d
  if d.halfNs ≤ 5 * r.job.trigT + l.halfDeadline then d
  else
    let d := (d.incSatAt pgCTX CTX.CNT_LATE_CNT x).irq pgCTX CTX.IRQ_LATE
    (d.irq (pgCLU c) CLU.IRQ_LATE).errBy pgCTX Err.CTX_LATE x

/-- END (R255, R269). -/
def Soc.isaEnd (c : Fin 4) (st : Fin 3) (v : Vote) (s : Soc) : Soc :=
  match s.issue c st with
  | none => s
  | some i =>
    if opOf i.w ≠ 0x1B ∨ insnReserved i.w then s
    else
      let r := s.dev.compare c st v
      let s := { s with dev := r.1 }
      if !r.2 then s
      else s.map (fun d => d.jobEnd c st i.loop { i.run with cyc := i.run.drained + 1 + (if i.fmt then 8 else 0) })

/-! ### Limits (R281 to R283) -/

/-- CLAMP (R282). -/
def clampOp (s : Soc) (i : Iss) : Res :=
  let a := i.dp.r (saOf i.w)
  let x := min (max a (i.dp.r (sbOf i.w))) (i.dp.r (scOf i.w))
  let l := decide (x ≠ a)
  let w := s.ctxAddr i (832 + immOf i.w % 4)
  let s := if bitOf (immOf i.w) 2 then s.putWord w (unsig 16 (satInt 16 (a - x))) else s
  .ok ⟨s, ⟨{ ((i.dp.setR (dstOf i.w) x).zn x) with lf := l }, l, false, false⟩, none, 0⟩

/-- RAMP (R283). -/
def rampOp (s : Soc) (i : Iss) : Res :=
  let j := immOf i.w % 4
  -- the value of a slot that initialises is not read
  let y : Except Nat Nat := match s.ctxRead i 840 with
    | .ok f => if bitOf f j then .ok 0 else s.ctxRead i (836 + j)
    | .error k => .error k
  match s.ctxRead i 840, y, s.ctxRead i (256 + 256 * i.run.bank + 248 + j) with
  | .ok f, .ok y, .ok rate =>
    let r := if bitOf f j then (i.dp.r (sbOf i.w), false)
      else rampStep (signed 16 y) (i.dp.r (saOf i.w)) (signed 16 rate)
    let s := s.putWord (s.ctxAddr i (836 + j)) (unsig 16 r.1)
    let s := if bitOf f j then s.putWord (s.ctxAddr i 840) (f - 2 ^ j) else s
    .ok ⟨s, .plain { ((i.dp.setR (dstOf i.w) r.1).zn r.1) with lf := r.2 }, none, 0⟩
  | _, _, _ => .fault 6

/-- INTEG (R281). -/
def integOp (s : Soc) (i : Iss) : Res :=
  let k := immOf i.w % 4
  let b := 256 + 256 * i.run.bank + 240 + 2 * k
  -- KB and the excess are read with BC only
  let back := fun (w : Nat) => (if bitOf (immOf i.w) 2 then s.ctxRead i w else .ok 0 : Except Nat Nat)
  match s.ctxRead i b, back (b + 1), back (832 + k) with
  | .ok lim, .ok kb, .ok exc =>
    let r := integ (i.dp.a (accOf i.w)) (i.dp.r (saOf i.w)) (i.dp.r (sbOf i.w)) (signed 16 (lim / 65536)) (signed 16 lim)
      (signed 16 kb) (signed 16 exc) (bitOf (immOf i.w) 2)
    .ok ⟨s, ⟨{ ((i.dp.setA (accOf i.w) r.1).zn r.1) with vf := false, lf := r.2 }, r.2, false, r.2⟩, none, 0⟩
  | _, _, _ => .fault 6

def Soc.isaClamp := Soc.instr 0x20 clampOp
def Soc.isaRamp := Soc.instr 0x22 rampOp
def Soc.isaInteg := Soc.instr 0x23 integOp

/-! ### Look-up (R278 to R280) -/

/-- GTL (R278). -/
def gtlOp (s : Soc) (i : Iss) : Res :=
  let x := i.run.job.ctx
  let n := s.dev.getAt pgCTX CTX.CCFG_GT_N x
  let b := s.dev.get pgCTX CTX.POOL_ADDR + 4 * s.dev.getAt pgCTX CTX.CCFG_GT_BASE x
  if n = 0 then .fault 2
  else if (gainPoints n (i.dp.r (saOf i.w))).any (fun p => s.bad (b + 4 * p)) then .fault 6
  else
    let y := gainAt ((List.range n).map (fun p => signed 16 (s.word (b + 4 * p)))) (i.dp.r (saOf i.w))
    .ok ⟨s, .plain ((i.dp.setR (dstOf i.w) y).zn y), none, 0⟩

/-- The words of the table that an instruction names (R271, R279). -/
def Soc.tableWords (s : Soc) (i : Iss) : Except Nat (List Nat) :=
  if spaceOf i.w ≠ 4 then .error 2
  else match s.dev.loopTable i.loop (immOf i.w / 2 ^ 24) with
    | none => .error 2
    | some t => .ok ((List.range t.2).map (fun k => s.word (t.1 + 4 * k)))

/-- Write a look-up result with L. -/
def lookOut (s : Soc) (i : Iss) (r : Option (Int × Bool)) : Res :=
  match r with
  | none => .fault 3
  | some (y, l) => .ok ⟨s, .plain { ((i.dp.setR (dstOf i.w) y).zn y) with lf := l }, none, 0⟩

/-- TL1 (R279). -/
def tl1Op (s : Soc) (i : Iss) : Res :=
  match s.tableWords i with
  | .error k => .fault k
  | .ok t => lookOut s i (tl1 t (i.dp.r (saOf i.w)))

/-- TL2 (R279). -/
def tl2Op (s : Soc) (i : Iss) : Res :=
  match s.tableWords i with
  | .error k => .fault k
  | .ok t => lookOut s i (tl2 t (i.dp.r (saOf i.w)) (i.dp.r (sbOf i.w)))

/-- PSEL (R280). L is set when no row is selected, as R280 says. -/
def pselOp (s : Soc) (i : Iss) : Res :=
  match s.tableWords i with
  | .error k => .fault k
  | .ok t =>
    match psel t (i.dp.ru (saOf i.w)) (i.dp.ru (sbOf i.w)) (immOf i.w % 65536) with
    | none => .fault 3
    | some (ch, cx, l) =>
      let c := signed 16 ch
      let p := ((i.dp.setR (dstOf i.w) c).setR (dstOf i.w + 1) (signed 16 cx)).zn c
      .ok ⟨s, .plain { p with lf := p.lf || l }, none, 0⟩

def Soc.isaGtl := Soc.instr 0x30 gtlOp
def Soc.isaTl1 := Soc.instr 0x31 tl1Op
def Soc.isaTl2 := Soc.instr 0x32 tl2Op
def Soc.isaPsel := Soc.instr 0x2D pselOp

/-! ### Outputs (R272) -/

/-- The page, instance and offset of a stage output's register (R272): none for a selector the table does not list, or
a leg that the stage does not have. -/
def Dev.outReg (d : Dev) (k sel : Nat) : Option (PageKind × Nat × Nat) :=
  if sel < 128 then
    match (d.stageLegs k)[sel / 8]?, [0x50, 0x54, 0x58, 0x60, 0x5C][sel % 8]? with
    | some n, some o => some (.leg, n, o)
    | _, _ => none
  else if sel = 128 then some (.stg, k, 0x48)
  else if sel = 129 then some (.stg, k, 0x4C)
  else if sel ≤ 133 then some (.stg, k, 0x50 + 4 * (sel - 130))
  else none

/-- Compare and PHASE registers take Va in [31:16] (R272). -/
def outHigh (sel : Nat) : Bool := decide (130 ≤ sel) || (decide (sel < 128) && (sel % 8 == 0 || sel % 8 == 1 || sel % 8 == 3))

/-- A write by context `x` to a register of a stage or leg (R168). -/
def Dev.outWrite (d : Dev) (x : Nat) (t : PageKind × Nat × Nat) (v : Nat) : Dev :=
  let pg := match t.1 with | .leg => pgLEG t.2.1 | _ => pgSTG t.2.1
  match regAt t.1 t.2.1 t.2.2 with
  | some (r, _) => d.fieldWrite t.1 t.2.1 t.2.2 (pg + t.2.2) r (BitVec.ofNat 32 v) x
  | none => d

/-- OUT (R254, R269, R272). -/
def outOp (s : Soc) (i : Iss) : Res :=
  let imm := immOf i.w
  let x := i.run.job.ctx
  let sel := imm % 256
  let val := fun (r : Nat) => if i.fmt then unsig 16 (fromStage (i.dp.r r) i.dp.e) else i.dp.ru r
  let a := val (saOf i.w)
  let wide := bitOf imm 13
  let v := if wide then a * 65536 + val (sbOf i.w) else if outHigh sel then a * 65536 else a
  let lim := fun (r : Nat) => i.fmt && stageLimited (i.dp.r r) i.dp.e
  let done := fun (d : Dev) => Res.ok ⟨{ s with dev := d },
    ⟨i.dp, lim (saOf i.w) || (wide && lim (sbOf i.w)), false, false⟩, none, 0⟩
  match i.loop.outs[imm / 256 % 16]? with
  | none => .fault 2
  | some o =>
    if spaceOf i.w ≠ 3 then .fault 2
    else if o / 1024 = 0x0C then
      if bitOf imm 12 then .fault 1
      else if 8 ≤ sel then .fault 3
      else
        let w := if wide then v else a
        done { s.dev with stage := mapPut (fun _ => 0) s.dev.stage (8 * i.loop.id + sel) w }
    else if o / 1024 = 0x01 then
      let k := o % 16
      if bitOf imm 12 ∧ (128 ≤ sel ∨ sel % 8 ≠ 0) then .fault 1
      else match s.dev.outReg k sel with
        | none => .fault 3
        | some t =>
          if bitOf imm 12 then
            let on := (65536 - a) / 2
            let off := min ((65536 + a) / 2) 65535
            done ((s.dev.outWrite x t (on * 65536)).outWrite x (t.1, t.2.1, 0x54) (off * 65536))
          else done (s.dev.outWrite x t v)
    else .fault 2

/-- OUTC (R168, R272). -/
def outcOp (s : Soc) (i : Iss) : Res :=
  match i.loop.outs[immOf i.w / 256 % 16]? with
  | none => .fault 2
  | some o =>
    if o / 1024 ≠ 0x01 then .fault 2
    else
      let k := o % 16
      .ok ⟨s.map (fun d => d.commitReq .stg (pgSTG k) k true (immOf i.w % 4) i.run.job.ctx), .plain i.dp, none, 0⟩

def Soc.isaOut := Soc.instr 0x38 outOp
def Soc.isaOutc := Soc.instr 0x39 outcOp

/-- RESERVED_OPCODE (R264): an instruction with a reserved OP, SPACE or field does not execute. -/
def Soc.isaReserved (c : Fin 4) (st : Fin 3) (v : Vote) (s : Soc) : Soc :=
  match s.issue c st with
  | none => s
  | some i =>
    if !insnReserved i.w then s
    else
      let r := s.dev.compare c st v
      let s := { s with dev := r.1 }
      if !r.2 then s else s.map (fun d => d.jobFault c st { i.run with cyc := i.run.drained + 1 } 1)

end Sys2Proof.Machine
end

