-- ==== Sys2Proof/Machine/Redundant.lean ====
section
/-! DEFINITION. Redundant execution (chapter 13): finder rotation and in-operation slices, recovery after a compare
fault, mode changes, the agreement exchange, the comparator test and the debugger; and the self-test of the datapaths
and of host runs (chapter 16). -/

namespace Sys2Proof.Machine

/-! ### Roles -/

/-- Write a field of CLU CFG in both copies (R287). -/
def Dev.cluCfg (d : Dev) (c : Nat) (f : Fld) (v : Nat) : Dev :=
  let pg := pgCLU c
  (d.put pg f v).put pg { f with off := 0xF00 } v

/-- Give MAIN, CHECK and FINDER to the live datapaths in ascending order; 3 names none (R354, R363). -/
def Dev.rolesAscending (d : Dev) (c : Nat) : Dev :=
  let l := (List.range 3).filter (d.live c)
  ((d.cluCfg c CLU.CFG_MAIN (l.getD 0 3)).cluCfg c CLU.CFG_CHECK (l.getD 1 3)).cluCfg c CLU.CFG_FINDER (l.getD 2 3)

/-- The pair of a cluster has a finder (R68). -/
def Dev.hasFinder (d : Dev) (c : Nat) : Bool := d.mode c == 0 && !(d.copies c 1).isEmpty

/-- Pc and Fc of a pair are idle. -/
def Dev.pairIdle (d : Dev) (c : Nat) : Bool := (d.cl c).run[0].isNone && (d.cl c).run[1].isNone

def Dev.clusterIdle (d : Dev) (c : Nat) : Bool := (d.cl c).run.toList.all Option.isNone

/-! ### Contexts of a stream -/

/-- Contexts on a stream. -/
def Dev.ctxsOn (d : Dev) (code : Nat) : List Nat :=
  match d.adm with
  | none => []
  | some a => a.order.filter (fun x => d.flagAt pgCTX CTX.CCFG_VALID x && d.ctxStream x == code)

/-- h(c) in the admitted set; 0xFF for none (R76). -/
def Dev.hostOf (d : Dev) (c : Nat) : Nat := match d.adm with | some a => a.hosts.getD c 0xFF | none => 0xFF

/-! ### Retirement (R87, R356) -/

/-- Datapath `j` of cluster `c` is retired: registers and interrupts of ALM, CLU and BIST (R87, R443, R445). -/
def Dev.retire (d : Dev) (c j : Nat) : Dev :=
  let r := d.get pgALM ALM.RETIRED
  let d := d.put pgALM ALM.RETIRED (setBit r (3 * c + j) true)
  let d := { d with almanac := { d.almanac with reduced := d.almBusy } }
  let d := if d.setAdmitted then d.put pgALM ALM.ST_STATE 5 else d
  let d := d.irqIf (d.adm.isSome || d.almBusy) pgALM ALM.IRQ_REDUCED
  let d := (d.irq pgALM ALM.IRQ_RETIRED).put (pgCLU c) CLU.ST_LIVE (setBit (d.get (pgCLU c) CLU.ST_LIVE) j false)
  d.irq (pgCLU c) CLU.IRQ_RETIRED

/-- Slices stop until the next ADMIT (R87, R445). -/
def Dev.stopSlices (d : Dev) : Dev :=
  ((d.put pgALM ALM.ST_SLICES_STOPPED 1).put pgBIST BIST.ST_SLICES_STOPPED 1).irq pgBIST BIST.IRQ_COVERAGE_LOST

/-! ### In-operation slices (R76 to R78, R355 to R357, R444 to R446) -/

/-- The slice of a cluster. -/
def Dev.sliceOn (d : Dev) (c : Nat) : Option SliceH :=
  match d.slice with | some s => if s.cluster = c then some s else none | none => none

/-- The scheduled start of a cluster's next slice. -/
def Dev.sliceStart (d : Dev) (c : Nat) : Option Nat := (d.sliceDue.find? (fun e => e.1 == c)).map (fun e => e.2)

/-- The next period of a cluster's slices. -/
def Dev.sliceNext (d : Dev) (c : Nat) : Dev :=
  let p := match d.adm with | some a => 400 * a.slicePeriod | none => 0
  { d with sliceDue := d.sliceDue.map (fun e => if e.1 = c then (c, e.2 + p) else e) }

/-- A slice is passed over (R357, R374). -/
def Dev.sliceSkipped (d : Dev) (c : Nat) : Dev := (d.incSat (pgCLU c) CLU.ROT_SKIP_CNT).sliceNext c

/-- The engine is free for a slice (R442, R444): no slice, no run, a verified programme, RUN mode. -/
def Dev.engineFree (d : Dev) : Bool :=
  d.slice.isNone && !d.flag pgBIST BIST.ST_BUSY && d.flag pgBIST BIST.ST_PROG_VALID && d.fwRuns && d.pwrMode == 0
  && d.get pgLCS LCS.ST_STATE != 4

/-- Time 0: the datapath `dut` is taken, and with `rot` the roles rotate and the Fc contexts move to h(c) (R355). -/
def Dev.sliceBegin (d : Dev) (c dut sched : Nat) (rot rec : Bool) : Dev :=
  let pg := pgCLU c
  let fc := if rot then d.ctxsOn (16 * c + 1) else []
  let d := if rot then
      let m := d.get pg CLU.CFG_MAIN
      let k := d.get pg CLU.CFG_CHECK
      let f := d.get pg CLU.CFG_FINDER
      let d := ((d.cluCfg c CLU.CFG_MAIN k).cluCfg c CLU.CFG_CHECK f).cluCfg c CLU.CFG_FINDER m
      (d.irq pg CLU.IRQ_HANDOVER).incWrap pg CLU.ROT_ROT_CNT
    else d
  let h := d.hostOf c
  let fc := if h = 0xFF then [] else fc
  let d := d.moveAll 1 h fc
  let d := { d with slice := some { cluster := c, sched := sched, t0 := some d.time, dut := dut, bist := false
                                    ended := false, recovery := rec, moved := fc, home := 16 * c + 1 } }
  ((d.put pg CLU.ST_SLICE 1).put pgBIST BIST.ST_SLICE 1).put pgBIST BIST.ST_TARGET (3 * c + dut)

/-- A scheduled slice of a cluster reaches time 0 (R355, R357); a mismatch in the same TCLK acts first and the slice
counts as skipped (R374). A mode change that is armed holds the slice back (R364). -/
def Dev.sliceScheduled (d : Dev) (c : Nat) : Dev :=
  let pg := pgCLU c
  match d.sliceStart c with
  | none => d
  | some t =>
    let m := d.get pg CLU.MODE_STAT_STATE
    if !d.engineFree || decide (d.time < t) || !d.hasFinder c || !d.pairIdle c || m == 2 || m == 3
        || d.flag pgALM ALM.ST_SLICES_STOPPED then d
    else if d.flag pg CLU.MM_INFO_LATCHED && d.get pg CLU.MM_TIME == d.time32 then d.sliceSkipped c
    else
      let d := d.put pg CLU.ROT_DEFER (min 0xFFFF ((d.time - t) / 400))
      (d.sliceNext c).sliceBegin c (d.get pg CLU.CFG_MAIN) t true false

/-- A recovery slice starts (R354, R446): by rotation on a pair with a finder, else on the next datapath to test. -/
def Dev.sliceRecovery (d : Dev) (c : Nat) : Dev :=
  let pg := pgCLU c
  match (d.cl c).recov with
  | none => d
  | some r =>
    if !d.flag pg CLU.MM_INFO_RECOVERING || !d.engineFree then d
    else if d.hasFinder c then
      if r.todo.isEmpty || !d.pairIdle c then d else d.sliceBegin c (d.get pg CLU.CFG_MAIN) d.time true true
    else match r.todo with
      | [] => d
      | j :: _ => d.sliceBegin c j d.time false true

/-- SLICE_TIME_0: a scheduled slice, or one of a recovery. -/
def Dev.sliceTime0 (c : Fin 4) (recovery : Bool) (d : Dev) : Dev :=
  if recovery then d.sliceRecovery c else d.sliceScheduled c

/-- SLICE_SKIP (R357): the next scheduled start of any cluster has come before time 0. -/
def Dev.sliceSkip (c : Fin 4) (d : Dev) : Dev :=
  match d.sliceStart c, d.adm with
  | some t, some a =>
    if decide (t + 400 * a.slicePeriod ≤ d.time)
        || d.sliceDue.any (fun e => e.1 != c.val && decide (t < e.2 ∧ e.2 ≤ d.time)) then d.sliceSkipped c else d
  | _, _ => d

/-- SLICE_BIST_ENTRY (R444): 2 µs after time 0. -/
def Dev.sliceBistEntry (c : Fin 4) (d : Dev) : Dev :=
  match d.sliceOn c with
  | none => d
  | some s =>
    match s.t0 with
    | none => d
    | some t => if s.bist || s.ended || decide (d.time < t + 800) then d else { d with slice := some { s with bist := true } }

/-- The datapath under test is reset (R444). -/
def Dev.dpReset (d : Dev) (c j : Nat) : Dev := d.modClu c (fun h => { h with dp := h.dp.set (fin3 j) Dpath.cleared })

/-- A datapath to be tested has passed or failed (R354). -/
def Dev.recovered (d : Dev) (c j : Nat) (fail : Bool) : Dev :=
  d.modClu c (fun h => { h with recov := h.recov.map (fun r =>
    if r.todo.contains j || fail then
      { r with todo := r.todo.filter (fun x => x != j), failed := if fail then r.failed ++ [j] else r.failed }
    else r) })

/-- The result words of a target (R440, R451). -/
def Dev.bistResult (d : Dev) (t setting : Nat) (pass : Bool) (sig : Word) : Dev :=
  let d := ((d.putAt pgBIST BIST.RESULT_STATE t (if pass then 1 else 2)).putAt pgBIST BIST.RESULT_SETTING t setting).putAt
    pgBIST BIST.SIG t sig.toNat
  if pass then d.incSatAt pgBIST BIST.RESULT_PASS_CNT t
  else ((d.irq pgBIST BIST.IRQ_FAIL).err pgBIST Err.BIST_FAIL).incSat pgBIST BIST.FAIL_CNT

/-- SLICE_END (R356, R440, R444, R445): 52 µs after time 0; `pass` says that the signature is the segment's expected
one. -/
def Dev.sliceEnd (c : Fin 4) (sig : Word) (pass : Bool) (d : Dev) : Dev :=
  match d.sliceOn c with
  | none => d
  | some s =>
    match s.t0 with
    | none => d
    | some t =>
      if !s.bist || decide (d.time < t + 20800) then d
      else
        let k := 3 * c.val + s.dut
        let seg := d.getAt pgBIST BIST.RESULT_SEG k
        let d := (d.dpReset c s.dut).bistResult k 1 pass sig
        let d := d.put pgBIST BIST.SLICE_LAST (k * 2 ^ 28 + (if pass then 1 else 2) * 2 ^ 26 + seg * 2 ^ 21)
        let d := d.recovered c s.dut (!pass)
        let d := { d with slice := some { s with bist := false, ended := true } }
        if pass then
          ((d.putAt pgBIST BIST.RESULT_SEG k ((seg + 1) % 32)).incWrap pgBIST BIST.SLICE_CNT).irq pgBIST BIST.IRQ_SLICE_DONE
        else
          let d := (d.retire c s.dut).stopSlices
          let d := if d.mode c = 0 ∧ d.get (pgCLU c) CLU.CFG_FINDER = s.dut then d.cluCfg c CLU.CFG_FINDER 3 else d
          let h := d.hostOf c
          -- the move of time 0 becomes permanent (R86 reason 3); FROM is the finder stream
          let d := s.moved.foldl (fun (d : Dev) x => (d.putAt pgCTX CTX.CCFG_STREAM x s.home).moveNow 3 h x) d
          let d := { d with slice := none, sliceDue := d.sliceDue.filter (fun e => e.1 != c.val) }
          (d.put (pgCLU c) CLU.ST_SLICE 0).put pgBIST BIST.ST_SLICE 0

/-- The slice is over and its contexts return (R76, R86 reason 2). -/
def Dev.sliceReturn (d : Dev) (s : SliceH) : Dev :=
  let d := d.moveAll 2 s.home s.moved
  ({ d with slice := none }.put (pgCLU s.cluster) CLU.ST_SLICE 0).put pgBIST BIST.ST_SLICE 0

/-- SLICE_HANDBACK (R76): 54 µs after time 0. -/
def Dev.sliceHandback (c : Fin 4) (d : Dev) : Dev :=
  match d.sliceOn c with
  | none => d
  | some s =>
    match s.t0 with
    | none => d
    | some t => if s.ended && decide (t + 21600 ≤ d.time) then d.sliceReturn s else d

/-- A slice is abandoned by a power mode or a clock hold (R449). -/
def Dev.sliceAbandon (d : Dev) : Dev :=
  match d.slice with
  | none => d
  | some s =>
    if s.ended then d
    else
      let k := 3 * s.cluster + s.dut
      let d := (d.dpReset s.cluster s.dut).incSat (pgCLU s.cluster) CLU.ROT_SKIP_CNT
      let d := d.put pgBIST BIST.SLICE_LAST (k * 2 ^ 28 + 3 * 2 ^ 26 + d.getAt pgBIST BIST.RESULT_SEG k * 2 ^ 21)
      (d.err pgBIST Err.BIST_ABANDONED).sliceReturn s

/-- BACKGROUND_PROMOTION (R79): the request of a background loop has waited for its staleness bound. -/
def Dev.backgroundPromotion (id : BitVec 8) (d : Dev) : Dev :=
  let l := id.toNat
  match d.loopDecl l with
  | none => d
  | some r =>
    let due := fun (j : Job) => j.loop == l && !j.promoted && decide (j.trigT + 400 * r.period ≤ d.time)
    if r.trigger ≠ 3 ∨ !d.ready.any due then d
    else
      let d := { d with ready := d.ready.map (fun j => if due j then { j with promoted := true } else j) }
      let d := match d.ageSlot l with | some i => d.incSatAt pgALM ALM.AGE_PROM i | none => d
      d.irq pgALM ALM.IRQ_PROMOTED

/-! ### Mode changes (R361 to R364) -/

/-- The stream of a context after a mode change of its cluster (R363). -/
def modeStream (c from_ to_ live s : Nat) : Nat :=
  if s / 16 ≠ c then s
  else match from_, to_ with
    | 0, 1 => 16 * c + 2
    | 0, 2 => if s % 16 = 0 then 16 * c + 3 else 16 * c + 4
    | 1, 0 => 16 * c
    | 1, 2 => 16 * c + 3
    | 2, 0 => if s % 16 = 3 ∨ live < 3 then 16 * c else 16 * c + 1
    | 2, 1 => 16 * c + 2
    | _, _ => s

/-- The stream of every context after a mode change of cluster `c`. -/
def Dev.modeStreams (d : Dev) (a : Admitted) (c to_ : Nat) : List (Nat × Nat) :=
  a.order.map (fun x => (x, modeStream c (d.mode c) to_ (d.liveCount c) (d.ctxStream x)))

/-- The check of R363: groups 8 and 9 for the set as it would stand after the change, with the jitter J_MODE. -/
def Dev.modePlan (d : Dev) (a : Admitted) (c to_ : Nat) : Check (Admitted × List (Nat × Nat)) :=
  let ff := d.floorHz a
  let cmax := ((a.loops.filter (fun l => d.ctxStream l.ctx / 16 == c)).map (fun l => l.cyc)).foldl max 0
  let off := (List.range 4).flatMap (fun k => offeredBy k (if k = c then to_ else d.mode k) (d.liveCount k))
  let two := (2000 * ff + 999999999) / 1000000000
  d.placeSet ⟨off, hostsOf off, two, some (c, two + cmax), some (d.modeStreams a c to_)⟩ a

/-- Scoreboard entries of the streams (R248). -/
def Dev.modeQuota (d : Dev) (c to_ : Nat) : Dev :=
  let q : Nat × Nat × Nat := match to_ with | 0 => (10, 6, 0) | 1 => (16, 0, 0) | _ => (6, 5, 5)
  ((d.cluCfg c CLU.CFG_QUOTA0 q.1).cluCfg c CLU.CFG_QUOTA1 q.2.1).cluCfg c CLU.CFG_QUOTA2 q.2.2

/-- The mode of a cluster becomes `to_`: both copies of CFG, MODE_ACT, the roles that a triad leaves open, and the voter
with every copy in the vote. -/
def Dev.modeSet (d : Dev) (c to_ : Nat) : Dev :=
  let pg := pgCLU c
  let d := if d.mode c = 1 ∧ to_ ≠ 1 then d.rolesAscending c else d
  let d := ((d.cluCfg c CLU.CFG_MODE to_).modeQuota c to_).put pg CLU.ST_MODE_ACT to_
  (d.put pg CLU.TRIAD_PHASE 0).put pg CLU.TRIAD_ODD 3

/-- The schedule of slices for the clusters that now have a host, at equal spacing (R76, R78, R364): it goes on from the
start of the first cluster that keeps one (log entry 20). -/
def Dev.resliced (d : Dev) (a : Admitted) : Dev :=
  let m := (List.range 4).filter (fun c => a.hosts.getD c 0xFF != 0xFF)
  let base := match m.find? (fun c => (d.sliceStart c).isSome) with
    | some c => ((d.sliceStart c).getD 0 + 400 * a.slicePeriod) - 400 * a.sliceOffset c
    | none => d.time + 400 * a.slicePeriod
  { d with sliceDue := if a.sliceEn && !d.flag pgALM ALM.ST_SLICES_STOPPED then m.map (fun c =>
      (c, base + 400 * a.sliceOffset c)) else [] }

/-- Apply a mode change with the set as the check left it (R363). -/
def Soc.modeApply (s : Soc) (c to_ : Nat) (p : Option (Admitted × List (Nat × Nat))) : Soc :=
  let d := s.dev
  match d.adm, p with
  | some a, none =>
    let st := d.modeStreams a c to_
    s.map (fun d => (st.foldl (fun (d : Dev) e => d.putAt pgCTX CTX.CCFG_STREAM e.1 e.2) d).modeSet c to_)
  | none, _ => s.map (fun d => d.modeSet c to_)
  | some _, some (b, st) =>
    let s := s.map (fun d =>
      let d := (st.foldl (fun (d : Dev) e => d.putAt pgCTX CTX.CCFG_STREAM e.1 e.2) d).modeSet c to_
      let d := { d with adm := some b }
      ((List.range 4).foldl (fun (d : Dev) k => d.applyServed b k) d).resliced b)
    s.writeRecord ⟨b, st⟩

/-- A refused mode request (R362). -/
def Dev.modeRefuse (d : Dev) (c code to_ : Nat) : Dev :=
  let pg := pgCLU c
  let st := d.get pg CLU.MODE_STAT_STATE
  let d := (d.err pg code).put pg CLU.MODE_STAT_CODE code
  if 1 ≤ st ∧ st ≤ 3 then d else (d.put pg CLU.MODE_STAT_STATE 5).put pg CLU.MODE_STAT_TARGET to_

/-- A write of MODE_REQ with GO = 1 (R362). -/
def Soc.modeReq (c : Fin 4) (to_ when : BitVec 2) (stage : BitVec 4) (s : Soc) : Soc :=
  let s := s.map (fun d =>
    ((d.put (pgCLU c) CLU.MODE_REQ_MODE to_.toNat).put (pgCLU c) CLU.MODE_REQ_WHEN when.toNat).put (pgCLU c)
      CLU.MODE_REQ_STAGE stage.toNat)
  let d := s.dev
  let pg := pgCLU c
  let st := d.get pg CLU.MODE_STAT_STATE
  let refuse := fun (code : Nat) => s.map (fun d => d.modeRefuse c code to_.toNat)
  if to_ = 3 || when = 3 || decide (1 ≤ st ∧ st ≤ 3) || d.flag pg CLU.MM_INFO_LATCHED || d.almBusy then refuse Err.RX_MODE_REQ
  else if d.dupLatentDiff .clu pg || (dupWords .clu).any (fun w => d.latWas.contains (pg + w.2, d.time)) then refuse Err.RX_LATENT
  else if to_ = 1 && decide (d.liveCount c < 3) then refuse Err.RX_MODE_LIVE
  else
    let s := s.map (fun d => d.put pg CLU.MODE_STAT_TARGET to_.toNat)
    if d.almState = 0 then
      (s.modeApply c to_.toNat none).map (fun d => (d.put pg CLU.MODE_STAT_STATE 4).irq pg CLU.IRQ_HANDOVER)
    else s.map (fun d => (d.put pg CLU.MODE_STAT_STATE 1).modClu c (fun h =>
      { h with bound := false, modeWhen := when.toNat, modeStage := stage.toNat }))

/-- A failed check of R363. -/
def Dev.modeFailed (d : Dev) (c : Nat) (r : Refuse) : Dev :=
  let d := (d.admRefuse r).put pgALM ALM.ST_LAST_REFUSED 1
  (d.err (pgCLU c) Err.RX_MODE_PLACE).put (pgCLU c) CLU.MODE_STAT_CODE Err.RX_MODE_PLACE

/-- MODE_CHECK_DONE (R363). -/
def Dev.modeCheckDone (c : Fin 4) (d : Dev) : Dev :=
  let pg := pgCLU c
  if d.get pg CLU.MODE_STAT_STATE ≠ 1 then d
  else match d.adm with
    | none => d.put pg CLU.MODE_STAT_STATE 2
    | some a => match d.modePlan a c (d.get pg CLU.MODE_STAT_TARGET) with
      | .ok _ => d.put pg CLU.MODE_STAT_STATE 2
      | .error r => (d.modeFailed c r).put pg CLU.MODE_STAT_STATE 5

/-- An armed change reaches its boundary: nothing new dispatches (R364). -/
def Dev.modeBound (d : Dev) (c : Nat) : Dev :=
  if d.get (pgCLU c) CLU.MODE_STAT_STATE = 2 then d.modClu c (fun h => { h with bound := true }) else d

/-- MODE_BOUNDARY (R364): at once with WHEN 0, at the zero event of STAGE with WHEN 1. The array boundary of WHEN 2 is a
row of its own. -/
def Dev.modeBoundary (c : Fin 4) (d : Dev) : Dev :=
  let h := d.cl c
  if h.modeWhen == 0 || (h.modeWhen == 1 && (d.sh h.modeStage).zeroT == d.time + 1) then d.modeBound c else d

/-- MODE_HANDOVER (R363, R364): every stream of the cluster is idle after the boundary, and no slice is under way on it:
STATE becomes HANDOVER with the new CFG. From there the new streams dispatch; the next row of the command makes STATE
DONE. -/
def Soc.modeHandover (c : Fin 4) (s : Soc) : Soc :=
  let d := s.dev
  let pg := pgCLU c
  if d.get pg CLU.MODE_STAT_STATE = 3 then s.map (fun d => (d.put pg CLU.MODE_STAT_STATE 4).irq pg CLU.IRQ_HANDOVER)
  else if d.get pg CLU.MODE_STAT_STATE ≠ 2 || !(d.cl c).bound || !d.clusterIdle c || (d.sliceOn c).isSome then s
  else
    let to_ := d.get pg CLU.MODE_STAT_TARGET
    let p := match d.adm with
      | none => none
      | some a => match d.modePlan a c to_ with | .ok p => some p | .error _ => none
    (s.modeApply c to_ p).map (fun d =>
      (d.modClu c (fun h => { h with bound := false })).put pg CLU.MODE_STAT_STATE 3)

/-! ### Recovery (R354) -/

/-- A write of MM_CLR with CLR = 1 (R354). -/
def Dev.mmClr (c : Fin 4) (d : Dev) : Dev :=
  let pg := pgCLU c
  let served := d.get pg CLU.SERVED_PAIR
  if d.flag pg CLU.MM_INFO_RECOVERING
      || (List.range 16).any (fun k => bitOf served k && d.flag (pgSTG k) COM.CTRL_EN) then d.err pg Err.RX_MM_ACTIVE
  else if d.flag pg CLU.MM_INFO_LATCHED then d.put pg CLU.MM_INFO_RECOVERING 1
  else d

/-- The cluster takes up work again: LATCHED and RECOVERING clear and its REDUNDANCY request ends (R354). -/
def Dev.recoveryPass (d : Dev) (c : Nat) : Dev :=
  let pg := pgCLU c
  ((d.put pg CLU.MM_INFO_LATCHED 0).modClu c (fun h => { h with recov := none })).redEnd pg

/-- RECOVERY_END (R354): every datapath of the stream has passed or failed its test. -/
def Soc.recoveryEnd (c : Fin 4) (s : Soc) : Soc :=
  let d := s.dev
  let pg := pgCLU c
  match (d.cl c).recov with
  | none => s
  | some r =>
    if !d.flag pg CLU.MM_INFO_RECOVERING || !r.todo.isEmpty || (d.sliceOn c).isSome then s
    else
      let s := s.map (fun d => d.put pg CLU.MM_INFO_RECOVERING 0)
      if r.failed.isEmpty then s.map (fun d => d.recoveryPass c)
      else if d.liveCount c = 2 ∧ !r.triad ∧ r.finder then
        s.map (fun d =>
          let fc := d.ctxsOn (16 * c + 1)
          let h := d.hostOf c
          (((d.rolesAscending c).moveAll 3 h (if h = 0xFF then [] else fc)).recoveryPass c).irq pg CLU.IRQ_HANDOVER)
      else if d.liveCount c = 2 ∧ r.triad then
        match d.adm with
        | none => (s.modeApply c 0 none).map (fun d => (d.recoveryPass c).irq pg CLU.IRQ_HANDOVER)
        | some a => match d.modePlan a c 0 with
          | .ok p => (s.modeApply c 0 (some p)).map (fun d => (d.recoveryPass c).irq pg CLU.IRQ_HANDOVER)
          | .error e => s.map (fun d => (d.admRefuse e).err pg Err.RX_MODE_PLACE)
      else s

/-! ### The agreement exchange (R365 to R367) -/

/-- Input codes that reach a cluster through its exchange. -/
def Dev.exchangeCodes (d : Dev) (c : Nat) : List Nat :=
  match d.adm with
  | none => []
  | some a => ((a.loops.filter (fun l => d.ctxStream l.ctx / 16 == c)).flatMap (fun l =>
      l.ins.filter (fun x => x / 1024 != 0x0C))).eraseDups

/-- EXCHANGE_POINT of a cluster (R366), at a multiple of 16 TCLK: what the registers took at the point before is compared
and released, and the sources are copied anew. `bad` names the inputs whose registers differ. -/
def Dev.exchangePoint (c : Fin 4) (bad : List Nat) (d : Dev) : Dev :=
  if d.time % 16 ≠ 0 then d
  else
    let h := d.cl c
    let cmp := decide (d.mode c < 2)
    let good := h.agr.filter (fun e => !(cmp && bad.contains e.1))
    let rel := h.rel.filter (fun e => !good.any (fun g => g.1 == e.1)) ++ good
    let agr := (d.exchangeCodes c).map (fun x => (x, d.inputWords x))
    let fault := good.length != h.agr.length
    let d := d.modClu c (fun h => { h with rel := rel, agr := agr })
    if fault then d.mmFault c 4 Err.RX_AGREE else d

/-! ### The comparator test (R369) -/

/-- CTEST of a cluster: `pass` is what the comparator or voter shows. -/
def Dev.cTest (c : Fin 4) (pass : Bool) (d : Dev) : Dev :=
  let h := d.cl c
  let pg := pgCLU c
  if 2 ≤ d.mode c ∨ d.time < h.testT then d
  else
    let d := d.put pg CLU.CTEST_LANE (h.testN % 128)
    let d := d.modClu c (fun h => { h with testN := h.testN + 1, testT := (d.time / 400000 + 1) * 400000 })
    if pass then d.incSat pg CLU.CTEST_PASS_CNT
    else (d.put pg CLU.CTEST_FAIL 1).mmFault c 3 Err.RX_COMP_TEST

/-! ### The debugger (R15, R155, R368) -/

/-- The life-cycle state admits a debugger on the application side (R469). -/
def Dev.debugAllowed (d : Dev) : Bool := decide (1 ≤ d.get pgLCS LCS.DEBUG)

/-- Kinds of page that a debug halt may freeze besides the stages: every block but Gnomon's, which no debugger of the
application side reaches (R16), and the self-test engine, which goes on. -/
def freezeKinds : List (PageKind × Nat × Nat) :=
  (pageMap.filter (fun p => !(p.kind == .stg || p.kind == .gnm || p.kind == .snet || p.kind == .bist))).flatMap
    (fun p => (List.range p.count).map (fun i => (p.kind, i, p.base + 0x1000 * i)))

/-- Blocks whose enables stand elsewhere than in CTRL (R556): the Ephemeris, the contexts and the field-control drives. -/
def ownEnables : PageKind → Bool
  | .eph | .ctx | .fld => true
  | _ => false

/-- DEBUG_HALT of a stream: it stops at an instruction boundary, and blocks with HALT_FREEZE freeze. -/
def Dev.debugHalt (c : Fin 4) (st : Fin 3) (d : Dev) : Dev :=
  if !d.debugAllowed || (d.copies c st).isEmpty then d
  else
    let d := d.modClu c (fun h => { h with halt := h.halt.set st true })
    let d := (List.range 16).foldl (fun (d : Dev) k =>
      if d.flag (pgSTG k) COM.CTRL_HALT_FREEZE then d.stgFreeze k else d) d
    freezeKinds.foldl (fun (d : Dev) p =>
      let pg := p.2.2
      if d.flag pg COM.CTRL_HALT_FREEZE && (d.flag pg COM.ST_ENABLED || ownEnables p.1) then d.put pg COM.ST_FROZEN 1 else d) d

/-- FREEZE_END: the halt ends; streams run on, and frozen blocks with them (R155). -/
def Dev.freezeEnd (d : Dev) : Dev :=
  let d := { d with clu := d.clu.map (fun (h : CluH) => { h with halt := Vector.replicate 3 false }) }
  let d := (List.range 16).foldl (fun (d : Dev) k => d.stgFreezeEnd k) d
  freezeKinds.foldl (fun (d : Dev) p => if d.flag p.2.2 COM.ST_FROZEN then d.put p.2.2 COM.ST_FROZEN 0 else d) d

/-- The meaning of the instruction with a given OP. -/
def Soc.isaByOp (op : Nat) (c : Fin 4) (st : Fin 3) (v : Vote) (s : Soc) : Soc :=
  match op with
  | 0x00 => s.isaNop c st v | 0x01 => s.isaLdi c st v | 0x02 => s.isaMov c st v | 0x03 => s.isaAdd c st v
  | 0x04 => s.isaSub c st v | 0x05 => s.isaNeg c st v | 0x06 => s.isaAbs c st v | 0x07 => s.isaMin c st v
  | 0x08 => s.isaMax c st v | 0x09 => s.isaMul c st v | 0x0A => s.isaMac c st v | 0x0B => s.isaMsu c st v
  | 0x0C => s.isaAclr c st v | 0x0D => s.isaRnd c st v | 0x0E => s.isaAsh c st v
  | 0x10 => s.isaLd c st v | 0x11 => s.isaSt c st v | 0x12 => s.isaLda c st v | 0x13 => s.isaSta c st v
  | 0x18 => s.isaBr c st v | 0x19 => s.isaLoop c st v | 0x1A => s.isaStage c st v | 0x1B => s.isaEnd c st v
  | 0x20 => s.isaClamp c st v | 0x21 => s.isaSat c st v | 0x22 => s.isaRamp c st v | 0x23 => s.isaInteg c st v
  | 0x28 => s.isaClarke c st v | 0x29 => s.isaPark c st v | 0x2A => s.isaIpark c st v | 0x2B => s.isaSincos c st v
  | 0x2C => s.isaSvm c st v | 0x2D => s.isaPsel c st v
  | 0x30 => s.isaGtl c st v | 0x31 => s.isaTl1 c st v | 0x32 => s.isaTl2 c st v
  | 0x38 => s.isaOut c st v | 0x39 => s.isaOutc c st v
  | _ => s.isaReserved c st v

/-- DEBUG_STEP (R368): a halted stream executes one instruction, on every copy. -/
def Soc.debugStep (c : Fin 4) (st : Fin 3) (v : Vote) (s : Soc) : Soc :=
  if !(s.dev.clu[c]).halt[st] || !s.dev.debugAllowed then s
  else
    let fz := s.dev.get (pgCLU c) COM.ST_FROZEN
    let go := s.map (fun d => (d.modClu c (fun h => { h with halt := h.halt.set st false })).put (pgCLU c) COM.ST_FROZEN 0)
    let s' := match go.issue c st with
      | none => go
      | some i => if insnReserved i.w then go.isaReserved c st v else go.isaByOp (opOf i.w) c st v
    s'.map (fun d => (d.modClu c (fun h => { h with halt := h.halt.set st true })).put (pgCLU c) COM.ST_FROZEN fz)

/-- Write one register of a datapath. -/
def Dpath.debugPut (p : Dpath) : DbgReg → Dpath
  | .v i x => { p with v := p.v.set i x }
  | .acc i x => { p with acc := p.acc.set i x }
  | .flags z n v l => { p with zf := z, nf := n, vf := v, lf := l }
  | .pc x => { p with pc := x.toNat }

/-- DEBUG_WRITE (R368): the write goes to every copy; one that cannot be replayed shows as a mismatch. -/
def Dev.debugWrite (c : Fin 4) (st : Fin 3) (r : DbgReg) (v : Vote) (d : Dev) : Dev :=
  let l := d.copies c st
  if !(d.clu[c]).halt[st] || !d.debugAllowed then d
  else
    let d := d.modClu c (fun h => { h with dp := l.foldl (fun (x : Vector Dpath 3) k =>
      x.set (fin3 k) ((x[fin3 k]).debugPut r)) h.dp })
    (d.compare c st v).1

/-! ### Host runs of the self-test (R439, R447, R448) -/

/-- A RUN_REQ write with GO = 1; `signed` says that an analysis programme carries both signatures. -/
def Dev.runReq (target : BitVec 4) (prog : BitVec 2) (signed : Bool) (d : Dev) : Dev :=
  let d := (d.put pgBIST BIST.RUN_REQ_TARGET target.toNat).put pgBIST BIST.RUN_REQ_PROG prog.toNat
  let lc := d.get pgLCS LCS.ST_STATE
  if d.almState ≠ 0 then d.err pgBIST Err.BIST_STATE
  else if d.flag pgBIST BIST.ST_BUSY || d.slice.isSome then d.err pgBIST Err.BIST_BUSY
  else if 2 ≤ prog.toNat || (prog = 1 && lc != 3) || lc == 4 then d.err pgBIST Err.BIST_LC
  else if prog = 1 && !signed then d.err pgBIST Err.BIST_PROG
  else if target = 12 then d.err pgBIST Err.BIST_STATE
  -- no test runs without a verified programme (R439)
  else if prog = 0 && !d.flag pgBIST BIST.ST_PROG_VALID then d.err pgBIST Err.BIST_PROG
  else ({ d with runT := d.time }.put pgBIST BIST.ST_BUSY 1).put pgBIST BIST.ST_TARGET target.toNat

/-- Duration in µs of the in-field programme's start-up test of a target (R441). -/
def runUs (t : Nat) : Nat :=
  match t with | 12 => 6400 | 13 => 100 | 14 => 105000 | 15 => 110000 | _ => 1600

/-- RUN_DONE (R447): the run that is in progress ends, one of the in-field programme after the target's duration
(R441); it never retires a datapath. -/
def Dev.runDone (sig : Word) (pass : Bool) (d : Dev) : Dev :=
  let us := if d.get pgBIST BIST.RUN_REQ_PROG = 0 then runUs (d.get pgBIST BIST.ST_TARGET) else 0
  if !d.flag pgBIST BIST.ST_BUSY || decide (d.time < d.runT + 400 * us) then d
  else
    let t := d.get pgBIST BIST.ST_TARGET
    ((d.bistResult t 2 pass sig).put pgBIST BIST.ST_BUSY 0).irq pgBIST BIST.IRQ_RUN_DONE

end Sys2Proof.Machine
end

