-- ==== Sys2Proof/Machine/Clocks.lean ====
section
/-! DEFINITION. Clocks, oscillators and PLLs, operating points, power modes and crossings (chapter 15). Times of the
monitor ring, of clock hold and of holdover run on LRC and IRC, so they are in units of `Dev.wall`. -/

namespace Sys2Proof.Machine

def Dev.modClk (d : Dev) (f : ClkH → ClkH) : Dev := { d with clk := f d.clk }
def Dev.modPwr (d : Dev) (f : PwrH → PwrH) : Dev := { d with pwr := f d.pwr }

/-- A re-lock is in progress (R427). -/
def Dev.relocking (d : Dev) : Bool := d.pwr.step == 2 || d.pwr.step == 3

/-! ### Clock hold (R414, R415) -/

/-- Clock hold with a cause of HOLD_REC. -/
def Dev.clockHold (d : Dev) (cause : Nat) : Dev :=
  if d.clockHeld then d
  else
    let d := d.modClk (fun c => { c with holdStart := d.wall, holdCause := cause, holdover := none })
    let d := ((d.put pgCLK CLK.ST_HOLD 1).irq pgCLK CLK.IRQ_HOLD).err pgCLK Err.CLK_HOLD
    d.refreshAll d.tap0

/-- Legs of every stage that runs. -/
def Dev.runningLegs (d : Dev) : Nat :=
  (List.range 64).foldl (fun m n => if d.bound n && d.running (d.legStage n) then m + 2 ^ n else m) 0

/-- The time counter moves forward to a multiple of 16 at an alignment (R418). -/
def Dev.alignTime (d : Dev) : Dev := { d with time := (d.time + 15) / 16 * 16 % 2 ^ 64 }

/-- After a step of R488 the time counter takes the manager's time. -/
def Dev.stepTime (d : Dev) : Dev :=
  match d.clk.stepTo with
  | some (t, w) => ({ d with time := (t + (d.wall - w)) % 2 ^ 64 } : Dev).modClk (fun c => { c with stepTo := none })
  | none => d

/-- HOLD_EXIT (R414, R415, R435): REF comes from the oscillator that is back, the PLLs and the DLL lock, and the clocks
restart. After a step of R488 the time counter takes the manager's time, and a recording has a gap (R529). -/
def Dev.holdExit (d : Dev) : Dev :=
  let ready := d.flag pgCLK CLK.ST_REF_READY
  if !d.clockHeld || !(ready || !d.flag pgCLK CLK.ST_IRC_FAIL) then d
  else
    let d := ((d.put pgCLK CLK.ST_HOLD 0).putB pgCLK CLK.ST_ON_FALLBACK (!ready)).put pgCLK CLK.ST_ALIGN 1
    let d := ((d.put pgCLK CLK.ST_PLL0_LOCK 1).put pgCLK CLK.ST_PLL1_LOCK 1).put pgCLK CLK.ST_DLL_LOCK 1
    let d := (d.stepTime.alignTime).put pgCLK CLK.HOLD_REC
      (d.clk.holdCause * 2 ^ 30 + min (2 ^ 24 - 1) ((d.wall - d.clk.holdStart) / 400))
    let d := (d.incSat pgCLK CLK.HOLD_CNT).irq pgCLK CLK.IRQ_HOLD_EXIT
    let d := if d.pwr.step = 2 then d.modPwr (fun p => { p with step := 3, lockT := d.time }) else d
    let d := d.modClk (fun c => { c with legHold := c.legHold ||| d.runningLegs })
    let d := if d.get pgCAP CAP.ST_STATE = 1 ∨ d.get pgCAP CAP.ST_STATE = 2 then d.put pgCAP CAP.ST_GAP 1 else d
    let d := (List.range 16).foldl (fun (d : Dev) k => if d.inRun k then d.fallBack k 3 else d) d
    (d.sliceAbandon).refreshAll d.tap0

/-! ### Switches of REF (R411 to R413) -/

/-- A hitless switch: ALIGN clears and holdover ends (R411, R417). -/
def Dev.refSwitch (d : Dev) (fallback : Bool) : Dev :=
  ((d.putB pgCLK CLK.ST_ON_FALLBACK fallback).put pgCLK CLK.ST_ALIGN 0).modClk (fun c => { c with holdover := none })

/-- A re-lock that runs starts again when its reference changes (R435). -/
def Dev.relockAgain (d : Dev) : Dev :=
  if d.relocking then (d.put pgCLK CLK.ST_PLL1_LOCK 0).modPwr (fun p => { p with step := 2 }) else d

def ClkH.xoStarted (c : ClkH) (t : Nat) : ClkH :=
  { c with xoOn := true, xoStart := t, restartAt := none, pass := (c.pass.set 0 0).set 2 0 }

/-- A monitor attribution refuses a mode entry of the same cycle (R435). -/
def Dev.attributed (d : Dev) : Dev :=
  let d := if d.pwr.enter.isSome then d.err pgPWR Err.PWR_MODE_BUSY else d
  d.modPwr (fun p => { p with attrT := some d.wall, enter := none })

/-- REF_EXT has failed (R410, R412). -/
def Dev.xoFail (d : Dev) : Dev :=
  if d.flag pgCLK CLK.ST_XO_FAIL then d
  else
    let d := d.attributed
    let d := ((d.put pgCLK CLK.ST_XO_FAIL 1).irq pgCLK CLK.IRQ_XO_FAIL).err pgCLK Err.CLK_XO_FAIL
    let d := d.put pgCLK CLK.ST_REF_READY 0
    if d.flag pgCLK CLK.ST_IRC_FAIL then d.clockHold 1
    else
      let d := (d.refSwitch true).relockAgain
      d.modClk (fun c => { c with xoOn := false, restartAt := some (d.wall + 4000000) })

/-- The IRC has failed (R410, R412). -/
def Dev.ircFail (d : Dev) : Dev :=
  if d.flag pgCLK CLK.ST_IRC_FAIL then d
  else
    let d := d.attributed
    let d := ((d.put pgCLK CLK.ST_IRC_FAIL 1).irq pgCLK CLK.IRQ_IRC_FAIL).err pgCLK Err.CLK_IRC_FAIL
    -- a RETURN in this cycle has no effect beside the switch (R435)
    if d.clk.retT == some d.wall then d
    else if d.flag pgCLK CLK.ST_ON_FALLBACK then
      if d.flag pgCLK CLK.ST_REF_READY then (d.refSwitch false).modClk (fun c => { c with ircT := some d.wall })
      else d.clockHold 1
    else if d.relocking then d.clockHold 3 else d

/-- The LRC has failed: Gnomon stops, and its pulse streams with it (R410, R412). -/
def Dev.lrcFail (d : Dev) : Dev :=
  if d.flag pgCLK CLK.ST_LRC_FAIL then d
  else
    let d := d.attributed
    let d := ((d.put pgCLK CLK.ST_LRC_FAIL 1).irq pgCLK CLK.IRQ_LRC_FAIL).err pgCLK Err.CLK_LRC_FAIL
    ((d.modGnm (fun g => { g with running := false })).setGden false).outputsOff

/-- The attribution of R410. While one of M0 and M1 fails and the other has one failing window behind it, nothing is
decided yet (log entry 22). -/
def Dev.attribute (d : Dev) : Dev :=
  let f := fun (m : Nat) => d.flagAt pgCLK CLK.MON_FAIL m
  let open_ := fun (m : Nat) => !f m && d.getAt pgCLK CLK.MON_RUN m != 0
  if f 0 && f 1 then d.ircFail
  else if f 0 && !open_ 1 then d.xoFail
  else if f 1 && !open_ 0 then d.lrcFail
  else d

/-- M1 has passed 16 windows in a row: IRC_FAIL and LRC_FAIL clear, and Gnomon starts as at power-on when the LRC is
back (R410, R412). -/
def Dev.oscillatorsBack (d : Dev) : Dev :=
  let lrc := d.flag pgCLK CLK.ST_LRC_FAIL
  let d := (d.put pgCLK CLK.ST_IRC_FAIL 0).put pgCLK CLK.ST_LRC_FAIL 0
  if lrc then d.gnomonReset true else d

/-- Pass band and failing windows of a monitor (R409). -/
def monBand (m : Nat) : Nat × Nat × Nat :=
  match m with | 0 => (240, 260, 2) | 1 => (960, 1040, 2) | _ => (2400, 2600, 3)

/-! ### Wake (R428 to R430) -/

/-- The device is back in RUN at its previous operating point. -/
def Dev.wakeDone (d : Dev) : Dev :=
  let deep := d.pwrMode == 2
  let back := d.pwr.waking && d.flag pgCLK CLK.ST_REF_READY
  let d := d.put pgPWR PWR.ST_MODE 0
  let d := if deep then
      let d := if back then d.put pgCLK CLK.ST_ON_FALLBACK 0 else d
      let d := (((d.put pgCLK CLK.ST_PLL0_LOCK 1).put pgCLK CLK.ST_PLL1_LOCK 1).put pgCLK CLK.ST_DLL_LOCK 1).put pgCLK
        CLK.ST_ALIGN 1
      (d.alignTime.modPwr (fun p => { p with vsel := d.get pgPWR PWR.ST_OP_ACT })).put pgPWR PWR.ST_VDD_OK 1
    else d
  let d := d.modPwr (fun p => { p with waking := false, wakeAt := none, runT := some d.wall })
  (d.irq pgPWR PWR.IRQ_WAKE).thmWake

/-- A wake begins; with the XO stopped it waits for REF_EXT (R429). -/
def Dev.wakeNow (d : Dev) : Dev :=
  if d.pwrMode = 0 ∨ d.pwr.waking then d
  else if d.pwrMode = 2 ∧ !d.clk.xoOn ∧ d.clk.restartAt = none then
    (d.modClk (fun c => c.xoStarted d.wall)).modPwr (fun p => { p with waking := true })
  else d.wakeDone

/-- WAKE by source: 0 host access, 1 CAN FD, 2 Ethernet, 3 STO or Gnomon, 4 timer (R428, R438). An entry that has not
taken effect yet is abandoned (R435). -/
def Dev.wake (src : Fin 5) (d : Dev) : Dev :=
  if !bitOf (d.get pgPWR PWR.WAKE_EN) src then d
  else if d.pwr.enter.isSome then d.modPwr (fun p => { p with enter := none })
  else d.wakeNow

/-- The WAKE row: an enabled event, remembered for a mode request of the same cycle (R435). -/
def Dev.wakeEvent (src : Fin 5) (d : Dev) : Dev :=
  let d := if bitOf (d.get pgPWR PWR.WAKE_EN) src then d.modPwr (fun p => { p with wakeT := some d.wall }) else d
  d.wake src

/-- A wake event falls in this TCLK: one of the row WAKE, a change of an STO channel or a request of Gnomon. -/
def Dev.wokenNow (d : Dev) : Bool :=
  d.pwr.wakeT == some d.wall
  || (bitOf (d.get pgPWR PWR.WAKE_EN) 3 && (d.gnm.chT == d.time + 1 || d.gnm.reqT == d.time + 1))

/-- WAKE_TIMER: the timer expires (R428). -/
def Dev.wakeTimer (d : Dev) : Dev :=
  match d.pwr.wakeAt with
  | some t => if d.time < t then d else (d.modPwr (fun p => { p with wakeAt := none })).wake 4
  | none => d

/-! ### The monitor ring (R408 to R410) -/

/-- A waking XO is not ready within XO_DELAY + 2 ms: XO_FAIL, and the device stays on IRC ÷ 4 (R429). -/
def Dev.wakeXoLate (d : Dev) : Dev :=
  if d.pwr.waking && !d.flag pgCLK CLK.ST_REF_READY
      && decide (d.clk.xoStart + 40000 * d.get pgCLK CLK.REF_CFG_XO_DELAY + 800000 ≤ d.wall)
  then d.xoFail.wakeDone else d

/-- MONITOR_WINDOW: a window of monitor `m` ends with a count, or has not ended in time (`late`). M0 is suspended while
the XO is stopped for DEEP_SLEEP (R429). -/
def Dev.monitorWindow (m : Fin 3) (count : BitVec 24) (late : Bool) (d : Dev) : Dev :=
  if m = 0 ∧ d.pwrMode = 2 ∧ !d.clk.xoOn then d
  else
    let b := monBand m
    let pass := !late && decide (b.1 ≤ count.toNat ∧ count.toNat ≤ b.2.1)
    let was := d.flagAt pgCLK CLK.MON_FAIL m
    let run := if pass then 0 else min 127 (d.getAt pgCLK CLK.MON_RUN m + 1)
    let fail := decide (b.2.2 ≤ run)
    let d := d.putAt pgCLK CLK.MON m (b2n fail * 2 ^ 31 + run * 2 ^ 24 + count.toNat)
    let n := if pass then min 127 (d.clk.pass.getD m 0 + 1) else 0
    let d := d.modClk (fun c => { c with pass := c.pass.set m n })
    let d :=
      if m = 2 then
        if fail && !was then
          let d := if !d.flagAt pgCLK CLK.MON_FAIL 0 && !d.flagAt pgCLK CLK.MON_FAIL 1
            then (d.irq pgCLK CLK.IRQ_MON).err pgCLK Err.CLK_MON else d
          d.gnLockout 6
        else d
      else
        let d := d.attribute
        if m = 1 ∧ 16 ≤ n ∧ (d.flag pgCLK CLK.ST_IRC_FAIL || d.flag pgCLK CLK.ST_LRC_FAIL) then d.oscillatorsBack else d
    d.wakeXoLate

/-- REF_READY (R408): the delay has elapsed and the windows have passed. -/
def Dev.refReady (d : Dev) : Dev :=
  let p := fun (m : Nat) => d.clk.pass.getD m 0
  let ok := if d.flag pgCLK CLK.ST_IRC_FAIL then decide (2 ≤ p 2) else decide (16 ≤ p 0)
  if !d.clk.xoOn || d.flag pgCLK CLK.ST_REF_READY || !ok
      || decide (d.wall < d.clk.xoStart + 40000 * d.get pgCLK CLK.REF_CFG_XO_DELAY) then d
  else
    let d := ((d.put pgCLK CLK.ST_REF_READY 1).irq pgCLK CLK.IRQ_REF_READY).put pgCLK CLK.ST_XO_FAIL 0
    if d.pwr.waking then d.wakeDone else d

/-- HOLDOVER (R411): REF edges go missing, or come back. -/
def Dev.holdoverSet (missing : Bool) (d : Dev) : Dev :=
  if !d.flag pgCLK CLK.ST_PLL0_LOCK || d.clockHeld then d
  else d.modClk (fun c => { c with holdover := if missing then some (c.holdover.getD d.wall) else none })

/-- HOLDOVER_EXPIRY (R412): holdover has lasted 1 ms. -/
def Dev.holdoverExpiry (d : Dev) : Dev :=
  match d.clk.holdover with
  | some t => if d.wall < t + 400000 then d else d.clockHold 2
  | none => d

/-- XO_RESTART (R412): 10 ms after the failure. -/
def Dev.xoRestart (d : Dev) : Dev :=
  match d.clk.restartAt with
  | some t => if d.wall < t then d else d.modClk (fun c => c.xoStarted d.wall)
  | none => d

/-- PLL0_UNLOCK (R412, R416). -/
def Dev.pll0Unlock (d : Dev) : Dev :=
  if !d.flag pgCLK CLK.ST_PLL0_LOCK || d.clockHeld then d
  else (((d.put pgCLK CLK.ST_PLL0_LOCK 0).irq pgCLK CLK.IRQ_PLL0_UNLOCK).err pgCLK Err.CLK_PLL0_UNLOCK).clockHold 2

/-- A write of REF_CFG.RETURN (R413); the switch of R412 in the same cycle leaves it no effect (R435). -/
def Dev.returnWrite (d : Dev) : Dev :=
  if d.clk.ircT == some d.wall then d
  else if d.flag pgCLK CLK.ST_REF_READY && d.flag pgCLK CLK.ST_ON_FALLBACK then
    (d.refSwitch false).modClk (fun c => { c with retT := some d.wall })
  else d.err pgCLK Err.CLK_XO_NOT_READY

/-- DLL_UNLOCK and DLL_RELOCK (R422). -/
def Dev.dllUnlock (d : Dev) : Dev :=
  if d.flag pgCLK CLK.ST_DLL_LOCK then
    ((d.put pgCLK CLK.ST_DLL_LOCK 0).irq pgCLK CLK.IRQ_DLL_UNLOCK).err pgCLK Err.CLK_DLL_UNLOCK
  else d

def Dev.dllRelock (d : Dev) : Dev := if d.tclkRuns && d.pwrMode != 2 then d.put pgCLK CLK.ST_DLL_LOCK 1 else d

/-- DLL_CAL.GO (R423). -/
def Dev.dllCalGo (d : Dev) : Dev := d.tapCalStart

/-- TAPCAL_DONE (R423): `worst` is the largest deviation measured, in ps. -/
def Dev.tapCalDone (worst : BitVec 16) (d : Dev) : Dev :=
  match d.clk.calEnd with
  | some t =>
    if d.time < t then d
    else
      let d := (d.put pgCLK CLK.DLL_CAL_BUSY 0).put pgCLK CLK.DLL_CAL_WORST worst.toNat
      (d.irq pgCLK CLK.IRQ_TAPCAL_DONE).modClk (fun c => { c with calEnd := none })
  | none => d

/-- A write of SS_CFG (R421). -/
def Dev.ssCfgWrite (w : Word) (d : Dev) : Dev :=
  if wordField w 29 2 = 3 ∨ wordField w 0 16 = 0 then d.err pgCLK Err.CLK_CFG
  else if d.almState ≠ 0 then d.err pgCLK Err.CLK_CFG_LIVE
  else d.put pgCLK CLK.SS_CFG (w.toNat &&& 0xE000FFFF)

/-! ### Operating points (R424 to R427) -/

def Dev.opRefuse (d : Dev) (code : Nat) : Dev := (d.irq pgPWR PWR.IRQ_OP_REFUSED).err pgPWR code

/-- A write of OP_REQ with GO = 1 (R425). -/
def Dev.opReq (op : BitVec 2) (d : Dev) : Dev :=
  let d := d.put pgPWR PWR.OP_REQ_OP op.toNat
  let out := match d.adm with
    | some a => decide (op.toNat < a.runOp ∨ a.floorOp < op.toNat)
    | none => false
  if op = 3 || out then d.opRefuse Err.PWR_OP_RANGE
  else if d.flag pgCLK CLK.ST_IRC_FAIL then d.opRefuse Err.PWR_OP_IRC
  else (d.put pgPWR PWR.OP_STAT_HOST op.toNat).opTarget

/-- The re-lock of R427 begins: ACLK on IRC, PLL1 unlocked. -/
def Dev.relockStart (d : Dev) : Dev := (d.put pgCLK CLK.ST_PLL1_LOCK 0).modPwr (fun p => { p with step := 2 })

/-- OP_CHANGE_START (R425, R426). -/
def Dev.opChangeStart (d : Dev) : Dev :=
  let act := d.get pgPWR PWR.ST_OP_ACT
  let goal := d.get pgPWR PWR.OP_STAT_TARGET
  if goal = act || d.flag pgPWR PWR.ST_SEQ_BUSY || d.flag pgCLK CLK.ST_IRC_FAIL || !d.opSpaced || d.pwrMode != 0
      || !d.tclkRuns then d
  else
    let d := (d.put pgPWR PWR.ST_SEQ_BUSY 1).put pgPWR PWR.ST_DEFERRED 0
    let d := d.modPwr (fun p => { p with goal := goal, lastOp := some d.time })
    if goal < act then
      (d.put pgPWR PWR.ST_VDD_OK 0).modPwr (fun p => { p with vsel := goal, step := 1, vStart := d.time })
    else d.relockStart

/-- VDD_OK (R424, R426). -/
def Dev.vddOk (d : Dev) : Dev :=
  let d := d.put pgPWR PWR.ST_VDD_OK 1
  if d.pwr.step = 1 then d.relockStart else d

/-- V_TIMEOUT (R426). -/
def Dev.vTimeout (d : Dev) : Dev :=
  if d.pwr.step ≠ 1 ∨ d.time < d.pwr.vStart + 400 * d.get pgPWR PWR.V_CFG then d
  else
    let act := d.get pgPWR PWR.ST_OP_ACT
    let d := d.modPwr (fun p => { p with vsel := act, step := 0 })
    let d := ((d.put pgPWR PWR.ST_SEQ_BUSY 0).irq pgPWR PWR.IRQ_V_TIMEOUT).err pgPWR Err.PWR_V_TIMEOUT
    (d.put pgPWR PWR.OP_STAT_HOST act).opTarget

/-- PLL1_LOCK (R427). -/
def Dev.pll1Lock (d : Dev) : Dev :=
  if d.pwr.step ≠ 2 || d.clockHeld then d
  else (d.put pgCLK CLK.ST_PLL1_LOCK 1).modPwr (fun p => { p with step := 3, lockT := d.time })

/-- RELOCK_SWITCH (R426, R427): 1 µs after the lock. -/
def Dev.relockSwitch (d : Dev) : Dev :=
  if d.pwr.step ≠ 3 || d.clockHeld || decide (d.time < d.pwr.lockT + 400) then d
  else
    let g := d.pwr.goal
    let d := (d.put pgPWR PWR.ST_OP_ACT g).irq pgPWR PWR.IRQ_OP_DONE
    let d := (d.incWrap pgPWR PWR.OP_STAT_CHANGES).put pgPWR PWR.ST_SEQ_BUSY 0
    (d.modPwr (fun p => { p with step := 0, vsel := g })).opTarget

/-! ### Power modes (R428, R429) -/

/-- SLEEP is refused (R428). -/
def Dev.modeBusy (d : Dev) : Bool :=
  (List.range 16).any (fun k => d.flag (pgSTG k) COM.CTRL_EN)
  || (List.range 63).any (fun i => d.flagAt pgCTX CTX.CCTL_RUN (i + 1))
  || d.flag pgPWR PWR.ST_SEQ_BUSY || d.clockHeld || d.get pgCAP CAP.ST_STATE == 1 || d.get pgCAP CAP.ST_STATE == 2

/-- A mode request (R428): refused, or accepted for the next TCLK. A wake event or a monitor attribution of the same
cycle comes first (R435). -/
def Dev.modeRequest (d : Dev) (mode : Nat) (busy : Bool) : Dev :=
  let d := d.put pgPWR PWR.MODE_REQ_MODE mode
  if d.pwrMode ≠ 0 then d
  else if busy || d.pwr.attrT == some d.wall then d.err pgPWR Err.PWR_MODE_BUSY
  else if d.wokenNow then d
  else d.modPwr (fun p => { p with enter := some mode })

/-- A MODE_REQ for SLEEP (R428). -/
def Dev.sleepRequest (d : Dev) : Dev := d.modeRequest 1 d.modeBusy

/-- A MODE_REQ for DEEP_SLEEP (R428). -/
def Dev.deepSleepRequest (d : Dev) : Dev := d.modeRequest 2 (d.modeBusy || d.flag pgCLK CLK.ST_IRC_FAIL)

/-- An accepted request takes effect (R428, R429): a slice is abandoned (R449) and WAKE_TIMER starts; in DEEP_SLEEP the
PLLs and the DLL are off, and the XO where XO_DEEP_OFF says so. -/
def Dev.enterMode (d : Dev) : Dev :=
  match d.pwr.enter with
  | none => d
  | some mode =>
    let d := (d.sliceAbandon).put pgPWR PWR.ST_MODE mode
    let ms := d.get pgPWR PWR.WAKE_TIMER
    let d := d.modPwr (fun p => { p with enter := none, wakeAt := if ms = 0 then none else some (d.time + 400000 * ms) })
    if mode ≠ 2 then d
    else
      let d := d.modPwr (fun p => { p with vsel := 2 })
      let d := ((d.put pgCLK CLK.ST_PLL0_LOCK 0).put pgCLK CLK.ST_PLL1_LOCK 0).put pgCLK CLK.ST_DLL_LOCK 0
      let d := d.modClk (fun c => { c with holdover := none })
      if d.flag pgCLK CLK.REF_CFG_XO_DEEP_OFF then
        ((d.refSwitch true).put pgCLK CLK.ST_REF_READY 0).modClk (fun c => { c with xoOn := false, restartAt := none })
      else d

/-- A MODE_REQ for RUN ends a sleep, and MODE 3 is refused (R436). -/
def Dev.modeReqOther (mode : Nat) (d : Dev) : Dev :=
  let d := d.put pgPWR PWR.MODE_REQ_MODE mode
  if mode = 3 then d.err pgPWR Err.PWR_MODE_BUSY else (d.modPwr (fun p => { p with enter := none })).wakeNow

/-! ### Clock groups, block resets and crossings (R431 to R434) -/

/-- The clock group of a page; none for pages that run in every mode. -/
def pageGroup (k : PageKind) (inst : Nat) : Option Nat :=
  match k with
  | .stg | .leg | .trip | .cmpb | .eph => some 0
  | .adcg => some 1
  | .sdi => some 2
  | .pos | .rsv | .ssi | .emu => some 3
  | .clu => some (4 + inst)
  | .alm | .fld | .nrg | .thm => some 8
  | .ctx => some 9
  | .pcie => some 11
  | .xspi => some 12
  | .eth => some 13
  | .can => some 14
  | .vlk => some 16
  | .cap => some 17
  | .bist => some 18
  | .dbg => some 19
  | .clk | .pwr | .boot | .lcs | .sec | .gnm | .snet => none

/-- Pages of a group. -/
def groupPages (g : Nat) : List Nat :=
  pageMap.flatMap (fun p => ((List.range p.count).filter (fun i => pageGroup p.kind i == some g)).map
    (fun i => p.base + 0x1000 * i))

/-- OWNER.KIND of a page; BIST reads 3 while a set with slices is admitted (R451). -/
def Dev.ownerKind (d : Dev) (pg : Nat) : Nat :=
  if pg == pgBIST && (match d.adm with | some a => a.sliceEn | none => false) then 3
  else if pg = pgGNM then 4
  else d.get pg COM.OWNER_KIND

/-- Bits of a CLKEN_RUN write that may not be 0 (R432). -/
def Dev.gateRefused (d : Dev) (w : Nat) : Nat :=
  (List.range 20).foldl (fun m g =>
    if !bitOf w g && (g == 0 || g == 8 || g == 9 || (groupPages g).any (fun p => d.ownerKind p != 0)) then m + 2 ^ g else m) 0

/-- CLKEN_WRITE (R431, R432): of CLKEN_RUN, CLKEN_SLEEP or CLKEN_DEEP. -/
def Dev.clkenWrite (which : Fin 3) (w : Word) (d : Dev) : Dev :=
  let v := w.toNat % 2 ^ 20
  match which with
  | 0 =>
    let r := d.gateRefused v
    let d := if r = 0 then d else d.err pgPWR Err.PWR_GATE
    d.put pgPWR PWR.CLKEN_RUN (v ||| r)
  | 1 => d.put pgPWR PWR.CLKEN_SLEEP v
  | 2 => d.put pgPWR PWR.CLKEN_DEEP (v / 256 * 256)

/-- The crossing of a group with the application side (R434). -/
def groupCrossing (g : Nat) : Option Nat :=
  match g with
  | 11 => some 1 | 12 => some 2 | 13 => some 3 | 14 => some 4 | 15 => some 5 | 17 => some 6 | 16 => some 7 | _ => none

/-- The partner of crossing `x` enters reset (R434). -/
def Dev.partnerReset (d : Dev) (x inFlight : Nat) : Dev :=
  let d := d.put pgPWR PWR.XSTAT (setBit (d.get pgPWR PWR.XSTAT) x true)
  let n := min 0xFFFF (d.getAt pgPWR PWR.XDISC_IN_FLIGHT x + inFlight)
  (d.putAt pgPWR PWR.XDISC_IN_FLIGHT x n).irq pgPWR PWR.IRQ_PARTNER_RST

/-! ### Reset of a group -/

def TxnH.initial : TxnH :=
  { isOpen := false, num := 0, angle := false, stage := 0, bound := 0, parts := 0, joined := false, armed := []
    commitT := none, voteT := 0, boundT := none, applied := 0, notApplied := 0 }

def VlkH.initial : VlkH :=
  { jrnl := [], sent := [], seqTx := List.replicate 5 0, seqRx := [], dly := [[], []], t1 := [none, none]
    hops := [none, none], lastSync := 0, syncT := 0, dlyT := 0, good := 0, txn := TxnH.initial, place := none, away := []
    mirror := [], guest := [] }

def EthH.initial : EthH := ⟨0, 0, 0, []⟩

/-- Counts "since power-on", which a device reset of another source keeps (log entry 36). -/
def isSincePower (a : Nat) : Bool :=
  a == pgCLK + CLK.HOLD_CNT.off || a == pgBIST + BIST.SLICE_CNT.off || a == pgBIST + BIST.FAIL_CNT.off
    || a == pgVLK 0 + VLK.JRNL_CNT.off

/-- The register words of a page return to reset, but for its lock, which only a device reset clears (R23), and the
counts since power-on. -/
def Dev.pageToReset (d : Dev) (pg : Nat) : Dev :=
  { d with regs := d.regs.filter (fun e =>
      !decide (pg ≤ e.1 ∧ e.1 < pg + 0x1000) || e.1 == pg + COM.LOCK.off || isSincePower e.1) }

/-- Everything of a group returns to reset (R433): its pages, and what the blocks hold besides. The journal and the
contexts that other devices run are not the link's own (R493, R500). -/
def Dev.groupReset (d : Dev) (g : Nat) : Dev :=
  let d := (groupPages g).foldl (fun (d : Dev) p => d.pageToReset p) d
  match g with
  | 11 => { d with msix := [], pba := 0 }
  | 13 => { d with eth := Vector.replicate 2 EthH.initial }
  | 14 => { d with can := Vector.replicate 4 [] }
  | 15 => { d.put pgXSPI XSPI.ST_FL_BUSY 0 with fl := none }
  | 16 => { d with vlk := { VlkH.initial with jrnl := d.vlk.jrnl, away := d.vlk.away, mirror := d.vlk.mirror } }
  | 17 => { d with cap := CapH.initial }
  | 18 => match d.slice with | some s => d.sliceReturn s | none => d
  | _ => d

/-- The group is held in reset (R433); PCIE also by PERST#. -/
def Dev.inReset (d : Dev) (g : Nat) : Bool := bitOf (d.get pgPWR PWR.BLK_RST) g || (g == 11 && d.pwr.perst)

/-- A write of BLK_RST (R433, R434); `inFlight` counts the transfers under way on each crossing. -/
def Dev.blkRst (w : Word) (inFlight : Vector (BitVec 16) 8) (d : Dev) : Dev :=
  let v := w.toNat % 2 ^ 20 / 1024 * 1024
  let fresh := (List.range 20).filter (fun g => bitOf v g && !d.inReset g)
  let d := d.put pgPWR PWR.BLK_RST v
  fresh.foldl (fun (d : Dev) g =>
    let d := d.groupReset g
    match groupCrossing g with
    | some x => d.partnerReset x (inFlight.toList.getD x 0).toNat
    | none => d) d

/-- PERST# is asserted or released (R433). -/
def Dev.perstSet (asserted : Bool) (inFlight : BitVec 16) (d : Dev) : Dev :=
  let was := d.inReset 11
  let d := d.modPwr (fun p => { p with perst := asserted })
  if asserted && !was then (d.groupReset 11).partnerReset 1 inFlight.toNat else d

/-- The side across crossing `x` runs. -/
def Dev.partnerRuns (d : Dev) (x : Nat) : Bool :=
  match x with
  | 0 => d.gnm.running
  | 6 => !d.inReset 17
  | 7 => !d.inReset 16
  | _ => !d.inReset (10 + x)

/-- PARTNER_FLUSH of a crossing (R434). -/
def Dev.partnerFlush (x : Fin 8) (d : Dev) : Dev :=
  if d.partnerRuns x then d.put pgPWR PWR.XSTAT (setBit (d.get pgPWR PWR.XSTAT) x false) else d

end Sys2Proof.Machine
end

