-- ==== Sys2Proof/Machine/Boot.lean ====
section
/-! DEFINITION. Start-up, the boot journal, signed images, the life cycle and the security commands (chapter 17). What
the ROM meets outside the model comes with the command (`BootObs`); the cryptographic functions are those of `Config`
(log entry 27). -/

namespace Sys2Proof.Machine

def Dev.modBoot (d : Dev) (f : BootH → BootH) : Dev := { d with boot := f d.boot }

/-- The life-cycle state of the transition bits (R467). -/
def lcState (t : Nat) : Nat :=
  if bitOf t 4 then 4 else if bitOf t 3 then 3 else if bitOf t 2 then 2 else if bitOf t 1 then 1 else 0

/-- The byte range lies in SRAM (R9). -/
def inSram (a n : Nat) : Bool := decide (0x10000000 ≤ a ∧ a + n ≤ 0x10800000)

/-! ### The journal (R457 to R459) -/

/-- CRC-16, polynomial 0x1021, most significant bit first (R457). -/
def crc16Bits : Nat → Nat → Nat
  | 0, c => c
  | k + 1, c => crc16Bits k (if bitOf c 15 then (c * 2 % 65536) ^^^ 0x1021 else c * 2)

def crc16 (l : List Byte) : Nat := l.foldl (fun c b => crc16Bits 8 (c ^^^ (b.toNat * 256))) 0xFFFF

/-- A register word of the retention file: BOOT_CNT, ALT, the head and the ring of 64 records (R459). -/
def isRetention (a : Nat) : Bool :=
  a == pgBOOT + 0x44 || a == pgBOOT + 0x4C || a == pgBOOT + 0x54 || decide (pgBOOT + 0x400 ≤ a ∧ a < pgBOOT + 0x800)

def Dev.retention (d : Dev) : List (Nat × Word) := d.regs.filter (fun e => isRetention e.1)

/-- Mirror the journal to flash (R459). -/
def Dev.mirrorJournal (d : Dev) : Dev := d.modBoot (fun b => { b with mirror := some d.retention })

/-- Outcome codes of a step (R457). -/
def ocPass : Nat := 0
def ocFail : Nat := 1
def ocAlt : Nat := 2
def ocSkip : Nat := 3

def Dev.altFlag (d : Dev) (step : Nat) : Bool := bitOf (d.get pgBOOT BOOT.ALT_FLAGS) step

/-- Write the record of a step (R454, R457, R475). -/
def Dev.journal (d : Dev) (o : BootObs) (step out code detail : Nat) : Dev :=
  let n := (d.get pgBOOT BOOT.JRNL_HEAD + 1) % 64
  let el := (o.elapsed.toList.getD step 0).toNat
  let b := natBytes 2 (d.get pgBOOT BOOT.BOOT_CNT % 65536) ++ natBytes 1 step ++ natBytes 1 out ++ natBytes 2 code
    ++ natBytes 2 el ++ natBytes 4 detail ++ natBytes 2 0
  let b := b ++ natBytes 2 (crc16 b)
  let d := (List.range 4).foldl (fun (d : Dev) w => d.putAt pgBOOT BOOT.JRNL (4 * n + w) (listNat b (4 * w) 4)) d
  let d := (d.put pgBOOT BOOT.JRNL_HEAD n).put pgBOOT BOOT.ST_STEP step
  let oc := d.get pgBOOT BOOT.OUTCOME
  let d := d.put pgBOOT BOOT.OUTCOME (setBit (setBit oc (2 * step) (bitOf out 0)) (2 * step + 1) (bitOf out 1))
  if out ≠ ocFail then d
  else
    let d := d.put pgBOOT BOOT.ALT_FLAGS (setBit (d.get pgBOOT BOOT.ALT_FLAGS) step true)
    let d := if step = 5 then d.put pgBOOT BOOT.ALT_BS5_MASK (d.get pgBOOT BOOT.ALT_BS5_MASK ||| detail % 65536) else d
    (d.irq pgBOOT BOOT.IRQ_FAIL).errFw pgBOOT code

/-- The outcome of a step that went well: ALT while its flag is set. -/
def Dev.wellDone (d : Dev) (o : BootObs) (step detail : Nat) : Dev :=
  d.journal o step (if d.altFlag step then ocAlt else ocPass) 0 detail

/-- A pass ends with the step that STATUS shows. The first pass of a device reset started the time counter at BS1, and
TCLK has run since (R418). -/
def Dev.passTime (d : Dev) (o : BootObs) : Dev :=
  let el := fun (i : Nat) => (o.elapsed.toList.getD i 0).toNat
  if d.boot.first then
    { d with time := 40000 * (el (d.get pgBOOT BOOT.ST_STEP) - el 1), boot := { d.boot with first := false } }
  else d

/-- A halt (R456). -/
def Dev.bootHalt (d : Dev) (o : BootObs) : Dev :=
  let d := d.passTime o
  let d := (d.put pgBOOT BOOT.ST_HALTED 1).modBoot (fun b => { b with due := false })
  if o.flashOk then d.mirrorJournal else d

/-! ### Images (R461 to R464) -/

/-- A field of an image header. -/
def hdr (h : List Byte) (o n : Nat) : Nat := listNat h o n

def imgKind (h : List Byte) : Nat := hdr h 0x004 4
def imgSvn (h : List Byte) : Nat := hdr h 0x00C 4
def imgLen (h : List Byte) : Nat := hdr h 0x010 4
def imgKeyset (h : List Byte) : Nat := hdr h 0x01C 4
def imgBind (h : List Byte) : List Byte := (h.drop 0x20).take 16

def magic : Nat := 0x33364B53

/-- DEVICE_ID as bytes (R477). -/
def Dev.deviceId (d : Dev) : List Byte := (List.range 4).flatMap (fun i => natBytes 4 (d.getAt pgSEC SEC.DEVICE_ID i))

/-- The key hashes of a keyset; none for a keyset that is not valid in the life-cycle state (R463, R467). -/
def Dev.keyHashes (d : Dev) (ks : Nat) : Option (List Byte × List Byte) :=
  let st := lcState d.boot.trans
  if ks = 0 then some (Config.edquinEcdsa, Config.edquinHss)
  else if ks = 1 ∧ (st = 1 ∨ st = 2) ∧ d.boot.customer ∧ !d.boot.revoked then some (d.boot.ecdsa, d.boot.lms)
  else none

/-- The LMS_LEN bytes of the HSS signature (R461). -/
def hssSig (h : List Byte) : List Byte := (h.drop 0x164).take (hdr h 0x160 4)

/-- Bytes of an LM-OTS signature after its type code, by the type code: n and p chains of n bytes (R464; the codes and p
are those of RFC 8554). -/
def otsBytes (t : Nat) : Option Nat :=
  match t with | 1 => some (32 * 266) | 2 => some (32 * 134) | 3 => some (32 * 68) | 4 => some (32 * 35) | _ => none

/-- Bytes of an LMS authentication path, by the LMS type code: heights 5, 10, 15, 20 and 25 (R464). -/
def lmsBytes (t : Nat) : Option Nat := if 5 ≤ t ∧ t ≤ 9 then some (160 * (t - 4)) else none

/-- What follows an LMS signature with type codes that R464 names; none for any other. -/
def lmsRest (l : List Byte) : Option (List Byte) :=
  match otsBytes (beNat l 4 4) with
  | none => none
  | some n =>
    match lmsBytes (beNat l (8 + n) 4) with
    | none => none
    | some m => if l.length < 12 + n + m then none else some (l.drop (12 + n + m))

/-- An LMS public key of 56 bytes has type codes that R464 names. -/
def lmsKeyLegal (l : List Byte) : Bool := (lmsBytes (beNat l 0 4)).isSome && (otsBytes (beNat l 4 4)).isSome

/-- `n` signed public keys, then the signature of the message, fill the list (RFC 8554). -/
def hssRest : Nat → List Byte → Bool
  | 0, l => lmsRest l == some []
  | n + 1, l => match lmsRest l with
    | none => false
    | some r => decide (56 ≤ r.length) && lmsKeyLegal r && hssRest n (r.drop 56)

/-- An HSS key and signature with levels and type codes that the verifier accepts (R464). -/
def hssLegal (pk sig : List Byte) : Bool :=
  let l := beNat pk 0 4
  decide (1 ≤ l ∧ l ≤ 3) && lmsKeyLegal (pk.drop 4) && beNat sig 0 4 + 1 == l && hssRest (l - 1) (sig.drop 4)

/-- Check 1 of R463 for an image of KIND `kind` whose keyset must satisfy `ks` (R462). -/
def Dev.imgFormat (d : Dev) (h : List Byte) (kind : Nat) (ks : Nat → Bool) : Bool :=
  let zero := (h.drop 0xFC).take 4 ++ h.drop (0x164 + hdr h 0x160 4)
  hdr h 0 4 == magic && imgKind h == kind && ks (imgKeyset h) && imgLen h % 16 == 0 && decide (imgLen h ≤ 0x7FF000)
    && decide (imgSvn h ≤ 63) && decide (hdr h 0x160 4 ≤ 3740) && zero.all (fun b => b == 0)
    && ((imgBind h).all (fun b => b == 0) || imgBind h == d.deviceId)

/-- The first failing check of R463, 0 for none. -/
def Dev.imgCheck (d : Dev) (h body : List Byte) (kind : Nat) (ks : Nat → Bool) : Nat :=
  let pkE := (h.drop 0x60).take 96
  let pkL := (h.drop 0xC0).take 60
  let msg := h.take 0x100
  if !d.imgFormat h kind ks then 1
  else if Config.sha384 body != (h.drop 0x30).take 48 then 2
  else match d.keyHashes (imgKeyset h) with
    | none => 3
    | some (e, l) =>
      if Config.sha384 pkE != e || Config.sha384 pkL != l then 3
      else if !Config.ecdsaOk pkE msg ((h.drop 0x100).take 96) then 4
      else if !hssLegal pkL (hssSig h) || !Config.hssOk pkL msg (hssSig h) then 5
      else 0

/-! ### The boot pass (R452 to R456) -/

/-- A step: the state after it, and whether the pass goes on. -/
abbrev BootStep := BootObs → Soc → Soc × Bool

def bootRun (o : BootObs) : List BootStep → Soc → Soc
  | [], s => s
  | f :: t, s => let r := f o s; if r.2 then bootRun o t r.1 else r.1

def goOn (s : Soc) (f : Dev → Dev) : Soc × Bool := (s.map f, true)
def stopAt (s : Soc) (f : Dev → Dev) : Soc × Bool := (s.map f, false)

/-- The LEVEL of the debug port (R467, R476). -/
def debugLevel (st : Nat) : Nat := match st with | 0 => 1 | 1 => 1 | 3 => 2 | _ => 0

/-- OTP as the registers show it (R407, R467, R476). -/
def Dev.readOtp (d : Dev) : Dev :=
  let st := lcState d.boot.trans
  -- the first pass in ANALYSIS revokes the customer keys, in RETIRED it erases the attestation keys (R469)
  let d := if st = 3 ∧ !d.boot.revoked then d.modBoot (fun b => { b with revoked := true, clear := true, ecdsa := [], lms := [] }) else d
  let d := if st = 4 then d.modBoot (fun b => { b with attKeys := false }) else d
  let word := if st = 0 then 500 * 2 ^ 21 else d.boot.board
  let d := (d.put pgLCS LCS.ST_STATE st).put pgLCS LCS.BOARD word
  let d := (d.putB pgLCS LCS.KEYS_CUSTOMER (d.boot.customer && !d.boot.revoked)).putB pgLCS LCS.KEYS_REVOKED d.boot.revoked
  let d := (d.put pgLCS LCS.DEBUG (debugLevel st)).put pgDBG DBG.ST_LEVEL (debugLevel st)
  let d := (d.put pgCLK CLK.REF_CFG_REF_SRC (word / 2 ^ 30)).put pgCLK CLK.REF_CFG_XO_DELAY (word / 2 ^ 21 % 512)
  d.put pgBOOT BOOT.FW_SVN_OTP d.boot.fwSvn

/-- The start of a pass: the retention file is restored when its check fails, the pass is counted, and RETRY acts
(R454, R459). -/
def Dev.bootStart (d : Dev) : Dev :=
  let d := if d.boot.retOk then d
    else
      let d := { d with regs := d.regs.filter (fun e => !isRetention e.1) }
      match d.boot.mirror with
      | some m => m.foldl (fun (d : Dev) e => d.setReg e.1 e.2) d
      | none => d.put pgBOOT BOOT.JRNL_HEAD 63
  let d := (d.incWrap pgBOOT BOOT.BOOT_CNT).modBoot (fun b => { b with retOk := true, retry := 0 })
  let r := d.boot.retry ||| d.get pgBOOT BOOT.RETRY
  let d := d.put pgBOOT BOOT.RETRY 0
  let fl := d.get pgBOOT BOOT.ALT_FLAGS
  let d := d.put pgBOOT BOOT.ALT_FLAGS (fl - (fl &&& r))
  if bitOf r 5 then d.put pgBOOT BOOT.ALT_BS5_MASK 0 else d

def bs0 : BootStep := fun o s =>
  let r := s.dev.boot.retry
  let s := s.map (fun d =>
    let d := d.put pgBOOT BOOT.RETRY (d.get pgBOOT BOOT.RETRY ||| r)
    (d.bootStart.put pgBOOT BOOT.OUTCOME 0).put pgBOOT BOOT.REV_ROM o.romVersion.toNat)
  let det := o.romVersion.toNat * 65536
  if !o.romOk then stopAt s (fun d => (d.journal o 0 ocFail Err.BOOT_ROM det).bootHalt o)
  else goOn s (fun d => (d.readOtp).wellDone o 0 det)

/-- BS1: the oscillators and PLLs (R408, R414, R417, R455). The time counter starts at the first aligned edge after a
device reset (R418), so not in a second pass of it. -/
def bs1 : BootStep := fun o s =>
  let alt := s.dev.altFlag 1
  let delay := s.dev.get pgCLK CLK.REF_CFG_XO_DELAY
  let t := match o.xoReady with | some t => t.toNat | none => 0xFFFF
  let inTime := o.xoReady.isSome && (alt || decide (t ≤ delay + 20))
  let det := (if inTime then t else 0xFFFF) * 65536 + o.diode.toNat
  let s := s.map (fun d =>
    let first := !d.flag pgCLK CLK.ST_PLL0_LOCK
    let d := ((d.put pgCLK CLK.ST_PLL0_LOCK 1).put pgCLK CLK.ST_PLL1_LOCK 1).put pgCLK CLK.ST_DLL_LOCK 1
    let d := (d.modThm (fun h => { h with bootDie := o.diode.toInt })).modClk (fun c => { c with xoOn := true })
    let d := if inTime then (d.put pgCLK CLK.ST_REF_READY 1).irq pgCLK CLK.IRQ_REF_READY else d
    let d := d.putB pgBOOT BOOT.ST_ON_IRC (alt || !inTime)
    let d := (d.putB pgCLK CLK.ST_ON_FALLBACK (!inTime)).putB pgCLK CLK.ST_ALIGN (inTime && !alt)
    let d := if first then { d with time := 0, boot := { d.boot with first := true } } else d
    if alt then
      let d := d.journal o 1 ocAlt 0 det
      if inTime then d.put pgBOOT BOOT.ALT_FLAGS (setBit (d.get pgBOOT BOOT.ALT_FLAGS) 1 false) else d
    else if inTime then d.journal o 1 ocPass 0 det
    else d.journal o 1 ocFail Err.BOOT_XO det)
  (s, true)

/-- BS2: DRAM training (R453). -/
def bs2 : BootStep := fun o s =>
  let d := s.dev
  let m := o.margin.toNat
  let set := fun (d : Dev) (src : Nat) (no : Bool) => (d.put pgBOOT BOOT.TRAIN (src * 2 ^ 24 + (if src = 2 then 0 else m))).putB
    pgBOOT BOOT.ST_NO_DRAM no
  if d.altFlag 5 && bitOf (d.get pgBOOT BOOT.ALT_BS5_MASK) 15 then
    goOn s (fun d => set (d.journal o 2 ocSkip 0 (2 * 2 ^ 24)) 2 true)
  else if d.altFlag 2 then
    if o.storedOk then goOn s (fun d => set (d.journal o 2 ocAlt 0 (2 ^ 24 + m)) 1 false)
    else goOn s (fun d => set (d.journal o 2 ocFail Err.BOOT_DRAM_STORED (2 ^ 24 + m)) 2 true)
  else if o.trainOk then goOn s (fun d => set (d.journal o 2 ocPass 0 m) 0 false)
  else goOn s (fun d => set (d.journal o 2 ocFail Err.BOOT_DRAM_TRAIN m) 2 true)

/-- The secondary image is selected (R453). -/
def Dev.secondary (d : Dev) : Bool := d.altFlag 3 || d.altFlag 4

def Dev.imgBase (d : Dev) : Nat := if d.secondary then 0x900000 else 0x100000

/-- A failure of BS3 or BS4: a new pass with the secondary image, or a halt. -/
def Dev.imgFailed (d : Dev) (o : BootObs) (second : Bool) (step code det : Nat) : Dev :=
  let d := d.journal o step ocFail code det
  if second then d.bootHalt o else d.passTime o

/-- BS3: the header and body of the selected image (R453, R460, R467). -/
def bs3 : BootStep := fun o s =>
  let d := s.dev
  let second := d.secondary
  let h := memGetList s.flash d.imgBase 4096
  let len := imgLen h
  let det := b2n second * 2 ^ 31 + len % 2 ^ 31
  if d.get pgLCS LCS.ST_STATE = 4 then stopAt s (fun d => (d.journal o 3 ocFail Err.BOOT_RETIRED 0).bootHalt o)
  else if !o.flashOk || hdr h 0 4 != magic || imgKind h != 1 then
    stopAt s (fun d => d.imgFailed o second 3 Err.BOOT_IMAGE_READ det)
  else
    let a := hdr h 0x14 4
    let s := if inSram a len then
        { s with mem := memPutList s.mem a (memGetList s.flash (d.imgBase + 4096) len)
                 ue := s.ue.filter (fun x => !decide (a ≤ x ∧ x < a + len)) }
      else s
    goOn s (fun d => d.journal o 3 (if second then ocAlt else ocPass) 0 det)

/-- The code of a failed check at BS4 (R458, R474), and its number in DETAIL. -/
def bs4Code (c : Nat) : Nat × Nat :=
  match c with
  | 1 => (Err.BOOT_FORMAT, 1) | 2 => (Err.BOOT_DIGEST, 2) | 3 => (Err.BOOT_FORMAT, 1)
  | 4 => (Err.BOOT_ECDSA, 3) | 5 => (Err.BOOT_LMS, 4) | _ => (Err.BOOT_ROLLBACK, 5)

/-- BS4: the checks of R463 and R465. -/
def bs4 : BootStep := fun o s =>
  let d := s.dev
  let second := d.secondary
  let h := memGetList s.flash d.imgBase 4096
  let body := memGetList s.flash (d.imgBase + 4096) (imgLen h)
  let c := d.imgCheck h body 1 (fun k => k == 0)
  let c := if c = 0 ∧ imgSvn h < d.boot.fwSvn then 6 else c
  let img := b2n second * 2 ^ 31
  if c ≠ 0 then stopAt s (fun d => d.imgFailed o second 4 (bs4Code c).1 (img + (bs4Code c).2 * 2 ^ 28))
  else goOn s (fun d =>
    let d := d.journal o 4 (if second then ocAlt else ocPass) 0 img
    let d := (d.put pgBOOT BOOT.FW_VERSION (hdr h 8 4)).put pgBOOT BOOT.FW_SVN_IMAGE (imgSvn h)
    (d.putB pgBOOT BOOT.ST_SECONDARY second).modBoot (fun b => { b with fwDigest := (h.drop 0x30).take 48 }))

/-- A datapath failed or is left out at start-up: it is retired, and a pair keeps its live datapaths (R68, R443). -/
def Dev.bootRetire (d : Dev) (t : Nat) : Dev :=
  let c := t / 3
  let e := (d.retire c (t % 3)).rolesAscending c
  e.irqIf (d.get (pgCLU c) CLU.CFG != e.get (pgCLU c) CLU.CFG) (pgCLU c) CLU.IRQ_HANDOVER

/-- Targets that the start-up test visits, in its order (R443, R454). -/
def Dev.bistTargets (d : Dev) : List Nat :=
  let m := if d.altFlag 5 then d.get pgBOOT BOOT.ALT_BS5_MASK else 0
  [12, 13, 14] ++ (List.range 12).filter (fun t => !bitOf m t) ++ (if d.flag pgBOOT BOOT.ST_NO_DRAM then [] else [15])

/-- BS5: the start-up self-test (R443, R453, R454). -/
def bs5 : BootStep := fun o s =>
  let d := s.dev
  let mask := if d.altFlag 5 then d.get pgBOOT BOOT.ALT_BS5_MASK else 0
  let bad := fun (t : Nat) => bitOf o.bist.toNat t
  let l := if o.progOk then d.bistTargets else []
  let run := match ([12, 13, 14] : List Nat).find? (fun t => l.contains t && bad t) with
    | some t => (l.takeWhile (fun x => x != t)) ++ [t]
    | none => l
  let failed := run.filter bad
  let det := failed.foldl (fun m t => m + 2 ^ t) 0
  let halt := failed.any (fun t => t == 12 || t == 13 || t == 14)
  -- the first pass in ANALYSIS clears both memories (R469)
  let s := if d.boot.clear then { s with mem := [], ue := [] } else s
  let s := s.map (fun d =>
    let d := d.modBoot (fun b => { b with clear := false })
    let d := run.foldl (fun (d : Dev) t => d.bistResult t 0 (!bad t) (o.sigs.toList.getD t 0)) d
    let skipped := (List.range 16).filter (fun t => !run.contains t)
    let d := skipped.foldl (fun (d : Dev) t => d.putAt pgBIST BIST.RESULT_STATE t 3) d
    let d := ((List.range 12).filter (fun t => bitOf mask t || failed.contains t)).foldl (fun (d : Dev) t => d.bootRetire t) d
    let d := if failed.contains 15 then d.put pgBOOT BOOT.ST_NO_DRAM 1 else d
    if !failed.isEmpty then d.journal o 5 ocFail Err.BOOT_BIST det
    else if !o.progOk then d.journal o 5 ocSkip 0 0
    else d.wellDone o 5 0)
  if halt then stopAt s (fun d => d.bootHalt o) else (s, true)

/-- BS6: the handshake with Gnomon (R453). -/
def bs6 : BootStep := fun o s =>
  if !o.gnOk then stopAt s (fun d => (d.journal o 6 ocFail Err.BOOT_GNOMON o.patchLevel.toNat).bootHalt o)
  else goOn s (fun d =>
    let try_ := !d.altFlag 6
    let ok := try_ && o.patchOk
    let det := b2n ok * 2 ^ 31 + o.patchLevel.toNat
    let d := d.put pgGNM GNM.VERSION_PATCH (if ok then o.patchLevel.toNat else 0)
    let d := d.modGnm (fun g => { g with beatOk := some (g.beatOk.getD d.wall) })
    if try_ && !o.patchOk then d.journal o 6 ocFail Err.BOOT_GN_PATCH det else d.wellDone o 6 det)

/-- The next HSS index (R471). -/
def BootH.nextQ (b : BootH) : Nat :=
  match b.lmsQ with
  | some q => if 1024 * (b.lmsK - 1) ≤ q ∧ q < 1024 * b.lmsK ∧ b.lmsK ≠ 0 then q else 1024 * b.lmsK
  | none => 1024 * b.lmsK

/-- LMS_USED and LMS_LEFT (R472, R477). -/
def Dev.putQ (d : Dev) (q : Nat) : Dev :=
  let d := d.modBoot (fun b => { b with lmsQ := some q, lmsK := max b.lmsK (min 1024 (q / 1024 + 1)) })
  let low := decide (2 ^ 20 - q < 65536)
  let was := decide (d.get pgSEC SEC.LMS_LEFT < 65536)
  let d := (d.put pgSEC SEC.LMS_USED q).put pgSEC SEC.LMS_LEFT (2 ^ 20 - q)
  if low && !was then d.irq pgSEC SEC.IRQ_LMS_LOW else d

/-- The library programs are copied into SRAM, and their addresses and lengths are written (R289). -/
def Soc.loadLibraries (s : Soc) : Soc :=
  let put := fun (s : Soc) (a : Nat) (l : List Nat) => { s with mem := memPutList s.mem a (l.flatMap (natBytes 8)) }
  let s := (List.range 5).foldl (fun (s : Soc) p =>
    put (s.map (fun d => (d.putAt pgFLD FLD.LIB_ADDR p (libAddr p)).putAt pgFLD FLD.LIB_INFO p (libProgram p).length))
      (libAddr p) (libProgram p)) s
  -- the further builds of CURFOC
  [(true, false), (false, true), (true, true)].foldl (fun (s : Soc) b =>
    put s (curfocAddr b.1 b.2) (Lib.curfoc b.1 b.2)) s

/-- BS7: the firmware services start (R439, R452, R471). -/
def bs7 : BootStep := fun o s =>
  if !o.almOk then stopAt s (fun d => (d.journal o 7 ocFail Err.BOOT_ALMANAC o.libs.toNat).bootHalt o)
  else goOn s (fun d =>
    let d := (d.putB pgBIST BIST.ST_PROG_VALID o.progOk).put pgALM ALM.ST_STATE 0
    let d := if o.progOk then
        (d.put pgBIST BIST.PROG_INFO_VERSION o.progVersion.toNat).put pgBIST BIST.PROG_INFO_SEGMENTS 32 else d
    ((d.putQ d.boot.nextQ).put pgCTX CTX.POOL_ADDR poolAddr).wellDone o 7 5) |> fun r => (r.1.loadLibraries, r.2)

/-- The host interface of the board word: PCI Express or the xSPI target (R452, R468). -/
def Dev.hostXspi (d : Dev) : Bool := bitOf (d.get pgLCS LCS.BOARD) 20

/-- The PCI Express link is up. -/
def Dev.pcieUp (d : Dev) (speed width : Nat) : Dev :=
  ((d.put pgPCIE PCIE.ST_LINK_UP 1).put pgPCIE PCIE.ST_SPEED speed).put pgPCIE PCIE.ST_WIDTH width

/-- The hand-over is complete. -/
def Dev.bootDone (d : Dev) : Dev :=
  (((d.put pgBOOT BOOT.ST_DONE 1).irq pgBOOT BOOT.IRQ_DONE).modBoot (fun b => { b with due := false, waitLink := false })).mirrorJournal

/-- BS8: the host link (R453). -/
def bs8 : BootStep := fun o s =>
  goOn s (fun d =>
    let x := d.hostXspi
    let det := b2n x * 2 ^ 31 + o.linkMs.toNat
    if o.linkUp || x then
      let d := if x then d else (d.pcieUp o.speed.toNat o.width.toNat).irq pgPCIE PCIE.IRQ_LINK_UP
      ((d.wellDone o 8 det).passTime o).bootDone
    else ((d.journal o 8 ocFail Err.BOOT_HOST_LINK det).passTime o).modBoot (fun b =>
      { b with due := false, waitLink := true }))

/-- BOOT_PASS (R452): one pass, after a device reset or a failure of BS3 or BS4. With TEST_EN high the device stays in
reset (R538). -/
def Soc.bootPass (o : BootObs) (s : Soc) : Soc :=
  if !s.dev.boot.due || o.testEn then s else bootRun o [bs0, bs1, bs2, bs3, bs4, bs5, bs6, bs7, bs8] s

/-- A write of BOOT RETRY (R454): it waits for the next pass. -/
def Dev.retryWrite (bits : BitVec 9) (d : Dev) : Dev := d.put pgBOOT BOOT.RETRY (d.get pgBOOT BOOT.RETRY ||| bits.toNat)

/-! ### Tokens (R467 to R469) -/

def Dev.tokenRefuse (d : Dev) (code : Nat) : Dev :=
  ((d.put pgLCS LCS.TOKEN_STAT_CODE code).irq pgLCS LCS.IRQ_TOKEN_REFUSED).err pgLCS code

/-- The row of R468 that a token is: FROM, TO, KEYSET, and whether it needs BIND. -/
def tokenRow (f t ks : Nat) : Option Bool :=
  match f, t, ks with
  | 0, 1, 0 => some false | 1, 2, 1 => some false | 2, 3, 1 => some true | 2, 4, 1 => some true | 3, 4, 0 => some true
  | _, _, _ => none

/-- TOKEN_CMD.GO (R469). -/
def Soc.tokenGo (s : Soc) : Soc :=
  let d := s.dev
  let a := d.get pgLCS LCS.TOKEN_ADDR
  let h := memGetList s.mem a 4096
  let b := memGetList s.mem (a + 4096) 128
  let f := listNat b 0 1
  let t := listNat b 1 1
  let st := lcState d.boot.trans
  let refuse := fun (c : Nat) => s.map (fun d => d.tokenRefuse c)
  if d.flag pgLCS LCS.ST_PENDING || d.boot.burn.isSome || d.flag pgSEC SEC.ST_BUSY then refuse Err.LCS_BUSY
  else if !inSram a 4224 || imgLen h != 128 || d.imgCheck h b 3 (fun k => decide (k < 2)) ≠ 0 then refuse Err.LCS_TOKEN_SIGN
  else match tokenRow f t (imgKeyset h) with
    | none => refuse Err.LCS_TOKEN_STATE
    | some bind =>
      if f ≠ st then refuse Err.LCS_TOKEN_STATE
      else if bind && (imgBind h).all (fun x => x == 0) then refuse Err.LCS_TOKEN_BIND
      else if (t = 3 ∨ t = 4) && (d.almState != 0 || !d.lockedOut) then refuse Err.LCS_TOKEN_STATE
      else s.map (fun d =>
        let d := d.modBoot (fun x => { x with burn := some ⟨t, listNat b 4 4, (b.drop 8).take 48, (b.drop 56).take 48⟩ })
        (d.put pgLCS LCS.TOKEN_STAT_BUSY 1).put pgLCS LCS.TOKEN_STAT_CODE 0)

/-- OTP after a burn (R467, R469). -/
def BootH.burnt (x : BootH) (b : Burn) : BootH :=
  let x := { x with trans := setBit x.trans b.target true, burn := none }
  if b.target = 1 then { x with board := b.board, ecdsa := b.ecdsa, lms := b.lms, customer := true } else x

/-- TOKEN_DONE (R469). -/
def Dev.tokenDone (d : Dev) : Dev :=
  match d.boot.burn with
  | none => d
  | some b =>
    let d := d.modBoot (fun x => x.burnt b)
    let d := (d.put pgLCS LCS.TOKEN_STAT_BUSY 0).put pgLCS LCS.ST_PENDING 1
    (d.put pgLCS LCS.ST_TARGET b.target).irq pgLCS LCS.IRQ_TOKEN_DONE

/-! ### Security commands (R465, R466, R470 to R473) -/

/-- CMD_STAT of a command that does not run on: BUSY shows one that does (R477). -/
def Dev.secStat (d : Dev) (w : Nat) : Dev := d.put pgSEC SEC.CMD_STAT (b2n (d.flag pgSEC SEC.ST_BUSY) * 2 ^ 31 + w)

def Dev.secRefuse (d : Dev) (cmd code : Nat) : Dev :=
  ((d.secStat (cmd % 8 * 2 ^ 16 + code)).irq pgSEC SEC.IRQ_REFUSED).err pgSEC code

/-- A command that has ended well. -/
def Dev.secDoneNow (d : Dev) (cmd : Nat) : Dev := (d.secStat (cmd * 2 ^ 16)).irq pgSEC SEC.IRQ_DONE

/-- A command that takes time begins; SEC_DONE ends it. -/
def Dev.secBegin (d : Dev) (cmd : Nat) : Dev :=
  ((d.put pgSEC SEC.ST_BUSY 1).put pgSEC SEC.CMD_STAT (2 ^ 31 + cmd * 2 ^ 16)).modBoot (fun b => { b with secCmd := cmd })

/-- The verified range may not change now (R473). -/
def Dev.cfgInUse (d : Dev) : Bool :=
  d.almState == 1 || d.almState == 2 || (d.flag pgSNET SNET.SREQ_STAT_BUSY && d.get pgSNET SNET.SREQ_STAT_CMD == 1)

/-- Store CMD, and refuse everything in a halt (R456). -/
def Dev.secCommand (d : Dev) (cmd : Nat) (f : Dev → Dev) : Dev :=
  let d := d.put pgSEC SEC.CMD_CMD cmd
  if d.flag pgBOOT BOOT.ST_HALTED then d.secRefuse cmd Err.SEC_CMD else f d

/-- SEC VERIFY_CFG (R466). -/
def Dev.verifyCfg (d : Dev) : Dev :=
  d.secCommand 1 (fun d =>
    if d.flag pgSEC SEC.ST_BUSY || d.cfgInUse then d.secRefuse 1 Err.SEC_BUSY
    else (((d.put pgSEC SEC.ST_CFG_VERIFIED 0).put pgSEC SEC.CFG_BASE 0).put pgSEC SEC.CFG_END 0).secBegin 1)

/-- SEC RELEASE_CFG (R466). -/
def Dev.releaseCfg (d : Dev) : Dev :=
  d.secCommand 2 (fun d =>
    if d.cfgInUse then d.secRefuse 2 Err.SEC_BUSY
    else
      let d := ((d.put pgSEC SEC.ST_CFG_VERIFIED 0).put pgSEC SEC.CFG_BASE 0).put pgSEC SEC.CFG_END 0
      (d.modBoot (fun b => { b with cfgHash := [] })).secDoneNow 2)

/-- SEC ATTEST (R470 to R473): the next index goes to flash at once, so that a reset loses the present one. -/
def Dev.attest (d : Dev) : Dev :=
  d.secCommand 3 (fun d =>
    if d.flag pgSEC SEC.ST_BUSY then d.secRefuse 3 Err.SEC_BUSY
    else if 2 ^ 20 ≤ d.boot.nextQ then (d.put pgSEC SEC.ST_LMS_EXHAUSTED 1).secRefuse 3 Err.SEC_LMS_EXHAUSTED
    else (d.putQ (d.boot.nextQ + 1)).secBegin 3)

/-- SEC GET_KEYS (R470). -/
def Dev.getKeys (d : Dev) : Dev :=
  d.secCommand 4 (fun d => if d.flag pgSEC SEC.ST_BUSY then d.secRefuse 4 Err.SEC_BUSY else d.secBegin 4)

/-- SEC SVN_COMMIT (R465). -/
def Dev.svnCommit (d : Dev) : Dev :=
  d.secCommand 5 (fun d =>
    let v := d.get pgBOOT BOOT.FW_SVN_IMAGE
    if v < d.boot.fwSvn ∨ !d.flag pgBOOT BOOT.ST_DONE then d.secRefuse 5 Err.SEC_CMD
    else ((d.modBoot (fun b => { b with fwSvn := v })).put pgBOOT BOOT.FW_SVN_OTP v).secDoneNow 5)

/-- A reserved SEC command (R477). -/
def Dev.secReserved (cmd : Nat) (d : Dev) : Dev := (d.put pgSEC SEC.CMD_CMD cmd).secRefuse cmd Err.SEC_CMD

/-- Bytes 0 to 199 of an attestation report (R470). -/
def Dev.report200 (d : Dev) (q : Nat) : List Byte :=
  let w := fun (pg : Nat) (f : Fld) => natBytes 4 (d.get pg f)
  natBytes 4 0x00010000 ++ d.deviceId
  ++ natBytes 1 (d.get pgLCS LCS.ST_STATE) ++ natBytes 1 0x42 ++ natBytes 2 0
  ++ w pgBOOT BOOT.FW_VERSION ++ natBytes 1 (d.get pgBOOT BOOT.FW_SVN_IMAGE)
  ++ natBytes 1 (d.get pgBOOT BOOT.ST_SECONDARY) ++ natBytes 2 0
  ++ (d.boot.fwDigest ++ List.replicate 48 0).take 48 ++ (d.boot.cfgHash ++ List.replicate 48 0).take 48
  ++ w pgGNM GNM.VERSION ++ w pgGNM GNM.CFG_CRC ++ w pgGNM GNM.LOCK_CAUSE
  ++ w pgBOOT BOOT.BOOT_CNT ++ w pgBOOT BOOT.ALT ++ w pgALM ALM.RETIRED ++ natBytes 8 d.time
  ++ (List.range 8).flatMap (fun i => natBytes 4 (d.getAt pgSEC SEC.NONCE i)) ++ natBytes 4 q ++ natBytes 4 0

/-- Write bytes and clear the ECC errors of the words written in full. -/
def Soc.store (s : Soc) (a : Nat) (b : List Byte) : Soc :=
  { s with mem := memPutList s.mem a b, ue := s.ue.filter (fun x => !decide (a ≤ x ∧ x + 4 ≤ a + b.length)) }

/-- A unit of the device writes bytes where the host may write: those in the verified range of R466 are ignored, and the
code goes to the unit's page with its ORIGIN. -/
def Soc.storeUnlocked (s : Soc) (pg origin a : Nat) (b : List Byte) : Soc :=
  let lo := s.dev.get pgSEC SEC.CFG_BASE
  let hi := s.dev.get pgSEC SEC.CFG_END
  if s.dev.flag pgSEC SEC.ST_CFG_VERIFIED && decide (lo < a + b.length ∧ a < hi) then
    { s with
      mem := (List.range b.length).foldl (fun m i =>
        if lo ≤ a + i ∧ a + i < hi then m else memPut m (a + i) (b.getD i 0)) s.mem
      dev := s.dev.errBy pg Err.SEC_IMG_LOCKED origin }
  else s.store a b

/-- Firmware writes bytes into SRAM; nothing is written outside it. -/
def Soc.putBytes (s : Soc) (a : Nat) (b : List Byte) : Soc :=
  if inSram a b.length then s.storeUnlocked pgSEC 0xFF a b else s

/-- SEC_DONE (R466, R470, R471): the running command completes. -/
def Soc.secDone (s : Soc) : Soc :=
  let d := s.dev
  if !d.flag pgSEC SEC.ST_BUSY then s
  else
    let s := s.map (fun d => d.put pgSEC SEC.ST_BUSY 0)
    let a := d.get pgSEC SEC.ARG0
    match d.boot.secCmd with
    | 1 =>
      let h := memGetList s.mem a 4096
      let n := imgLen h
      let body := memGetList s.mem (a + 4096) n
      if !inSram a (4096 + n) || d.get pgSEC SEC.ARG1 != 4096 + n || d.imgCheck h body 2 (fun k => k == 1) ≠ 0
      then s.map (fun d => d.secRefuse 1 Err.SEC_IMG_SIGN)
      else s.map (fun d =>
        let d := (d.put pgSEC SEC.ST_CFG_VERIFIED 1).put pgSEC SEC.CFG_BASE (a + 4096)
        let d := (d.put pgSEC SEC.CFG_END (a + 4096 + n)).modBoot (fun b => { b with cfgHash := Config.sha384 (h.take 0x100) })
        d.secDoneNow 1)
    | 3 =>
      let q := d.boot.nextQ - 1
      let b := d.report200 q
      let sig := natBytes 96 (Config.attestEcdsa b d.freeCtr) ++ natBytes 4 2964 ++ natBytes 2964 (Config.attestHss b q)
      let s := (s.map Dev.fresh).putBytes a (b ++ sig)
      s.map (fun d => (d.secDoneNow 3).irq pgSEC SEC.IRQ_ATTEST_DONE)
    | _ =>
      let b := natBytes 4096 Config.endorsement ++ d.deviceId ++ natBytes 156 Config.deviceKeys ++ natBytes 4 0
      (s.putBytes a b).map (fun d => d.secDoneNow 4)

end Sys2Proof.Machine
end

