-- ==== Sys2Proof/Machine/Vernier.lean ====
section
/-! DEFINITION. Array operation and the Vernier link (chapter 18): ports and ring, time and alignment, transactions,
the holding state, placement on another device, partner violations. -/

namespace Sys2Proof.Machine

def vlk0 : Nat := pgVLK 0

def Dev.vErr (d : Dev) (code : Nat) : Dev := d.err vlk0 code

/-- A code of the array manager, ORIGIN 0xFE (R20): what it finds in its transactions, and what its frames bring. -/
def Dev.vErrMgr (d : Dev) (code : Nat) : Dev := d.errBy vlk0 code 0xFE

def Dev.modTxn (d : Dev) (f : TxnH → TxnH) : Dev := d.modVlk (fun v => { v with txn := f v.txn })

/-- Times of the link's own timers, in TCLK. -/
def tclkUs (n : Nat) : Nat := 400 * n

/-- A journal entry for a Vernier peer (R499, R500). Where the table gives the violation no code, the entry's code is a
free value. -/
def Dev.vViolation (d : Dev) (partner : Nat) (code : Option Nat) (answer : Nat) (bytes : List Byte) : Dev :=
  match code with
  | some c => d.journalAdd 0 partner c answer bytes
  | none => let (f, d) := d.free 16; d.journalAdd 0 partner f answer bytes

/-! ### Ports and ring (R480 to R482) -/

/-- The timing port (R480): the UP port with the fewer hops, VLK1 on a tie. The manager has none. -/
def Dev.timingPort (d : Dev) : Option Nat :=
  let h := fun (p : Nat) => (d.vlk.hops.getD p none).getD 63
  if d.vId = 0 then none
  else match d.vUp 0, d.vUp 1 with
    | true, true => some (if h 0 < h 1 then 0 else 1)
    | true, false => some 0
    | false, true => some 1
    | false, false => none

/-- PSTAT.TIMING after a change. A worker on the recovered reference that goes over to another timing port leaves the old
one by the hitless switch, and returns when the new one delivers (R491). -/
def Dev.timingUpdate (d : Dev) : Dev :=
  let was := if d.flag (pgVLK 0) VLK.PSTAT_TIMING then some 0 else if d.flag (pgVLK 1) VLK.PSTAT_TIMING then some 1 else none
  let now := d.timingPort
  let d := (d.putB (pgVLK 0) VLK.PSTAT_TIMING (now == some 0)).putB (pgVLK 1) VLK.PSTAT_TIMING (now == some 1)
  if was.isSome && now.isSome && was != now && d.get pgCLK CLK.REF_CFG_REF_SRC == 3
      && !d.flag pgCLK CLK.ST_ON_FALLBACK && !d.flag pgCLK CLK.ST_IRC_FAIL then
    let d := d.refSwitch true
    if d.flag vlk0 VLK.ARRAY_CFG_AUTO_RETURN && d.flag pgCLK CLK.ST_REF_READY then d.returnWrite else d
  else d

/-- RING.STATE of the manager (R482): 0 CLOSED, 1 WRAPPED, 2 SPLIT. -/
def Dev.ringSet (d : Dev) (st : Nat) : Dev :=
  if d.vId ≠ 0 ∨ d.get vlk0 VLK.RING = st then d
  else
    let d := (d.put vlk0 VLK.RING st).irq vlk0 VLK.IRQ_RING
    if st = 2 then d.vErr Err.VLK_SPLIT else d

/-- A port of the manager changed: with both down every other member is out of reach, with one down the ring wraps. -/
def Dev.ringPorts (d : Dev) : Dev :=
  if !d.vOn then d
  else if d.vUp 0 && d.vUp 1 then d
  else if !d.vUp 0 && !d.vUp 1 then (if d.get vlk0 VLK.MEMBERS / 2 = 0 then d.ringSet 1 else d.ringSet 2)
  else if d.get vlk0 VLK.RING = 0 then d.ringSet 1 else d

/-- A port changes its state (R481); leaving UP is journalled with the answer given. -/
def Dev.portSet (d : Dev) (p st : Nat) (code : Option Nat) (answer : Nat) : Dev :=
  let pg := pgVLK p
  let was := d.vPort p
  if was = st then d
  else
    let d := (d.put pg VLK.PSTAT_STATE st).irq pg VLK.IRQ_PORT
    let d := if was = 2 then
        (d.vViolation p code answer []).modVlk (fun v => { v with hops := listMod v.hops p (fun _ => none) })
      else d
    d.timingUpdate.ringPorts

/-- PORT_LOSS (R481): 10 µs without a valid code group. -/
def Dev.portLoss (p : Fin 2) (d : Dev) : Dev := d.portSet p 0 none 0

/-- COMMA_ALIGNMENT (R481). -/
def Dev.commaAlignment (p : Fin 2) (d : Dev) : Dev :=
  if d.enabled (pgVLK p) && d.vPort p == 0 then d.portSet p 1 none 0 else d

/-- PORT_UP (R481): 1,024 consecutive idles without a code error. -/
def Dev.portUp (p : Fin 2) (d : Dev) : Dev := if d.vPort p = 1 then d.portSet p 2 none 0 else d

/-- PORT_DEGRADED (R481, R499). -/
def Dev.portDegraded (p : Fin 2) (d : Dev) : Dev :=
  if d.vPort p = 2 then (d.portSet p 3 (some Err.VLK_DEGRADED) 2).vErr Err.VLK_DEGRADED else d

/-- PORT_RECOVERED (R481): 100 ms without an error. -/
def Dev.portRecovered (p : Fin 2) (d : Dev) : Dev := if d.vPort p = 3 then d.portSet p 2 none 0 else d

/-- Enable of a port (R502). -/
def Dev.vlkEnable (d : Dev) (p : Fin 2) : Dev :=
  let ppm := d.get vlk0 VLK.ARRAY_CFG_SLEW_PPM
  if (d.vId == 0 && d.get pgCLK CLK.REF_CFG_REF_SRC == 3) || decide (ppm < 10) || decide (1000 < ppm)
      || d.get vlk0 VLK.ARRAY_CFG_ISO_TIME == 0 then d.vErr Err.VLK_CFG
  else
    let first := !d.vOn
    let d := d.put (pgVLK p) COM.ST_ENABLED 1
    if first then d.modVlk (fun v => { v with lastSync := d.wall, syncT := d.time, dlyT := d.time, good := 0 }) else d

def Dev.vlkDisable (d : Dev) (p : Fin 2) : Dev := (d.put (pgVLK p) COM.ST_ENABLED 0).portSet p 0 none 0

/-! ### Receiving -/

/-- Begin a Vernier command: nothing sent yet. -/
def Dev.vStart (d : Dev) : Dev := d.modVlk (fun v => { v with sent := [] })

/-- Header bytes 0 to 6 of a received frame, for the journal. -/
def VHdr.bytes (h : VHdr) (type sub len : Nat) : List Byte :=
  [BitVec.ofNat 8 (type + 16 * sub), BitVec.ofNat 8 h.src.toNat, h.dst, BitVec.ofNat 8 (b2n h.ringB + 2 * b2n h.wrapped),
   h.hops, 0, BitVec.ofNat 8 len]

/-- The ring that a frame received through a port travels on leaves through the other port. -/
def VHdr.onward (h : VHdr) : Nat := 1 - h.port.val

/-- Pass a frame on (R485): not for this device alone, not its own; HOPS 0 discards it (R499). -/
def Dev.vForward (d : Dev) (h : VHdr) (type sub : Nat) (body : List Byte) : Dev :=
  if h.dst.toNat = d.vId ∨ h.src.toNat = d.vId then d
  else if h.hops.toNat ≤ 1 then d.vViolation h.src.toNat none 0 (h.bytes type sub body.length)
  else d.vOut h.onward type sub h.src.toNat h.dst.toNat (h.hops.toNat - 1) h.seq.toNat h.wrapped body

/-- The frame is for this device. -/
def Dev.vMine (d : Dev) (h : VHdr) : Bool := (h.dst.toNat == d.vId || h.dst == 0xFF) && h.src.toNat != d.vId

/-- SEQ is ahead of the last accepted one of its SRC and TYPE (R7, R499). -/
def Dev.seqAhead (d : Dev) (h : VHdr) (type : Nat) : Bool :=
  match d.vlk.seqRx.find? (fun e => e.1 == 8 * h.src.toNat + type) with
  | none => true
  | some e => let x := (h.seq.toNat + 2 ^ 32 - e.2) % 2 ^ 32; x != 0 && decide (x < 2 ^ 31)

def Dev.seqTake (d : Dev) (h : VHdr) (type : Nat) : Dev :=
  let k := 8 * h.src.toNat + type
  d.modVlk (fun v => { v with seqRx := (k, h.seq.toNat) :: v.seqRx.filter (fun e => e.1 != k) })

/-- A NAK to the sender of a frame, back through the port it came from (R484, R499). -/
def Dev.vNak (d : Dev) (h : VHdr) (code : Nat) : Dev :=
  d.vSend [h.port.val] 4 5 h.src.toNat ([0, 0] ++ natBytes 2 code)

/-- Receive a frame: it is passed on where R485 says so, and acted on when it is this device's and its SEQ is ahead.
Only an UP port carries frames (R481). -/
def Dev.vReceive (d : Dev) (h : VHdr) (type sub : Nat) (body : List Byte) (act : Dev → Dev) : Dev :=
  let d := d.vStart
  if !d.vUp h.port then d
  else
    let d := d.vForward h type sub body
    if !d.vMine h then d
    else if type = 3 ∧ h.src ≠ 0 then
      ((d.vViolation h.src.toNat (some Err.VLK_NOT_MANAGER) 1 (h.bytes type sub body.length)).vErr Err.VLK_NOT_MANAGER).vNak h
        Err.VLK_NOT_MANAGER
    else if !d.seqAhead h type then d.vViolation h.src.toNat none 0 (h.bytes type sub body.length)
    else act (d.seqTake h type)

/-! ### Enumeration (R482) -/

/-- ARRAY_CMD on a worker, and a command while a transaction is open (R501, R502). -/
def Dev.arrayCmd (d : Dev) (whileOpen : Bool) (f : Dev → Dev) : Dev :=
  let d := d.vStart
  if d.vId ≠ 0 then d.vErr Err.VLK_NOT_MANAGER
  else if d.vlk.txn.isOpen && !whileOpen then d.vErr Err.VLK_BUSY
  else f d

/-- ENUM (R482). -/
def Dev.enum (d : Dev) : Dev := d.arrayCmd false (fun d => d.vSend [0] 5 3 0 [0])

/-- The manager takes the result of an ENUM: MEMBERS, and RING.STATE from what it shows. -/
def Dev.enumResult (d : Dev) (wrapped : Bool) (ids : List (BitVec 5)) : Dev :=
  let m := ids.foldl (fun (m : Nat) i => m ||| 2 ^ i.toNat) 1
  let old := d.get vlk0 VLK.MEMBERS
  let d := d.put vlk0 VLK.MEMBERS m
  d.ringSet (if old &&& m ≠ old then 2 else if wrapped || !d.vUp 0 || !d.vUp 1 then 1 else 0)

/-- ENUM_FRAME (R482): a worker adds its ID unless it stands there already, and passes the frame on; the manager's own
frame comes back. -/
def Dev.enumFrame (h : VHdr) (ids : List (BitVec 5)) (d : Dev) : Dev :=
  let d := d.vStart
  if !d.vUp h.port then d
  else if h.src.toNat = d.vId then (if d.vId = 0 then d.enumResult h.wrapped ids else d)
  else if !d.seqAhead h 5 then d.vViolation h.src.toNat none 0 (h.bytes 5 3 ids.length)
  else
    let d := d.seqTake h 5
    let dup := ids.any (fun i => i.toNat == d.vId)
    let out := ids.map (fun i => BitVec.ofNat 8 i.toNat) ++ (if dup then [] else [BitVec.ofNat 8 d.vId])
    let d := if dup then
        (d.vViolation h.src.toNat (some Err.VLK_DUP_ID) 1 (h.bytes 5 3 ids.length)).vErrMgr Err.VLK_DUP_ID else d
    if h.hops.toNat ≤ 1 then d.vViolation h.src.toNat none 0 (h.bytes 5 3 ids.length)
    else d.vOut h.onward 5 3 h.src.toNat h.dst.toNat (h.hops.toNat - 1) h.seq.toNat h.wrapped out

/-! ### Time and alignment (R486 to R491) -/

/-- SYNC_SEND (R487): every 100 µs, T_M the manager's time counter and CORR 0. -/
def Dev.syncSend (d : Dev) : Dev :=
  let d := d.vStart
  if d.vId ≠ 0 || !d.vOn || decide (d.time < d.vlk.syncT + tclkUs 100) then d
  else (d.vSend [0, 1] 1 0 0xFF (natBytes 8 d.time ++ natBytes 4 0)).modVlk (fun v => { v with syncT := d.time })

/-- A stage of the device runs. -/
def Dev.anyRunning (d : Dev) : Bool := (List.range 16).any d.running

/-- ALIGNED after a SYNC with offset `x` ps (R488). -/
def Dev.alignCheck (d : Dev) (x : Int) : Dev :=
  let was := d.flag vlk0 VLK.ST_ALIGNED
  let good := if x.natAbs ≤ 250 then min 16 (d.vlk.good + 1) else 0
  let d := d.modVlk (fun v => { v with good := good })
  let ref := d.get pgCLK CLK.REF_CFG_REF_SRC == 3
  let now := ref && (if was then decide (x.natAbs ≤ 500) else decide (good = 16))
  if now == was then d else (d.putB vlk0 VLK.ST_ALIGNED now).irq vlk0 VLK.IRQ_ALIGNED_CHG

/-- The correction of R488: a step in a clock hold, or a slew. -/
def Dev.correct (d : Dev) (m x : Int) : Dev :=
  if d.get pgCLK CLK.REF_CFG_REF_SRC ≠ 3 then d
  else if x.natAbs ≤ 250 then d.put vlk0 VLK.ALIGN_STAT_SLEWING 0
  else if !d.anyRunning && decide (1000000 < x.natAbs) then
    if d.vlk.txn.isOpen then d
    else
      let d := (d.put vlk0 VLK.ALIGN_STAT_STEPPED 1).put vlk0 VLK.ALIGN_STAT_SLEWING 0
      let d := d.clockHold 1
      d.modClk (fun c => { c with stepTo := some ((m / 2500).toNat, d.wall) })
  else (d.put vlk0 VLK.ALIGN_STAT_STEPPED 0).put vlk0 VLK.ALIGN_STAT_SLEWING 1

/-- SYNC_RECEIVED (R487, R488): T_M, CORR, the local fraction of a TCLK at the marker in ps, and this device's residence
time for the copy it passes on, in ps. A worker takes the SYNC of its timing port. -/
def Dev.syncReceived (h : VHdr) (tM : BitVec 64) (corr : Word) (frac : BitVec 12) (residence : Word) (d : Dev) : Dev :=
  let d := d.vStart
  if !d.vUp h.port || h.src.toNat == d.vId then d
  else
    let dly := d.get (pgVLK h.port) VLK.LINK_DLY
    let d := d.vForward h 1 0 (natBytes 8 tM.toNat ++ natBytes 4 (corr.toNat + dly + residence.toNat))
    if d.vId = 0 then d
    else
      let d := d.modVlk (fun v => { v with hops := listMod v.hops h.port (fun _ => some (32 - h.hops.toNat)) })
      let d := d.timingUpdate
      let d := (d.modVlk (fun v => { v with lastSync := d.wall })).put vlk0 VLK.ST_ISOLATED 0
      if d.timingPort ≠ some h.port.val then d
      else if !d.seqAhead h 1 then d.vViolation h.src.toNat none 0 (h.bytes 1 0 12)
      else
        let d := d.seqTake h 1
        let m : Int := tM.toNat * 2500 + corr.toNat + dly
        let x : Int := m - (d.time * 2500 + frac.toNat : Nat)
        let d := (d.putI vlk0 VLK.OFFSET (satInt 32 x)).put vlk0 VLK.ALIGN_STAT_HOPS (32 - h.hops.toNat)
        (d.alignCheck x).correct m x

/-- DELAY_REQ_SEND (R486): every 10 ms each UP port asks its neighbour; `frac` is the departure within the TCLK in units
of 78.125 ps. -/
def Dev.delayReqSend (frac : Vector (BitVec 5) 2) (d : Dev) : Dev :=
  let d := d.vStart
  if decide (d.time < d.vlk.dlyT + tclkUs 10000) then d
  else
    let d := d.modVlk (fun v => { v with dlyT := d.time })
    (List.finRange 2).foldl (fun (d : Dev) (p : Fin 2) =>
      if d.vUp p then
        let t1 := 32 * d.time + (frac[p]).toNat
        let to_ := if d.flag (pgVLK p) VLK.PSTAT_NB_VALID then d.get (pgVLK p) VLK.PSTAT_NEIGHBOUR else 0xFF
        (d.vSend [p.val] 5 1 to_ []).modVlk (fun v => { v with t1 := listMod v.t1 p (fun _ => some t1) })
      else d) d

/-- The neighbour at a port is known (R503). -/
def Dev.neighbour (d : Dev) (h : VHdr) : Dev :=
  (d.put (pgVLK h.port) VLK.PSTAT_NB_VALID 1).put (pgVLK h.port) VLK.PSTAT_NEIGHBOUR h.src.toNat

/-- A DIAG frame between neighbours: it is not passed on. -/
def Dev.vNeighbour (d : Dev) (h : VHdr) (sub len : Nat) (act : Dev → Dev) : Dev :=
  let d := d.vStart
  if !d.vUp h.port || h.src.toNat == d.vId then d
  else if !d.seqAhead h 5 then d.vViolation h.src.toNat none 0 (h.bytes 5 sub len)
  else act ((d.seqTake h 5).neighbour h)

/-- DELAY_REQ (R486): the answer carries the turnaround t3 − t2 in ps, which the port measures. -/
def Dev.delayReq (h : VHdr) (turnaround : Word) (d : Dev) : Dev :=
  d.vNeighbour h 1 0 (fun d => d.vSend [h.port.val] 5 2 h.src.toNat (natBytes 4 turnaround.toNat))

/-- DELAY_RESP (R486): `frac` is the arrival within the TCLK in units of 78.125 ps. LINK_DLY takes the mean of the last 16
exchanges in whole ps; its rounding is not stated, so a free bit decides between the two neighbours of a fraction. -/
def Dev.delayResp (h : VHdr) (turnaround : Word) (frac : BitVec 5) (d : Dev) : Dev :=
  d.vNeighbour h 2 4 (fun d =>
    match d.vlk.t1.getD h.port none with
    | none => d
    | some t1 =>
      -- twice the delay in units of 1/32 ps
      let x : Int := ((32 * d.time + frac.toNat : Nat) - (t1 : Int)) * 2500 - 32 * (turnaround.toNat : Int)
      let l := (x :: d.vlk.dly.getD h.port []).take 16
      let d := d.modVlk (fun v => { v with dly := listMod v.dly h.port (fun _ => l), t1 := listMod v.t1 h.port (fun _ => none) })
      let s := l.foldl (fun a b => a + b) 0
      let q : Int := 64 * (l.length : Nat)
      let (f, d) := d.free 1
      let mean := s / q + (if s % q = 0 then 0 else (f : Int))
      d.putI (pgVLK h.port) VLK.LINK_DLY mean)

/-! ### Holding state (R498) -/

/-- Latch a hold: cause 1 ISOLATED, 2 SELF, 3 MANAGER. A hold already latched stays as it is. -/
def Dev.holdLatch (d : Dev) (cause : Nat) : Dev :=
  if d.flag vlk0 VLK.HOLD_STAT_HELD then d
  else
    let d := (d.put vlk0 VLK.HOLD_STAT_HELD 1).put vlk0 VLK.HOLD_STAT_CAUSE cause
    let d := d.tripRequest 171 (d.get vlk0 VLK.HOLD_MASK) (d.get vlk0 VLK.ARRAY_CFG_HOLD_SEL)
    ((d.irq vlk0 VLK.IRQ_HOLD).errBy vlk0 Err.VLK_HOLD (if cause = 3 then 0xFE else 0xFF)).capFire 5

/-- HOLD_CLR (R498). -/
def Dev.holdClr (d : Dev) : Dev :=
  if d.flag vlk0 VLK.ST_ISOLATED then d.vErr Err.VLK_HOLD
  else if d.flag vlk0 VLK.HOLD_STAT_HELD then (d.put vlk0 VLK.HOLD_STAT 0).tripConditionEnd 171
  else d

/-- ISOLATED (R491): a worker has received no SYNC for ISO_TIME. -/
def Dev.isolated (d : Dev) : Dev :=
  if d.vId = 0 || !d.vOn || d.flag vlk0 VLK.ST_ISOLATED
      || decide (d.wall < d.vlk.lastSync + 40000 * d.get vlk0 VLK.ARRAY_CFG_ISO_TIME) then d
  else
    let d := ((d.put vlk0 VLK.ST_ISOLATED 1).irq vlk0 VLK.IRQ_ISOLATED).errFw vlk0 Err.VLK_ISOLATED
    if d.flag vlk0 VLK.ARRAY_CFG_ISO_HOLD then d.holdLatch 1 else d

/-! ### Transactions (R495 to R497) -/

/-- The WHEN = 2 commits that are PENDING (R495): stage groups, the CTX group, CLU mode changes, by page. -/
def Dev.armedCommits (d : Dev) : List Nat :=
  ((List.range 16).filter (fun k => d.flag (pgSTG k) COM.COMMIT_PENDING && (d.sh k).armWhen == 2)).map (fun k => pgSTG k)
  ++ (if d.flag pgCTX COM.COMMIT_PENDING && d.ctxWhen == 2 then [pgCTX] else [])
  ++ ((List.range 4).filter (fun c => d.get (pgCLU c) CLU.MODE_STAT_STATE == 2 && (d.cl c).modeWhen == 2)).map (fun c => pgCLU c)

/-- A state of TXN_STAT that ends the transaction raises TXN_DONE. -/
def Dev.txnEnd (d : Dev) (st : Nat) : Dev :=
  ((d.put vlk0 VLK.TXN_STAT_STATE st).modTxn (fun t => { t with isOpen := false })).irq vlk0 VLK.IRQ_TXN_DONE

/-- Clear the PENDING of the transaction's commits; a CLU change returns to IDLE (R497). -/
def Dev.txnDrop (d : Dev) : Dev :=
  let d := d.vlk.txn.armed.foldl (fun (d : Dev) p =>
    match pageOf p with
    | some (.clu, _, _) => d.put p CLU.MODE_STAT_STATE 0
    | _ => d.put p COM.COMMIT_PENDING 0) d
  d.modTxn (fun t => { t with armed := [] })

/-- Every armed group loads (R24, R497). -/
def Dev.txnLoad (d : Dev) : Dev :=
  let d := d.vlk.txn.armed.foldl (fun (d : Dev) p =>
    match pageOf p with
    | some (.clu, c, _) => d.modeBound c
    | some (.stg, k, _) => if d.flag p COM.COMMIT_PENDING then (d.put p COM.COMMIT_PENDING 0).loadStageGroup k else d
    | _ => if d.flag p COM.COMMIT_PENDING then d.loadCtxGroup else d) d
  d.modTxn (fun t => { t with armed := [] })

/-- The answer to a PREPARE (R496): none is READY. -/
def Dev.prepareCheck (d : Dev) (angle : Bool) (stage bound : Nat) : Option Nat :=
  let vote := d.get vlk0 VLK.TIMERS_T_VOTE
  if d.vlk.txn.isOpen || (List.range 4).any (fun c => d.get (pgCLU c) CLU.MODE_STAT_STATE == 1) then some Err.VLK_BUSY
  else if d.vId ≠ 0 && !d.flag vlk0 VLK.ST_ALIGNED then some Err.VLK_NOT_ALIGNED
  else if d.flag vlk0 VLK.HOLD_STAT_HELD then some Err.VLK_HOLD
  else if (if angle then !(d.inRun stage && d.timing stage != 0)
      else decide (bound < d.time + tclkUs (vote + 50))) then some Err.VLK_LATE
  else if (List.range 4).any (fun c =>
      d.get (pgCLU c) CLU.MODE_STAT_STATE == 2 && (d.cl c).modeWhen == 2 &&
      (match d.adm with
       | none => false
       | some a => match d.modePlan a c (d.get (pgCLU c) CLU.MODE_STAT_TARGET) with | .ok _ => false | .error _ => true))
    then some Err.RX_MODE_PLACE
  else none

/-- Open a transaction as a participant that is READY, or as a manager that takes no part. -/
def Dev.txnOpen (d : Dev) (num : Nat) (angle : Bool) (stage bound parts : Nat) (join : Bool) : Dev :=
  let armed := if join then d.armedCommits else []
  d.modTxn (fun _ => ⟨true, num, angle, stage, bound, parts, join, armed, none, d.time, none, 0, 0⟩)

/-- The manager ends the vote with ABORT on both rings (R497). -/
def Dev.txnAbort (d : Dev) : Dev :=
  let n := d.vlk.txn.num
  ((d.vSend [0, 1] 3 3 0xFF (natBytes 1 n)).txnDrop).txnEnd 4

/-- A participant refused (R497). -/
def Dev.txnRefused (d : Dev) (src code : Nat) : Dev :=
  (((d.put vlk0 VLK.TXN_STAT_FIRST_REFUSER src).put vlk0 VLK.TXN_STAT_CODE code).vErrMgr Err.VLK_PREP_REFUSED).txnAbort

/-- The vote is complete (R497): COMMIT on both rings, or ABORT when the boundary is too close. -/
def Dev.txnDecide (d : Dev) : Dev :=
  let t := d.vlk.txn
  let ready := d.get vlk0 VLK.READY_MAP
  if ready &&& t.parts ≠ t.parts then d
  else if !t.angle && decide (t.bound < d.time + 19624) then (d.vErrMgr Err.VLK_LATE).txnAbort
  else
    let d := d.vSend [0, 1] 3 2 0xFF (natBytes 1 t.num)
    (d.put vlk0 VLK.TXN_STAT_STATE 2).modTxn (fun t => { t with commitT := some d.time })

/-- ARRAY_CMD PREPARE (R495 to R497). -/
def Dev.prepare (btype : Bool) (stage : BitVec 4) (d : Dev) : Dev :=
  let d := (d.putB vlk0 VLK.ARRAY_CMD_BTYPE btype).put vlk0 VLK.ARRAY_CMD_STAGE stage.toNat
  d.arrayCmd false (fun d =>
    let bound := if btype then d.get vlk0 VLK.BOUND_LO else d.get vlk0 VLK.BOUND_LO + 2 ^ 32 * d.get vlk0 VLK.BOUND_HI
    let parts := d.get vlk0 VLK.PARTS
    let num := (d.vlk.txn.num + 1) % 256
    let own := bitOf parts 0
    let answer := if own then d.prepareCheck btype stage.toNat bound else none
    let d := d.txnOpen num btype stage.toNat bound parts (own && answer.isNone)
    let d := (d.put vlk0 VLK.TXN_STAT (2 ^ 29 + num * 2 ^ 16)).put vlk0 VLK.READY_MAP (if own && answer.isNone then 1 else 0)
    let d := (d.put vlk0 VLK.APPLIED_MAP 0).put vlk0 VLK.NOTAPPL_MAP 0
    let absent := parts &&& d.get vlk0 VLK.MEMBERS != parts
    if absent then (d.vErrMgr Err.VLK_PREP_REFUSED).txnAbort
    else
      let body := [BitVec.ofNat 8 num, BitVec.ofNat 8 (b2n btype), BitVec.ofNat 8 stage.toNat, 0] ++ natBytes 8 bound
        ++ natBytes 4 parts
      let d := d.vSend [0, 1] 3 1 0xFF body
      match answer with
      | some c => (if c / 4096 = 0xE then d.vErrMgr c else d).txnRefused 0 c
      | none => d.txnDecide)

/-- ARRAY_CMD ABORT (R497). -/
def Dev.arrayAbort (d : Dev) : Dev := d.arrayCmd true (fun d => if d.vlk.txn.isOpen then d.txnAbort else d)

/-- An ACK of this device to the manager (R484). -/
def Dev.vAck (d : Dev) (sub num code : Nat) : Dev :=
  d.vSend [0] 4 sub 0 ([BitVec.ofNat 8 num, 0] ++ natBytes 2 code)

/-- PREPARE_FRAME (R496): a participant answers READY or REFUSE. -/
def Dev.prepareFrame (h : VHdr) (txn : BitVec 8) (btype : Bool) (stage : BitVec 4) (bound : BitVec 64) (parts : Word)
    (d : Dev) : Dev :=
  let body := [txn, BitVec.ofNat 8 (b2n btype), BitVec.ofNat 8 stage.toNat, 0] ++ natBytes 8 bound.toNat
    ++ natBytes 4 parts.toNat
  d.vReceive h 3 1 body (fun d =>
    let d := d.modTxn (fun t => if t.isOpen then t else { t with num := txn.toNat, joined := false, armed := [] })
    if !bitOf parts.toNat d.vId then d
    else match d.prepareCheck btype stage.toNat bound.toNat with
      | some c => (if c / 4096 = 0xE then d.vErrMgr c else d).vAck 2 txn.toNat c
      | none =>
        let d := d.txnOpen txn.toNat btype stage.toNat bound.toNat parts.toNat true
        (d.put vlk0 VLK.TXN_STAT (2 ^ 29 + txn.toNat * 2 ^ 16)).vAck 1 txn.toNat 0)

/-- A MODE frame that carries TXN only; with a TXN that this device does not know it is answered VLK_BUSY (R499). -/
def Dev.vModeFrame (d : Dev) (h : VHdr) (sub : Nat) (txn : BitVec 8) (act : Dev → Dev) : Dev :=
  d.vReceive h 3 sub [txn] (fun d =>
    if d.vlk.txn.num ≠ txn.toNat then
      (d.vViolation h.src.toNat (some Err.VLK_BUSY) 1 (h.bytes 3 sub 1)).vNak h Err.VLK_BUSY
    else if d.vlk.txn.joined then act d else d)

/-- COMMIT_FRAME (R497). -/
def Dev.commitFrame (h : VHdr) (txn : BitVec 8) (d : Dev) : Dev :=
  d.vModeFrame h 2 txn (fun d =>
    if d.vlk.txn.isOpen && d.vlk.txn.commitT.isNone then
      (d.put vlk0 VLK.TXN_STAT_STATE 2).modTxn (fun t => { t with commitT := some d.time })
    else d)

/-- ABORT_FRAME (R497). -/
def Dev.abortFrame (h : VHdr) (txn : BitVec 8) (d : Dev) : Dev :=
  d.vModeFrame h 3 txn (fun d => if d.vlk.txn.isOpen then d.txnDrop.txnEnd 4 else d)

/-- HOLD_FRAME (R498). -/
def Dev.holdFrame (h : VHdr) (txn : BitVec 8) (d : Dev) : Dev :=
  d.vModeFrame h 4 txn (fun d => ((d.put vlk0 VLK.TXN_STAT_STATE 5).holdLatch 3))

/-- An ACK frame to the manager that answers its transaction (R497, R498). -/
def Dev.vAckFrame (d : Dev) (h : VHdr) (sub : Nat) (txn : BitVec 8) (code : BitVec 16) (act : Dev → Dev) : Dev :=
  d.vReceive h 4 sub ([txn, 0] ++ natBytes 2 code.toNat) (fun d =>
    if d.vId = 0 ∧ d.vlk.txn.isOpen ∧ d.vlk.txn.num = txn.toNat ∧ bitOf d.vlk.txn.parts h.src.toNat then act d else d)

/-- READY (R497). -/
def Dev.readyAck (h : VHdr) (txn : BitVec 8) (d : Dev) : Dev :=
  d.vAckFrame h 1 txn 0 (fun d =>
    if d.get vlk0 VLK.TXN_STAT_STATE ≠ 1 then d
    else (d.put vlk0 VLK.READY_MAP (d.get vlk0 VLK.READY_MAP ||| 2 ^ h.src.toNat)).txnDecide)

/-- REFUSE (R497). -/
def Dev.refuseAck (h : VHdr) (txn : BitVec 8) (code : BitVec 16) (d : Dev) : Dev :=
  d.vAckFrame h 2 txn code (fun d =>
    if d.get vlk0 VLK.TXN_STAT_STATE ≠ 1 then d else d.txnRefused h.src.toNat code.toNat)

/-- APPLIED and NOT_APPLIED (R498), collected until T_ACK. -/
def Dev.appliedAck (h : VHdr) (txn : BitVec 8) (d : Dev) : Dev :=
  d.vAckFrame h 3 txn 0 (fun d => d.modTxn (fun t => { t with applied := t.applied ||| 2 ^ h.src.toNat }))

def Dev.notAppliedAck (h : VHdr) (txn : BitVec 8) (d : Dev) : Dev :=
  d.vAckFrame h 4 txn 0 (fun d => d.modTxn (fun t => { t with notApplied := t.notApplied ||| 2 ^ h.src.toNat }))

/-- NAK (R499): it tells this device of its violation; the code is stored as R502 says. -/
def Dev.nakFrame (h : VHdr) (code : BitVec 16) (d : Dev) : Dev :=
  d.vReceive h 4 5 ([0, 0] ++ natBytes 2 code.toNat) (fun d =>
    let d := d.vViolation h.src.toNat (some code.toNat) 1 (h.bytes 4 5 4)
    if code.toNat = Err.VLK_FRAME then d.err (pgVLK h.port) Err.VLK_FRAME
    else if code.toNat / 4096 = 0xE then d.vErr code.toNat else d)

/-- VOTE_TIMEOUT (R497). -/
def Dev.voteTimeout (d : Dev) : Dev :=
  let d := d.vStart
  let t := d.vlk.txn
  if d.vId ≠ 0 || !t.isOpen || d.get vlk0 VLK.TXN_STAT_STATE != 1
      || decide (d.time < t.voteT + tclkUs (d.get vlk0 VLK.TIMERS_T_VOTE)) then d
  else (d.vErrMgr Err.VLK_TIMEOUT).txnAbort

/-- The array boundary falls in this TCLK, or has gone by (R497, R501). -/
def Dev.boundaryNow (d : Dev) : Bool × Bool :=
  let t := d.vlk.txn
  if t.angle then ((d.passes t.stage t.bound).isSome, false) else (d.time == t.bound, decide (t.bound < d.time))

/-- This participant's outcome goes to the manager: over the link, or to its own record. -/
def Dev.txnReport (d : Dev) (ok : Bool) : Dev :=
  let n := d.vlk.txn.num
  if d.vId = 0 then d.modTxn (fun t => if ok then { t with applied := t.applied ||| 1 } else { t with notApplied := t.notApplied ||| 1 })
  else d.vAck (if ok then 3 else 4) n 0

/-- ARRAY_BOUNDARY (R497, R501): in the boundary TCLK with COMMIT received before it every armed group loads; otherwise
nothing loads and the participant holds. The manager keeps the transaction open until T_ACK. -/
def Dev.arrayBoundary (d : Dev) : Dev :=
  let d := d.vStart
  let t := d.vlk.txn
  let (now, past) := d.boundaryNow
  if !t.isOpen || t.boundT.isSome || !(now || past) then d
  else
    let mgr := decide (d.vId = 0)
    let committed := match t.commitT with | some c => decide (c < d.time) | none => false
    let ok := now && !past && committed && !d.clockHeld
    let d := d.modTxn (fun t => { t with boundT := some d.time })
    if !t.joined then d
    else if ok then
      let d := d.txnLoad.txnReport true
      if mgr then d else d.txnEnd 3
    else
      let d := (d.txnDrop.txnReport false).holdLatch 2
      if mgr then d else d.txnEnd 5

/-- ACK_TIMEOUT (R498): T_ACK after the boundary. -/
def Dev.ackTimeout (d : Dev) : Dev :=
  let d := d.vStart
  let t := d.vlk.txn
  match t.boundT with
  | none => d
  | some b =>
    if d.vId ≠ 0 || !t.isOpen || d.get vlk0 VLK.TXN_STAT_STATE != 2
        || decide (d.time < b + tclkUs (d.get vlk0 VLK.TIMERS_T_ACK)) then d
    else
      let d := (d.put vlk0 VLK.APPLIED_MAP t.applied).put vlk0 VLK.NOTAPPL_MAP t.notApplied
      if t.applied &&& t.parts = t.parts then d.txnEnd 3
      else
        let d := (d.vSend [0, 1] 3 4 0xFF (natBytes 1 t.num)).vErrMgr Err.VLK_NOT_APPLIED
        let d := if t.joined || bitOf t.parts 0 then d.holdLatch 3 else d
        d.txnEnd 5

/-! ### Placement on another device (R492 to R494) -/

/-- A context qualifies (R492): class A; every loop on a timer of at least 1 ms or in the background; inputs from ACCESS 0
tables and mailboxes; outputs to its own mailboxes. -/
def Dev.placeable (d : Dev) (x : Nat) : Bool :=
  match d.adm with
  | none => false
  | some a =>
    let ls := a.loops.filter (fun l => l.ctx == x)
    !ls.isEmpty && ls.all (fun l =>
      l.cls != 1 && ((l.trigger == 2 && decide (1000000 ≤ l.period)) || l.trigger == 3)
      && l.ins.all (fun c => c / 1024 == 0x0C
          || (c / 1024 == 0x0B && (match a.tables[c % 1024]? with | some t => t.access == 0 | none => false)))
      && l.outs.all (fun c => c == 0x0C * 1024 + l.id))

def Dev.awayAt (d : Dev) (x : Nat) : Option AwayCtx := d.vlk.away.find? (fun a => a.ctx == x)

/-- The home checks for a context that comes back (R493): groups 8 and 9 with the contexts that are here where they
are. -/
def Dev.homeStream (d : Dev) (x : Nat) : Option Nat :=
  match d.adm with
  | none => none
  | some a =>
    let gone := fun (y : Nat) => y != x && d.ctxStream y / 16 == 15
    let b := { a with loops := a.loops.filter (fun l => !gone l.ctx) }
    let v := d.placeEnv b
    let here := (a.order.filter (fun y => y != x && !gone y)).map (fun y => (y, d.ctxStream y))
    let mine := (candidates v.offered false ((b.loops.filter (fun l => l.ctx == x)).map (fun l => l.stream))).map (fun s => (x, s))
    match d.placeSet { v with fixed := some (here ++ mine) } b with
    | .ok (_, st) => (st.find? (fun e => e.1 == x)).map (fun e => e.2)
    | .error _ => none

def Dev.placeRefused (d : Dev) (code : Nat) : Dev := (d.put vlk0 VLK.PLACE_STAT_CODE code).vErr code

/-- PLACE (R492, R493, R501). What the target's Almanac answers comes with PLACE_DONE. -/
def Dev.place (ctx : BitVec 6) (target : BitVec 5) (d : Dev) : Dev :=
  let d := d.vStart
  let x := ctx.toNat
  let t := target.toNat
  let d := (d.put vlk0 VLK.PLACE_CTX x).put vlk0 VLK.PLACE_TARGET t
  if d.vlk.txn.isOpen || d.flag vlk0 VLK.PLACE_STAT_BUSY then d.placeRefused Err.VLK_BUSY
  else if t = d.vId then
    match d.awayAt x, d.homeStream x with
    | some _, some _ =>
      ((d.put vlk0 VLK.PLACE_STAT_CODE 0).put vlk0 VLK.PLACE_STAT_BUSY 1).modVlk (fun v => { v with place := some (x, t) })
    | _, _ => d.placeRefused Err.VLK_PLACE
  else if !d.placeable x || !bitOf (d.get vlk0 VLK.MEMBERS) t then d.placeRefused Err.VLK_PLACE
  else ((d.put vlk0 VLK.PLACE_STAT_CODE 0).put vlk0 VLK.PLACE_STAT_BUSY 1).modVlk (fun v => { v with place := some (x, t) })

/-- The move is over. -/
def Dev.placeEnd (d : Dev) : Dev :=
  ((d.put vlk0 VLK.PLACE_STAT_BUSY 0).modVlk (fun v => { v with place := none })).irq vlk0 VLK.IRQ_PLACE_DONE

/-- The image of a context in CONTEXT frames (R493): 4 KiB in segments of 256 bytes. -/
def Soc.sendContext (s : Soc) (x target : Nat) : Soc :=
  let a := s.dev.getAt pgCTX CTX.CADDR x
  s.map (fun d => (List.range 16).foldl (fun (d : Dev) i => d.vSend [0] 2 2 target (memGetList s.mem (a + 256 * i) 256)) d)

/-- PLACE_DONE (R493): the target's Almanac accepted or refused; the running job has completed. -/
def Soc.placeDone (accept : Bool) (s : Soc) : Soc :=
  let s := s.map Dev.vStart
  let d := s.dev
  match d.vlk.place with
  | none => s
  | some (x, t) =>
    if t ≠ d.vId ∧ !accept then s.map (fun d => (d.placeRefused Err.VLK_PLACE).placeEnd)
    else if d.flagAt pgCTX CTX.CSTAT_RUNNING x then s
    else if t = d.vId then
      match d.homeStream x with
      | some st => s.map (fun d => ((d.moveCtx 4 st x).modVlk (fun v =>
          { v with away := v.away.filter (fun a => a.ctx != x) })).placeEnd)
      | none => s.map (fun d => (d.placeRefused Err.VLK_PLACE).placeEnd)
    else
      (s.sendContext x t).map (fun d =>
        let (f, d) := d.free 4
        let d := (d.moveCtx 4 (0xF0 + f) x).dropWaiting x
        (d.modVlk (fun v => { v with away := v.away.filter (fun a => a.ctx != x) ++ [⟨x, t, false⟩] })).placeEnd)

/-- GUEST_LOST (R494). -/
def Dev.guestLost (ctx : BitVec 6) (d : Dev) : Dev :=
  let x := ctx.toNat
  match d.awayAt x with
  | none => d
  | some a =>
    if a.lost then d
    else
      let d := d.modVlk (fun v => { v with away := v.away.map (fun b => if b.ctx = x then { b with lost := true } else b) })
      (d.irq vlk0 VLK.IRQ_GUEST_LOST).errFw vlk0 Err.VLK_GUEST_LOST

/-- MAILBOX (R493): the words of a guest of this home, or those that a guest here reads. -/
def Dev.mailboxFrame (h : VHdr) (home ctx loop : BitVec 8) (words : Vector Half 8) (d : Dev) : Dev :=
  let w := words.toList.map (fun x => x.toNat)
  let body := [home, ctx, loop] ++ w.flatMap (fun x => natBytes 2 x)
  d.vReceive h 2 1 body (fun d =>
    let put := fun (m : List (Nat × Nat)) (base : Nat) =>
      (List.range 8).foldl (fun m i => mapPut (fun _ => 0) m (base + i) (w.getD i 0)) m
    if home.toNat = d.vId then
      if (d.awayAt ctx.toNat).isSome then { d with mbox := put d.mbox (8 * loop.toNat) } else d
    else d.modVlk (fun v => { v with mirror := put v.mirror (8 * (256 * home.toNat + loop.toNat)) }))

/-- CONTEXT (R493): a segment of the image of a guest that moves here. -/
def Dev.contextFrame (h : VHdr) (seg : List Byte) (d : Dev) : Dev :=
  d.vReceive h 2 2 seg (fun d =>
    let k := h.src.toNat
    let old := match d.vlk.guest.find? (fun e => e.1 == k) with | some e => e.2 | none => []
    let old := if 4096 ≤ old.length then [] else old
    d.modVlk (fun v => { v with guest := (k, old ++ seg) :: v.guest.filter (fun e => e.1 != k) }))

/-! ### Discarded frames (R499) -/

/-- FRAME_DISCARDED (R499). -/
def Dev.frameDiscarded (h : VHdr) (why : VBad) (bytes : List Byte) (d : Dev) : Dev :=
  let d := d.vStart
  let pg := pgVLK h.port
  if d.vPort h.port = 0 then d
  else match why with
    | .code => (d.incSat pg VLK.ERR_CNT_CODE_CNT).vViolation h.port.val none 0 bytes
    | .crc => (d.incSat pg VLK.ERR_CNT_CRC_CNT).vViolation h.port.val none 0 bytes
    | .format =>
      let d := (d.err pg Err.VLK_FRAME).vViolation h.src.toNat (some Err.VLK_FRAME) 1 bytes
      d.vNak h Err.VLK_FRAME
    | .hops => d.vViolation h.src.toNat none 0 bytes
    | .seq => d.vViolation h.src.toNat none 0 bytes

/-- VLK_CNT_CLR (R503). -/
def Dev.vlkCntClr (p : Fin 2) (d : Dev) : Dev := d.put (pgVLK p) VLK.ERR_CNT 0

/-- The array carrier epoch (R490). The manager and a stand-alone device need no alignment. -/
def Dev.epoch (d : Dev) : Bool :=
  let per := d.get vlk0 VLK.EPOCH_PER
  (d.vId == 0 || d.flag vlk0 VLK.ST_ALIGNED) && per != 0 && d.time % per == 0

/-- SYNC_START of a stage (R153). -/
def Dev.stageSync (k : Fin 16) (d : Dev) : Dev := d.syncStart Dev.epoch k

/-- REF_READY with AUTO_RETURN on a worker's recovered reference (R408, R491). -/
def Dev.refReadyReturn (d : Dev) : Dev :=
  let was := d.flag pgCLK CLK.ST_REF_READY
  let d := d.refReady
  if !was && d.flag pgCLK CLK.ST_REF_READY && d.vId != 0 && d.get pgCLK CLK.REF_CFG_REF_SRC == 3
      && d.flag vlk0 VLK.ARRAY_CFG_AUTO_RETURN && d.flag pgCLK CLK.ST_ON_FALLBACK && !d.clockHeld then d.returnWrite else d

/-- A word of the journal entry that JRNL_IDX names (R503). -/
def Dev.jrnlWord (d : Dev) (w : Nat) : Nat :=
  match d.vlk.jrnl[d.get vlk0 VLK.JRNL_IDX]? with
  | some b => listNat b (4 * w) 4
  | none => 0

end Sys2Proof.Machine
end

