-- ==== Sys2Proof/Machine/Bus.lean ====
section
/-! DEFINITION. Reading registers over a host interface (R9 to R15, R432, R434, R456): what each register shows,
including the words that the device computes. -/

namespace Sys2Proof.Machine

/-! ### Which pages answer -/

/-- What a halted device still shows and takes (R456). -/
def haltReads (a : Nat) : Bool :=
  decide (pgBOOT ≤ a ∧ a < pgSEC + 0x1000) || a == pgPWR + PWR.RST_CAUSE.off

def haltWrites (k : PageKind) (a : Nat) : Bool :=
  a == pgBOOT + BOOT.RETRY.off || a == pgSEC + SEC.CMD.off || a == pgPWR + PWR.SOFT_RST.off || (k == .lcs && decide (pgLCS + 0x40 ≤ a))

/-- The block across a crossing is in reset, or stopped: the crossing's number (R434). -/
def Dev.refusing (d : Dev) (k : PageKind) (inst : Nat) : Option Nat :=
  match k with
  | .gnm | .snet => if d.gnm.running then none else some 0
  | _ => match pageGroup k inst with
    | some g => if d.inReset g then groupCrossing g else none
    | none => none

/-- The page is gated (R432), or its group is held in reset with no crossing of its own. -/
def Dev.gated (d : Dev) (k : PageKind) (inst : Nat) : Bool :=
  match pageGroup k inst with
  | some g => !d.groupOn g || (d.inReset g && (groupCrossing g).isNone)
  | none => false

/-- A transfer to a block in reset is refused and counted (R434). -/
def Dev.refuseTransfer (d : Dev) (x : Nat) : Dev := (d.incSatAt pgPWR PWR.XDISC_REFUSED x).err pgPWR Err.PWR_PARTNER_RST

/-! ### Computed words -/

def putBits (w : Nat) (f : Fld) (v : Nat) : Nat := (wordPut (BitVec.ofNat 32 w) f.lo f.width v).toNat

/-- Stages with a tripped leg, and stages that await a release (R189). -/
def Dev.tripWord (d : Dev) : Nat :=
  let legs := (List.range 64).filter d.tripped
  let tr := legs.foldl (fun m n => if d.bound n then m ||| 2 ^ d.legStage n else m) 0
  let rel := d.trip.acts.foldl (fun m a => if a.rel.isSome then m ||| 2 ^ a.stage else m) 0
  rel * 2 ^ 16 + tr

/-- Bit x of a mask over the contexts 1 to 63. -/
def Dev.ctxMask (d : Dev) (f : Fld) : Nat :=
  (List.range 63).foldl (fun m i => if d.flagAt pgCTX f (i + 1) then m + 2 ^ (i + 1) else m) 0

/-- STATUS of a page with the bits that its block computes. -/
def Dev.statusRead (d : Dev) (k : PageKind) (inst pg : Nat) : Nat :=
  let w := d.statusWord k pg
  match k with
  | .trip =>
    -- a cleared trip is a latched one: a cycle-by-cycle trip releases without a clear (R187, R188)
    let cleared := d.trip.acts.any (fun a => a.latch && a.rel.isSome)
    putBits (putBits w TRIP.ST_ANY_TRIP (b2n ((List.range 64).any d.tripped))) TRIP.ST_RELEASE_PENDING (b2n cleared)
  | .ctx => putBits (putBits w CTX.ST_ANY_FAULT (b2n (d.ctxMask CTX.CSTAT_FAULT != 0))) CTX.ST_ANY_S_SAT
      (b2n (d.ctxMask CTX.STICKY_S_SAT != 0))
  | .stg => putBits w STG.ST_COARSE_ONLY (b2n d.coarseOnly)
  | .leg =>
    let act := d.bound inst && d.legOn inst && d.running (d.legStage inst)
    putBits (putBits w LEG.ST_DT_PENDING (b2n (!(d.lh inst).pend.isEmpty))) LEG.ST_OUT_ACTIVE (b2n act)
  | .adcg =>
    let a := d.ah inst
    let busy := (a.runs.map (fun r => r.conv)).foldl (fun m c => m ||| 2 ^ c) 0
    putBits (putBits w ADCG.ST_BUSY busy) ADCG.ST_CLAMP (b2n (d.get pg ADCG.CLAMP_STAT != 0))
  | .ssi => putBits w SSI.ST_BUSY (b2n ((d.ssi[Fin.ofNat 4 inst]).inFrame || decide (d.time < (d.ssi[Fin.ofNat 4 inst]).busyUntil)))
  | .xspi => putBits w XSPI.ST_SELECTED (b2n d.hostXspi)
  | .dbg => putBits w DBG.ST_LEVEL (d.get pgLCS LCS.DEBUG)
  | _ => w

/-- gPTP time of a port in half nanoseconds (R520). -/
def Dev.gptpHalf (d : Dev) (p : Fin 2) : Nat := 5 * d.time + 2 * (d.eth[p]).gptpOfs

/-- Word `i` of the frame at the head of a CAN receive FIFO (R533). -/
def Dev.canHead (d : Dev) (c i : Nat) : Nat :=
  match (d.can[Fin.ofNat 4 c]).head? with
  | some f => f.getD i 0
  | none => 0

/-- A block-specific word that the device computes; none for a word that the register file holds. -/
def Dev.computed (d : Dev) (k : PageKind) (inst pg off : Nat) : Option Nat :=
  let at_ := fun (f : Fld) (n : Nat) => off ≥ f.off && (if f.stride = 0 then off == f.off
    else (off - f.off) % f.stride == 0 && decide ((off - f.off) / f.stride < n))
  let ix := fun (f : Fld) => if f.stride = 0 then 0 else (off - f.off) / f.stride
  match k with
  | .stg =>
    if off = STG.COUNTER.off then (if d.running inst && !d.frozen inst then some (d.counter inst) else none)
    else if STG.CM_STAT.off ≤ off ∧ off ≤ STG.CM_TWIN.off ∧ d.get pg STG.CM_MODE_RECON = 0
        ∧ d.get pg STG.CM_MODE_STARS = 0 then some 0
    else none
  | .eph =>
    if at_ EPH.THETA 16 then some (d.thetaWord (ix EPH.THETA))
    else if at_ EPH.OMEGA 16 then some (d.omegaWord (ix EPH.OMEGA))
    else if at_ EPH.PEND 16 then some (unsig 32 ((d.est[fin16 (ix EPH.PEND)]).pend / 65536))
    else none
  | .trip =>
    if off = TRIP.STAGE_TRIP.off then some d.tripWord
    else if at_ TRIP.LEG_TRIP 2 then
      let i := ix TRIP.LEG_TRIP
      some ((List.range 32).foldl (fun m b => if d.tripped (32 * i + b) then m + 2 ^ b else m) 0)
    else none
  | .ctx =>
    if at_ CTX.FAULT 2 then some (d.ctxMask CTX.CSTAT_FAULT / 2 ^ (32 * ix CTX.FAULT) % 2 ^ 32)
    else if at_ CTX.SSAT 2 then some (d.ctxMask CTX.STICKY_S_SAT / 2 ^ (32 * ix CTX.SSAT) % 2 ^ 32)
    else none
  | .clk =>
    if off = CLK.TIME_LO.off then some (d.time % 2 ^ 32)
    else if off = CLK.TIME_HI.off then some d.clk.timeHi
    else none
  | .thm =>
    if at_ THM.DIE_PAR 4 then
      let i := ix THM.DIE_PAR
      some (Config.dieRes i % 65536 * 65536 + Config.dieTau i % 65536)
    else none
  | .cap => if off = CAP.REC.off then some (d.capRec % 65536) else none
  | .vlk => if inst = 0 ∧ at_ VLK.JRNL_D 4 then some (d.jrnlWord (ix VLK.JRNL_D)) else none
  | .can => if 0x400 ≤ off ∧ off < 0x450 then some (d.canHead inst ((off - 0x400) / 4)) else none
  | .eth =>
    if off = ETH.GPTP_NS_LO.off then some (d.gptpHalf (Fin.ofNat 2 inst) / 2 % 2 ^ 32)
    else if off = ETH.GPTP_NS_HI.off then some (d.eth[Fin.ofNat 2 inst]).gptpHi
    else none
  | .pcie => if off = PCIE.VEN.off then some ((d.reg (pg + off)).toNat ||| 1) else none
  | .gnm => if 0x40 ≤ off then some (mapGet resetWord d.gnm.mirror (pg + off)).toNat else none
  | _ => none

/-- Bits of a register that read 0 whatever was written (WO fields, R11). -/
def RegDesc.woMask (r : RegDesc) : Nat :=
  (r.fields.map (fun f => if f.acc = .wo then (2 ^ f.width - 1) * 2 ^ f.lo else 0)).sum

/-- The word at an offset of a page (R10 to R17). An offset that no register occupies reads 0 (R13). -/
def Dev.pageRead (d : Dev) (k : PageKind) (inst pg off : Nat) : Nat :=
  if off = 0x000 then typeCode k * 2 ^ 24 + inst * 2 ^ 16 + 0x0100
  else if off = 0x004 then Config.caps pg % 2 ^ 32
  else if off = 0x008 ∧ k = .gnm then 1
  else if off = 0x00C then
    -- Gnomon's enable reads 1 (R404), so ENABLED shows it in effect (DEDUCED, log entry 40)
    if k = .gnm then (d.statusRead k inst pg ||| 1) % 2 ^ 16 + (mapGet resetWord d.gnm.mirror (pg + off)).toNat / 2 ^ 16 * 2 ^ 16
    else d.statusRead k inst pg
  else if off = 0x010 then (d.reg (pg + off)).toNat
  else if off = 0x014 then (d.reg (pg + off)).toNat ||| (if k = .clk then clkNonMaskable else 0)
  else if off = 0x018 then d.irqFlag pg
  else if off = 0x01C then 0
  else if off = 0x024 then putBits (d.reg (pg + off)).toNat COM.OWNER_KIND (d.ownerKind pg)
  else if off = 0xFFC then d.dupStatus k pg
  else if absent k inst off then 0
  else match d.computed k inst pg off with
    | some w => w % 2 ^ 32
    | none => match regAt k inst off with
      | some (r, _) => (d.reg (pg + off)).toNat &&& (2 ^ 32 - 1 - r.woMask)
      | none =>
        if (imageOf off (dupRuns k)).isSome then (d.reg (pg + off)).toNat
        else if (k = .stg ∨ k = .leg) ∧ 0x100 ≤ off then
          match regAt k inst (off - 0x100) with
          | some (r, _) => if r.mask .rws != 0 then (d.actReg (pg + off - 0x100)).toNat else 0
          | none => 0
        else 0

/-- A read of a time register latches its upper word (R418, R533). -/
def Dev.latchTime (d : Dev) (r : TimeReg) : Dev :=
  match r with
  | .counter => d.modClk (fun c => { c with timeHi := d.time / 2 ^ 32 })
  | .gptp p => { d with eth := vmod d.eth p (fun e => { e with gptpHi := d.gptpHalf p / 2 / 2 ^ 32 % 2 ^ 32 }) }

/-- The time register at an address whose read latches an upper word. -/
def timeRegAt (a : Nat) : Option TimeReg :=
  if a = pgCLK + CLK.TIME_LO.off then some .counter
  else if a = pgETH 0 + ETH.GPTP_NS_LO.off then some (.gptp 0)
  else if a = pgETH 1 + ETH.GPTP_NS_LO.off then some (.gptp 1)
  else none

/-- A register read at an aligned device address in the page region (R9, R13, R432, R434, R456). -/
def Dev.busRead (d : Dev) (a : Nat) : Word × Dev :=
  match pageOf a with
  | none => (0, d)
  | some (k, inst, off) =>
    if d.flag pgBOOT BOOT.ST_HALTED && !haltReads a then (0, d)
    else match d.refusing k inst with
      | some x => (0, d.refuseTransfer x)
      | none =>
        if d.gated k inst then (0, d)
        else
          let w := BitVec.ofNat 32 (d.pageRead k inst (a - off) off)
          (w, match timeRegAt a with | some r => d.latchTime r | none => d)

end Sys2Proof.Machine
end

