-- ==== Sys2Proof/Machine/HostIo.lean ====
section
/-! DEFINITION. Host memory (R511, R514, R517), promotion (R515, R516), Ethernet, CAN FD and boot flash (R518 to R522),
interrupt vectors (R523, R524) and the capture recorder (R525 to R529). -/

namespace Sys2Proof.Machine

/-! ### Memory regions (R9, R511) -/

def inDram (a n : Nat) : Bool := decide (0x80000000 ≤ a ∧ a + n ≤ 0x84000000)
def inMemory (a n : Nat) : Bool := inSram a n || inDram a n
def inHostArea (a n : Nat) : Bool := decide (0x10000000 ≤ a ∧ a + n ≤ 0x10080000)

/-- Rings and their buffers lie in the host area or in DRAM (R519). -/
def inRing (a n : Nat) : Bool := inHostArea a n || inDram a n

/-- The memory behind an address is clocked and out of reset: SRAM with group 9, DRAM with group 10 (R431). -/
def Dev.memOn (d : Dev) (a : Nat) : Bool := if a < 0x80000000 then d.groupOn 9 else d.groupOn 10 && !d.inReset 10

/-- The word lies in an admitted program (R511). -/
def Dev.progLocked (d : Dev) (a : Nat) : Bool :=
  match d.adm with
  | none => false
  | some x => x.loops.any (fun l => decide (l.progAddr < a + 4 ∧ a < l.progAddr + 8 * l.progLen))

/-- Size that a placed table takes in DRAM, and in SRAM: a whole ACCESS 0 table or two slices (R512). -/
def TableDecl.inSram (t : TableDecl) (a : Nat) : Bool :=
  if t.access = 0 then decide (t.home ≤ a ∧ a < t.home + t.size)
  else t.access == 1 && decide (t.sram ≤ a ∧ a < t.sram + align64 t.slice + t.slice)

def TableDecl.inHome (t : TableDecl) (a : Nat) : Bool := t.access != 0 && decide (t.home ≤ a ∧ a < t.home + t.size)

/-- An EPH load of a library runs (R514). -/
def Dev.libLoading (d : Dev) (t : TableDecl) : Bool :=
  (List.range 16).any (fun k =>
    let b := d.getAt pgEPH EPH.LIB_ADDR k
    d.flagAt pgEPH EPH.STATE_LOADING k && (b == t.home || (t.access == 1 && (b == t.slotAddr 0 || b == t.slotAddr 1))))

/-- R514 for a word at its placed address: the code of the refusal. -/
def Dev.tableRefusal (d : Dev) (a : Nat) : Option Nat :=
  match d.tables.find? (fun t => t.inSram a || t.inHome a) with
  | none => none
  | some t =>
    let ctx := match d.loopDecl t.reader with | some l => l.ctx | none => 0
    if t.access == 1 && t.inSram a then some Err.HOST_PROTECTED
    else if t.reader != 0 && d.flagAt pgCTX CTX.CCTL_RUN ctx then some Err.HOST_TABLE_LIVE
    else if t.kind == 2 && d.libLoading t then some Err.HOST_TABLE_LIVE
    else if t.kind == 4 && (d.get pgCAP CAP.ST_STATE == 1 || d.get pgCAP CAP.ST_STATE == 2) then some Err.HOST_PROTECTED
    else none

/-- The page of the selected host interface, which carries the access (R511). -/
def Dev.ifPage (d : Dev) : Nat := if d.hostXspi then pgXSPI else pgPCIE

/-- A host write to the aligned word at `a` (R511): the page and code of a refusal. -/
def Dev.memRefusal (d : Dev) (a : Nat) : Option (Nat × Nat) :=
  let here := fun (c : Nat) => some (d.ifPage, c)
  if a < 0x10080000 then
    if d.flag pgSEC SEC.ST_CFG_VERIFIED && decide (d.get pgSEC SEC.CFG_BASE < a + 4 ∧ a < d.get pgSEC SEC.CFG_END)
      then here Err.SEC_IMG_LOCKED
    else if d.progLocked a then here Err.HOST_PROG_LOCKED else none
  else if a < 0x10680000 then (match d.tableRefusal a with | some c => here c | none => none)
  else if a < 0x10800000 then
    match d.ctxGuard a with
    | some (some c) => some (pgCTX, c)
    | some none => none
    | none => here Err.HOST_PROTECTED
  else if a < 0x83C00000 then (match d.tableRefusal a with | some c => here c | none => none)
  else here Err.HOST_PROTECTED

/-- A service writes the limit word at `a` in this TCLK: the ledger word 247 (R331), the thermal service word 246 (R346).
Its value stands over the host's. -/
def Dev.limitWord (d : Dev) (a : Nat) : Bool :=
  let is := fun (loop w : Nat) => match d.loopDecl loop with | some l => a == d.ctxWord l.ctx w | none => false
  (d.nrg.regenT == d.time + 1 && d.machines.any (fun k => is (d.getAt pgNRG NRG.MACH_A_REF_LOOP k) 247))
  || (d.thm.limT == d.time + 1 && d.modules.any (fun k => is (d.getAt pgTHM THM.MCFG_REF_LOOP k) 246))

/-- Write the enabled bytes of one aligned word (R507, R511). -/
def Soc.memWord (s : Soc) (a : Nat) (be : BitVec 4) (w : Word) : Soc :=
  let d := s.dev
  if !d.memOn a || be = 0 || d.limitWord a then s
  else match d.memRefusal a with
    | some (pg, c) => s.map (fun d => d.err pg c)
    | none =>
      let b := natBytes 4 w.toNat
      if be = 15 then s.store a b
      else { s with mem := (List.range 4).foldl (fun m i => if be.getLsbD i then memPut m (a + i) (b.getD i 0) else m) s.mem }

/-- Read one aligned word for the host (R517): the data, and whether it carries an uncorrectable error. -/
def Soc.memHostWord (s : Soc) (a : Nat) : Word × Soc :=
  let d := s.dev
  if !d.memOn a then (0, s)
  else if s.bad a then
    let s := s.map (fun d => ((d.incSat pgDBG DBG.ECC_UE_CNT).irq pgDBG DBG.IRQ_ECC_UE).err d.ifPage Err.MEM_ECC_UE)
    if d.hostXspi then (BitVec.ofNat 32 0xFFFFFFFF, s)
    else (BitVec.ofNat 32 (s.word a), s.map (fun d => { d with poison := true }))
  else (BitVec.ofNat 32 (s.word a), s)

/-- Scrubbing (R517): corrected and uncorrectable words found. -/
def Soc.scrub (here : Nat → Bool) (ce ue : List Word) (s : Soc) : Soc :=
  let s := s.map (fun d => ce.foldl (fun (d : Dev) a =>
    if here a.toNat then ((d.incSat pgDBG DBG.ECC_CE_CNT).put pgDBG DBG.ECC_ADDR a.toNat).irq pgDBG DBG.IRQ_ECC_CE else d) d)
  let bad := (ue.filter (fun a => here a.toNat)).map (fun a => a.toNat / 4 * 4)
  { s with ue := (s.ue ++ bad).eraseDups }

def Soc.sramScrub (ce ue : List Word) (s : Soc) : Soc :=
  if s.dev.fwRuns then s.scrub (fun a => inSram a 1) ce ue else s

def Soc.dramScrub (ce ue : List Word) (s : Soc) : Soc :=
  if s.dev.fwRuns && !s.dev.flag pgBOOT BOOT.ST_NO_DRAM then s.scrub (fun a => inDram a 1) ce ue else s

/-! ### Promotion (R515, R516) -/

/-- The stage whose speed selects the slice of a table: of its reader, or the owner of a library. -/
def Dev.promoStage (d : Dev) (r : Nat) : Option Nat :=
  match d.adm, d.tableAt r with
  | some a, some t =>
    if t.kind = 2 then (a.stages.find? (fun x => ((codesOf 0x0B x.res).filterMap (fun j => a.tables[j]?)).any (fun y => y == t))).map
      (fun x => x.stage)
    else (d.loopDecl t.reader).map (fun l => l.trigStage)
  | _, _ => none

/-- PROMOTION_CHECK (R515): the check made every 1 ms. -/
def Dev.promotionCheck (r : Fin 32) (d : Dev) : Dev :=
  match d.tableAt r, d.promoStage r with
  | some t, some k =>
    if d.flagAt pgDBG DBG.PROMO_MODE r || t.slice == 0 || decide (d.time < (d.promo[r]).checkT) then d
    else
      let n := t.size / t.slice
      let fmax := match d.stageDecl k with | some x => x.fMax | none => 0
      let om := (d.est[fin16 k]).omega.natAbs
      let s := if fmax = 0 then n - 1 else min (n - 1) (om * n / fmax)
      let p := d.promo[r]
      let same := if p.lastS = s then min 10 (p.same + 1) else 1
      let d := d.modPromo r (fun p =>
        { p with lastS := s, same := same, checkT := (d.time / 400000 + 1) * 400000 })
      if 10 ≤ same then d.promoRequest r s else d
  | _, _ => d

/-- A write of PROMOt (R515): with MODE 1 the slice is SEL. -/
def Dev.promoWrite (d : Dev) (r : Nat) (w : Word) : Dev :=
  let d := (d.putAt pgDBG DBG.PROMO_MODE r (wordField w 31 1)).putAt pgDBG DBG.PROMO_SEL r (wordField w 0 8)
  match d.tableAt r with
  | some t =>
    if d.flagAt pgDBG DBG.PROMO_MODE r && t.slice != 0 && decide (wordField w 0 8 < t.size / t.slice)
    then d.promoRequest r (wordField w 0 8) else d
  | none => d

/-- SLICE_COPY_DONE (R516): the slice stands in the loading slot; a waiting request is served, and a library that no load
uses goes over at once. -/
def Soc.sliceCopyDone (r : Fin 32) (s : Soc) : Soc :=
  let d := s.dev
  let p := d.promo[r]
  match p.copy, d.tableAt r with
  | some (sl, t1), some t =>
    if d.time < t1 then s
    else
      let body := memGetList s.mem (t.home + sl * t.slice) t.slice
      let s := s.store (t.slotAddr (1 - p.slot)) body
      s.map (fun d =>
        let d := (d.modPromo r (fun p => { p with copy := none, ready := some sl, wait := none })).putAt pgDBG DBG.PROMO_LOADING r 0
        let d := d.promoLibrary r
        match p.wait with
        | some w => d.promoStart r w
        | none => d)
  | _, _ => s

/-! ### Ethernet (R518 to R520) -/

/-- EtherType, behind one VLAN tag if there is one, and the payload. -/
def etherType (f : List Byte) : Nat × List Byte :=
  if beNat f 12 2 = 0x8100 then (beNat f 16 2, f.drop 18) else (beNat f 12 2, f.drop 14)

/-- MAC address of a port as six bytes: bytes 0 to 3 in MAC_LO, 4 and 5 in MAC_HI (R533). -/
def Dev.mac (d : Dev) (pg : Nat) : List Byte := natBytes 4 (d.get pg ETH.MAC_LO) ++ natBytes 2 (d.get pg ETH.MAC_HI)

/-- The port is a path of the safe channel: path A on ETH0, path B on ETH1 (R381). -/
def Dev.ethSafe (d : Dev) (p : Nat) : Bool :=
  d.snOn && (if p = 0 then d.get pgSNET SNET.SN_CFG_PATH_A == 0 else d.get pgSNET SNET.SN_CFG_PATH_B == 0)

/-- Put a frame into the receive ring (R518, R519). -/
def Soc.ethRing (s : Soc) (p : Nat) (f : List Byte) (ts : Nat) : Soc :=
  let d := s.dev
  let pg := pgETH p
  let h := d.get pg ETH.RX_HEAD
  let a := d.get pg ETH.RX_RING + 16 * h
  let buf := s.word a
  let own := inRing a 16 && bitOf (memGet s.mem (a + 6)).toNat 7 && inRing buf 1536
  if !own then s.map (fun d => ((d.incSat pg ETH.CNT_DROP_CNT).irq pg ETH.IRQ_RX_DROP).err pg Err.ETH_RX_DROP)
  else
    let s := s.storeUnlocked pg 0 buf f
    let s := s.storeUnlocked pg 0 (a + 4) (natBytes 2 f.length ++ [0, 0] ++ natBytes 8 ts)
    s.map (fun d =>
      let n := d.get pg ETH.RX_LEN
      (d.put pg ETH.RX_HEAD (if n ≤ h + 1 then 0 else h + 1)).irq pg ETH.IRQ_RX)

/-- ETH_RX_FRAME (R518): the frame without its FCS, whether the FCS agrees, its age in TCLK since the start-of-frame
delimiter, and what the 802.1AS service made of a frame of its own: gPTP offset in ns and rate ratio. -/
def Soc.ethRx (p : Fin 2) (f : List Byte) (fcsOk : Bool) (age : BitVec 16) (sync : Option (BitVec 64 × Word)) (s : Soc) : Soc :=
  let d := s.dev
  let pg := pgETH p
  if !d.enabled pg || d.gated .eth p || d.inReset 13 then s
  else if !fcsOk || decide (f.length < 60) || decide (1518 < f.length) then
    s.map (fun d => (d.incSat pg ETH.CNT_ERR_CNT).errPartner pg Err.ETH_RX_ERR p 0 f)
  else
    let t := etherType f
    let dst := f.take 6
    let mine := dst == d.mac pg
    if d.ethSafe p && t.1 == d.gnCfg 40 2 then s.map (fun d => d.safeCopy (p == 1) (t.2.take 36))
    else if t.1 = 0x88F7 then
      s.map (fun d =>
        let d := { d with eth := vmod d.eth p (fun e => { e with as := f }) }
        match sync with
        | some (o, r) =>
          if d.fwRuns then
            let d := { d with eth := vmod d.eth p (fun e => { e with gptpOfs := o.toNat }) }
            (d.put pg ETH.GPTP_RATE r.toNat).put pg ETH.ST_PTP_LOCKED 1
          else d
        | none => d)
    else if d.pwrMode = 2 ∧ mine ∧ t.1 = 0x0842 then s.map (fun d => d.wake 2)
    -- PAUSE frames are ignored; their EtherType and opcode are those of IEEE 802.3 (PRESUMED, log entry 106)
    else if t.1 = 0x8808 ∧ beNat t.2 0 2 = 1 then s
    else
      let multi := bitOf (beNat f 0 1) 0
      let bcast := dst == List.replicate 6 0xFF
      if mine || bcast || (multi && d.flag pg ETH.CFG_MC_EN) || d.flag pg ETH.CFG_PROMISC then
        s.ethRing p f (d.time - age.toNat)
      else s

/-- TX_TAIL_WRITE (R519): the descriptors up to the tail are the device's. -/
def Dev.txTail (p : Fin 2) (tail : BitVec 12) (d : Dev) : Dev := d.put (pgETH p) ETH.TX_TAIL tail.toNat

/-- ETH_TX_DONE (R519): the frame of the next transmit descriptor has been sent. -/
def Soc.ethTxDone (p : Fin 2) (age : BitVec 16) (s : Soc) : Soc :=
  let d := s.dev
  let pg := pgETH p
  let n := d.eth[p].txNext
  let a := d.get pg ETH.TX_RING + 16 * n
  if !d.enabled pg || d.gated .eth p || d.inReset 13 || n == d.get pg ETH.TX_TAIL || !inRing a 16
      || !bitOf (memGet s.mem (a + 6)).toNat 7 then s
  else
    let s := s.storeUnlocked pg 0 (a + 6) ([BitVec.ofNat 8 ((memGet s.mem (a + 6)).toNat % 128), 0] ++ natBytes 8 (d.time - age.toNat))
    s.map (fun d =>
      let m := if d.get pg ETH.TX_LEN ≤ n + 1 then 0 else n + 1
      ({ d with eth := vmod d.eth p (fun e => { e with txNext := m }) } : Dev).irq pg ETH.IRQ_TX_DONE)

/-- PTP_SYNC_LOSS (R520). -/
def Dev.ptpSyncLoss (p : Fin 2) (d : Dev) : Dev :=
  let pg := pgETH p
  if d.flag pg ETH.ST_PTP_LOCKED && d.fwRuns then
    ((d.put pg ETH.ST_PTP_LOCKED 0).irq pg ETH.IRQ_PTP_LOSS).errFw pg Err.PTP_SYNC_LOSS
  else d

/-- ETH_LINK_CHANGE (R518, R533). -/
def Dev.ethLink (p : Fin 2) (up anDone : Bool) (d : Dev) : Dev :=
  let pg := pgETH p
  if !d.enabled pg || d.gated .eth p || d.inReset 13 then d
  else
    let was := d.flag pg ETH.ST_LINK
    let d := (d.putB pg ETH.ST_LINK up).putB pg ETH.ST_AN_DONE (anDone && d.flag pg ETH.CFG_AN_EN)
    d.irqIf (was != up) pg ETH.IRQ_LINK

/-! ### CAN FD (R521) -/

def Dev.canIdle (d : Dev) (c : Fin 4) : Bool :=
  !d.enabled (pgCAN c) || d.gated .can c || d.inReset 14 || d.get (pgCAN c) CAN.ST_STATE == 2

/-- The controller's state from its error counters (R521). -/
def Dev.canState (d : Dev) (pg : Nat) : Dev :=
  if d.get pg CAN.ST_STATE = 2 then d
  else d.putB pg CAN.ST_STATE (decide (128 ≤ d.get pg CAN.ECR_TEC) || decide (128 ≤ d.get pg CAN.ECR_REC))

/-- A frame was received without error: REC falls (PRESUMED, ISO 11898-1; log entry 34). -/
def Dev.canGoodRx (d : Dev) (pg : Nat) : Dev :=
  let r := d.get pg CAN.ECR_REC
  let (f, d) := d.free 4
  (d.put pg CAN.ECR_REC (if r = 0 then 0 else if r < 128 then r - 1 else 119 + f % 9)).canState pg

/-- Does filter `i` take an identifier word (R521)? -/
def Dev.canFilter (d : Dev) (pg i idw : Nat) : Bool :=
  let m := d.getAt pg CAN.MASK i
  idw &&& m == d.getAt pg CAN.FLT i &&& m

/-- The path of the safe channel on a controller: A on CAN0, B on CAN1 (R381). -/
def Dev.canSafe (d : Dev) (c : Nat) : Bool :=
  d.snOn && ((c == 0 && d.get pgSNET SNET.SN_CFG_PATH_A == 1) || (c == 1 && d.get pgSNET SNET.SN_CFG_PATH_B == 1))

/-- CAN_RX_FRAME (R521): identifier, DLC and flags word, data bytes. -/
def Dev.canRx (c : Fin 4) (xtd : Bool) (id : BitVec 29) (dlc : Word) (data : List Byte) (d : Dev) : Dev :=
  let pg := pgCAN c
  if d.canIdle c then d
  else
    let d := d.canGoodRx pg
    let idw := b2n xtd * 2 ^ 31 + id.toNat
    if d.canSafe c && idw == d.gnCfg 32 4 &&& 0x9FFFFFFF then d.safeCopy (c == 1) (data.take 36)
    else if d.pwrMode = 2 ∧ d.canFilter pg 0 idw then d.wake 1
    else if !(List.range 16).any (fun i => d.canFilter pg i idw) then d
    else if 32 ≤ (d.can[c]).length then (d.irq pg CAN.IRQ_FIFO_OVR).err pg Err.CAN_FIFO_OVR
    else
      let b := (data ++ List.replicate 64 0).take 64
      let fr := [idw, dlc.toNat] ++ (List.range 16).map (fun i => listNat b (4 * i) 4)
      let d := { d with can := vmod d.can c (fun q => q ++ [fr]) }
      (d.put pg CAN.FIFO_CNT (d.can[c]).length).irq pg CAN.IRQ_RX

/-- RX_POP (R533). -/
def Dev.rxPop (c : Fin 4) (d : Dev) : Dev :=
  let d := { d with can := vmod d.can c (fun q => q.drop 1) }
  d.put (pgCAN c) CAN.FIFO_CNT (d.can[c]).length

/-- CAN_TX_REQ (R521): bit j requests buffer j. -/
def Dev.canTxReq (c : Fin 4) (bits : BitVec 8) (d : Dev) : Dev :=
  d.put (pgCAN c) CAN.TX_REQ (d.get (pgCAN c) CAN.TX_REQ ||| bits.toNat)

/-- Identifier of transmit buffer `j`. -/
def Dev.txId (d : Dev) (pg j : Nat) : Nat := (d.reg (pg + 0x800 + 0x50 * j)).toNat % 2 ^ 29

/-- The pending buffer with the lowest identifier (R521). -/
def Dev.canNext (d : Dev) (pg : Nat) : Option Nat :=
  let p := d.get pg CAN.TX_REQ
  ((List.range 8).filter (fun j => bitOf p j)).foldl (fun best j =>
    match best with
    | none => some j
    | some b => if d.txId pg j < d.txId pg b then some j else some b) none

/-- CAN_TX_DONE (R521). A sent frame lowers TEC (PRESUMED, ISO 11898-1; log entry 34). -/
def Dev.canTxDone (c : Fin 4) (d : Dev) : Dev :=
  let pg := pgCAN c
  match d.canNext pg with
  | some j =>
    if d.canIdle c then d
    else
      let d := d.put pg CAN.TX_REQ (setBit (d.get pg CAN.TX_REQ) j false)
      ((d.put pg CAN.ECR_TEC (d.get pg CAN.ECR_TEC - 1)).canState pg).irq pg CAN.IRQ_TX_DONE
  | none => d

/-- CAN_BUS_ERROR (R521): the error counters as the standard leaves them, and bus-off. -/
def Dev.canBusError (c : Fin 4) (tec rec : BitVec 8) (busOff : Bool) (d : Dev) : Dev :=
  let pg := pgCAN c
  if d.canIdle c then d
  else
    let d := (d.put pg CAN.ECR_TEC tec.toNat).put pg CAN.ECR_REC rec.toNat
    let d := (d.irq pg CAN.IRQ_ERR).errPartner pg Err.CAN_PROTOCOL c 0 []
    if busOff then ((d.put pg CAN.ST_STATE 2).irq pg CAN.IRQ_BUS_OFF).err pg Err.CAN_BUS_OFF else d.canState pg

/-- CAN_RECOVER (R521). -/
def Dev.canRecover (c : Fin 4) (d : Dev) : Dev :=
  let pg := pgCAN c
  if d.get pg CAN.ST_STATE = 2 ∧ d.flag pg CAN.CFG_AUTO_RECOVER ∧ d.enabled pg ∧ !d.gated .can c ∧ !d.inReset 14 then
    ((d.put pg CAN.ST_STATE 0).put pg CAN.ECR_TEC 0).put pg CAN.ECR_REC 0
  else d

/-! ### Boot flash (R522) -/

def Dev.flRefuse (d : Dev) : Dev := (d.put pgXSPI XSPI.FL_CODE Err.FL_CMD).err pgXSPI Err.FL_CMD

/-- FL_CMD with GO = 1: CMD 0 READ, 1 PROGRAM, 2 ERASE of the 64 KiB that hold FL_OFS. -/
def Dev.flCommand (d : Dev) (cmd : Nat) : Dev :=
  let d := d.put pgXSPI XSPI.FL_CMD_CMD cmd
  let ofs0 := d.get pgXSPI XSPI.FL_OFS
  let ofs := if cmd = 2 then ofs0 / 65536 * 65536 else ofs0
  let len := if cmd = 2 then 65536 else d.get pgXSPI XSPI.FL_LEN
  let addr := d.get pgXSPI XSPI.FL_ADDR
  if cmd == 3 || d.flag pgXSPI XSPI.ST_FL_BUSY || !d.flag pgBOOT BOOT.ST_DONE || decide (ofs < 0x100000)
      || decide (0x1100000 < ofs + len) || (cmd != 2 && (len % 256 != 0 || !inHostArea addr len)) then d.flRefuse
  else { d.put pgXSPI XSPI.ST_FL_BUSY 1 with fl := some ⟨cmd, ofs, addr, len⟩ }

def Dev.flRead (d : Dev) : Dev := d.flCommand 0
def Dev.flProgram (d : Dev) : Dev := d.flCommand 1
def Dev.flErase (d : Dev) : Dev := d.flCommand 2

/-- Program bytes: an erased byte takes the new value; what a byte that was not erased then holds the spec does not say
(log entry 35). -/
def Soc.flProgramBytes (s : Soc) : Nat → List Byte → Soc
  | _, [] => s
  | a, b :: t =>
    let s := if memGet s.flash a = 0xFF then { s with flash := memPut s.flash a b }
      else
        let (f, d) := s.dev.free 8
        { s with dev := d, flash := memPut s.flash a (BitVec.ofNat 8 f) }
    s.flProgramBytes (a + 1) t

/-- FL_DONE (R522): the command completes. -/
def Soc.flDone (s : Soc) : Soc :=
  match s.dev.fl with
  | none => s
  | some j =>
    let s := match j.cmd with
      | 0 => s.storeUnlocked pgXSPI 0xFF j.addr (memGetList s.flash j.ofs j.len)
      | 1 => s.flProgramBytes j.ofs (memGetList s.mem j.addr j.len)
      | _ => { s with flash := memPutList s.flash j.ofs (List.replicate 65536 0xFF) }
    s.map (fun d => (({ d with fl := none }.put pgXSPI XSPI.ST_FL_BUSY 0).put pgXSPI XSPI.FL_CODE 0).irq pgXSPI XSPI.IRQ_FL_DONE)

/-! ### Interrupt vectors (R523, R524) -/

/-- The latch of every vector whose request rose. -/
def Dev.latchAll (before : Dev) (d : Dev) : Dev :=
  (List.range 64).foldl (fun (d : Dev) v => if !before.vecReq v && d.vecReq v then d.setLatch v else d) d

/-- VECMAP_WRITE (R523): word `w` of the map. -/
def Dev.vecmapWrite (i : Fin 64) (w : Word) (d : Dev) : Dev :=
  let bad := fun (j : Nat) => bitOf w.toNat (8 * j + 7) && wordField w (8 * j) 6 == 0 && !(i == 0 && j == 0)
  let v := (List.range 4).foldl (fun v j => if bad j then v - 2 ^ (8 * j + 7) else v) (w.toNat &&& 0xBFBFBFBF)
  let d' := d.putAt pgPCIE PCIE.VECMAP i v
  let d' := (List.range 4).foldl (fun (d : Dev) j => if bad j then d.err pgPCIE Err.VEC_CFG else d) d'
  Dev.latchAll d d'

/-- VLATCH_CLEAR (R524): a bit whose vector's request is 1 stays set, and counts as set again. -/
def Dev.vlatchClear (i : Fin 2) (w : Word) (d : Dev) : Dev :=
  (List.range 32).foldl (fun (d : Dev) b =>
    let v := 32 * i.val + b
    if !bitOf w.toNat b || !bitOf (d.getAt pgPCIE PCIE.VLATCH i) b then d
    else if d.vecReq v then d.setLatch v
    else d.putAt pgPCIE PCIE.VLATCH i (setBit (d.getAt pgPCIE PCIE.VLATCH i) b false)) d

/-- HOST_INT_N is low (R509). -/
def Dev.hostIntLow (d : Dev) : Bool :=
  (List.range 2).any (fun i => (d.getAt pgPCIE PCIE.VLATCH i &&& (d.getAt pgPCIE PCIE.VEN i ||| b2n (i == 0))) != 0)

/-- A write to a word of the MSI-X table (R506): unmasking an entry sends a message that waits. -/
def Dev.msixWrite (d : Dev) (i : Nat) (w : Word) : Dev :=
  let d := { d with msix := mapPut msixDefault d.msix i w }
  if i % 4 = 3 ∧ !w.getLsbD 0 then { d with pba := setBit d.pba (i / 4) false } else d

/-! ### The capture recorder (R525 to R529) -/

def Dev.capBusy (d : Dev) : Bool := d.get pgCAP CAP.ST_STATE == 1 || d.get pgCAP CAP.ST_STATE == 2

/-- Pages that a decimated channel may read (R526). -/
def decPage (a : Nat) : Bool :=
  match pageOf a with
  | some (k, _, _) => k == .stg || k == .leg || k == .trip || k == .cmpb || k == .eph || k == .adcg || k == .sdi || k == .pos
      || k == .rsv || k == .ssi || k == .emu
  | none => false

/-- The configuration is refused (R526). -/
def Dev.capCfgBad (d : Dev) : Bool :=
  let mode := d.get pgCAP CAP.CFG_MODE
  let rec_ := d.capRec
  let post := d.get pgCAP CAP.POST_REC
  let size := decide (d.capSlots < d.get pgCAP CAP.PRE_REC + post) || post == 0
  if mode = 0 then
    let m := d.get pgCAP CAP.CFG_RAW_MASK
    let ins := (List.range 24).filter (fun i => bitOf m i)
    let div := match ins.head? with | some i => d.get (pgSDI i) SDI.CFG_DIV | none => 0
    ins.isEmpty || ins.any (fun i => d.get (pgSDI i) SDI.CFG_FORMAT == 1 || d.get (pgSDI i) SDI.CFG_DIV != div)
    || decide (3 * div < 2 * rec_) || size
  else
    let n := d.get pgCAP CAP.DEC_N_DEC + 1
    let per := d.get pgCAP CAP.DEC_DEC_PER
    decide (2 ≤ mode) || (List.range n).any (fun i => !decPage (d.getAt pgCAP CAP.DEC_ADDR i)) || decide (per < 16)
    || decide (3 * per < 2 * rec_) || size

/-- CAP_ARM (R526, R527). -/
def Dev.capArm (d : Dev) : Dev :=
  if d.capBusy then d.err pgCAP Err.CAP_BUSY
  else if !d.tables.any (fun t => t.kind == 4) || d.flag pgBOOT BOOT.ST_NO_DRAM then d.err pgCAP Err.CAP_NO_BUFFER
  else if d.capCfgBad then d.err pgCAP Err.CAP_CFG
  else
    let d := ((d.put pgCAP CAP.ST_STATE 1).put pgCAP CAP.ST_PRE_SHORT 0).put pgCAP CAP.ST_GAP 0
    { d with cap := { CapH.initial with armT := d.time } }

/-- CAP_STOP (R527). -/
def Dev.capStop (d : Dev) : Dev := { d.put pgCAP CAP.ST_STATE 0 with cap := { d.cap with toUnroll := false } }

/-- TRIG_SW (R528). -/
def Dev.trigSw (d : Dev) : Dev := d.capFire 0

/-- The words of a decimated record (R525). -/
def Dev.decWords (d : Dev) : List Nat :=
  d.time32 :: (List.range (d.get pgCAP CAP.DEC_N_DEC + 1)).map (fun i =>
    let a := d.getAt pgCAP CAP.DEC_ADDR i
    match pageOf (a / 4 * 4) with
    | some (k, inst, off) => d.pageRead k inst (a / 4 * 4 - off) off
    | none => 0)

/-- Inputs of a raw record, in ascending order (R525). -/
def Dev.rawIns (d : Dev) : List Nat := (List.range 24).filter (fun i => bitOf (d.get pgCAP CAP.CFG_RAW_MASK) i)

/-- The record time of the newest raw record that is complete (R525): the edge that ends the newest modulator period of
which every enabled input has given its sample. -/
def Dev.capEdge (d : Dev) : Nat :=
  let dv := match d.rawIns.head? with | some i => d.get (pgSDI i) SDI.CFG_DIV | none => 1
  ((d.rawIns.filter (fun i => d.enabled (pgSDI i) && (d.sd i).edge != 0)).map (fun i => (d.sd i).edge - 1)).foldl min
    (d.time / dv * dv)

/-- The 4-bit code of an input for the period that ends at `e` (R525): a disabled input reads 0, a bit 0 reads 0xF. -/
def Dev.capCode (d : Dev) (e i : Nat) : Nat :=
  let h := d.sd i
  if !d.enabled (pgSDI i) || h.edge == 0 then 0
  else
    let c := (h.samples.getD ((h.edge - 1 - e) / max 1 (d.get (pgSDI i) SDI.CFG_DIV)) 0).toNat
    if d.get (pgSDI i) SDI.CFG_FORMAT = 2 ∨ c = 1 then c else 0xF

/-- The words of a raw record (R525): nibble j of word w is the code of the input of rank 8w + j. -/
def Dev.rawWords (d : Dev) : List Nat :=
  let v := fun (r : Nat) => match d.rawIns[r]? with | some i => d.capCode d.capEdge i | none => 0
  (List.range ((d.rawIns.length + 7) / 8)).map (fun w => (List.range 8).foldl (fun x j => x + v (8 * w + j) * 16 ^ j) 0)

/-- All records of the window are written (R527). -/
def Dev.capFull (d : Dev) : Bool :=
  match d.cap.trigRec with
  | some t => decide (t + d.get pgCAP CAP.POST_REC ≤ d.cap.count)
  | none => false

/-- CAP_RECORD (R525, R527): the record of the newest record time after the ARM TCLK, once. -/
def Soc.capRecord (s : Soc) : Soc :=
  let d := s.dev
  let raw := decide (d.get pgCAP CAP.CFG_MODE = 0)
  let e := if raw then d.capEdge else d.time
  let due := decide (d.cap.armT < e) && d.cap.last != some e && (raw || e % d.get pgCAP CAP.DEC_DEC_PER == 0)
  if !d.capBusy || !due || d.clockHeld || d.capFull || d.gated .cap 0 || d.inReset 17 || d.capSlots == 0 then s
  else
    let n := d.cap.count
    let w := if raw then d.rawWords else d.decWords
    let s := s.store (d.get pgCAP CAP.BUF_ADDR + n % d.capSlots * d.capRec) (w.flatMap (fun x => natBytes 4 x))
    s.map (fun d =>
      let trig := d.get pgCAP CAP.ST_STATE == 2 && d.cap.trigRec.isNone && decide (d.cap.trigT ≤ e)
      let d := { d with cap := { d.cap with count := n + 1, last := some e } }
      if trig then d.capTrigger n else d)

/-- CAP_DONE (R527). -/
def Dev.capDone (d : Dev) : Dev :=
  match d.cap.trigRec with
  | some t =>
    if d.get pgCAP CAP.ST_STATE ≠ 2 || !d.capFull then d
    else
      let first := t - min t (d.get pgCAP CAP.PRE_REC)
      let d := (d.put pgCAP CAP.ST_STATE 3).put pgCAP CAP.START_OFS (first % d.capSlots * d.capRec)
      ({ d with cap := { d.cap with toUnroll := d.flag pgCAP CAP.CFG_UNROLL } } : Dev).irq pgCAP CAP.IRQ_DONE
  | none => d

/-- UNROLLED (R527): the buffer is rotated so that the window starts at BUF_ADDR. -/
def Soc.unrolled (s : Soc) : Soc :=
  let d := s.dev
  if !d.cap.toUnroll || d.get pgCAP CAP.ST_STATE != 3 || !d.fwRuns then s
  else
    let a := d.get pgCAP CAP.BUF_ADDR
    let n := d.capSlots * d.capRec
    let st := d.get pgCAP CAP.START_OFS
    let b := memGetList s.mem a n
    let s := s.store a (b.drop st ++ b.take st)
    s.map (fun d =>
      let pw := match d.cap.trigRec with | some t => min t (d.get pgCAP CAP.PRE_REC) | none => 0
      let d := (d.put pgCAP CAP.START_OFS 0).put pgCAP CAP.TRIG_OFS (pw * d.capRec)
      ({ d with cap := { d.cap with toUnroll := false } } : Dev).irq pgCAP CAP.IRQ_UNROLLED)

/-! ### The host links (R505, R507, R509) -/

/-- PCIE_TLP and PCIE_POISON (R507): nothing is written. -/
def Dev.pcieTlp (d : Dev) : Dev :=
  ((d.incSat pgPCIE PCIE.PROT_CNT).irq pgPCIE PCIE.IRQ_PROTOCOL).errPartner pgPCIE Err.PCIE_TLP 0 3 []

def Dev.pciePoison (bytes : List Byte) (d : Dev) : Dev :=
  ((d.incSat pgPCIE PCIE.PROT_CNT).irq pgPCIE PCIE.IRQ_PROTOCOL).errPartner pgPCIE Err.PCIE_POISON 0 0 bytes

/-- An xSPI protocol error (R509). -/
def Dev.xspiProtocol (d : Dev) (bytes : List Byte) : Dev :=
  (d.irq pgXSPI XSPI.IRQ_PROTOCOL).errPartner pgXSPI Err.XSPI_PROTOCOL 1 0 bytes

/-- PCIE_LINK_CHANGE (R453, R533): speed code and lanes. A link that BS8 still waits for completes the boot. -/
def Dev.pcieLink (up : Bool) (speed width : BitVec 2) (d : Dev) : Dev :=
  if d.hostXspi || d.inReset 11 || d.gated .pcie 0 then d
  else if up then
    let was := d.flag pgPCIE PCIE.ST_LINK_UP
    let d := (d.pcieUp speed.toNat width.toNat).irqIf (!was) pgPCIE PCIE.IRQ_LINK_UP
    if d.boot.waitLink then d.bootDone else d
  else
    let was := d.flag pgPCIE PCIE.ST_LINK_UP
    (((d.put pgPCIE PCIE.ST_LINK_UP 0).put pgPCIE PCIE.ST_SPEED 0).put pgPCIE PCIE.ST_WIDTH 0).irqIf was pgPCIE PCIE.IRQ_LINK_DOWN

end Sys2Proof.Machine
end

