-- ==== Sys2Proof/Machine/Reset.lean ====
section
/-! DEFINITION. The device right after power-on, and the device resets of R433. -/

namespace Sys2Proof.Machine

/-! ### Hidden state at reset (log entry 3 where the spec names no value) -/

def WinCount.empty : WinCount := ⟨0, false, false, false, 0⟩

def PosH.initial : PosH :=
  { a := false, b := false, z := false, aT := 0, bT := 0, zT := 0, prbT := 0, sampT := 0, prbRise := false
    prbTook := false, last := 0, cntT := 0, illT := 0, winStart := 0, win := WinCount.empty, winEnd := none, idx := none }
def RsvH.initial : RsvH := ⟨0, none, none, 0, 0, false, 0, 0, 0, 0⟩
def SsiH.initial : SsiH := ⟨0, false, 0, 0, 0, false, 0, 0⟩
def EmuH.initial : EmuH := ⟨0, 0, false, false, false, false⟩

def EstH.initial : EstH :=
  { on := false, theta := 0, pend := 0, omega := 0, prev := 0, step := 0, firstUpd := true, firstSpd := true, rejects := 0
    lastUpd := 0, badSince := none, okSince := none, reversed := false, newAngle := none, newSpeed := none, newRev := false
    fired := 0, carried := [], loadEnd := 0, swapT := 0, armRef := none, loadChart := 0, loadCount := 0, cntA := 0, cntI := 0, chartI := 0, armT := 0, seen := none }

def CmH.initial : CmH :=
  { act := false, forced := false, nowin := false, shifted := false, tripped := false, d1 := 0, d2 := 0, sector := 0
    on := [], off := [], offShifted := [], e0 := none, e1 := none, res0 := none, res1 := none
    latch := (0, 0, 0, 0), inl := [] }

def StgH.initial : StgH :=
  { x0 := 0, startT := 0, forceZero := none, cmpTaken := List.replicate 4 false, perTaken := false, zeroT := 0, perT := 0
    written := [], reqT := 0, armWhen := 0, loadT := 0, perNew := false, perIn := 0, forcedT := 0, splitNext := false, irqCnt := List.replicate 6 0
    trigCnt := List.replicate 16 0, edges := [], cm := CmH.initial }

/-- Both switches of a leg are off, and nobody drives it. -/
def LegH.initial : LegH :=
  { onTaken := false, offTaken := false, pend := [], offH := none, offL := none, drive := .cut, goal := 3, minO := none
    gap := none, nOn := 0, hSum := 0, hSince := none, cSum := 0, cSince := none }

/-- Trip pins and leg status inputs high, which POL = 1 takes as inactive, and comparator pins at 0 V (log entry 92). -/
def TripH.initial : TripH :=
  { acts := [], ins := (List.range 168).map (fun s => ⟨if s < 16 ∨ (80 ≤ s ∧ s < 144) then 1 else 0, false, 0⟩), undo := none
    hostT := 0, clears := [], nextCrc := none }
def CmpH.initial : CmpH := ⟨0, 0, false, false, none, 0, 0, 0, 0⟩

def AdcH.initial : AdcH :=
  { arr := [], pend := [], runs := [], free := List.replicate 3 0, slots := [], nextSlot := 0, serial := 0, hkq := []
    calReq := [], calRun := [], detEnd := List.replicate 16 0 }

def SdiH.initial : SdiH := ⟨0, [], 0, 0, 0, 0, 0, 0⟩
def AdmH.initial : AdmH := ⟨0, 0, 0, 0, [], none, false⟩

def CluH.initial : CluH :=
  { dp := Vector.replicate 3 Dpath.cleared, run := Vector.replicate 3 none, halt := Vector.replicate 3 false, agr := []
    rel := [], agreed := 0, rejoinT := 0, bound := false, modeWhen := 0, modeStage := 0, testN := 0, testT := 400000, recov := none }

def CtxH.initial : CtxH := { loadT := 0, was := [], moves := [], satT := [], clr := none }


def NrgH.initial : NrgH :=
  { tick := 0, uPrev := 0, rising := 0, eBr := 0, eDis := 0, seq := List.replicate 8 0, age := List.replicate 8 0
    disStart := 0, disLate := false, escTick := 0, regenT := 0, wrote := [], stoWas := false }

def ThmH.initial : ThmH :=
  { mods := false, upd := 0, ramp := 0, round := 0, die := List.replicate 4 0, base := List.replicate 4 0
    dieAt := List.replicate 4 0, foster := List.replicate 64 0, g := List.replicate 16 0, res := [], missing := none, startT := 0
    refTrim := List.replicate 4 0, limT := 0, calMean := none, bootDie := 0, shut := 0, live := true }

def FldH.initial : FldH :=
  { t0 := 0, asked := 0, cur := [], triples := [], lastV := none, lastW := none, period := none, wrote := [], step := 0, resp := [], pol := []
    seq := 0, mbSeq := 0, n := 0, sum := 0, tick := 0, magT := 0 }

/-- The start of REF_EXT at `wall` (R408). -/
def ClkH.initial (wall : Nat) : ClkH :=
  { pass := [0, 0, 0], xoOn := true, xoStart := wall, restartAt := none, holdover := none, holdStart := 0, holdCause := 0
    calEnd := none, legHold := 0, stepTo := none, timeHi := 0, retT := none, ircT := none }

/-- VSEL stands at the reset operating point (R424, R438). -/
def PwrH.initial (perst : Bool) : PwrH :=
  { vsel := 2, step := 0, goal := 2, lastOp := none, vStart := 0, lockT := 0, wakeAt := none, waking := false, perst := perst
    enter := none, wakeT := none, attrT := none, runT := none }

/-- OTP of a BLANK device, and a retention file that nothing has written (R459, R467). -/
def BootH.initial : BootH :=
  { due := true, waitLink := false, trans := 0, board := 0, ecdsa := [], lms := [], customer := false, revoked := false
    fwSvn := 0, lmsK := 0, lmsQ := none, attKeys := true, retOk := false, retry := 0, mirror := none, burn := none
    clear := false, fwDigest := [], cfgHash := [], secCmd := 0, first := false }

/-- The device after power-on of every supply, before the boot pass: every register at its reset value, Gnomon locked
out (R384), cause POR. -/
def Dev.initial : Dev :=
  { regs := [], act := [], time := 0, wall := 0, freeCtr := 0, reply := [], poison := false, adm := none
    almanac := AdmH.initial
    pos := Vector.replicate 8 PosH.initial, rsv := Vector.replicate 4 RsvH.initial, ssi := Vector.replicate 4 SsiH.initial
    emu := Vector.replicate 4 EmuH.initial, est := Vector.replicate 16 EstH.initial
    stg := Vector.replicate 16 StgH.initial, leg := Vector.replicate 64 LegH.initial, trip := TripH.initial
    cmp := Vector.replicate 4 CmpH.initial, cap := CapH.initial, adc := Vector.replicate 4 AdcH.initial
    sdi := Vector.replicate 24 SdiH.initial, legDis := allLegs, red := [], gnq := [], trigs := [], timers := []
    lastTrig := [], newShadow := [], eph := [], dupWin := [], latWas := [], ctxWhen := 0, ctxReqT := 0, clu := Vector.replicate 4 CluH.initial
    ctx := CtxH.initial
    ready := [], mbox := [], stage := [], slice := none, promo := Vector.replicate 32 PromoH.initial, rampPend := []
    nrg := NrgH.initial, thm := ThmH.initial, fld := Vector.replicate 16 FldH.initial, gnm := GnmH.initial true
    clk := ClkH.initial 0, pwr := PwrH.initial false, boot := BootH.initial, vlk := VlkH.initial
    can := Vector.replicate 4 [], eth := Vector.replicate 2 EthH.initial, fl := none, msix := [], pba := 0
    sliceDue := [], runT := 0 }

/-- Power-on state with its cause. -/
def Dev.powered : Dev := Dev.initial.put pgPWR PWR.RST_CAUSE 1

/-! ### Device reset (R433) -/

/-- Register words that a device reset keeps: of Gnomon, of the retention file, RST_CAUSE, and the counts. -/
def isKept (powerOn : Bool) (a : Nat) : Bool :=
  decide (pgGNM ≤ a ∧ a < pgSNET + 0x1000) || isRetention a || a == pgPWR + PWR.RST_CAUSE.off
    || (!powerOn && isSincePower a)

/-- OTP and the retention file, for the boot that starts: RETRY bits that wait act in it (R454); a burn that the reset
cuts short counts or not (R469, R473; log entry 37). -/
def BootH.afterReset (b : BootH) (retry : Nat) (burnt : Bool) : BootH :=
  let b := match b.burn with
    | some x => if burnt then b.burnt x else { b with burn := none }
    | none => b
  { BootH.initial with
    trans := b.trans, board := b.board, ecdsa := b.ecdsa, lms := b.lms, customer := b.customer, revoked := b.revoked
    fwSvn := b.fwSvn, lmsK := b.lmsK, lmsQ := b.lmsQ, attKeys := b.attKeys, retOk := b.retOk, retry := retry
    mirror := b.mirror, clear := b.clear }

/-- What Gnomon keeps requesting of the trip logic: source 172 and the trip floors (R191, R393). -/
def Dev.gnomonHolds (d : Dev) : Dev :=
  let d := match d.gnm.active with
    | some b => (List.range 16).foldl (fun (d : Dev) k => d.putAt pgTRIP TRIP.FLOOR k (listNat b (44 + 2 * k) 2)) d
    | none => d
  let m : Nat := d.gnm.reqs.foldl (fun m r => m ||| r.stages) 0
  let d := if m == 0 then d else d.tripRequest 172 m 0
  if d.gnm.running then d else d.put pgPWR PWR.XSTAT 1

/-- A device reset with RST_CAUSE bits `bits`. -/
def Dev.deviceReset (bits : Nat) (powerOn : Bool) (d : Dev) : Dev :=
  let (f, d) := d.free 1
  let regs := d.regs.filter (fun e => isKept powerOn e.1)
  let d' := { Dev.initial with
    regs := regs, wall := d.wall, freeCtr := d.freeCtr, reply := d.reply, poison := d.poison, legDis := d.legDis
    gnm := d.gnm, clk := ClkH.initial d.wall, pwr := PwrH.initial d.pwr.perst
    boot := d.boot.afterReset (d.get pgBOOT BOOT.RETRY) (f == 1)
    vlk := { VlkH.initial with jrnl := if powerOn then [] else d.vlk.jrnl } }
  let d' := d'.put pgPWR PWR.RST_CAUSE (d'.get pgPWR PWR.RST_CAUSE ||| bits)
  d'.gnomonHolds

/-- POWER_ON: VDD or VDD_T rises through its power-on threshold. -/
def Dev.powerOn (d : Dev) : Dev := d.deviceReset 1 true

/-- RESET_PIN: RESET_N low for 1 µs. -/
def Dev.resetPin (d : Dev) : Dev := d.deviceReset 2 false

/-- BROWN_OUT of the supplies named: bit 0 VDD, 1 VDD_T, 2 VDDA, 3 VDDIO, 4 VDDQ. -/
def Dev.brownOut (supplies : BitVec 5) (d : Dev) : Dev :=
  if supplies = 0 then d else d.deviceReset (4 * supplies.toNat) false

/-- WATCHDOG: suspended while the device sleeps (R430). -/
def Dev.watchdog (d : Dev) : Dev := if d.pwrMode ≠ 0 || d.justWoken then d else d.deviceReset 128 false

/-- SOFT_RST (R433, R438). -/
def Dev.softRst (key : BitVec 16) (d : Dev) : Dev :=
  if key = 0x52A7 then d.deviceReset 256 false else d.err pgPWR Err.PWR_KEY

end Sys2Proof.Machine
end

