-- ==== Sys2Proof/Machine/Host.lean ====
section
/-! DEFINITION. Host accesses (R9 to R14, R504 to R511): where an access goes, what a read answers, and what a write to
each register does. Every command row that is a register write goes through `Soc.atReg`. -/

namespace Sys2Proof.Machine

/-! ### Where an access goes -/

/-- The target of an access: a device address in a region of R9, a byte offset of the MSI-X table or of its pending-bit
array, or nothing. -/
inductive Target where
  | page (a : Nat) | eph (ofs : Nat) | mem (a : Nat) | msix (ofs : Nat) | pba (ofs : Nat) | unmapped
  deriving DecidableEq, Repr

/-- R9 for a device address. -/
def deviceTarget (a : Nat) : Target :=
  if 0x40000000 ≤ a ∧ a < 0x40100000 then .page a
  else if 0x48000000 ≤ a ∧ a < 0x48006000 then .eph (a - 0x48000000)
  else if inMemory a 1 then .mem a else .unmapped

/-- R506 for a BAR offset, R508 for an xSPI address. -/
def HostAddr.target : HostAddr → Target
  | .bar0 o =>
    let o := o.toNat
    if o < 0x100000 then .page (0x40000000 + o)
    else if o < 0x106000 then .eph (o - 0x100000)
    else if 0x200000 ≤ o ∧ o < 0x200400 then .msix (o - 0x200000)
    else if 0x201000 ≤ o ∧ o < 0x201008 then .pba (o - 0x201000)
    else if 0x800000 ≤ o then .mem (0x10000000 + (o - 0x800000))
    else .unmapped
  | .bar2 o => .mem (0x80000000 + o.toNat)
  | .xspi a => deviceTarget a.toNat

def HostAddr.isXspi : HostAddr → Bool
  | .xspi _ => true
  | _ => false

/-- A host access wakes the device (R428). -/
def Dev.touch (d : Dev) : Dev := if d.pwrMode = 0 ∧ d.pwr.enter = none then d else d.wake 0

/-- The selected interface is clocked and out of reset (R431, R433, R504). -/
def Dev.ifRuns (d : Dev) : Bool :=
  let g := if d.hostXspi then 12 else 11
  d.groupOn g && !d.inReset g

/-- An access through the selected interface. -/
def Soc.access (f : Soc → Soc) (s : Soc) : Soc :=
  let s := s.map Dev.touch
  if s.dev.ifRuns then f s else s

/-- An access through the interface that the address belongs to; the unselected one is held in reset (R504). -/
def Soc.accessAt (at_ : HostAddr) (f : Soc → Soc) (s : Soc) : Soc :=
  if at_.isXspi = s.dev.hostXspi then s.access f else s

/-- A write reaches the register at `a` unless the boot is halted (R456), its block is in reset behind a crossing
(R434), or its clock group is gated (R432). -/
def Soc.atReg (a : Nat) (f : Soc → Soc) (s : Soc) : Soc :=
  s.access (fun s =>
    match pageOf a with
    | none => s
    | some (k, inst, _) =>
      if s.dev.flag pgBOOT BOOT.ST_HALTED && !haltWrites k a then s
      else match s.dev.refusing k inst with
        | some x => s.map (fun d => d.refuseTransfer x)
        | none => if s.dev.gated k inst then s else f s)

/-- The same for an effect on the device alone. -/
def Soc.cmdReg (a : Nat) (f : Dev → Dev) (s : Soc) : Soc := s.atReg a (fun s => s.map f)

/-! ### Enables (R15, R556) -/

/-- Blocks that a declaration owns as a whole (R53, R90): without an owner they stay disabled (R47). A stage and a leg
have codes of their own for it (R175). -/
def ownedKind : PageKind → Bool
  | .pos | .rsv | .ssi | .emu | .sdi => true
  | _ => false

/-- A write of 1 to CTRL.EN of a disabled block, after the store: the block's enable check. -/
def Soc.enableBlock (s : Soc) (k : PageKind) (inst pg : Nat) : Soc :=
  if ownedKind k && s.dev.get pg COM.OWNER_KIND == 0 then s
  else match k with
  | .pos => s.map (fun d => d.posEnable (Fin.ofNat 8 inst))
  | .rsv => s.map (fun d => d.rsvEnable (Fin.ofNat 4 inst))
  | .ssi => s.map (fun d => d.ssiEnable (Fin.ofNat 4 inst))
  | .emu => s.map (fun d => d.emuEnable (Fin.ofNat 4 inst))
  | .stg => s.map (fun d => d.stgEnable (Fin.ofNat 16 inst))
  | .leg => s.map (fun d => d.legEnable (Fin.ofNat 64 inst))
  | .adcg => s.map (fun d => d.adcEnable (Fin.ofNat 4 inst))
  | .sdi => s.map (fun d => d.sdiEnable (Fin.ofNat 24 inst))
  | .vlk => s.map (fun d => d.vlkEnable (Fin.ofNat 2 inst))
  | .nrg => s.nrgEnable
  | .thm => s.thmEnable
  | .can => s.map (fun d => (d.put pg COM.ST_ENABLED 1).put pg CAN.ST_STATE 0)
  | _ => s.map (fun d => d.put pg COM.ST_ENABLED 1)

/-- A write of 0 to CTRL.EN. -/
def Dev.disableBlock (d : Dev) (k : PageKind) (inst pg : Nat) : Dev :=
  match k with
  | .stg => d.stgDisable (Fin.ofNat 16 inst)
  | .leg => d.legDisable (Fin.ofNat 64 inst)
  | .adcg => d.adcDisable (Fin.ofNat 4 inst)
  | .sdi => d.sdiDisable (Fin.ofNat 24 inst)
  | .vlk => d.vlkDisable (Fin.ofNat 2 inst)
  | .nrg => d.nrgDisable
  | .thm => d.thmDisable
  | _ => d.put pg COM.ST_ENABLED 0

/-- A write of CTRL: EN and HALT_FREEZE. CTRL of GNM ignores writes (R404). A page that reports an outstanding mismatch
refuses the enable (R371). -/
def Soc.ctrlWrite (s : Soc) (k : PageKind) (inst pg : Nat) (en freeze : Bool) : Soc :=
  if k = .gnm then s
  else
    let on := s.dev.flag pg COM.ST_ENABLED
    let s := s.map (fun d => (d.putB pg COM.CTRL_EN en).putB pg COM.CTRL_HALT_FREEZE freeze)
    if en then
      if on && k != .thm then s
      else if s.dev.dupOutstanding k pg then s.map (fun d => d.err pg Err.RX_DUP_ENABLE)
      else s.enableBlock k inst pg
    else if on then s.map (fun d => d.disableBlock k inst pg) else s

/-- A write of SCTRL (R149): EN and FORCE_FB of a stage. -/
def Dev.sctrlWrite (d : Dev) (k : Fin 16) (en force : Bool) : Dev :=
  let on := (d.est[k]).on
  let d := (d.putAt pgEPH EPH.SCTRL_EN k (b2n en)).putAt pgEPH EPH.SCTRL_FORCE_FB k (b2n force)
  if en then (if on then d else d.estEnable k) else d.estDisable k

/-! ### Writes to ordinary registers and to images -/

/-- The image word of a primary offset. -/
def imageWord (k : PageKind) (off : Nat) : Option Nat := ((dupWords k).find? (fun w => w.1 == off)).map (fun w => w.2)

/-- Write a word that may have a duplicate copy (R371, R373). -/
def Dev.dupGuarded (d : Dev) (k : PageKind) (pg off : Nat) (w : Word) (f : Dev → Dev) : Dev :=
  if d.latentGuard k pg off w then d.err pg Err.RX_LATENT
  else
    let w := f d
    match imageWord k off with
    | some img => (w.dupWritten k pg img).latentCleared d k pg img
    | none => w

/-- A write to a word of the duplicate-copy image (R557). -/
def Dev.imageWrite (d : Dev) (k : PageKind) (inst pg off prim : Nat) (w : Word) : Dev :=
  match regAt k inst prim with
  | none => d
  | some (r, _) =>
    if r.mask .rwa != 0 then d.err pg Err.ALMANAC_ONLY
    else if r.mask .rwl != 0 && d.locked pg then d.err pg Err.WRITE_LOCKED
    else if d.latentGuard k pg off w then d.err pg Err.RX_LATENT
    else ((d.setReg (pg + off) (BitVec.ofNat 32 (w.toNat &&& r.bits))).dupWritten k pg off).latentCleared d k pg off

/-- A write by the access types of the register's fields; an offset that no register occupies ignores it (R13). -/
def Dev.plainWrite (d : Dev) (k : PageKind) (inst pg off : Nat) (w : Word) : Dev :=
  match regAt k inst off with
  | some (r, _) =>
    let locked := r.mask .rwl != 0 && d.locked pg
    if locked then d.fieldWrite k inst off (pg + off) r w 0
    else d.dupGuarded k pg off w (fun d => d.fieldWrite k inst off (pg + off) r w 0)
  | none =>
    match imageOf off (dupRuns k) with
    | some prim => d.imageWrite k inst pg off prim w
    | none => d

/-- A locked register refuses, otherwise `f` writes it. -/
def Dev.lockable (d : Dev) (pg : Nat) (f : Dev → Dev) : Dev := if d.locked pg then d.err pg Err.WRITE_LOCKED else f d

/-! ### Configuration registers that refuse writes while their block is live -/

/-- R330, R348: the service is enabled or a set is admitted. -/
def Dev.serviceLive (d : Dev) (pg : Nat) : Bool := d.flag pg COM.ST_ENABLED || d.setAdmitted

/-- The code that refuses a write to a primary offset now. -/
def Dev.liveRefusal (d : Dev) (k : PageKind) (inst pg off : Nat) : Option Nat :=
  let on := d.flag pg COM.ST_ENABLED
  let within := fun (lo hi : Nat) => decide (lo ≤ off ∧ off ≤ hi)
  let when_ := fun (b : Bool) (c : Nat) => if b then some c else none
  match k with
  | .pos => when_ (on && within 0x40 0x54) Err.CFG_LIVE
  | .rsv => when_ (on && within 0x40 0x58 && off != RSV.PINS.off) Err.CFG_LIVE
  | .ssi => when_ (on && within 0x40 0x54) Err.CFG_LIVE
  | .emu => when_ (on && within 0x40 0x44) Err.CFG_LIVE
  | .eph =>
    let j := (off - 0x100) / 64
    when_ (within 0x100 0x4FF && decide ((off - 0x100) % 64 ≤ 0x14) && (d.est[fin16 j]).on) Err.EPH_CFG_LIVE
  | .stg => when_ (on && (off == 0x40 || off == 0x44 || off == 0x60 || off == 0x200 || within 0x208 0x214)) Err.STG_CFG_LIVE
  | .leg => when_ (on && within 0x40 0x48) Err.LEG_CFG_LIVE
  | .adcg => when_ (on && off == 0x40) Err.ADC_CFG_LIVE
  | .sdi => when_ (on && within 0x40 0x4C) Err.SDI_CFG_LIVE
  | .fld =>
    let j := (off - 0x100) / 128
    let o := (off - 0x100) % 128
    when_ (within 0x100 0x8FF && decide (0x04 ≤ o ∧ o ≤ 0x4C) && o != 0x28 && d.flagAt pgFLD FLD.DSTAT_ENABLED j) Err.FLD_CFG_LIVE
  | .nrg => when_ (within 0x40 0xBF && d.serviceLive pg) Err.NRG_CFG_LIVE
  | .thm =>
    when_ ((off == 0x40 || (within 0x200 0x5FF && decide ((off - 0x200) % 64 ≤ 0x30))) && d.serviceLive pg) Err.THM_CFG_LIVE
  | .vlk => when_ (inst == 0 && on && within 0x100 0x10C) Err.VLK_CFG_LIVE
  | .cap => when_ (d.capBusy && (within 0x40 0x54 || within 0x80 0xBC)) Err.CAP_BUSY
  | _ => none

/-! ### Registers whose write is an action -/

/-- Element `i` of an array of registers at `off`, with a stride. -/
def elem (off base stride n : Nat) : Option Nat :=
  if base ≤ off ∧ (off - base) % stride = 0 ∧ (off - base) / stride < n then some ((off - base) / stride) else none

/-- GO of a command word. -/
def goBit (w : Word) : Bool := w.getLsbD 31

/-- The fields of SREQ are written, but for a GO that is ignored (R402). -/
def Dev.sreqPut (d : Dev) (cmd ctx : Nat) (go : Bool) : Dev :=
  if go && d.flag pgSNET SNET.SREQ_STAT_BUSY then d else (d.put pgSNET SNET.SREQ_CMD cmd).put pgSNET SNET.SREQ_CTX ctx

/-- A write of SREQ (R402, R405). -/
def Soc.sreqWrite (s : Soc) (cmd ctx : Nat) (go : Bool) : Soc :=
  s.map (fun d => if go then (d.sreqPut cmd ctx go).sreq cmd ctx else d.sreqPut cmd ctx go)

/-- A write of SEC CMD (R466, R470, R477). -/
def Dev.secWrite (d : Dev) (cmd : Nat) (go : Bool) : Dev :=
  if !go then d.put pgSEC SEC.CMD_CMD cmd
  else match cmd with
    | 1 => d.verifyCfg | 2 => d.releaseCfg | 3 => d.attest | 4 => d.getKeys | 5 => d.svnCommit | _ => d.secReserved cmd

/-- A write of PWR MODE_REQ (R428). -/
def Dev.modeReqWrite (d : Dev) (mode : Nat) (go : Bool) : Dev :=
  if !go then d.put pgPWR PWR.MODE_REQ_MODE mode
  else match mode with | 1 => d.sleepRequest | 2 => d.deepSleepRequest | _ => d.modeReqOther mode

/-- A write of ARRAY_CMD (R482, R495, R497). -/
def Dev.arrayWrite (d : Dev) (w : Word) : Dev :=
  let st := BitVec.ofNat 4 (wordField w 4 4)
  let cmd := wordField w 0 2
  let d := ((d.put vlk0 VLK.ARRAY_CMD_CMD cmd).put vlk0 VLK.ARRAY_CMD_STAGE st.toNat).putB vlk0 VLK.ARRAY_CMD_BTYPE (w.getLsbD 8)
  if !goBit w then d
  else match cmd with
    | 1 => d.prepare (w.getLsbD 8) st
    | 2 => d.arrayAbort
    | 3 => d.enum
    | _ => d

/-- A write of CAP CMD (R527): ARM, then TRIG_SW; a STOP in the same write prevails. -/
def Dev.capWrite (d : Dev) (w : Word) : Dev :=
  let d := if w.getLsbD 0 then d.capArm else d
  let d := if w.getLsbD 2 then d.trigSw else d
  if w.getLsbD 1 then d.capStop else d

/-- A write of a PULL register (R216): a pin with the reserved code takes 0. -/
def Dev.pullWrite (d : Dev) (pg i : Nat) (w : Word) : Dev :=
  let bad := (List.range 8).filter (fun j => wordField w (4 * j) 3 == 4)
  let v := bad.foldl (fun v j => v - wordField w (4 * j) 3 * 2 ^ (4 * j)) (w.toNat &&& 0x77777777)
  let d := d.putAt pg ADCG.PULL i v
  if bad.isEmpty then d else d.err pg Err.ADC_PULL

/-- A write to a register whose write is an action of its own; none for an ordinary register. -/
def Soc.action (s : Soc) (k : PageKind) (inst pg off : Nat) (w : Word) : Option Soc :=
  let dev := fun (f : Dev → Dev) => some (s.map f)
  let iff := fun (b : Bool) (f : Dev → Dev) => some (if b then s.map f else s)
  let bit := fun (i : Nat) => w.getLsbD i
  match k with
  | .clk =>
    if off = CLK.REF_CFG.off then
      dev (fun d =>
        let d := d.putB pgCLK CLK.REF_CFG_XO_DEEP_OFF (bit 29)
        if bit 28 then d.returnWrite else d)
    else if off = CLK.DLL_CAL.off then iff (goBit w) Dev.dllCalGo
    else if off = CLK.SS_CFG.off then dev (Dev.ssCfgWrite w)
    else none
  | .pwr =>
    if off = PWR.OP_REQ.off then
      let op := BitVec.ofNat 2 (wordField w 0 2)
      dev (fun d => if goBit w then d.opReq op else d.put pgPWR PWR.OP_REQ_OP op.toNat)
    else if off = PWR.MODE_REQ.off then dev (fun d => d.modeReqWrite (wordField w 0 2) (goBit w))
    else if off = PWR.CLKEN_RUN.off then dev (Dev.clkenWrite 0 w)
    else if off = PWR.CLKEN_SLEEP.off then dev (Dev.clkenWrite 1 w)
    else if off = PWR.CLKEN_DEEP.off then dev (Dev.clkenWrite 2 w)
    else if off = PWR.BLK_RST.off then dev (Dev.blkRst w (Vector.replicate 8 0))
    else if off = PWR.SOFT_RST.off then dev (Dev.softRst (BitVec.ofNat 16 (wordField w 16 16)))
    else none
  | .boot => if off = BOOT.RETRY.off then dev (Dev.retryWrite (BitVec.ofNat 9 (wordField w 0 9))) else none
  | .lcs => if off = 0x44 then some (if goBit w then s.tokenGo else s) else none
  | .sec => if off = SEC.CMD.off then dev (fun d => d.secWrite (wordField w 0 3) (goBit w)) else none
  | .alm =>
    if off = 0x48 then
      match wordField w 0 3 with
      | 0 => dev Dev.admNone
      | 1 => dev Dev.admCheck
      | 2 => dev Dev.admAdmit
      | 3 => dev Dev.admRelease
      | c => dev (Dev.admReserved c)
    else none
  | .eph =>
    match elem off 0x118 64 16, elem off 0x11C 64 16, elem off 0x514 32 16 with
    | some j, _, _ => dev (fun d => d.sctrlWrite (fin16 j) (bit 0) (bit 1))
    | _, some j, _ =>
      if !goBit w then some s
      else if wordField w 0 16 = 0xFFFF then dev (Dev.ephValidate (fin16 j) (BitVec.ofNat 11 (wordField w 16 11)))
      else dev (Dev.ephLoad s.mem (fin16 j) (BitVec.ofNat 16 (wordField w 0 16)))
    | _, _, some j => iff (bit 0) (Dev.ephCntClr (fin16 j))
    | _, _, _ => none
  | .trip =>
    match elem off 0x100 4 168, elem off 0xC0 4 6 with
    | some j, _ => dev (fun d => d.lockable pg (fun d => d.srcCfgWrite j w))
    | _, some j => dev (Dev.flagClear (Fin.ofNat 6 j) w)
    | _, _ =>
      if off = 0x98 then dev (Dev.tripReq (BitVec.ofNat 2 (wordField w 16 2)) (BitVec.ofNat 16 (wordField w 0 16)))
      else if off = 0xEC then dev (Dev.intlkClr (fin64 (wordField w 0 6)))
      else if 0x40 ≤ off ∧ off < 0x90 then dev (fun d => (d.plainWrite k inst pg off w).tripCfgChanged)
      else none
  | .ctx =>
    match elem off 0x104 32 64 with
    | some x => if x = 0 then some s else dev (fun d => d.cctlWrite x w)
    | none => if off = 0x58 then dev (Dev.ctxCntClr (bit 31) (BitVec.ofNat 6 (wordField w 0 6))) else none
  | .fld =>
    match elem off 0x100 128 16, elem off 0x128 128 16, elem off 0x150 128 16, elem off 0x17C 128 16 with
    | some j, _, _, _ => dev (Dev.dcfgWrite (fin16 j) w)
    | _, some j, _, _ => dev (Dev.tMagWrite (fin16 j) (BitVec.ofNat 16 (wordField w 0 16)))
    | _, _, some j, _ =>
      match wordField w 0 2 with
      | 1 => some (s.fldStart (fin16 j))
      | 2 => dev (Dev.fldStop (fin16 j))
      | _ => some s
    | _, _, _, some j => dev (fun d =>
        let d := if bit 1 then d.newMachine (fin16 j) else d
        if bit 0 then d.clrDemag (fin16 j) else d)
    | _, _, _, _ => none
  | .nrg =>
    if off = 0xC0 then dev (fun d =>
      let d := if bit 0 then d.disReq else d
      if bit 1 then d.disAbort else d)
    else if off = 0xC4 then some (if bit 0 then s.escClr else s)
    else none
  | .thm =>
    if off = 0x44 then dev (fun d => d.lockable pg (fun d => d.dupGuarded k pg off w (fun d => d.dieThrWrite w)))
    else match elem off 0x230 64 16 with
      | some j => dev (fun d => d.dupGuarded k pg off w (fun d => d.mthrWrite j w))
      | none => none
  | .snet =>
    if off = 0x40 then some (s.sreqWrite (wordField w 24 4) (wordField w 0 6) (goBit w))
    else if off = 0x9C then iff (bit 0) Dev.snetCntClr
    else none
  | .bist =>
    if off = 0x40 then dev (fun d =>
      let t := BitVec.ofNat 4 (wordField w 0 4)
      let p := BitVec.ofNat 2 (wordField w 4 2)
      if goBit w then d.runReq t p false else (d.put pgBIST BIST.RUN_REQ_TARGET t.toNat).put pgBIST BIST.RUN_REQ_PROG p.toNat)
    else none
  | .cap => if off = 0x58 then dev (fun d => d.capWrite w) else none
  | .stg =>
    if off = 0x78 then iff (bit 0) (Dev.stgCntClr (fin16 inst))
    else if off = 0x240 then iff (bit 0) (Dev.cmCntClr (fin16 inst))
    else none
  | .leg => if off = 0x6C then iff (bit 0) (Dev.legCntClr (fin64 inst)) else none
  | .cmpb =>
    match elem off 0x40 4 16 with
    | some j => dev (fun d => d.lockable pg (fun d => d.dupGuarded k pg off w (fun d => d.thrWrite inst j w)))
    | none =>
      if off = 0x80 then dev (fun d => d.lockable pg (fun d => d.dupGuarded k pg off w (fun d => d.testCfgWrite inst w)))
      else none
  | .adcg =>
    match elem off 0x44 4 2, elem off 0x50 4 16 with
    | some j, _ => dev (fun d => d.pullWrite pg j w)
    | _, some j => dev (Dev.slotWrite (fin4 inst) (fin16 j) w)
    | _, _ =>
      if off = 0xD4 then dev (Dev.calGo (fin4 inst) (BitVec.ofNat 3 (wordField w 0 3)))
      else if off = 0xE4 then iff (bit 0) (Dev.adcCntClr (fin4 inst))
      else none
  | .clu =>
    if off = 0x80 then
      let m := BitVec.ofNat 2 (wordField w 0 2)
      let wh := BitVec.ofNat 2 (wordField w 4 2)
      let st := BitVec.ofNat 4 (wordField w 8 4)
      if goBit w then some (s.modeReq (fin4 inst) m wh st)
      else dev (fun d => ((d.put pg CLU.MODE_REQ_MODE m.toNat).put pg CLU.MODE_REQ_WHEN wh.toNat).put pg CLU.MODE_REQ_STAGE st.toNat)
    else if off = 0x94 then iff (bit 0) (Dev.mmClr (fin4 inst))
    else if off = 0x70 then iff (bit 0) (Dev.cluCntClr (fin4 inst))
    else none
  | .vlk =>
    if off = 0x50 then iff (bit 0) (Dev.vlkCntClr (Fin.ofNat 2 inst))
    else if inst ≠ 0 then none
    else if off = 0x120 then dev (fun d => d.arrayWrite w)
    else if off = 0x144 then iff (bit 0) Dev.holdClr
    else if off = 0x148 then
      let c := BitVec.ofNat 6 (wordField w 5 6)
      let t := BitVec.ofNat 5 (wordField w 0 5)
      dev (fun d => if goBit w then d.place c t else (d.put pg VLK.PLACE_CTX c.toNat).put pg VLK.PLACE_TARGET t.toNat)
    else none
  | .xspi =>
    if off = 0x40 then
      dev (fun d => if goBit w then d.flCommand (wordField w 0 2) else d.put pgXSPI XSPI.FL_CMD_CMD (wordField w 0 2))
    else none
  | .dbg => match elem off 0x100 4 32 with | some r => dev (fun d => d.promoWrite r w) | none => none
  | .sdi => if off = 0x60 then iff (bit 0) (Dev.sdiErrClr (fin24 inst)) else none
  | .emu => if off = 0x40 then dev (fun d => (d.plainWrite k inst pg off w).emuHoldZ (fin4 inst)) else none
  | .pos =>
    let n := Fin.ofNat 8 inst
    if off = 0x60 then dev (Dev.setCount n w)
    else if off = 0x70 then iff (bit 31) (Dev.illCntClr n)
    else if off = 0x7C then iff (bit 31) (Dev.idxStatClr n)
    else if off = 0x80 then dev (Dev.prbCfgWrite n w)
    else if off = 0x9C then dev (Dev.prbRearm n w)
    else if off = 0xA0 then iff (bit 0) (Dev.snapTake n)
    else none
  | .pcie =>
    match elem off 0x40 4 2, elem off 0x100 4 64 with
    | some j, _ => dev (Dev.vlatchClear (Fin.ofNat 2 j) w)
    | _, some j => dev (Dev.vecmapWrite (fin64 j) w)
    | _, _ => none
  | .eth => if off = ETH.TX_TAIL.off then dev (Dev.txTail (Fin.ofNat 2 inst) (BitVec.ofNat 12 (wordField w 0 12))) else none
  | .can =>
    if off = 0x54 then iff (bit 0) (Dev.rxPop (fin4 inst))
    else if off = 0x58 then dev (Dev.canTxReq (fin4 inst) (BitVec.ofNat 8 (wordField w 0 8)))
    else none
  | _ => none

/-- An aligned 32-bit host write to an offset of a page that answers (R11 to R25). When a write is refused both because
its block is live and because its page is locked, the code of the live refusal is stored: the spec gives no order
(DESIGN CHOICE, log entry 88). -/
def Soc.pageWrite (s : Soc) (k : PageKind) (inst pg off : Nat) (w : Word) : Soc :=
  if off = 0x008 then s.ctrlWrite k inst pg (w.getLsbD 0) (w.getLsbD 1)
  else if off = 0x014 then s.map (fun d => d.irqEnWrite k pg w)
  else if off = 0x018 then s.map (fun d => d.irqFlagClear k pg w 0)
  else if off = 0x01C then s.map (fun d => d.irqForce k pg w)
  else if off = 0x020 then (if goBit w then s.map (fun d => d.errClr pg none) else s)
  else if off = 0x028 then (if w.getLsbD 0 then s.map (fun d => d.lockSet k pg) else s)
  else if off = 0x02C then s.map (fun d => d.commitReq k pg inst (w.getLsbD 0) (wordField w 4 2) 0)
  else match s.dev.liveRefusal k inst pg off with
    | some c => s.map (fun d => d.err pg c)
    | none => match s.action k inst pg off w with
      | some s' => s'
      | none => s.map (fun d => d.plainWrite k inst pg off w)

/-- A host write to a register page: `whole` says that it is an aligned 32-bit write (R13). -/
def Soc.regWrite (a : Nat) (whole : Bool) (w : Word) (s : Soc) : Soc :=
  s.atReg a (fun s =>
    match pageOf a with
    | none => s
    | some (k, inst, off) =>
      if whole then s.pageWrite k inst (a - off) off w else s.map (fun d => d.err (a - off) Err.ACCESS_WIDTH))

/-! ### One access -/

/-- An access stores HOST_UNMAPPED in the page of the interface that carried it (R9, R506). -/
def Dev.unmapped (d : Dev) : Dev := d.err d.ifPage Err.HOST_UNMAPPED

/-- A write of the enabled bytes of one word. -/
def Soc.writeTo (t : Target) (be : BitVec 4) (w : Word) (s : Soc) : Soc :=
  let whole := fun (a : Nat) => be == 15 && a % 4 == 0
  match t with
  | .page a => s.regWrite a (whole a) w
  | .eph o =>
    s.cmdReg pgEPH (fun d => d.ephWindowWrite (Fin.ofNat 6144 (o / 4)) (whole o) w)
  | .mem a => s.memWord (a / 4 * 4) be w
  | .msix o => if whole o then s.map (fun d => d.msixWrite (o / 4) w) else s
  | .pba _ => s
  | .unmapped => s.map Dev.unmapped

/-- The Ephemeris window answers with its page (R9, R432). -/
def Dev.ephRead (d : Dev) (o : Nat) : Word :=
  if (d.flag pgBOOT BOOT.ST_HALTED) || d.gated .eph 0 then 0 else mapGet ephDefault d.eph (o / 4)

/-- A read of the aligned word that holds the addressed byte. -/
def Soc.readFrom (t : Target) (s : Soc) : Word × Soc :=
  match t with
  | .page a =>
    let r := s.dev.busRead (a / 4 * 4)
    (r.1, { s with dev := r.2 })
  | .eph o => (s.dev.ephRead o, s)
  | .mem a => s.memHostWord (a / 4 * 4)
  | .msix o => (mapGet msixDefault s.dev.msix (o / 4), s)
  | .pba o => (BitVec.ofNat 32 (s.dev.pba / 2 ^ (32 * (o / 4))), s)
  | .unmapped => (0, s.map Dev.unmapped)

/-- The model's record of an answer (log entry 7). -/
def Soc.answer (s : Soc) (l : List Word) : Soc := s.map (fun d => { d with reply := l })

def Soc.clearAnswer (s : Soc) : Soc := s.map (fun d => { d with reply := [], poison := false })

/-- A read of one word. -/
def Soc.readOne (at_ : HostAddr) (s : Soc) : Soc :=
  s.clearAnswer.accessAt at_ (fun s =>
    let r := s.readFrom at_.target
    r.2.answer [r.1])

/-- A write of one word. -/
def Soc.writeOne (at_ : HostAddr) (be : BitVec 4) (w : Word) (s : Soc) : Soc :=
  s.accessAt at_ (fun s => s.writeTo at_.target be w)

/-! ### xSPI transfers (R508, R509) -/

/-- `n` words from rising addresses. -/
def Soc.readWords : Nat → Nat → Soc → List Word × Soc
  | 0, _, s => ([], s)
  | n + 1, a, s =>
    let r := s.readFrom (deviceTarget a)
    let t := r.2.readWords n (a + 4)
    (r.1 :: t.1, t.2)

def Soc.writeWords : List Word → Nat → Soc → Soc
  | [], _, s => s
  | w :: l, a, s => (s.writeTo (deviceTarget a) 15 w).writeWords l (a + 4)

/-- The transfer's length is not a multiple of 4. -/
def Soc.xspiLength (s : Soc) (n : Nat) : Soc := if n % 4 = 0 then s else s.map (fun d => d.xspiProtocol [])

/-- A read of `n` bytes: READ of DRAM answers zeros and is a protocol error; READ_SLOW reads every region. -/
def Soc.xspiRead (slow : Bool) (a : Word) (n : Nat) (s : Soc) : Soc :=
  s.clearAnswer.accessAt (.xspi a) (fun s =>
    let s := s.xspiLength n
    if !slow && inDram a.toNat 1 then
      (s.map (fun d => d.xspiProtocol [])).answer (List.replicate (n / 4) 0)
    else
      let r := s.readWords (n / 4) a.toNat
      r.2.answer r.1)

/-- A write of bytes: whole words, the trailing part of a word is dropped. -/
def Soc.xspiWrite (a : Word) (b : List Byte) (s : Soc) : Soc :=
  s.accessAt (.xspi a) (fun s =>
    let s := s.xspiLength b.length
    s.writeWords ((List.range (b.length / 4)).map (fun i => BitVec.ofNat 32 (listNat b (4 * i) 4))) a.toNat)

/-- A reserved opcode: the transfer is ignored. -/
def Soc.xspiReserved (op : BitVec 16) (s : Soc) : Soc :=
  s.accessAt (.xspi 0) (fun s => s.map (fun d => d.xspiProtocol (natBytes 2 op.toNat)))

end Sys2Proof.Machine
end

