-- ==== Sys2Proof/Machine/State.lean ====
section
/-! DEFINITION. The state of the machine: the device with its memories, and the commands that wait. -/

namespace Sys2Proof.Machine

/-- The block and its queue of commands, first in, first out. -/
structure State where
  pending : List Instr
  soc : Soc
  deriving DecidableEq, Repr

/-- Reasons for a fault. None: the spec stops the device for no command; what it reports, it reports in its registers. -/
inductive Fault where
  deriving DecidableEq, Repr

/-- Reasons for a refusal. -/
inductive Refusal where
  /-- A row without a meaning, by its mnemonic: no arm of `exec` raises it, since every row has its meaning (safe). -/
  | notModelled (mnemonic : String)
  deriving DecidableEq, Repr

/-- The machine right after the power-on reset (R433): no memory or flash byte listed, no command waiting, every register
at its reset value, and RST_CAUSE showing the power-on. -/
def State.reset : State := { pending := [], soc := { mem := [], flash := [], ue := [], dev := Dev.powered } }

end Sys2Proof.Machine
end

