-- ==== Sys2Proof/Machine/Rows.lean ====
section
/-! DEFINITION. What every row of the opcode table shares: an event comes after its time has passed, a command goes to the
register it names, and a change of the trips, of the STO channels or of Gnomon's requests is followed up at once. -/

namespace Sys2Proof.Machine

/-- The device when an event arrives `dt` TCLK after the command before it (log entry 8). -/
def Soc.after (dt : Nat) (s : Soc) : Soc :=
  s.map (fun d => (if dt = 0 then d else (d.copied s.mem).enterMode).advance dt)

/-- An effect on the device alone. -/
def Soc.on (f : Dev → Dev) (s : Soc) : Soc := s.map f

/-- A row of the environment. -/
def State.event (s : State) (dt : Nat) (f : Soc → Soc) : Host.Outcome State Fault Refusal :=
  .next { s with soc := f (s.soc.after dt) }

/-- A row of the host. -/
def State.host (s : State) (f : Soc → Soc) : Host.Outcome State Fault Refusal := .next { s with soc := f s.soc }

/-- A block that a debug halt has frozen takes none of its own events (R15, R16). -/
def Soc.unfrozen (pg : Nat) (f : Soc → Soc) (s : Soc) : Soc := if s.dev.flag pg COM.ST_FROZEN then s else f s

/-! ### What a change brings at once -/

/-- What aborts a start of a drive (R308): trips, the STO condition, and which stages run. -/
def Dev.startSigns (d : Dev) : TripH × Bool × List Bool :=
  (d.trip, d.stoCondition, (List.range 16).map (fun k => d.running k))

/-- What wakes the device (R428): the STO channels and Gnomon's requests. -/
def Dev.wakeSigns (d : Dev) : Bool × Bool × List GnReq := (d.flag pgGNM GNM.ST_CH_A, d.flag pgGNM GNM.ST_CH_B, d.gnm.reqs)

/-- After a row, what its change brings. -/
def Dev.follow (before d : Dev) : Dev :=
  let d := if before.startSigns = d.startSigns then d else d.fldWatch
  if before.wakeSigns = d.wakeSigns then d else d.wake 3

/-- A row that can change them. -/
def Soc.watch (f : Soc → Soc) (s : Soc) : Soc := (f s).map (fun d => s.dev.follow d)

/-! ### Rows that name a page or an enable -/

/-- The address of the page with an index (R510). -/
def pageAt (p : BitVec 8) : Nat := 0x40000000 + 0x1000 * p.toNat

/-- A command at a common register of a page (R510): a page that the table does not list ignores it. -/
def Soc.onPage (p : BitVec 8) (off : Nat) (f : PageKind → Nat → Nat → Dev → Dev) : Soc → Soc :=
  Soc.atReg (pageAt p + off) (fun s =>
    match pageOf (pageAt p) with
    | none => s
    | some (k, inst, _) => s.map (f k inst (pageAt p)))

/-- A write of an enable field (R556): the other fields of its register keep their values. -/
def Soc.enWrite (en : Bool) : EnField → Soc → Soc
  | .ctrl p => Soc.atReg (pageAt p + 0x008) (fun s =>
      match pageOf (pageAt p) with
      | none => s
      | some (k, inst, _) => s.ctrlWrite k inst (pageAt p) en (s.dev.flag (pageAt p) COM.CTRL_HALT_FREEZE))
  | .sctrl k => Soc.cmdReg (pgEPH + 0x118 + 64 * k.toNat) (fun d =>
      d.sctrlWrite (fin16 k.toNat) en (d.flagAt pgEPH EPH.SCTRL_FORCE_FB k.toNat))
  | .dcfg k => Soc.cmdReg (pgFLD + 0x100 + 128 * k.toNat) (fun d =>
      d.dcfgWrite (fin16 k.toNat)
        (wordPut (d.reg (pgFLD + 0x100 + 128 * k.toNat)) FLD.DCFG_EN.lo FLD.DCFG_EN.width (b2n en)))

/-- The word of an ARRAY_CMD write with GO = 1 (R503). -/
def arrayWord (cmd : Nat) (stage : BitVec 4) (angle : Bool) : Word :=
  BitVec.ofNat 32 (2 ^ 31 + cmd + 16 * stage.toNat + 256 * b2n angle)

/-! ### Rows with a little of their own -/

/-- LOAD_DONE (R135); a library whose slice waits goes over when no load of it runs (R516). -/
def Soc.chartLoaded (k : Fin 16) (s : Soc) : Soc :=
  s.map (fun d => (List.range 32).foldl (fun (d : Dev) r => d.promoLibrary r) (d.loadDone s.mem s.bad k))

/-- GNOMON_RESET (R379, R434, R453): VDD_GN has come up, or has fallen: then Gnomon is the partner that resets, and the
retention file has lost its supply. -/
def Dev.gnomonPower (running : Bool) (inFlight : Half) (d : Dev) : Dev :=
  let d := d.gnomonReset running
  if running then d else (d.partnerReset 0 inFlight.toNat).modBoot (fun b => { b with retOk := false })

/-- The address of a time register (R418, R533). -/
def TimeReg.address : TimeReg → Nat
  | .counter => pgCLK + CLK.TIME_LO.off
  | .gptp p => pgETH p + ETH.GPTP_NS_LO.off

/-- A read of the register at an address through the selected interface. -/
def Soc.readReg (a : Nat) (s : Soc) : Soc :=
  s.clearAnswer.access (fun s =>
    let r := s.readFrom (.page a)
    r.2.answer [r.1])

end Sys2Proof.Machine
end

