-- ==== Sys2Proof/Machine/AlmanacRows.lean ====
section
/-! DEFINITION. Meanings of the rows of the Almanac and self-test slices (R51 to R89, R355 to R357, R444, R445). -/

namespace Sys2Proof.Machine

/-- CHECK (R80). -/
def execCheck (s : State) : Host.Outcome State Fault Refusal := s.host (Soc.cmdReg (pgALM + 0x48) Dev.admCheck)

/-- ADMIT (R80). -/
def execAdmitSet (s : State) : Host.Outcome State Fault Refusal := s.host (Soc.cmdReg (pgALM + 0x48) Dev.admAdmit)

/-- RELEASE (R81). -/
def execRelease (s : State) : Host.Outcome State Fault Refusal := s.host (Soc.cmdReg (pgALM + 0x48) Dev.admRelease)

/-- ADM_CMD_RESERVED (R89). -/
def execAdmCmdReserved (code : BitVec 3) (s : State) : Host.Outcome State Fault Refusal :=
  s.host (Soc.cmdReg (pgALM + 0x48) (fun d => if code.toNat < 4 then d else d.admReserved code.toNat))

/-- ADMISSION_COMPLETE (R54). -/
def execAdmissionComplete (dt : Nat) (s : State) : Host.Outcome State Fault Refusal :=
  s.event dt (Soc.watch (Soc.admissionComplete disCheck))

/-- SLICE_TIME_0 (R355). -/
def execSliceTime0 (dt : Nat) (c : Fin 4) (recovery : Bool) (s : State) : Host.Outcome State Fault Refusal :=
  s.event dt (Soc.on (Dev.sliceTime0 c recovery))

/-- SLICE_SKIP (R357). -/
def execSliceSkip (dt : Nat) (c : Fin 4) (s : State) : Host.Outcome State Fault Refusal :=
  s.event dt (Soc.on (Dev.sliceSkip c))

/-- SLICE_BIST_ENTRY (R444). -/
def execSliceBistEntry (dt : Nat) (c : Fin 4) (s : State) : Host.Outcome State Fault Refusal :=
  s.event dt (Soc.on (Dev.sliceBistEntry c))

/-- SLICE_END (R445). -/
def execSliceEnd (dt : Nat) (c : Fin 4) (sig : Word) (pass : Bool) (s : State) : Host.Outcome State Fault Refusal :=
  s.event dt (Soc.watch (Soc.on (Dev.sliceEnd c sig pass)))

/-- SLICE_HANDBACK (R76). -/
def execSliceHandback (dt : Nat) (c : Fin 4) (s : State) : Host.Outcome State Fault Refusal :=
  s.event dt (Soc.on (Dev.sliceHandback c))

/-- BACKGROUND_PROMOTION (R79). -/
def execBackgroundPromotion (dt : Nat) (id : BitVec 8) (s : State) : Host.Outcome State Fault Refusal :=
  s.event dt (Soc.on (Dev.backgroundPromotion id))

end Sys2Proof.Machine
end

