-- ==== Sys2Proof/Machine/BootRows.lean ====
section
/-! DEFINITION. Meanings of the rows of boot, self-test runs, images and the life cycle (R439 to R477). -/

namespace Sys2Proof.Machine

/-- BOOT_PASS (R452). -/
def execBootPass (dt : Nat) (o : BootObs) (s : State) : Host.Outcome State Fault Refusal := s.event dt (Soc.bootPass o)

/-- RUN_REQ (R447). -/
def execRunReq (t : BitVec 4) (prog : BitVec 2) (signed : Bool) (s : State) : Host.Outcome State Fault Refusal :=
  s.host (Soc.watch (Soc.cmdReg (pgBIST + 0x40) (Dev.runReq t prog signed)))

/-- RUN_DONE (R447). -/
def execRunDone (dt : Nat) (sig : Word) (pass : Bool) (s : State) : Host.Outcome State Fault Refusal :=
  s.event dt (Soc.watch (Soc.on (Dev.runDone sig pass)))

/-- RETRY (R454). -/
def execRetry (bits : BitVec 9) (s : State) : Host.Outcome State Fault Refusal :=
  s.host (Soc.cmdReg (pgBOOT + 0x50) (Dev.retryWrite bits))

/-- VERIFY_CFG (R466). -/
def execVerifyCfg (s : State) : Host.Outcome State Fault Refusal :=
  s.host (Soc.cmdReg (pgSEC + 0x40) (fun d => d.secWrite 1 true))

/-- RELEASE_CFG (R466). -/
def execReleaseCfg (s : State) : Host.Outcome State Fault Refusal :=
  s.host (Soc.cmdReg (pgSEC + 0x40) (fun d => d.secWrite 2 true))

/-- ATTEST (R470). -/
def execAttest (s : State) : Host.Outcome State Fault Refusal :=
  s.host (Soc.cmdReg (pgSEC + 0x40) (fun d => d.secWrite 3 true))

/-- GET_KEYS (R470). -/
def execGetKeys (s : State) : Host.Outcome State Fault Refusal :=
  s.host (Soc.cmdReg (pgSEC + 0x40) (fun d => d.secWrite 4 true))

/-- SVN_COMMIT (R465). -/
def execSvnCommit (s : State) : Host.Outcome State Fault Refusal :=
  s.host (Soc.cmdReg (pgSEC + 0x40) (fun d => d.secWrite 5 true))

/-- SEC_CMD_RESERVED (R477). -/
def execSecCmdReserved (cmd : BitVec 3) (s : State) : Host.Outcome State Fault Refusal :=
  s.host (Soc.cmdReg (pgSEC + 0x40) (fun d => d.secWrite cmd.toNat true))

/-- TOKEN_GO (R469). -/
def execTokenGo (s : State) : Host.Outcome State Fault Refusal := s.host (Soc.atReg (pgLCS + 0x44) Soc.tokenGo)

/-- TOKEN_DONE (R469). -/
def execTokenDone (dt : Nat) (s : State) : Host.Outcome State Fault Refusal := s.event dt (Soc.on Dev.tokenDone)

end Sys2Proof.Machine
end

