-- ==== Sys2Proof/Machine/ClockRows.lean ====
section
/-! DEFINITION. Meanings of the rows of clocks, power modes and resets (R406 to R438). -/

namespace Sys2Proof.Machine

/-- MONITOR_WINDOW (R409). -/
def execMonitorWindow (dt : Nat) (m : Fin 3) (count : BitVec 24) (late : Bool) (s : State) : Host.Outcome State Fault Refusal :=
  s.event dt (Soc.watch (Soc.on (Dev.monitorWindow m count late)))

/-- REF_READY (R408). -/
def execRefReady (dt : Nat) (s : State) : Host.Outcome State Fault Refusal :=
  s.event dt (Soc.watch (Soc.on Dev.refReadyReturn))

/-- HOLDOVER (R411). -/
def execHoldover (dt : Nat) (missing : Bool) (s : State) : Host.Outcome State Fault Refusal :=
  s.event dt (Soc.watch (Soc.on (Dev.holdoverSet missing)))

/-- HOLDOVER_EXPIRY (R412). -/
def execHoldoverExpiry (dt : Nat) (s : State) : Host.Outcome State Fault Refusal :=
  s.event dt (Soc.watch (Soc.on Dev.holdoverExpiry))

/-- XO_RESTART (R412). -/
def execXoRestart (dt : Nat) (s : State) : Host.Outcome State Fault Refusal :=
  s.event dt (Soc.watch (Soc.on Dev.xoRestart))

/-- PLL0_UNLOCK (R416). -/
def execPll0Unlock (dt : Nat) (s : State) : Host.Outcome State Fault Refusal :=
  s.event dt (Soc.watch (Soc.on Dev.pll0Unlock))

/-- HOLD_EXIT (R414). -/
def execHoldExit (dt : Nat) (s : State) : Host.Outcome State Fault Refusal :=
  s.event dt (Soc.watch (Soc.on Dev.holdExit))

/-- RETURN_WRITE (R413). -/
def execReturnWrite (s : State) : Host.Outcome State Fault Refusal := s.host (Soc.cmdReg (pgCLK + 0x40) Dev.returnWrite)

/-- DLL_UNLOCK (R422). -/
def execDllUnlock (dt : Nat) (s : State) : Host.Outcome State Fault Refusal := s.event dt (Soc.on Dev.dllUnlock)

/-- DLL_RELOCK (R422). -/
def execDllRelock (dt : Nat) (s : State) : Host.Outcome State Fault Refusal := s.event dt (Soc.on Dev.dllRelock)

/-- DLL_CAL_GO (R423). -/
def execDllCalGo (s : State) : Host.Outcome State Fault Refusal := s.host (Soc.cmdReg (pgCLK + 0x64) Dev.dllCalGo)

/-- TAPCAL_DONE (R423). -/
def execTapcalDone (dt : Nat) (worst : BitVec 16) (s : State) : Host.Outcome State Fault Refusal :=
  s.event dt (Soc.on (Dev.tapCalDone worst))

/-- SS_CFG_WRITE (R421). -/
def execSsCfgWrite (w : Word) (s : State) : Host.Outcome State Fault Refusal :=
  s.host (Soc.cmdReg (pgCLK + 0x58) (Dev.ssCfgWrite w))

/-- OP_REQ (R425). -/
def execOpReq (op : BitVec 2) (s : State) : Host.Outcome State Fault Refusal :=
  s.host (Soc.cmdReg (pgPWR + 0x40) (Dev.opReq op))

/-- OP_CHANGE_START (R426). -/
def execOpChangeStart (dt : Nat) (s : State) : Host.Outcome State Fault Refusal := s.event dt (Soc.on Dev.opChangeStart)

/-- VDD_OK (R426). -/
def execVddOk (dt : Nat) (s : State) : Host.Outcome State Fault Refusal := s.event dt (Soc.on Dev.vddOk)

/-- V_TIMEOUT (R426). -/
def execVTimeout (dt : Nat) (s : State) : Host.Outcome State Fault Refusal := s.event dt (Soc.on Dev.vTimeout)

/-- PLL1_LOCK (R427). -/
def execPll1Lock (dt : Nat) (s : State) : Host.Outcome State Fault Refusal := s.event dt (Soc.on Dev.pll1Lock)

/-- RELOCK_SWITCH (R427). -/
def execRelockSwitch (dt : Nat) (s : State) : Host.Outcome State Fault Refusal := s.event dt (Soc.on Dev.relockSwitch)

/-- SLEEP_REQUEST (R428). -/
def execSleepRequest (s : State) : Host.Outcome State Fault Refusal :=
  s.host (Soc.cmdReg (pgPWR + 0x4C) (fun d => d.modeReqWrite 1 true))

/-- DEEP_SLEEP_REQUEST (R428). -/
def execDeepSleepRequest (s : State) : Host.Outcome State Fault Refusal :=
  s.host (Soc.cmdReg (pgPWR + 0x4C) (fun d => d.modeReqWrite 2 true))

/-- WAKE (R428). -/
def execWake (dt : Nat) (src : Fin 5) (s : State) : Host.Outcome State Fault Refusal :=
  s.event dt (Soc.on (Dev.wakeEvent src))

/-- WAKE_TIMER (R428). -/
def execWakeTimer (dt : Nat) (s : State) : Host.Outcome State Fault Refusal := s.event dt (Soc.on Dev.wakeTimer)

/-- POWER_ON (R433). -/
def execPowerOn (dt : Nat) (s : State) : Host.Outcome State Fault Refusal := s.event dt (Soc.on Dev.powerOn)

/-- RESET_PIN (R433). -/
def execResetPin (dt : Nat) (s : State) : Host.Outcome State Fault Refusal := s.event dt (Soc.on Dev.resetPin)

/-- BROWN_OUT (R433). -/
def execBrownOut (dt : Nat) (supplies : BitVec 5) (s : State) : Host.Outcome State Fault Refusal :=
  s.event dt (Soc.on (Dev.brownOut supplies))

/-- WATCHDOG (R433). -/
def execWatchdog (dt : Nat) (s : State) : Host.Outcome State Fault Refusal := s.event dt (Soc.on Dev.watchdog)

/-- SOFT_RST (R433). -/
def execSoftRst (key : BitVec 16) (s : State) : Host.Outcome State Fault Refusal :=
  s.host (Soc.cmdReg (pgPWR + 0x6C) (Dev.softRst key))

/-- PERST (R433). -/
def execPerst (dt : Nat) (asserted : Bool) (inFlight : BitVec 16) (s : State) : Host.Outcome State Fault Refusal :=
  s.event dt (Soc.watch (Soc.on (Dev.perstSet asserted inFlight)))

/-- BLK_RST (R433). -/
def execBlkRst (w : Word) (inFlight : Vector (BitVec 16) 8) (s : State) : Host.Outcome State Fault Refusal :=
  s.host (Soc.watch (Soc.cmdReg (pgPWR + 0x64) (Dev.blkRst w inFlight)))

/-- PARTNER_FLUSH (R434). -/
def execPartnerFlush (dt : Nat) (j : Fin 8) (s : State) : Host.Outcome State Fault Refusal :=
  s.event dt (Soc.on (Dev.partnerFlush j))

/-- CLKEN_WRITE (R432). -/
def execClkenWrite (which : Fin 3) (w : Word) (s : State) : Host.Outcome State Fault Refusal :=
  s.host (Soc.cmdReg (pgPWR + 0x58 + 4 * which.val) (Dev.clkenWrite which w))

end Sys2Proof.Machine
end

