-- ==== Sys2Proof/Machine/CommonRows.lean ====
section
/-! DEFINITION. Meanings of the rows of common rows of the register pages (R11 to R25, R371). -/

namespace Sys2Proof.Machine

/-- REGISTER_WRITE (R11). -/
def execRegisterWrite (at_ : HostAddr) (be : BitVec 4) (w : Word) (s : State) : Host.Outcome State Fault Refusal :=
  s.host (Soc.watch (Soc.writeOne at_ be w))

/-- UNMAPPED_ACCESS (R9). -/
def execUnmappedAccess (at_ : HostAddr) (wr : Option (BitVec 4 × Word)) (s : State) : Host.Outcome State Fault Refusal :=
  s.host (fun x => match wr with | none => x.readOne at_ | some p => x.writeOne at_ p.1 p.2)

/-- ENABLE_WRITE (R556). -/
def execEnableWrite (f : EnField) (s : State) : Host.Outcome State Fault Refusal :=
  s.host (Soc.watch (Soc.enWrite true f))

/-- DISABLE_WRITE (R556). -/
def execDisableWrite (f : EnField) (s : State) : Host.Outcome State Fault Refusal :=
  s.host (Soc.watch (Soc.enWrite false f))

/-- IRQ_FLAG_CLEAR (R17). -/
def execIrqFlagClear (p : BitVec 8) (mask again : Word) (s : State) : Host.Outcome State Fault Refusal :=
  s.host (Soc.onPage p 0x018 (fun k _ pg d => d.irqFlagClear k pg mask again))

/-- IRQ_FORCE (R17). -/
def execIrqForce (p : BitVec 8) (mask : Word) (s : State) : Host.Outcome State Fault Refusal :=
  s.host (Soc.onPage p 0x01C (fun k _ pg d => d.irqForce k pg mask))

/-- IRQ_EN_WRITE (R18). -/
def execIrqEnWrite (p : BitVec 8) (w : Word) (s : State) : Host.Outcome State Fault Refusal :=
  s.host (Soc.onPage p 0x014 (fun k _ pg d => d.irqEnWrite k pg w))

/-- ERRCODE_CLR (R21). -/
def execErrcodeClr (p : BitVec 8) (again : Option (BitVec 16 × BitVec 8)) (s : State) : Host.Outcome State Fault Refusal :=
  s.host (Soc.onPage p 0x020 (fun _ _ pg d => d.errClr pg (again.map (fun x => (x.1.toNat, x.2.toNat)))))

/-- LOCK_SET (R23). -/
def execLockSet (p : BitVec 8) (s : State) : Host.Outcome State Fault Refusal :=
  s.host (Soc.onPage p 0x028 (fun k _ pg d => d.lockSet k pg))

/-- COMMIT_REQ (R25). -/
def execCommitReq (p : BitVec 8) (when : BitVec 2) (s : State) : Host.Outcome State Fault Refusal :=
  s.host (Soc.onPage p 0x02C (fun k i pg d => d.commitReq k pg i true when.toNat 0))

/-- COMMIT_LOAD (R24). -/
def execCommitLoad (dt : Nat) (g : Option (Fin 16)) (s : State) : Host.Outcome State Fault Refusal :=
  s.event dt (Soc.watch (Soc.on (fun d => match g with | some k => d.commitLoadStage k | none => d.commitLoadCtx)))

/-- PAIRING_WINDOW_CLOSE (R371). -/
def execPairingWindowClose (dt : Nat) (s : State) : Host.Outcome State Fault Refusal :=
  s.event dt (Soc.watch (Soc.on Dev.pairingClose))

end Sys2Proof.Machine
end

