-- ==== Sys2Proof/Machine/ConverterRows.lean ====
section
/-! DEFINITION. Meanings of the rows of converters and sigma-delta inputs (R202 to R229). -/

namespace Sys2Proof.Machine

/-- INJ_REQUEST (R210). -/
def execInjRequest (dt : Nat) (b : Fin 4) (r : Fin 32) (s : State) : Host.Outcome State Fault Refusal :=
  s.event dt (Soc.on (Dev.injRequest b r))

/-- CONVERSION_START (R206). -/
def execConversionStart (dt : Nat) (b : Fin 4) (cv : Fin 3) (s : State) : Host.Outcome State Fault Refusal :=
  s.event dt (Soc.on (Dev.conversionStart b cv))

/-- CONVERSION_RESULT (R203). -/
def execConversionResult (dt : Nat) (b : Fin 4) (cv : Fin 3) (x : Analog) (s : State) : Host.Outcome State Fault Refusal :=
  s.event dt (Soc.watch (Soc.on (Dev.conversionResult Dev.hkDone b cv x)))

/-- CAL_GO (R218). -/
def execCalGo (b : Fin 4) (mask : BitVec 3) (s : State) : Host.Outcome State Fault Refusal :=
  s.host (Soc.cmdReg (pgADCG b + 0xD4) (Dev.calGo b mask))

/-- CAL_START (R218). -/
def execCalStart (dt : Nat) (b : Fin 4) (s : State) : Host.Outcome State Fault Refusal :=
  s.event dt (Soc.on (Dev.calStart b))

/-- CAL_DONE (R217). -/
def execCalDone (dt : Nat) (b : Fin 4) (s : State) : Host.Outcome State Fault Refusal :=
  s.event dt (Soc.on (Dev.calDone b))

/-- CLAMP (R215). -/
def execClamp (dt : Nat) (b : Fin 4) (p : Fin 16) (s : State) : Host.Outcome State Fault Refusal :=
  s.event dt (Soc.on (Dev.clamp b p))

/-- SLOT_WRITE (R207). -/
def execSlotWrite (b : Fin 4) (j : Fin 16) (w : Word) (s : State) : Host.Outcome State Fault Refusal :=
  s.host (Soc.cmdReg (pgADCG b + 0x50 + 4 * j.val) (Dev.slotWrite b j w))

/-- ADC_CNT_CLR (R228). -/
def execAdcCntClr (b : Fin 4) (s : State) : Host.Outcome State Fault Refusal :=
  s.host (Soc.cmdReg (pgADCG b + 0xE4) (Dev.adcCntClr b))

/-- SDI_WORD (R222). -/
def execSdiWord (dt : Nat) (n : Fin 24) (s : State) : Host.Outcome State Fault Refusal :=
  s.event dt (Soc.watch (Soc.on (Dev.sdiWord n)))

/-- OC (R224). -/
def execOc (dt : Nat) (n : Fin 24) (first second : BitVec 2) (s : State) :
    Host.Outcome State Fault Refusal :=
  s.event dt (Soc.watch (Soc.on (Dev.overcurrent n first second)))

/-- STUCK (R225). -/
def execStuck (dt : Nat) (n : Fin 24) (s : State) : Host.Outcome State Fault Refusal :=
  s.event dt (Soc.watch (Soc.on (Dev.sdiStuck n)))

/-- CLK_LOSS (R225). -/
def execClkLoss (dt : Nat) (n : Fin 24) (s : State) : Host.Outcome State Fault Refusal :=
  s.event dt (Soc.watch (Soc.on (Dev.sdiClkLoss n)))

/-- SDI_ERR_CLR (R229). -/
def execSdiErrClr (n : Fin 24) (s : State) : Host.Outcome State Fault Refusal :=
  s.host (Soc.cmdReg (pgSDI n + 0x60) (Dev.sdiErrClr n))

end Sys2Proof.Machine
end

