-- ==== Sys2Proof/Machine/EnergyRows.lean ====
section
/-! DEFINITION. Meanings of the rows of the energy ledger and active discharge (R315 to R333). -/

namespace Sys2Proof.Machine

/-- LEDGER_TICK (R315). -/
def execLedgerTick (dt : Nat) (s : State) : Host.Outcome State Fault Refusal := s.event dt (Soc.watch Soc.ledgerTick)

/-- CHOP_FAULT (R322). -/
def execChopFault (dt : Nat) (s : State) : Host.Outcome State Fault Refusal :=
  s.event dt (Soc.watch (Soc.on Dev.chopFault))

/-- DIS_LATE (R327). -/
def execDisLate (dt : Nat) (s : State) : Host.Outcome State Fault Refusal := s.event dt (Soc.watch (Soc.on Dev.disLate))

/-- DIS_REQ (R326). -/
def execDisReq (s : State) : Host.Outcome State Fault Refusal :=
  s.host (Soc.watch (Soc.cmdReg (pgNRG + 0xC0) Dev.disReq))

/-- DIS_ABORT (R327). -/
def execDisAbort (s : State) : Host.Outcome State Fault Refusal :=
  s.host (Soc.watch (Soc.cmdReg (pgNRG + 0xC0) Dev.disAbort))

/-- ESC_CLR (R325). -/
def execEscClr (s : State) : Host.Outcome State Fault Refusal :=
  s.host (Soc.watch (Soc.atReg (pgNRG + 0xC4) Soc.escClr))

end Sys2Proof.Machine
end

