-- ==== Sys2Proof/Machine/EphemerisRows.lean ====
section
/-! DEFINITION. Meanings of the rows of the Ephemeris table and angle-domain scheduling (R123 to R149). -/

namespace Sys2Proof.Machine

/-- ENTRY_FIRE (R137). -/
def execEntryFire (dt : Nat) (k : Fin 16) (s : State) : Host.Outcome State Fault Refusal :=
  s.event dt (Soc.on (Dev.entryFire k))

/-- EPH_LOAD (R135). -/
def execEphLoad (k : Fin 16) (chart : BitVec 16) (s : State) : Host.Outcome State Fault Refusal :=
  s.host (Soc.atReg (pgEPH + 0x11C + 64 * k.val) (fun x => x.map (Dev.ephLoad x.mem k chart)))

/-- EPH_VALIDATE_IN_PLACE (R135). -/
def execEphValidateInPlace (k : Fin 16) (count : BitVec 11) (s : State) : Host.Outcome State Fault Refusal :=
  s.host (Soc.cmdReg (pgEPH + 0x11C + 64 * k.val) (Dev.ephValidate k count))

/-- LOAD_DONE (R135). -/
def execLoadDone (dt : Nat) (k : Fin 16) (s : State) : Host.Outcome State Fault Refusal :=
  s.event dt (Soc.chartLoaded k)

/-- EPH_WINDOW_WRITE (R135). -/
def execEphWindowWrite (j : Fin 6144) (whole : Bool) (w : Word) (s : State) : Host.Outcome State Fault Refusal :=
  s.host (Soc.cmdReg (pgEPH) (Dev.ephWindowWrite j whole w))

/-- SWITCHED (R142). -/
def execSwitched (dt : Nat) (k : Fin 16) (s : State) : Host.Outcome State Fault Refusal :=
  s.event dt (Soc.on (Dev.switched k))

/-- FALLBACK (R146). -/
def execFallback (dt : Nat) (k : Fin 16) (s : State) : Host.Outcome State Fault Refusal :=
  s.event dt (Soc.on (Dev.fallback k))

/-- RETURN (R147). -/
def execReturnRun (dt : Nat) (k : Fin 16) (s : State) : Host.Outcome State Fault Refusal :=
  s.event dt (Soc.on (Dev.returnRun k))

/-- EPH_CNT_CLR (R149). -/
def execEphCntClr (k : Fin 16) (s : State) : Host.Outcome State Fault Refusal :=
  s.host (Soc.cmdReg (pgEPH + 0x514 + 32 * k.val) (Dev.ephCntClr k))

end Sys2Proof.Machine
end

