-- ==== Sys2Proof/Machine/EventRows.lean ====
section
/-! DEFINITION. Meanings of the rows of the rows that stand last in the table: further resets, link changes and debugger commands. -/

namespace Sys2Proof.Machine

/-- SNET_CNT_CLR (R405). -/
def execSnetCntClr (s : State) : Host.Outcome State Fault Refusal := s.host (Soc.cmdReg (pgSNET + 0x9C) Dev.snetCntClr)

/-- GNOMON_RESET (R379). -/
def execGnomonReset (dt : Nat) (running : Bool) (inFlight : Half) (s : State) : Host.Outcome State Fault Refusal :=
  s.event dt (Soc.watch (Soc.on (Dev.gnomonPower running inFlight)))

/-- FRAME_DISCARDED (R499). -/
def execFrameDiscarded (dt : Nat) (h : VHdr) (why : VBad) (bytes : List Byte) (s : State) : Host.Outcome State Fault Refusal :=
  s.event dt (Soc.watch (Soc.on (Dev.frameDiscarded h why bytes)))

/-- CLAMP_INACTIVE (R215). -/
def execClampInactive (dt : Nat) (b : Fin 4) (p : Fin 16) (s : State) : Host.Outcome State Fault Refusal :=
  s.event dt (Soc.on (Dev.clampInactive b p))

/-- CLOCK_LOSS_END (R225). -/
def execClockLossEnd (dt : Nat) (n : Fin 24) (s : State) : Host.Outcome State Fault Refusal :=
  s.event dt (Soc.on (Dev.sdiClkBack n))

/-- SEC_DONE (R470). -/
def execSecDone (dt : Nat) (s : State) : Host.Outcome State Fault Refusal := s.event dt Soc.secDone

/-- ETH_LINK_CHANGE (R533). -/
def execEthLinkChange (dt : Nat) (p : Fin 2) (up anDone : Bool) (s : State) : Host.Outcome State Fault Refusal :=
  s.event dt (Soc.on (Dev.ethLink p up anDone))

/-- PCIE_LINK_CHANGE (R533). -/
def execPcieLinkChange (dt : Nat) (up : Bool) (speed width : BitVec 2) (s : State) : Host.Outcome State Fault Refusal :=
  s.event dt (Soc.on (Dev.pcieLink up speed width))

/-- CAN_BUS_ERROR (R521). -/
def execCanBusError (dt : Nat) (c : Fin 4) (tec rec : Byte) (busOff : Bool) (s : State) : Host.Outcome State Fault Refusal :=
  s.event dt (Soc.on (Dev.canBusError c tec rec busOff))

/-- TIME_LO_READ (R418). -/
def execTimeLoRead (r : TimeReg) (s : State) : Host.Outcome State Fault Refusal := s.host (Soc.readReg r.address)

/-- HOST_MEMORY_READ (R517). -/
def execHostMemoryRead (at_ : HostAddr) (s : State) : Host.Outcome State Fault Refusal := s.host (Soc.readOne at_)

/-- DEBUG_STEP (R368). -/
def execDebugStep (dt : Nat) (c : Fin 4) (st : Fin 3) (v : Vote) (s : State) : Host.Outcome State Fault Refusal :=
  s.event dt (Soc.watch (Soc.debugStep c st v))

/-- DEBUG_WRITE (R368). -/
def execDebugWrite (dt : Nat) (c : Fin 4) (st : Fin 3) (r : DbgReg) (v : Vote) (s : State) : Host.Outcome State Fault Refusal :=
  s.event dt (Soc.watch (Soc.on (Dev.debugWrite c st r v)))

/-- DEBUG_DETACH (R389). -/
def execDebugDetach (dt : Nat) (s : State) : Host.Outcome State Fault Refusal :=
  s.event dt (Soc.watch (Soc.on Dev.debugDetach))

end Sys2Proof.Machine
end

