-- ==== Sys2Proof/Machine/FieldRows.lean ====
section
/-! DEFINITION. Meanings of the rows of commutation and field control (R289 to R314). -/

namespace Sys2Proof.Machine

/-- START (R300). -/
def execStart (k : Fin 16) (s : State) : Host.Outcome State Fault Refusal :=
  s.host (Soc.atReg (pgFLD + 0x150 + 128 * k.val) (Soc.fldStart k))

/-- STOP (R302). -/
def execStop (k : Fin 16) (s : State) : Host.Outcome State Fault Refusal :=
  s.host (Soc.cmdReg (pgFLD + 0x150 + 128 * k.val) (Dev.fldStop k))

/-- MEASURE_TRIPLE (R303). -/
def execMeasureTriple (dt : Nat) (k : Fin 16) (s : State) : Host.Outcome State Fault Refusal :=
  s.event dt (Soc.unfrozen pgFLD (Soc.on (Dev.measureTriple k)))

/-- MEAS_DONE (R304). -/
def execMeasDone (dt : Nat) (k : Fin 16) (s : State) : Host.Outcome State Fault Refusal := s.event dt (Soc.unfrozen pgFLD (Soc.measDone k))

/-- IPD_VECTOR (R306). -/
def execIpdVector (dt : Nat) (k : Fin 16) (s : State) : Host.Outcome State Fault Refusal :=
  s.event dt (Soc.unfrozen pgFLD (Soc.on (Dev.ipdVector k)))

/-- IPD_DONE (R307). -/
def execIpdDone (dt : Nat) (k : Fin 16) (s : State) : Host.Outcome State Fault Refusal := s.event dt (Soc.unfrozen pgFLD (Soc.ipdDone k))

/-- BEMF_SAMPLE (R309). -/
def execBemfSample (dt : Nat) (k : Fin 16) (s : State) : Host.Outcome State Fault Refusal :=
  s.event dt (Soc.unfrozen pgFLD (Soc.on (Dev.bemfSample k)))

/-- T_MAG_WRITE (R310). -/
def execTMagWrite (k : Fin 16) (w : BitVec 16) (s : State) : Host.Outcome State Fault Refusal :=
  s.host (Soc.cmdReg (pgFLD + 0x128 + 128 * k.val) (Dev.tMagWrite k w))

/-- STALE (R310). -/
def execStale (dt : Nat) (k : Fin 16) (s : State) : Host.Outcome State Fault Refusal :=
  s.event dt (Soc.unfrozen pgFLD (Soc.on (Dev.magStale k)))

/-- NEW_MACHINE (R311). -/
def execNewMachine (k : Fin 16) (s : State) : Host.Outcome State Fault Refusal :=
  s.host (Soc.cmdReg (pgFLD + 0x17C + 128 * k.val) (Dev.newMachine k))

/-- CLR_DEMAG (R311). -/
def execClrDemag (k : Fin 16) (s : State) : Host.Outcome State Fault Refusal :=
  s.host (Soc.cmdReg (pgFLD + 0x17C + 128 * k.val) (Dev.clrDemag k))

end Sys2Proof.Machine
end

