-- ==== Sys2Proof/Machine/GnomonRows.lean ====
section
/-! DEFINITION. Meanings of the rows of Gnomon and the safe channel (R377 to R405). -/

namespace Sys2Proof.Machine

/-- SUB_TICK (R380). -/
def execSubTick (dt : Nat) (s : State) : Host.Outcome State Fault Refusal := s.event dt (Soc.watch Soc.subTick)

/-- SAFETY_TICK (R388). -/
def execSafetyTick (dt : Nat) (srst : Bool) (s : State) : Host.Outcome State Fault Refusal :=
  s.event dt (Soc.watch (Soc.on (Dev.safetyTick srst)))

/-- STO_CHANNEL_CHANGE (R385). -/
def execStoChannelChange (dt : Nat) (chB demand : Bool) (held : Nat) (s : State) : Host.Outcome State Fault Refusal :=
  s.event dt (Soc.watch (Soc.on (Dev.stoChannel chB demand held)))

/-- OUTPUT_ENABLE_RESTORE (R387). -/
def execOutputEnableRestore (dt : Nat) (s : State) : Host.Outcome State Fault Refusal :=
  s.event dt (Soc.watch (Soc.on Dev.enablesRestore))

/-- DISC_FAULT (R388). -/
def execDiscFault (dt : Nat) (s : State) : Host.Outcome State Fault Refusal :=
  s.event dt (Soc.watch (Soc.on Dev.discFault))

/-- CORE_FAULT (R389). -/
def execCoreFault (dt : Nat) (s : State) : Host.Outcome State Fault Refusal :=
  s.event dt (Soc.watch (Soc.on Dev.coreFault))

/-- GDEN_READBACK_FAULT (R389). -/
def execGdenReadbackFault (dt : Nat) (a b : Bool) (held : Nat) (s : State) : Host.Outcome State Fault Refusal :=
  s.event dt (Soc.watch (Soc.on (Dev.gdenReadback a b held)))

/-- CFG_CRC_RECHECK (R389). -/
def execCfgCrcRecheck (dt : Nat) (bad : Bool) (s : State) : Host.Outcome State Fault Refusal :=
  s.event dt (Soc.watch (Soc.on (Dev.cfgCrcRecheck bad)))

/-- HEARTBEAT_LOSS (R389). -/
def execHeartbeatLoss (dt : Nat) (lost : Bool) (s : State) : Host.Outcome State Fault Refusal :=
  s.event dt (Soc.watch (Soc.on (Dev.heartbeat lost)))

/-- VDD_GN_WINDOW (R389). -/
def execVddGnWindow (dt : Nat) (inside : Bool) (s : State) : Host.Outcome State Fault Refusal :=
  s.event dt (Soc.watch (Soc.on (Dev.vddGnWindow inside)))

/-- DEBUG_ATTACH (R389). -/
def execDebugAttach (dt : Nat) (s : State) : Host.Outcome State Fault Refusal :=
  s.event dt (Soc.watch (Soc.on Dev.debugAttach))

/-- RESET_EDGE (R390). -/
def execResetEdge (dt : Nat) (s : State) : Host.Outcome State Fault Refusal :=
  s.event dt (Soc.watch (Soc.on Dev.resetEdge))

/-- CFG_LOAD (R382). -/
def execCfgLoad (s : State) : Host.Outcome State Fault Refusal :=
  s.host (Soc.watch (Soc.atReg (pgSNET + 0x40) (fun x => x.sreqWrite 1 0 true)))

/-- CFG_CONFIRM (R383). -/
def execCfgConfirm (s : State) : Host.Outcome State Fault Refusal :=
  s.host (Soc.watch (Soc.atReg (pgSNET + 0x40) (fun x => x.sreqWrite 2 0 true)))

/-- CFG_TIMEOUT (R383). -/
def execCfgTimeout (dt : Nat) (s : State) : Host.Outcome State Fault Refusal :=
  s.event dt (Soc.watch (Soc.on Dev.cfgTimeout))

/-- LOCK (R389). -/
def execLock (s : State) : Host.Outcome State Fault Refusal :=
  s.host (Soc.watch (Soc.atReg (pgSNET + 0x40) (fun x => x.sreqWrite 3 0 true)))

/-- CLR_SSAT (R394). -/
def execClrSsat (x : BitVec 6) (s : State) : Host.Outcome State Fault Refusal :=
  s.host (Soc.watch (Soc.atReg (pgSNET + 0x40) (fun y => y.sreqWrite 4 x.toNat true)))

/-- CLR_GTRIP (R394). -/
def execClrGtrip (s : State) : Host.Outcome State Fault Refusal :=
  s.host (Soc.watch (Soc.atReg (pgSNET + 0x40) (fun x => x.sreqWrite 5 0 true)))

/-- SREQ_RESERVED (R405). -/
def execSreqReserved (cmd : BitVec 4) (s : State) : Host.Outcome State Fault Refusal :=
  s.host (Soc.watch (Soc.atReg (pgSNET + 0x40) (fun x => x.sreqWrite cmd.toNat 0 true)))

/-- APPLICATION_EVENT (R393). -/
def execApplicationEvent (dt : Nat) (s : State) : Host.Outcome State Fault Refusal :=
  s.event dt (Soc.watch (Soc.on Dev.applicationEvent))

/-- TORQUE_SAMPLE (R395). -/
def execTorqueSample (dt : Nat) (n : Fin 8) (s : State) : Host.Outcome State Fault Refusal :=
  s.event dt (Soc.watch (Soc.on (Dev.torqueSample n)))

/-- TORQUE_REACT (R395). -/
def execTorqueReact (dt : Nat) (n : Fin 8) (s : State) : Host.Outcome State Fault Refusal :=
  s.event dt (Soc.watch (Soc.on (Dev.torqueReact n)))

/-- SAFE_COPY_RECEIVED (R397). -/
def execSafeCopyReceived (dt : Nat) (pathB : Bool) (bytes : List Byte) (s : State) : Host.Outcome State Fault Refusal :=
  s.event dt (Soc.watch (Soc.on (Dev.safeCopy pathB bytes)))

/-- PAIRING_EVALUATION (R398). -/
def execPairingEvaluation (dt : Nat) (s : State) : Host.Outcome State Fault Refusal :=
  s.event dt (Soc.watch (Soc.on Dev.pairing))

/-- SN_MISSING (R398). -/
def execSnMissing (dt : Nat) (s : State) : Host.Outcome State Fault Refusal :=
  s.event dt (Soc.watch (Soc.on Dev.snMissing))

/-- SN_WATCHDOG (R398). -/
def execSnWatchdog (dt : Nat) (s : State) : Host.Outcome State Fault Refusal :=
  s.event dt (Soc.watch (Soc.on Dev.snWatchdog))

/-- STATUS_PDU_TX (R400). -/
def execStatusPduTx (dt : Nat) (s : State) : Host.Outcome State Fault Refusal := s.event dt (Soc.on Dev.statusPdu)

end Sys2Proof.Machine
end

