-- ==== Sys2Proof/Machine/HostRows.lean ====
section
/-! DEFINITION. Meanings of the rows of host interfaces, memory, communication and the recorder (R504 to R533). -/

namespace Sys2Proof.Machine

/-- HOST_MEMORY_WRITE (R511). -/
def execHostMemoryWrite (at_ : HostAddr) (be : BitVec 4) (w : Word) (s : State) : Host.Outcome State Fault Refusal :=
  s.host (Soc.writeOne at_ be w)

/-- PCIE_POISON (R507). -/
def execPciePoison (bytes : List Byte) (s : State) : Host.Outcome State Fault Refusal :=
  s.host (Soc.accessAt (.bar0 0) (Soc.on (Dev.pciePoison bytes)))

/-- PCIE_TLP (R507). -/
def execPcieTlp (s : State) : Host.Outcome State Fault Refusal := s.host (Soc.accessAt (.bar0 0) (Soc.on Dev.pcieTlp))

/-- XSPI_READ (R508). -/
def execXspiRead (a : Word) (n : BitVec 9) (s : State) : Host.Outcome State Fault Refusal :=
  s.host (Soc.xspiRead false a n.toNat)

/-- XSPI_READ_SLOW (R508). -/
def execXspiReadSlow (a : Word) (n : BitVec 9) (s : State) : Host.Outcome State Fault Refusal :=
  s.host (Soc.xspiRead true a n.toNat)

/-- XSPI_WRITE (R508). -/
def execXspiWrite (a : Word) (bytes : List Byte) (s : State) : Host.Outcome State Fault Refusal :=
  s.host (Soc.watch (Soc.xspiWrite a bytes))

/-- XSPI_RESERVED_OPCODE (R509). -/
def execXspiReservedOpcode (op : Half) (s : State) : Host.Outcome State Fault Refusal := s.host (Soc.xspiReserved op)

/-- PROMOTION_CHECK (R515). -/
def execPromotionCheck (dt : Nat) (r : Fin 32) (s : State) : Host.Outcome State Fault Refusal :=
  s.event dt (Soc.on (Dev.promotionCheck r))

/-- SLICE_COPY_DONE (R516). -/
def execSliceCopyDone (dt : Nat) (r : Fin 32) (s : State) : Host.Outcome State Fault Refusal :=
  s.event dt (Soc.sliceCopyDone r)

/-- SRAM_SCRUB (R517). -/
def execSramScrub (dt : Nat) (ce ue : List Word) (s : State) : Host.Outcome State Fault Refusal :=
  s.event dt (Soc.sramScrub ce ue)

/-- DRAM_SCRUB (R517). -/
def execDramScrub (dt : Nat) (ce ue : List Word) (s : State) : Host.Outcome State Fault Refusal :=
  s.event dt (Soc.dramScrub ce ue)

/-- ETH_RX_FRAME (R518). -/
def execEthRxFrame (dt : Nat) (p : Fin 2) (frame : List Byte) (fcsOk : Bool) (age : Half) (sync : Option (BitVec 64 × Word)) (s : State) : Host.Outcome State Fault Refusal :=
  s.event dt (Soc.watch (Soc.ethRx p frame fcsOk age sync))

/-- TX_TAIL_WRITE (R519). -/
def execTxTailWrite (p : Fin 2) (tail : BitVec 12) (s : State) : Host.Outcome State Fault Refusal :=
  s.host (Soc.cmdReg (pgETH p + 0x60) (Dev.txTail p tail))

/-- ETH_TX_DONE (R519). -/
def execEthTxDone (dt : Nat) (p : Fin 2) (age : Half) (s : State) : Host.Outcome State Fault Refusal :=
  s.event dt (Soc.ethTxDone p age)

/-- PTP_SYNC_LOSS (R520). -/
def execPtpSyncLoss (dt : Nat) (p : Fin 2) (s : State) : Host.Outcome State Fault Refusal :=
  s.event dt (Soc.unfrozen (pgETH p) (Soc.on (Dev.ptpSyncLoss p)))

/-- CAN_RX_FRAME (R521). -/
def execCanRxFrame (dt : Nat) (c : Fin 4) (xtd : Bool) (id : BitVec 29) (dlc : Word) (data : List Byte) (s : State) : Host.Outcome State Fault Refusal :=
  s.event dt (Soc.watch (Soc.on (Dev.canRx c xtd id dlc data)))

/-- CAN_TX_REQ (R521). -/
def execCanTxReq (c : Fin 4) (bits : Byte) (s : State) : Host.Outcome State Fault Refusal :=
  s.host (Soc.cmdReg (pgCAN c + 0x58) (Dev.canTxReq c bits))

/-- CAN_TX_DONE (R521). -/
def execCanTxDone (dt : Nat) (c : Fin 4) (s : State) : Host.Outcome State Fault Refusal :=
  s.event dt (Soc.unfrozen (pgCAN c) (Soc.on (Dev.canTxDone c)))

/-- CAN_RECOVER (R521). -/
def execCanRecover (dt : Nat) (c : Fin 4) (s : State) : Host.Outcome State Fault Refusal :=
  s.event dt (Soc.on (Dev.canRecover c))

/-- RX_POP (R533). -/
def execRxPop (c : Fin 4) (s : State) : Host.Outcome State Fault Refusal :=
  s.host (Soc.cmdReg (pgCAN c + 0x54) (Dev.rxPop c))

/-- FL_READ (R522). -/
def execFlRead (s : State) : Host.Outcome State Fault Refusal := s.host (Soc.cmdReg (pgXSPI + 0x40) Dev.flRead)

/-- FL_PROGRAM (R522). -/
def execFlProgram (s : State) : Host.Outcome State Fault Refusal := s.host (Soc.cmdReg (pgXSPI + 0x40) Dev.flProgram)

/-- FL_ERASE (R522). -/
def execFlErase (s : State) : Host.Outcome State Fault Refusal := s.host (Soc.cmdReg (pgXSPI + 0x40) Dev.flErase)

/-- FL_DONE (R522). -/
def execFlDone (dt : Nat) (s : State) : Host.Outcome State Fault Refusal := s.event dt Soc.flDone

/-- VECMAP_WRITE (R523). -/
def execVecmapWrite (j : Fin 64) (w : Word) (s : State) : Host.Outcome State Fault Refusal :=
  s.host (Soc.cmdReg (pgPCIE + 0x100 + 4 * j.val) (Dev.vecmapWrite j w))

/-- VLATCH_CLEAR (R524). -/
def execVlatchClear (j : Fin 2) (w : Word) (s : State) : Host.Outcome State Fault Refusal :=
  s.host (Soc.cmdReg (pgPCIE + 0x40 + 4 * j.val) (Dev.vlatchClear j w))

/-- CAP_ARM (R526). -/
def execCapArm (s : State) : Host.Outcome State Fault Refusal := s.host (Soc.cmdReg (pgCAP + 0x58) Dev.capArm)

/-- CAP_STOP (R527). -/
def execCapStop (s : State) : Host.Outcome State Fault Refusal := s.host (Soc.cmdReg (pgCAP + 0x58) Dev.capStop)

/-- TRIG_SW (R528). -/
def execTrigSw (s : State) : Host.Outcome State Fault Refusal := s.host (Soc.cmdReg (pgCAP + 0x58) Dev.trigSw)

/-- CAP_RECORD (R525). -/
def execCapRecord (dt : Nat) (s : State) : Host.Outcome State Fault Refusal :=
  s.event dt (Soc.unfrozen pgCAP Soc.capRecord)

/-- CAP_DONE (R527). -/
def execCapDone (dt : Nat) (s : State) : Host.Outcome State Fault Refusal := s.event dt (Soc.unfrozen pgCAP (Soc.on Dev.capDone))

/-- UNROLLED (R527). -/
def execUnrolled (dt : Nat) (s : State) : Host.Outcome State Fault Refusal := s.event dt Soc.unrolled

end Sys2Proof.Machine
end

