-- ==== Sys2Proof/Machine/LoopRows.lean ====
section
/-! DEFINITION. Meanings of the rows of loop engines: jobs and instructions (R247 to R288). -/

namespace Sys2Proof.Machine

/-- JOB_RELEASE (R251). -/
def execJobRelease (dt : Nat) (s : State) : Host.Outcome State Fault Refusal :=
  s.event dt (Soc.watch (Soc.on Dev.jobRelease))

/-- DISPATCH (R252). -/
def execDispatch (dt : Nat) (c : Fin 4) (st : Fin 3) (s : State) : Host.Outcome State Fault Refusal :=
  s.event dt (Soc.watch (Soc.dispatch c st))

/-- NOP (R270). -/
def execNop (dt : Nat) (c : Fin 4) (st : Fin 3) (v : Vote) (s : State) : Host.Outcome State Fault Refusal :=
  s.event dt (Soc.watch (Soc.isaNop c st v))

/-- LDI (R270). -/
def execLdi (dt : Nat) (c : Fin 4) (st : Fin 3) (v : Vote) (s : State) : Host.Outcome State Fault Refusal :=
  s.event dt (Soc.watch (Soc.isaLdi c st v))

/-- MOV (R270). -/
def execMov (dt : Nat) (c : Fin 4) (st : Fin 3) (v : Vote) (s : State) : Host.Outcome State Fault Refusal :=
  s.event dt (Soc.watch (Soc.isaMov c st v))

/-- ADD (R265). -/
def execAdd (dt : Nat) (c : Fin 4) (st : Fin 3) (v : Vote) (s : State) : Host.Outcome State Fault Refusal :=
  s.event dt (Soc.watch (Soc.isaAdd c st v))

/-- SUB (R265). -/
def execSub (dt : Nat) (c : Fin 4) (st : Fin 3) (v : Vote) (s : State) : Host.Outcome State Fault Refusal :=
  s.event dt (Soc.watch (Soc.isaSub c st v))

/-- NEG (R265). -/
def execNeg (dt : Nat) (c : Fin 4) (st : Fin 3) (v : Vote) (s : State) : Host.Outcome State Fault Refusal :=
  s.event dt (Soc.watch (Soc.isaNeg c st v))

/-- ABS (R265). -/
def execAbs (dt : Nat) (c : Fin 4) (st : Fin 3) (v : Vote) (s : State) : Host.Outcome State Fault Refusal :=
  s.event dt (Soc.watch (Soc.isaAbs c st v))

/-- MIN (R270). -/
def execMin (dt : Nat) (c : Fin 4) (st : Fin 3) (v : Vote) (s : State) : Host.Outcome State Fault Refusal :=
  s.event dt (Soc.watch (Soc.isaMin c st v))

/-- MAX (R270). -/
def execMax (dt : Nat) (c : Fin 4) (st : Fin 3) (v : Vote) (s : State) : Host.Outcome State Fault Refusal :=
  s.event dt (Soc.watch (Soc.isaMax c st v))

/-- MUL (R270). -/
def execMul (dt : Nat) (c : Fin 4) (st : Fin 3) (v : Vote) (s : State) : Host.Outcome State Fault Refusal :=
  s.event dt (Soc.watch (Soc.isaMul c st v))

/-- MAC (R266). -/
def execMac (dt : Nat) (c : Fin 4) (st : Fin 3) (v : Vote) (s : State) : Host.Outcome State Fault Refusal :=
  s.event dt (Soc.watch (Soc.isaMac c st v))

/-- MSU (R266). -/
def execMsu (dt : Nat) (c : Fin 4) (st : Fin 3) (v : Vote) (s : State) : Host.Outcome State Fault Refusal :=
  s.event dt (Soc.watch (Soc.isaMsu c st v))

/-- ACLR (R270). -/
def execAclr (dt : Nat) (c : Fin 4) (st : Fin 3) (v : Vote) (s : State) : Host.Outcome State Fault Refusal :=
  s.event dt (Soc.watch (Soc.isaAclr c st v))

/-- RND (R270). -/
def execRnd (dt : Nat) (c : Fin 4) (st : Fin 3) (v : Vote) (s : State) : Host.Outcome State Fault Refusal :=
  s.event dt (Soc.watch (Soc.isaRnd c st v))

/-- ASH (R270). -/
def execAsh (dt : Nat) (c : Fin 4) (st : Fin 3) (v : Vote) (s : State) : Host.Outcome State Fault Refusal :=
  s.event dt (Soc.watch (Soc.isaAsh c st v))

/-- LD (R271). -/
def execLd (dt : Nat) (c : Fin 4) (st : Fin 3) (v : Vote) (s : State) : Host.Outcome State Fault Refusal :=
  s.event dt (Soc.watch (Soc.isaLd c st v))

/-- ST (R271). -/
def execSt (dt : Nat) (c : Fin 4) (st : Fin 3) (v : Vote) (s : State) : Host.Outcome State Fault Refusal :=
  s.event dt (Soc.watch (Soc.isaSt c st v))

/-- LDA (R271). -/
def execLda (dt : Nat) (c : Fin 4) (st : Fin 3) (v : Vote) (s : State) : Host.Outcome State Fault Refusal :=
  s.event dt (Soc.watch (Soc.isaLda c st v))

/-- STA (R271). -/
def execSta (dt : Nat) (c : Fin 4) (st : Fin 3) (v : Vote) (s : State) : Host.Outcome State Fault Refusal :=
  s.event dt (Soc.watch (Soc.isaSta c st v))

/-- BR (R273). -/
def execBr (dt : Nat) (c : Fin 4) (st : Fin 3) (v : Vote) (s : State) : Host.Outcome State Fault Refusal :=
  s.event dt (Soc.watch (Soc.isaBr c st v))

/-- LOOP (R273). -/
def execLoop (dt : Nat) (c : Fin 4) (st : Fin 3) (v : Vote) (s : State) : Host.Outcome State Fault Refusal :=
  s.event dt (Soc.watch (Soc.isaLoop c st v))

/-- STAGE (R268). -/
def execStage (dt : Nat) (c : Fin 4) (st : Fin 3) (v : Vote) (s : State) : Host.Outcome State Fault Refusal :=
  s.event dt (Soc.watch (Soc.isaStage c st v))

/-- END (R255). -/
def execJobEnd (dt : Nat) (c : Fin 4) (st : Fin 3) (v : Vote) (s : State) : Host.Outcome State Fault Refusal :=
  s.event dt (Soc.watch (Soc.isaEnd c st v))

/-- CLAMP_OP (R282). -/
def execClampOp (dt : Nat) (c : Fin 4) (st : Fin 3) (v : Vote) (s : State) : Host.Outcome State Fault Refusal :=
  s.event dt (Soc.watch (Soc.isaClamp c st v))

/-- SAT (R270). -/
def execSat (dt : Nat) (c : Fin 4) (st : Fin 3) (v : Vote) (s : State) : Host.Outcome State Fault Refusal :=
  s.event dt (Soc.watch (Soc.isaSat c st v))

/-- RAMP (R283). -/
def execRamp (dt : Nat) (c : Fin 4) (st : Fin 3) (v : Vote) (s : State) : Host.Outcome State Fault Refusal :=
  s.event dt (Soc.watch (Soc.isaRamp c st v))

/-- INTEG (R281). -/
def execInteg (dt : Nat) (c : Fin 4) (st : Fin 3) (v : Vote) (s : State) : Host.Outcome State Fault Refusal :=
  s.event dt (Soc.watch (Soc.isaInteg c st v))

/-- CLARKE (R275). -/
def execClarke (dt : Nat) (c : Fin 4) (st : Fin 3) (v : Vote) (s : State) : Host.Outcome State Fault Refusal :=
  s.event dt (Soc.watch (Soc.isaClarke c st v))

/-- PARK (R275). -/
def execPark (dt : Nat) (c : Fin 4) (st : Fin 3) (v : Vote) (s : State) : Host.Outcome State Fault Refusal :=
  s.event dt (Soc.watch (Soc.isaPark c st v))

/-- IPARK (R275). -/
def execIpark (dt : Nat) (c : Fin 4) (st : Fin 3) (v : Vote) (s : State) : Host.Outcome State Fault Refusal :=
  s.event dt (Soc.watch (Soc.isaIpark c st v))

/-- SINCOS (R276). -/
def execSincos (dt : Nat) (c : Fin 4) (st : Fin 3) (v : Vote) (s : State) : Host.Outcome State Fault Refusal :=
  s.event dt (Soc.watch (Soc.isaSincos c st v))

/-- SVM (R277). -/
def execSvm (dt : Nat) (c : Fin 4) (st : Fin 3) (v : Vote) (s : State) : Host.Outcome State Fault Refusal :=
  s.event dt (Soc.watch (Soc.isaSvm c st v))

/-- PSEL (R280). -/
def execPsel (dt : Nat) (c : Fin 4) (st : Fin 3) (v : Vote) (s : State) : Host.Outcome State Fault Refusal :=
  s.event dt (Soc.watch (Soc.isaPsel c st v))

/-- GTL (R278). -/
def execGtl (dt : Nat) (c : Fin 4) (st : Fin 3) (v : Vote) (s : State) : Host.Outcome State Fault Refusal :=
  s.event dt (Soc.watch (Soc.isaGtl c st v))

/-- TL1 (R279). -/
def execTl1 (dt : Nat) (c : Fin 4) (st : Fin 3) (v : Vote) (s : State) : Host.Outcome State Fault Refusal :=
  s.event dt (Soc.watch (Soc.isaTl1 c st v))

/-- TL2 (R279). -/
def execTl2 (dt : Nat) (c : Fin 4) (st : Fin 3) (v : Vote) (s : State) : Host.Outcome State Fault Refusal :=
  s.event dt (Soc.watch (Soc.isaTl2 c st v))

/-- OUT (R272). -/
def execOut (dt : Nat) (c : Fin 4) (st : Fin 3) (v : Vote) (s : State) : Host.Outcome State Fault Refusal :=
  s.event dt (Soc.watch (Soc.isaOut c st v))

/-- OUTC (R272). -/
def execOutc (dt : Nat) (c : Fin 4) (st : Fin 3) (v : Vote) (s : State) : Host.Outcome State Fault Refusal :=
  s.event dt (Soc.watch (Soc.isaOutc c st v))

/-- RESERVED_OPCODE (R264). -/
def execReservedOpcode (dt : Nat) (c : Fin 4) (st : Fin 3) (v : Vote) (s : State) : Host.Outcome State Fault Refusal :=
  s.event dt (Soc.watch (Soc.isaReserved c st v))

/-- RUN_WRITE (R262). -/
def execRunWrite (x : BitVec 6) (run : Bool) (s : State) : Host.Outcome State Fault Refusal :=
  s.host (Soc.watch (Soc.cmdReg (pgCTX + 0x104 + 32 * x.toNat) (Dev.runWrite x.toNat run)))

/-- RAMP_RESTART (R283). -/
def execRampRestart (x : BitVec 6) (s : State) : Host.Outcome State Fault Refusal :=
  s.host (Soc.cmdReg (pgCTX + 0x104 + 32 * x.toNat) (Dev.rampRestart x.toNat))

/-- CONTEXT_MEMORY_WRITE (R259). -/
def execContextMemoryWrite (at_ : HostAddr) (be : BitVec 4) (w : Word) (s : State) : Host.Outcome State Fault Refusal :=
  s.host (Soc.writeOne at_ be w)

/-- CTX_CNT_CLR (R288). -/
def execCtxCntClr (all : Bool) (x : BitVec 6) (s : State) : Host.Outcome State Fault Refusal :=
  s.host (Soc.cmdReg (pgCTX + 0x58) (Dev.ctxCntClr all x))

/-- CLU_CNT_CLR (R287). -/
def execCluCntClr (c : Fin 4) (s : State) : Host.Outcome State Fault Refusal :=
  s.host (Soc.cmdReg (pgCLU c + 0x70) (Dev.cluCntClr c))

end Sys2Proof.Machine
end

