-- ==== Sys2Proof/Machine/PositionRows.lean ====
section
/-! DEFINITION. Meanings of the rows of position and speed feedback (R94 to R122). -/

namespace Sys2Proof.Machine

/-- QUADRATURE_COUNT (R94). -/
def execQuadratureCount (dt : Nat) (n : Fin 8) (a b : Bool) (s : State) : Host.Outcome State Fault Refusal :=
  s.event dt (Soc.on (Dev.quadratureSample n a b))

/-- HALL_SECTOR_CHANGE (R97). -/
def execHallSectorChange (dt : Nat) (n : Fin 8) (u v w : Bool) (s : State) : Host.Outcome State Fault Refusal :=
  s.event dt (Soc.on (Dev.hallSample n u v w))

/-- INDEX_EVENT (R101). -/
def execIndexEvent (dt : Nat) (n : Fin 8) (s : State) : Host.Outcome State Fault Refusal :=
  s.event dt (Soc.on (Dev.indexEvent n))

/-- SET_COUNT (R99). -/
def execSetCount (n : Fin 8) (w : Word) (s : State) : Host.Outcome State Fault Refusal :=
  s.host (Soc.cmdReg (pgPOS n + 0x60) (Dev.setCount n w))

/-- WINDOW (R105). -/
def execWindow (dt : Nat) (n : Fin 8) (s : State) : Host.Outcome State Fault Refusal :=
  s.event dt (Soc.on (Dev.posWindow n))

/-- SNAP_TAKE (R107). -/
def execSnapTake (n : Fin 8) (s : State) : Host.Outcome State Fault Refusal :=
  s.host (Soc.cmdReg (pgPOS n + 0xA0) (Dev.snapTake n))

/-- PROBE_EDGE (R108). -/
def execProbeEdge (dt : Nat) (n : Fin 8) (rising : Bool) (s : State) : Host.Outcome State Fault Refusal :=
  s.event dt (Soc.on (Dev.probeEdge n rising))

/-- PRB_CFG_WRITE (R109). -/
def execPrbCfgWrite (n : Fin 8) (w : Word) (s : State) : Host.Outcome State Fault Refusal :=
  s.host (Soc.cmdReg (pgPOS n + 0x80) (Dev.prbCfgWrite n w))

/-- PRB_REARM (R109). -/
def execPrbRearm (n : Fin 8) (w : Word) (s : State) : Host.Outcome State Fault Refusal :=
  s.host (Soc.cmdReg (pgPOS n + 0x9C) (Dev.prbRearm n w))

/-- ILL_CNT_CLR (R122). -/
def execIllCntClr (n : Fin 8) (s : State) : Host.Outcome State Fault Refusal :=
  s.host (Soc.cmdReg (pgPOS n + 0x70) (Dev.illCntClr n))

/-- IDX_STAT_CLR (R122). -/
def execIdxStatClr (n : Fin 8) (s : State) : Host.Outcome State Fault Refusal :=
  s.host (Soc.cmdReg (pgPOS n + 0x7C) (Dev.idxStatClr n))

/-- RESOLVER_SAMPLE (R112). -/
def execResolverSample (dt : Nat) (n : Fin 4) (s : State) : Host.Outcome State Fault Refusal :=
  s.event dt (Soc.on (Dev.resolverSample n))

/-- SSI_REQUEST (R114). -/
def execSsiRequest (dt : Nat) (n : Fin 4) (dat : Bool) (s : State) : Host.Outcome State Fault Refusal :=
  s.event dt (Soc.on (Dev.ssiRequest n dat))

/-- SSI_FRAME (R115). -/
def execSsiFrame (dt : Nat) (n : Fin 4) (w : Word) (s : State) : Host.Outcome State Fault Refusal :=
  s.event dt (Soc.on (Dev.ssiFrame n w))

/-- SSI_TIMEOUT (R114). -/
def execSsiTimeout (dt : Nat) (n : Fin 4) (s : State) : Host.Outcome State Fault Refusal :=
  s.event dt (Soc.on (Dev.ssiTimeout n))

/-- EMU_STEP (R118). -/
def execEmuStep (dt : Nat) (m : Fin 4) (s : State) : Host.Outcome State Fault Refusal :=
  s.event dt (Soc.on (Dev.emuStep m))

end Sys2Proof.Machine
end

