-- ==== Sys2Proof/Machine/RedundantRows.lean ====
section
/-! DEFINITION. Meanings of the rows of redundant execution (R349 to R376). -/

namespace Sys2Proof.Machine

/-- MM_CLR (R354). -/
def execMmClr (c : Fin 4) (s : State) : Host.Outcome State Fault Refusal :=
  s.host (Soc.watch (Soc.cmdReg (pgCLU c + 0x94) (Dev.mmClr c)))

/-- RECOVERY_END (R354). -/
def execRecoveryEnd (dt : Nat) (c : Fin 4) (s : State) : Host.Outcome State Fault Refusal :=
  s.event dt (Soc.watch (Soc.recoveryEnd c))

/-- MODE_REQ (R362). -/
def execModeReq (c : Fin 4) (to_ when : BitVec 2) (stage : BitVec 4) (s : State) : Host.Outcome State Fault Refusal :=
  s.host (Soc.watch (Soc.atReg (pgCLU c + 0x80) (Soc.modeReq c to_ when stage)))

/-- MODE_CHECK_DONE (R363). -/
def execModeCheckDone (dt : Nat) (c : Fin 4) (s : State) : Host.Outcome State Fault Refusal :=
  s.event dt (Soc.watch (Soc.on (Dev.modeCheckDone c)))

/-- MODE_BOUNDARY (R364). -/
def execModeBoundary (dt : Nat) (c : Fin 4) (s : State) : Host.Outcome State Fault Refusal :=
  s.event dt (Soc.watch (Soc.on (Dev.modeBoundary c)))

/-- MODE_HANDOVER (R364). -/
def execModeHandover (dt : Nat) (c : Fin 4) (s : State) : Host.Outcome State Fault Refusal :=
  s.event dt (Soc.watch (Soc.modeHandover c))

/-- EXCHANGE_POINT (R366). -/
def execExchangePoint (dt : Nat) (c : Fin 4) (bad : List (BitVec 16)) (s : State) : Host.Outcome State Fault Refusal :=
  s.event dt (Soc.watch (Soc.on (Dev.exchangePoint c (bad.map (fun x => x.toNat)))))

/-- CTEST (R369). -/
def execCtest (dt : Nat) (c : Fin 4) (pass : Bool) (s : State) : Host.Outcome State Fault Refusal :=
  s.event dt (Soc.watch (Soc.on (Dev.cTest c pass)))

end Sys2Proof.Machine
end

