-- ==== Sys2Proof/Machine/StageRows.lean ====
section
/-! DEFINITION. Meanings of the rows of stage timebases, legs and current measurement (R150 to R177, R230 to R246). -/

namespace Sys2Proof.Machine

/-- ZERO_EVENT (R150). -/
def execZeroEvent (dt : Nat) (k : Fin 16) (s : State) : Host.Outcome State Fault Refusal :=
  s.event dt (Soc.on (Dev.zeroEvent k))

/-- PERIOD_EVENT (R150). -/
def execPeriodEvent (dt : Nat) (k : Fin 16) (s : State) : Host.Outcome State Fault Refusal :=
  s.event dt (Soc.on (Dev.periodEvent k))

/-- STAGE_COMPARE_EVENT (R164). -/
def execStageCompareEvent (dt : Nat) (k : Fin 16) (j : Fin 4) (s : State) : Host.Outcome State Fault Refusal :=
  s.event dt (Soc.on (Dev.stageCompare k j))

/-- SYNC_START (R153). -/
def execSyncStart (dt : Nat) (k : Fin 16) (s : State) : Host.Outcome State Fault Refusal :=
  s.event dt (Soc.on (Dev.stageSync k))

/-- LEG_EDGE (R159). -/
def execLegEdge (dt : Nat) (n : Fin 64) (s : State) : Host.Outcome State Fault Refusal :=
  s.event dt (Soc.on (Dev.legEdge n))

/-- TURN_ON (R170). -/
def execTurnOn (dt : Nat) (n : Fin 64) (high : Bool) (s : State) : Host.Outcome State Fault Refusal :=
  s.event dt (Soc.watch (Soc.on (Dev.turnOn n high)))

/-- MIN_O_EXPIRY (R173). -/
def execMinOExpiry (dt : Nat) (n : Fin 64) (s : State) : Host.Outcome State Fault Refusal :=
  s.event dt (Soc.on (Dev.minOExpiry n))

/-- OFF_GAP_EXPIRY (R173). -/
def execOffGapExpiry (dt : Nat) (n : Fin 64) (s : State) : Host.Outcome State Fault Refusal :=
  s.event dt (Soc.on (Dev.offGapExpiry n))

/-- DEBUG_HALT (R368). -/
def execDebugHalt (dt : Nat) (c : Fin 4) (st : Fin 3) (s : State) : Host.Outcome State Fault Refusal :=
  s.event dt (Soc.watch (Soc.on (Dev.debugHalt c st)))

/-- FREEZE_END (R155). -/
def execFreezeEnd (dt : Nat) (s : State) : Host.Outcome State Fault Refusal := s.event dt (Soc.on Dev.freezeEnd)

/-- STG_CNT_CLR (R176). -/
def execStgCntClr (k : Fin 16) (s : State) : Host.Outcome State Fault Refusal :=
  s.host (Soc.cmdReg (pgSTG k + 0x78) (Dev.stgCntClr k))

/-- LEG_CNT_CLR (R177). -/
def execLegCntClr (n : Fin 64) (s : State) : Host.Outcome State Fault Refusal :=
  s.host (Soc.cmdReg (pgLEG n + 0x6C) (Dev.legCntClr n))

/-- RECON_TRIGGER (R237). -/
def execReconTrigger (dt : Nat) (k : Fin 16) (second : Bool) (s : State) : Host.Outcome State Fault Refusal :=
  s.event dt (Soc.on (Dev.reconTrigger k second))

/-- CM_PUBLISH (R238). -/
def execCmPublish (dt : Nat) (k : Fin 16) (s : State) : Host.Outcome State Fault Refusal :=
  s.event dt (Soc.watch (Soc.on (Dev.cmPublish k)))

/-- INLINE_PUBLISH (R241). -/
def execInlinePublish (dt : Nat) (k : Fin 16) (s : State) : Host.Outcome State Fault Refusal :=
  s.event dt (Soc.watch (Soc.on (Dev.inlineSet k)))

/-- CM_CNT_CLR (R246). -/
def execCmCntClr (k : Fin 16) (s : State) : Host.Outcome State Fault Refusal :=
  s.host (Soc.cmdReg (pgSTG k + 0x240) (Dev.cmCntClr k))

end Sys2Proof.Machine
end

