-- ==== Sys2Proof/Machine/ThermalRows.lean ====
section
/-! DEFINITION. Meanings of the rows of thermal models and the housekeeping round (R334 to R348). -/

namespace Sys2Proof.Machine

/-- HK_ROUND_START (R334). -/
def execHkRoundStart (dt : Nat) (s : State) : Host.Outcome State Fault Refusal := s.event dt (Soc.on Dev.hkRoundStart)

/-- HK_ROUND_COMPLETE (R335). -/
def execHkRoundComplete (dt : Nat) (s : State) : Host.Outcome State Fault Refusal :=
  s.event dt (Soc.watch (Soc.on Dev.hkRoundComplete))

/-- THM_MODEL_UPDATE (R337). -/
def execThmModelUpdate (dt : Nat) (pdie : Word) (s : State) : Host.Outcome State Fault Refusal :=
  s.event dt (Soc.watch (Soc.on (Dev.modelUpdate pdie)))

/-- LIMIT_RAMP (R343). -/
def execLimitRamp (dt : Nat) (s : State) : Host.Outcome State Fault Refusal := s.event dt Soc.limitRamp

end Sys2Proof.Machine
end

