-- ==== Sys2Proof/Machine/TripRows.lean ====
section
/-! DEFINITION. Meanings of the rows of trips, interlocks and comparator tests (R178 to R201). -/

namespace Sys2Proof.Machine

/-- TRIP_SOURCE_ACTIVE (R182). -/
def execTripSourceActive (dt : Nat) (j : Fin 168) (x : Int) (held : Nat) (s : State) : Host.Outcome State Fault Refusal :=
  s.event dt (Soc.watch (Soc.on (Dev.tripSourceActive j x held)))

/-- TRIP_SOURCE_INACTIVE (R187). -/
def execTripSourceInactive (dt : Nat) (j : Fin 168) (x : Int) (held : Nat) (s : State) : Host.Outcome State Fault Refusal :=
  s.event dt (Soc.watch (Soc.on (Dev.tripSourceInactive j x held)))

/-- TRIP_RELEASE (R189). -/
def execTripRelease (dt : Nat) (k : Fin 16) (s : State) : Host.Outcome State Fault Refusal :=
  s.event dt (Soc.watch (Soc.on (Dev.tripRelease k)))

/-- FLAG_CLEAR (R188). -/
def execFlagClear (j : Fin 6) (mask : Word) (s : State) : Host.Outcome State Fault Refusal :=
  s.host (Soc.watch (Soc.cmdReg (pgTRIP + 0xC0 + 4 * j.val) (Dev.flagClear j mask)))

/-- TRIP_REQ (R178). -/
def execTripReq (sel : BitVec 2) (stages : BitVec 16) (s : State) : Host.Outcome State Fault Refusal :=
  s.host (Soc.watch (Soc.cmdReg (pgTRIP + 0x98) (Dev.tripReq sel stages)))

/-- INTLK_CLR (R193). -/
def execIntlkClr (n : Fin 64) (s : State) : Host.Outcome State Fault Refusal :=
  s.host (Soc.watch (Soc.cmdReg (pgTRIP + 0xEC) (Dev.intlkClr n)))

/-- CRC_CHECK (R194). -/
def execCrcCheck (dt : Nat) (s : State) : Host.Outcome State Fault Refusal :=
  s.event dt (Soc.watch (Soc.on Dev.crcCheck))

/-- COMPARATOR_TEST_START (R195). -/
def execComparatorTestStart (dt : Nat) (b : Fin 4) (s : State) : Host.Outcome State Fault Refusal :=
  s.event dt (Soc.watch (Soc.on (Dev.cmpTestStart b)))

/-- COMPARATOR_TEST_STEP (R195). -/
def execComparatorTestStep (dt : Nat) (b : Fin 4) (s : State) : Host.Outcome State Fault Refusal :=
  s.event dt (Soc.watch (Soc.on (Dev.cmpTestStep b)))

/-- COMPARATOR_TEST_VERDICT (R196). -/
def execComparatorTestVerdict (dt : Nat) (b : Fin 4) (spare comp : BitVec 4) (s : State) : Host.Outcome State Fault Refusal :=
  s.event dt (Soc.watch (Soc.on (Dev.cmpVerdict b spare comp)))

end Sys2Proof.Machine
end

