-- ==== Sys2Proof/Machine/VernierRows.lean ====
section
/-! DEFINITION. Meanings of the rows of the Vernier link and array operation (R478 to R503). -/

namespace Sys2Proof.Machine

/-- PORT_LOSS (R481). -/
def execPortLoss (dt : Nat) (p : Fin 2) (s : State) : Host.Outcome State Fault Refusal :=
  s.event dt (Soc.watch (Soc.unfrozen (pgVLK p) (Soc.on (Dev.portLoss p))))

/-- COMMA_ALIGNMENT (R481). -/
def execCommaAlignment (dt : Nat) (p : Fin 2) (s : State) : Host.Outcome State Fault Refusal :=
  s.event dt (Soc.watch (Soc.unfrozen (pgVLK p) (Soc.on (Dev.commaAlignment p))))

/-- PORT_UP (R481). -/
def execPortUp (dt : Nat) (p : Fin 2) (s : State) : Host.Outcome State Fault Refusal :=
  s.event dt (Soc.watch (Soc.unfrozen (pgVLK p) (Soc.on (Dev.portUp p))))

/-- PORT_DEGRADED (R481). -/
def execPortDegraded (dt : Nat) (p : Fin 2) (s : State) : Host.Outcome State Fault Refusal :=
  s.event dt (Soc.watch (Soc.unfrozen (pgVLK p) (Soc.on (Dev.portDegraded p))))

/-- PORT_RECOVERED (R481). -/
def execPortRecovered (dt : Nat) (p : Fin 2) (s : State) : Host.Outcome State Fault Refusal :=
  s.event dt (Soc.watch (Soc.unfrozen (pgVLK p) (Soc.on (Dev.portRecovered p))))

/-- ENUM (R482). -/
def execEnum (s : State) : Host.Outcome State Fault Refusal :=
  s.host (Soc.cmdReg (pgVLK 0 + 0x120) (fun d => d.arrayWrite (arrayWord 3 0 false)))

/-- ENUM_FRAME (R482). -/
def execEnumFrame (dt : Nat) (h : VHdr) (ids : List (BitVec 5)) (s : State) : Host.Outcome State Fault Refusal :=
  s.event dt (Soc.watch (Soc.unfrozen (pgVLK 0) (Soc.on (Dev.enumFrame h ids))))

/-- PREPARE (R495). -/
def execPrepare (btype : Bool) (stage : BitVec 4) (s : State) : Host.Outcome State Fault Refusal :=
  s.host (Soc.watch (Soc.cmdReg (pgVLK 0 + 0x120) (fun d => d.arrayWrite (arrayWord 1 stage btype))))

/-- ARRAY_ABORT (R497). -/
def execArrayAbort (s : State) : Host.Outcome State Fault Refusal :=
  s.host (Soc.watch (Soc.cmdReg (pgVLK 0 + 0x120) (fun d => d.arrayWrite (arrayWord 2 0 false))))

/-- SYNC_SEND (R487). -/
def execSyncSend (dt : Nat) (s : State) : Host.Outcome State Fault Refusal := s.event dt (Soc.unfrozen (pgVLK 0) (Soc.on Dev.syncSend))

/-- SYNC_RECEIVED (R487). -/
def execSyncReceived (dt : Nat) (h : VHdr) (tM : BitVec 64) (corr : Word) (frac : BitVec 12) (residence : Word) (s : State) : Host.Outcome State Fault Refusal :=
  s.event dt (Soc.watch (Soc.unfrozen (pgVLK 0) (Soc.on (Dev.syncReceived h tM corr frac residence))))

/-- DELAY_REQ_SEND (R486). -/
def execDelayReqSend (dt : Nat) (frac : Vector (BitVec 5) 2) (s : State) : Host.Outcome State Fault Refusal :=
  s.event dt (Soc.unfrozen (pgVLK 0) (Soc.on (Dev.delayReqSend frac)))

/-- DELAY_REQ (R486). -/
def execDelayReq (dt : Nat) (h : VHdr) (turnaround : Word) (s : State) : Host.Outcome State Fault Refusal :=
  s.event dt (Soc.unfrozen (pgVLK 0) (Soc.on (Dev.delayReq h turnaround)))

/-- DELAY_RESP (R486). -/
def execDelayResp (dt : Nat) (h : VHdr) (turnaround : Word) (frac : BitVec 5) (s : State) : Host.Outcome State Fault Refusal :=
  s.event dt (Soc.unfrozen (pgVLK 0) (Soc.on (Dev.delayResp h turnaround frac)))

/-- MAILBOX (R493). -/
def execMailbox (dt : Nat) (h : VHdr) (home ctx loop : Byte) (words : Vector Half 8) (s : State) : Host.Outcome State Fault Refusal :=
  s.event dt (Soc.unfrozen (pgVLK 0) (Soc.on (Dev.mailboxFrame h home ctx loop words)))

/-- CONTEXT (R493). -/
def execContext (dt : Nat) (h : VHdr) (seg : List Byte) (s : State) : Host.Outcome State Fault Refusal :=
  s.event dt (Soc.unfrozen (pgVLK 0) (Soc.on (Dev.contextFrame h seg)))

/-- PREPARE_FRAME (R496). -/
def execPrepareFrame (dt : Nat) (h : VHdr) (txn : Byte) (btype : Bool) (stage : BitVec 4) (bound : BitVec 64) (parts : Word) (s : State) : Host.Outcome State Fault Refusal :=
  s.event dt (Soc.watch (Soc.unfrozen (pgVLK 0) (Soc.on (Dev.prepareFrame h txn btype stage bound parts))))

/-- COMMIT_FRAME (R497). -/
def execCommitFrame (dt : Nat) (h : VHdr) (txn : Byte) (s : State) : Host.Outcome State Fault Refusal :=
  s.event dt (Soc.watch (Soc.unfrozen (pgVLK 0) (Soc.on (Dev.commitFrame h txn))))

/-- ABORT_FRAME (R497). -/
def execAbortFrame (dt : Nat) (h : VHdr) (txn : Byte) (s : State) : Host.Outcome State Fault Refusal :=
  s.event dt (Soc.watch (Soc.unfrozen (pgVLK 0) (Soc.on (Dev.abortFrame h txn))))

/-- HOLD_FRAME (R498). -/
def execHoldFrame (dt : Nat) (h : VHdr) (txn : Byte) (s : State) : Host.Outcome State Fault Refusal :=
  s.event dt (Soc.watch (Soc.unfrozen (pgVLK 0) (Soc.on (Dev.holdFrame h txn))))

/-- READY (R497). -/
def execReady (dt : Nat) (h : VHdr) (txn : Byte) (s : State) : Host.Outcome State Fault Refusal :=
  s.event dt (Soc.watch (Soc.unfrozen (pgVLK 0) (Soc.on (Dev.readyAck h txn))))

/-- REFUSE (R497). -/
def execRefuse (dt : Nat) (h : VHdr) (txn : Byte) (code : Half) (s : State) : Host.Outcome State Fault Refusal :=
  s.event dt (Soc.watch (Soc.unfrozen (pgVLK 0) (Soc.on (Dev.refuseAck h txn code))))

/-- APPLIED (R498). -/
def execApplied (dt : Nat) (h : VHdr) (txn : Byte) (s : State) : Host.Outcome State Fault Refusal :=
  s.event dt (Soc.watch (Soc.unfrozen (pgVLK 0) (Soc.on (Dev.appliedAck h txn))))

/-- NOT_APPLIED (R498). -/
def execNotApplied (dt : Nat) (h : VHdr) (txn : Byte) (s : State) : Host.Outcome State Fault Refusal :=
  s.event dt (Soc.watch (Soc.unfrozen (pgVLK 0) (Soc.on (Dev.notAppliedAck h txn))))

/-- NAK (R499). -/
def execNak (dt : Nat) (h : VHdr) (code : Half) (s : State) : Host.Outcome State Fault Refusal :=
  s.event dt (Soc.unfrozen (pgVLK 0) (Soc.on (Dev.nakFrame h code)))

/-- ISOLATED (R491). -/
def execIsolated (dt : Nat) (s : State) : Host.Outcome State Fault Refusal :=
  s.event dt (Soc.watch (Soc.unfrozen (pgVLK 0) (Soc.on Dev.isolated)))

/-- VOTE_TIMEOUT (R497). -/
def execVoteTimeout (dt : Nat) (s : State) : Host.Outcome State Fault Refusal :=
  s.event dt (Soc.watch (Soc.unfrozen (pgVLK 0) (Soc.on Dev.voteTimeout)))

/-- ARRAY_BOUNDARY (R497). -/
def execArrayBoundary (dt : Nat) (s : State) : Host.Outcome State Fault Refusal :=
  s.event dt (Soc.watch (Soc.unfrozen (pgVLK 0) (Soc.on Dev.arrayBoundary)))

/-- ACK_TIMEOUT (R498). -/
def execAckTimeout (dt : Nat) (s : State) : Host.Outcome State Fault Refusal :=
  s.event dt (Soc.watch (Soc.unfrozen (pgVLK 0) (Soc.on Dev.ackTimeout)))

/-- HOLD_CLR (R498). -/
def execHoldClr (s : State) : Host.Outcome State Fault Refusal :=
  s.host (Soc.watch (Soc.cmdReg (pgVLK 0 + 0x144) Dev.holdClr))

/-- PLACE (R492). -/
def execPlace (ctx : BitVec 6) (target : BitVec 5) (s : State) : Host.Outcome State Fault Refusal :=
  s.host (Soc.cmdReg (pgVLK 0 + 0x148) (Dev.place ctx target))

/-- PLACE_DONE (R493). -/
def execPlaceDone (dt : Nat) (accept : Bool) (s : State) : Host.Outcome State Fault Refusal :=
  s.event dt (Soc.unfrozen (pgVLK 0) (Soc.placeDone accept))

/-- GUEST_LOST (R494). -/
def execGuestLost (dt : Nat) (ctx : BitVec 6) (s : State) : Host.Outcome State Fault Refusal :=
  s.event dt (Soc.unfrozen (pgVLK 0) (Soc.on (Dev.guestLost ctx)))

/-- VLK_CNT_CLR (R503). -/
def execVlkCntClr (p : Fin 2) (s : State) : Host.Outcome State Fault Refusal :=
  s.host (Soc.cmdReg (pgVLK p + 0x50) (Dev.vlkCntClr p))

end Sys2Proof.Machine
end

