-- ==== Sys2Proof/Machine/Dispatch.lean ====
section
/-! DEFINITION. The command a step runs: one arm per row of the opcode table. -/

namespace Sys2Proof.Machine

def exec (i : Instr) (s : State) : Host.Outcome State Fault Refusal :=
  match i with
  | .registerWrite at_ be w => Sys2Proof.Machine.execRegisterWrite at_ be w s
  | .unmappedAccess at_ wr => Sys2Proof.Machine.execUnmappedAccess at_ wr s
  | .enableWrite f => Sys2Proof.Machine.execEnableWrite f s
  | .disableWrite f => Sys2Proof.Machine.execDisableWrite f s
  | .irqFlagClear p mask again => Sys2Proof.Machine.execIrqFlagClear p mask again s
  | .irqForce p mask => Sys2Proof.Machine.execIrqForce p mask s
  | .irqEnWrite p w => Sys2Proof.Machine.execIrqEnWrite p w s
  | .errcodeClr p again => Sys2Proof.Machine.execErrcodeClr p again s
  | .lockSet p => Sys2Proof.Machine.execLockSet p s
  | .commitReq p when => Sys2Proof.Machine.execCommitReq p when s
  | .commitLoad dt g => Sys2Proof.Machine.execCommitLoad dt g s
  | .pairingWindowClose dt => Sys2Proof.Machine.execPairingWindowClose dt s
  | .check => Sys2Proof.Machine.execCheck s
  | .admitSet => Sys2Proof.Machine.execAdmitSet s
  | .release => Sys2Proof.Machine.execRelease s
  | .admCmdReserved code => Sys2Proof.Machine.execAdmCmdReserved code s
  | .admissionComplete dt => Sys2Proof.Machine.execAdmissionComplete dt s
  | .sliceTime0 dt c recovery => Sys2Proof.Machine.execSliceTime0 dt c recovery s
  | .sliceSkip dt c => Sys2Proof.Machine.execSliceSkip dt c s
  | .sliceBistEntry dt c => Sys2Proof.Machine.execSliceBistEntry dt c s
  | .sliceEnd dt c sig pass => Sys2Proof.Machine.execSliceEnd dt c sig pass s
  | .sliceHandback dt c => Sys2Proof.Machine.execSliceHandback dt c s
  | .backgroundPromotion dt id => Sys2Proof.Machine.execBackgroundPromotion dt id s
  | .quadratureCount dt n a b => Sys2Proof.Machine.execQuadratureCount dt n a b s
  | .hallSectorChange dt n u v w => Sys2Proof.Machine.execHallSectorChange dt n u v w s
  | .indexEvent dt n => Sys2Proof.Machine.execIndexEvent dt n s
  | .setCount n w => Sys2Proof.Machine.execSetCount n w s
  | .window dt n => Sys2Proof.Machine.execWindow dt n s
  | .snapTake n => Sys2Proof.Machine.execSnapTake n s
  | .probeEdge dt n rising => Sys2Proof.Machine.execProbeEdge dt n rising s
  | .prbCfgWrite n w => Sys2Proof.Machine.execPrbCfgWrite n w s
  | .prbRearm n w => Sys2Proof.Machine.execPrbRearm n w s
  | .illCntClr n => Sys2Proof.Machine.execIllCntClr n s
  | .idxStatClr n => Sys2Proof.Machine.execIdxStatClr n s
  | .resolverSample dt n => Sys2Proof.Machine.execResolverSample dt n s
  | .ssiRequest dt n dat => Sys2Proof.Machine.execSsiRequest dt n dat s
  | .ssiFrame dt n w => Sys2Proof.Machine.execSsiFrame dt n w s
  | .ssiTimeout dt n => Sys2Proof.Machine.execSsiTimeout dt n s
  | .emuStep dt m => Sys2Proof.Machine.execEmuStep dt m s
  | .entryFire dt k => Sys2Proof.Machine.execEntryFire dt k s
  | .ephLoad k chart => Sys2Proof.Machine.execEphLoad k chart s
  | .ephValidateInPlace k count => Sys2Proof.Machine.execEphValidateInPlace k count s
  | .loadDone dt k => Sys2Proof.Machine.execLoadDone dt k s
  | .ephWindowWrite j whole w => Sys2Proof.Machine.execEphWindowWrite j whole w s
  | .switched dt k => Sys2Proof.Machine.execSwitched dt k s
  | .fallback dt k => Sys2Proof.Machine.execFallback dt k s
  | .returnRun dt k => Sys2Proof.Machine.execReturnRun dt k s
  | .ephCntClr k => Sys2Proof.Machine.execEphCntClr k s
  | .zeroEvent dt k => Sys2Proof.Machine.execZeroEvent dt k s
  | .periodEvent dt k => Sys2Proof.Machine.execPeriodEvent dt k s
  | .stageCompareEvent dt k j => Sys2Proof.Machine.execStageCompareEvent dt k j s
  | .syncStart dt k => Sys2Proof.Machine.execSyncStart dt k s
  | .legEdge dt n => Sys2Proof.Machine.execLegEdge dt n s
  | .turnOn dt n high => Sys2Proof.Machine.execTurnOn dt n high s
  | .minOExpiry dt n => Sys2Proof.Machine.execMinOExpiry dt n s
  | .offGapExpiry dt n => Sys2Proof.Machine.execOffGapExpiry dt n s
  | .debugHalt dt c st => Sys2Proof.Machine.execDebugHalt dt c st s
  | .freezeEnd dt => Sys2Proof.Machine.execFreezeEnd dt s
  | .stgCntClr k => Sys2Proof.Machine.execStgCntClr k s
  | .legCntClr n => Sys2Proof.Machine.execLegCntClr n s
  | .reconTrigger dt k second => Sys2Proof.Machine.execReconTrigger dt k second s
  | .cmPublish dt k => Sys2Proof.Machine.execCmPublish dt k s
  | .inlinePublish dt k => Sys2Proof.Machine.execInlinePublish dt k s
  | .cmCntClr k => Sys2Proof.Machine.execCmCntClr k s
  | .injRequest dt b r => Sys2Proof.Machine.execInjRequest dt b r s
  | .conversionStart dt b cv => Sys2Proof.Machine.execConversionStart dt b cv s
  | .conversionResult dt b cv x => Sys2Proof.Machine.execConversionResult dt b cv x s
  | .calGo b mask => Sys2Proof.Machine.execCalGo b mask s
  | .calStart dt b => Sys2Proof.Machine.execCalStart dt b s
  | .calDone dt b => Sys2Proof.Machine.execCalDone dt b s
  | .clamp dt b p => Sys2Proof.Machine.execClamp dt b p s
  | .slotWrite b j w => Sys2Proof.Machine.execSlotWrite b j w s
  | .adcCntClr b => Sys2Proof.Machine.execAdcCntClr b s
  | .sdiWord dt n => Sys2Proof.Machine.execSdiWord dt n s
  | .oc dt n first second => Sys2Proof.Machine.execOc dt n first second s
  | .stuck dt n => Sys2Proof.Machine.execStuck dt n s
  | .clkLoss dt n => Sys2Proof.Machine.execClkLoss dt n s
  | .sdiErrClr n => Sys2Proof.Machine.execSdiErrClr n s
  | .tripSourceActive dt j x held => Sys2Proof.Machine.execTripSourceActive dt j x held s
  | .tripSourceInactive dt j x held => Sys2Proof.Machine.execTripSourceInactive dt j x held s
  | .tripRelease dt k => Sys2Proof.Machine.execTripRelease dt k s
  | .flagClear j mask => Sys2Proof.Machine.execFlagClear j mask s
  | .tripReq sel stages => Sys2Proof.Machine.execTripReq sel stages s
  | .intlkClr n => Sys2Proof.Machine.execIntlkClr n s
  | .crcCheck dt => Sys2Proof.Machine.execCrcCheck dt s
  | .comparatorTestStart dt b => Sys2Proof.Machine.execComparatorTestStart dt b s
  | .comparatorTestStep dt b => Sys2Proof.Machine.execComparatorTestStep dt b s
  | .comparatorTestVerdict dt b spare comp => Sys2Proof.Machine.execComparatorTestVerdict dt b spare comp s
  | .jobRelease dt => Sys2Proof.Machine.execJobRelease dt s
  | .dispatch dt c st => Sys2Proof.Machine.execDispatch dt c st s
  | .nop dt c st v => Sys2Proof.Machine.execNop dt c st v s
  | .ldi dt c st v => Sys2Proof.Machine.execLdi dt c st v s
  | .mov dt c st v => Sys2Proof.Machine.execMov dt c st v s
  | .add dt c st v => Sys2Proof.Machine.execAdd dt c st v s
  | .sub dt c st v => Sys2Proof.Machine.execSub dt c st v s
  | .neg dt c st v => Sys2Proof.Machine.execNeg dt c st v s
  | .abs dt c st v => Sys2Proof.Machine.execAbs dt c st v s
  | .min dt c st v => Sys2Proof.Machine.execMin dt c st v s
  | .max dt c st v => Sys2Proof.Machine.execMax dt c st v s
  | .mul dt c st v => Sys2Proof.Machine.execMul dt c st v s
  | .mac dt c st v => Sys2Proof.Machine.execMac dt c st v s
  | .msu dt c st v => Sys2Proof.Machine.execMsu dt c st v s
  | .aclr dt c st v => Sys2Proof.Machine.execAclr dt c st v s
  | .rnd dt c st v => Sys2Proof.Machine.execRnd dt c st v s
  | .ash dt c st v => Sys2Proof.Machine.execAsh dt c st v s
  | .ld dt c st v => Sys2Proof.Machine.execLd dt c st v s
  | .st dt c st v => Sys2Proof.Machine.execSt dt c st v s
  | .lda dt c st v => Sys2Proof.Machine.execLda dt c st v s
  | .sta dt c st v => Sys2Proof.Machine.execSta dt c st v s
  | .br dt c st v => Sys2Proof.Machine.execBr dt c st v s
  | .loop dt c st v => Sys2Proof.Machine.execLoop dt c st v s
  | .stage dt c st v => Sys2Proof.Machine.execStage dt c st v s
  | .jobEnd dt c st v => Sys2Proof.Machine.execJobEnd dt c st v s
  | .clampOp dt c st v => Sys2Proof.Machine.execClampOp dt c st v s
  | .sat dt c st v => Sys2Proof.Machine.execSat dt c st v s
  | .ramp dt c st v => Sys2Proof.Machine.execRamp dt c st v s
  | .integ dt c st v => Sys2Proof.Machine.execInteg dt c st v s
  | .clarke dt c st v => Sys2Proof.Machine.execClarke dt c st v s
  | .park dt c st v => Sys2Proof.Machine.execPark dt c st v s
  | .ipark dt c st v => Sys2Proof.Machine.execIpark dt c st v s
  | .sincos dt c st v => Sys2Proof.Machine.execSincos dt c st v s
  | .svm dt c st v => Sys2Proof.Machine.execSvm dt c st v s
  | .psel dt c st v => Sys2Proof.Machine.execPsel dt c st v s
  | .gtl dt c st v => Sys2Proof.Machine.execGtl dt c st v s
  | .tl1 dt c st v => Sys2Proof.Machine.execTl1 dt c st v s
  | .tl2 dt c st v => Sys2Proof.Machine.execTl2 dt c st v s
  | .out dt c st v => Sys2Proof.Machine.execOut dt c st v s
  | .outc dt c st v => Sys2Proof.Machine.execOutc dt c st v s
  | .reservedOpcode dt c st v => Sys2Proof.Machine.execReservedOpcode dt c st v s
  | .runWrite x run => Sys2Proof.Machine.execRunWrite x run s
  | .rampRestart x => Sys2Proof.Machine.execRampRestart x s
  | .contextMemoryWrite at_ be w => Sys2Proof.Machine.execContextMemoryWrite at_ be w s
  | .ctxCntClr all x => Sys2Proof.Machine.execCtxCntClr all x s
  | .cluCntClr c => Sys2Proof.Machine.execCluCntClr c s
  | .start k => Sys2Proof.Machine.execStart k s
  | .stop k => Sys2Proof.Machine.execStop k s
  | .measureTriple dt k => Sys2Proof.Machine.execMeasureTriple dt k s
  | .measDone dt k => Sys2Proof.Machine.execMeasDone dt k s
  | .ipdVector dt k => Sys2Proof.Machine.execIpdVector dt k s
  | .ipdDone dt k => Sys2Proof.Machine.execIpdDone dt k s
  | .bemfSample dt k => Sys2Proof.Machine.execBemfSample dt k s
  | .tMagWrite k w => Sys2Proof.Machine.execTMagWrite k w s
  | .stale dt k => Sys2Proof.Machine.execStale dt k s
  | .newMachine k => Sys2Proof.Machine.execNewMachine k s
  | .clrDemag k => Sys2Proof.Machine.execClrDemag k s
  | .ledgerTick dt => Sys2Proof.Machine.execLedgerTick dt s
  | .chopFault dt => Sys2Proof.Machine.execChopFault dt s
  | .disLate dt => Sys2Proof.Machine.execDisLate dt s
  | .disReq => Sys2Proof.Machine.execDisReq s
  | .disAbort => Sys2Proof.Machine.execDisAbort s
  | .escClr => Sys2Proof.Machine.execEscClr s
  | .hkRoundStart dt => Sys2Proof.Machine.execHkRoundStart dt s
  | .hkRoundComplete dt => Sys2Proof.Machine.execHkRoundComplete dt s
  | .thmModelUpdate dt pdie => Sys2Proof.Machine.execThmModelUpdate dt pdie s
  | .limitRamp dt => Sys2Proof.Machine.execLimitRamp dt s
  | .mmClr c => Sys2Proof.Machine.execMmClr c s
  | .recoveryEnd dt c => Sys2Proof.Machine.execRecoveryEnd dt c s
  | .modeReq c to_ when stage => Sys2Proof.Machine.execModeReq c to_ when stage s
  | .modeCheckDone dt c => Sys2Proof.Machine.execModeCheckDone dt c s
  | .modeBoundary dt c => Sys2Proof.Machine.execModeBoundary dt c s
  | .modeHandover dt c => Sys2Proof.Machine.execModeHandover dt c s
  | .exchangePoint dt c bad => Sys2Proof.Machine.execExchangePoint dt c bad s
  | .ctest dt c pass => Sys2Proof.Machine.execCtest dt c pass s
  | .subTick dt => Sys2Proof.Machine.execSubTick dt s
  | .safetyTick dt srst => Sys2Proof.Machine.execSafetyTick dt srst s
  | .stoChannelChange dt chB demand held => Sys2Proof.Machine.execStoChannelChange dt chB demand held s
  | .outputEnableRestore dt => Sys2Proof.Machine.execOutputEnableRestore dt s
  | .discFault dt => Sys2Proof.Machine.execDiscFault dt s
  | .coreFault dt => Sys2Proof.Machine.execCoreFault dt s
  | .gdenReadbackFault dt a b held => Sys2Proof.Machine.execGdenReadbackFault dt a b held s
  | .cfgCrcRecheck dt bad => Sys2Proof.Machine.execCfgCrcRecheck dt bad s
  | .heartbeatLoss dt lost => Sys2Proof.Machine.execHeartbeatLoss dt lost s
  | .vddGnWindow dt inside => Sys2Proof.Machine.execVddGnWindow dt inside s
  | .debugAttach dt => Sys2Proof.Machine.execDebugAttach dt s
  | .resetEdge dt => Sys2Proof.Machine.execResetEdge dt s
  | .cfgLoad => Sys2Proof.Machine.execCfgLoad s
  | .cfgConfirm => Sys2Proof.Machine.execCfgConfirm s
  | .cfgTimeout dt => Sys2Proof.Machine.execCfgTimeout dt s
  | .lock => Sys2Proof.Machine.execLock s
  | .clrSsat x => Sys2Proof.Machine.execClrSsat x s
  | .clrGtrip => Sys2Proof.Machine.execClrGtrip s
  | .sreqReserved cmd => Sys2Proof.Machine.execSreqReserved cmd s
  | .applicationEvent dt => Sys2Proof.Machine.execApplicationEvent dt s
  | .torqueSample dt n => Sys2Proof.Machine.execTorqueSample dt n s
  | .torqueReact dt n => Sys2Proof.Machine.execTorqueReact dt n s
  | .safeCopyReceived dt pathB bytes => Sys2Proof.Machine.execSafeCopyReceived dt pathB bytes s
  | .pairingEvaluation dt => Sys2Proof.Machine.execPairingEvaluation dt s
  | .snMissing dt => Sys2Proof.Machine.execSnMissing dt s
  | .snWatchdog dt => Sys2Proof.Machine.execSnWatchdog dt s
  | .statusPduTx dt => Sys2Proof.Machine.execStatusPduTx dt s
  | .monitorWindow dt m count late => Sys2Proof.Machine.execMonitorWindow dt m count late s
  | .refReady dt => Sys2Proof.Machine.execRefReady dt s
  | .holdover dt missing => Sys2Proof.Machine.execHoldover dt missing s
  | .holdoverExpiry dt => Sys2Proof.Machine.execHoldoverExpiry dt s
  | .xoRestart dt => Sys2Proof.Machine.execXoRestart dt s
  | .pll0Unlock dt => Sys2Proof.Machine.execPll0Unlock dt s
  | .holdExit dt => Sys2Proof.Machine.execHoldExit dt s
  | .returnWrite => Sys2Proof.Machine.execReturnWrite s
  | .dllUnlock dt => Sys2Proof.Machine.execDllUnlock dt s
  | .dllRelock dt => Sys2Proof.Machine.execDllRelock dt s
  | .dllCalGo => Sys2Proof.Machine.execDllCalGo s
  | .tapcalDone dt worst => Sys2Proof.Machine.execTapcalDone dt worst s
  | .ssCfgWrite w => Sys2Proof.Machine.execSsCfgWrite w s
  | .opReq op => Sys2Proof.Machine.execOpReq op s
  | .opChangeStart dt => Sys2Proof.Machine.execOpChangeStart dt s
  | .vddOk dt => Sys2Proof.Machine.execVddOk dt s
  | .vTimeout dt => Sys2Proof.Machine.execVTimeout dt s
  | .pll1Lock dt => Sys2Proof.Machine.execPll1Lock dt s
  | .relockSwitch dt => Sys2Proof.Machine.execRelockSwitch dt s
  | .sleepRequest => Sys2Proof.Machine.execSleepRequest s
  | .deepSleepRequest => Sys2Proof.Machine.execDeepSleepRequest s
  | .wake dt src => Sys2Proof.Machine.execWake dt src s
  | .wakeTimer dt => Sys2Proof.Machine.execWakeTimer dt s
  | .powerOn dt => Sys2Proof.Machine.execPowerOn dt s
  | .resetPin dt => Sys2Proof.Machine.execResetPin dt s
  | .brownOut dt supplies => Sys2Proof.Machine.execBrownOut dt supplies s
  | .watchdog dt => Sys2Proof.Machine.execWatchdog dt s
  | .softRst key => Sys2Proof.Machine.execSoftRst key s
  | .perst dt asserted inFlight => Sys2Proof.Machine.execPerst dt asserted inFlight s
  | .blkRst w inFlight => Sys2Proof.Machine.execBlkRst w inFlight s
  | .partnerFlush dt j => Sys2Proof.Machine.execPartnerFlush dt j s
  | .clkenWrite which w => Sys2Proof.Machine.execClkenWrite which w s
  | .bootPass dt o => Sys2Proof.Machine.execBootPass dt o s
  | .runReq t prog signed => Sys2Proof.Machine.execRunReq t prog signed s
  | .runDone dt sig pass => Sys2Proof.Machine.execRunDone dt sig pass s
  | .retry bits => Sys2Proof.Machine.execRetry bits s
  | .verifyCfg => Sys2Proof.Machine.execVerifyCfg s
  | .releaseCfg => Sys2Proof.Machine.execReleaseCfg s
  | .attest => Sys2Proof.Machine.execAttest s
  | .getKeys => Sys2Proof.Machine.execGetKeys s
  | .svnCommit => Sys2Proof.Machine.execSvnCommit s
  | .secCmdReserved cmd => Sys2Proof.Machine.execSecCmdReserved cmd s
  | .tokenGo => Sys2Proof.Machine.execTokenGo s
  | .tokenDone dt => Sys2Proof.Machine.execTokenDone dt s
  | .portLoss dt p => Sys2Proof.Machine.execPortLoss dt p s
  | .commaAlignment dt p => Sys2Proof.Machine.execCommaAlignment dt p s
  | .portUp dt p => Sys2Proof.Machine.execPortUp dt p s
  | .portDegraded dt p => Sys2Proof.Machine.execPortDegraded dt p s
  | .portRecovered dt p => Sys2Proof.Machine.execPortRecovered dt p s
  | .enum => Sys2Proof.Machine.execEnum s
  | .enumFrame dt h ids => Sys2Proof.Machine.execEnumFrame dt h ids s
  | .prepare btype stage => Sys2Proof.Machine.execPrepare btype stage s
  | .arrayAbort => Sys2Proof.Machine.execArrayAbort s
  | .syncSend dt => Sys2Proof.Machine.execSyncSend dt s
  | .syncReceived dt h tM corr frac residence => Sys2Proof.Machine.execSyncReceived dt h tM corr frac residence s
  | .delayReqSend dt frac => Sys2Proof.Machine.execDelayReqSend dt frac s
  | .delayReq dt h turnaround => Sys2Proof.Machine.execDelayReq dt h turnaround s
  | .delayResp dt h turnaround frac => Sys2Proof.Machine.execDelayResp dt h turnaround frac s
  | .mailbox dt h home ctx loop words => Sys2Proof.Machine.execMailbox dt h home ctx loop words s
  | .context dt h seg => Sys2Proof.Machine.execContext dt h seg s
  | .prepareFrame dt h txn btype stage bound parts => Sys2Proof.Machine.execPrepareFrame dt h txn btype stage bound parts s
  | .commitFrame dt h txn => Sys2Proof.Machine.execCommitFrame dt h txn s
  | .abortFrame dt h txn => Sys2Proof.Machine.execAbortFrame dt h txn s
  | .holdFrame dt h txn => Sys2Proof.Machine.execHoldFrame dt h txn s
  | .ready dt h txn => Sys2Proof.Machine.execReady dt h txn s
  | .refuse dt h txn code => Sys2Proof.Machine.execRefuse dt h txn code s
  | .applied dt h txn => Sys2Proof.Machine.execApplied dt h txn s
  | .notApplied dt h txn => Sys2Proof.Machine.execNotApplied dt h txn s
  | .nak dt h code => Sys2Proof.Machine.execNak dt h code s
  | .isolated dt => Sys2Proof.Machine.execIsolated dt s
  | .voteTimeout dt => Sys2Proof.Machine.execVoteTimeout dt s
  | .arrayBoundary dt => Sys2Proof.Machine.execArrayBoundary dt s
  | .ackTimeout dt => Sys2Proof.Machine.execAckTimeout dt s
  | .holdClr => Sys2Proof.Machine.execHoldClr s
  | .place ctx target => Sys2Proof.Machine.execPlace ctx target s
  | .placeDone dt accept => Sys2Proof.Machine.execPlaceDone dt accept s
  | .guestLost dt ctx => Sys2Proof.Machine.execGuestLost dt ctx s
  | .vlkCntClr p => Sys2Proof.Machine.execVlkCntClr p s
  | .hostMemoryWrite at_ be w => Sys2Proof.Machine.execHostMemoryWrite at_ be w s
  | .pciePoison bytes => Sys2Proof.Machine.execPciePoison bytes s
  | .pcieTlp => Sys2Proof.Machine.execPcieTlp s
  | .xspiRead a n => Sys2Proof.Machine.execXspiRead a n s
  | .xspiReadSlow a n => Sys2Proof.Machine.execXspiReadSlow a n s
  | .xspiWrite a bytes => Sys2Proof.Machine.execXspiWrite a bytes s
  | .xspiReservedOpcode op => Sys2Proof.Machine.execXspiReservedOpcode op s
  | .promotionCheck dt r => Sys2Proof.Machine.execPromotionCheck dt r s
  | .sliceCopyDone dt r => Sys2Proof.Machine.execSliceCopyDone dt r s
  | .sramScrub dt ce ue => Sys2Proof.Machine.execSramScrub dt ce ue s
  | .dramScrub dt ce ue => Sys2Proof.Machine.execDramScrub dt ce ue s
  | .ethRxFrame dt p frame fcsOk age sync => Sys2Proof.Machine.execEthRxFrame dt p frame fcsOk age sync s
  | .txTailWrite p tail => Sys2Proof.Machine.execTxTailWrite p tail s
  | .ethTxDone dt p age => Sys2Proof.Machine.execEthTxDone dt p age s
  | .ptpSyncLoss dt p => Sys2Proof.Machine.execPtpSyncLoss dt p s
  | .canRxFrame dt c xtd id dlc data => Sys2Proof.Machine.execCanRxFrame dt c xtd id dlc data s
  | .canTxReq c bits => Sys2Proof.Machine.execCanTxReq c bits s
  | .canTxDone dt c => Sys2Proof.Machine.execCanTxDone dt c s
  | .canRecover dt c => Sys2Proof.Machine.execCanRecover dt c s
  | .rxPop c => Sys2Proof.Machine.execRxPop c s
  | .flRead => Sys2Proof.Machine.execFlRead s
  | .flProgram => Sys2Proof.Machine.execFlProgram s
  | .flErase => Sys2Proof.Machine.execFlErase s
  | .flDone dt => Sys2Proof.Machine.execFlDone dt s
  | .vecmapWrite j w => Sys2Proof.Machine.execVecmapWrite j w s
  | .vlatchClear j w => Sys2Proof.Machine.execVlatchClear j w s
  | .capArm => Sys2Proof.Machine.execCapArm s
  | .capStop => Sys2Proof.Machine.execCapStop s
  | .trigSw => Sys2Proof.Machine.execTrigSw s
  | .capRecord dt => Sys2Proof.Machine.execCapRecord dt s
  | .capDone dt => Sys2Proof.Machine.execCapDone dt s
  | .unrolled dt => Sys2Proof.Machine.execUnrolled dt s
  | .snetCntClr => Sys2Proof.Machine.execSnetCntClr s
  | .gnomonReset dt running inFlight => Sys2Proof.Machine.execGnomonReset dt running inFlight s
  | .frameDiscarded dt h why bytes => Sys2Proof.Machine.execFrameDiscarded dt h why bytes s
  | .clampInactive dt b p => Sys2Proof.Machine.execClampInactive dt b p s
  | .clockLossEnd dt n => Sys2Proof.Machine.execClockLossEnd dt n s
  | .secDone dt => Sys2Proof.Machine.execSecDone dt s
  | .ethLinkChange dt p up anDone => Sys2Proof.Machine.execEthLinkChange dt p up anDone s
  | .pcieLinkChange dt up speed width => Sys2Proof.Machine.execPcieLinkChange dt up speed width s
  | .canBusError dt c tec rec busOff => Sys2Proof.Machine.execCanBusError dt c tec rec busOff s
  | .timeLoRead r => Sys2Proof.Machine.execTimeLoRead r s
  | .hostMemoryRead at_ => Sys2Proof.Machine.execHostMemoryRead at_ s
  | .debugStep dt c st v => Sys2Proof.Machine.execDebugStep dt c st v s
  | .debugWrite dt c st r v => Sys2Proof.Machine.execDebugWrite dt c st r v s
  | .debugDetach dt => Sys2Proof.Machine.execDebugDetach dt s

end Sys2Proof.Machine
end

