-- ==== Sys2Proof/Machine/Step.lean ====
section
/-! DEFINITION. The step: the command at the front of the queue runs on the state with the rest of the queue; on an empty
queue one TCLK passes (DESIGN CHOICE, log entry 8). -/

namespace Sys2Proof.Machine

def step (s : State) : Host.Outcome State Fault Refusal :=
  match s.pending with
  | [] => s.event 1 (fun x => x)
  | c :: rest => exec c { s with pending := rest }

/-- The state with the command that a word spells at the front of its queue; the state itself where a word spells none. -/
def State.withFetchWord (s : State) (nbits w : Nat) : State :=
  match Sys2Proof.decodeTableWord nbits w with
  | some c => { s with pending := c :: s.pending }
  | none => s

end Sys2Proof.Machine
end

