-- ==== Sys2Proof/Safety.lean ====
section
/-! DEFINITION. What the statements speak of: a good state, a register that answers, and what a row answers. -/

namespace Sys2Proof.Machine

/-- SRAM and DRAM, and the boot flash, list their bytes in the canonical form. -/
def Soc.memOk (s : Soc) : Prop := Memory.wf s.mem = true ∧ Memory.wf s.flash = true

/-- The register file and the active values list their words in the canonical form. -/
def Dev.regsOk (d : Dev) : Prop := mapOk resetWord d.regs = true ∧ mapOk resetWord d.act = true

/-- The device is in RUN and about to leave it for no other mode (R428). -/
def Dev.awake (d : Dev) : Bool := d.pwrMode == 0 && d.pwr.enter.isNone

/-- The register at `a` answers the host: the device is in RUN (R428), the boot has not halted (R456), the selected host
interface and the group of the page are clocked and out of reset (R431 to R434). -/
def Soc.answers (s : Soc) (a : Nat) : Bool :=
  s.dev.awake && s.dev.ifRuns && !s.dev.flag pgBOOT BOOT.ST_HALTED
    && match pageOf a with
      | none => false
      | some (k, inst, _) => (s.dev.refusing k inst).isNone && !s.dev.gated k inst

/-- The selected host interface takes an access at `at_` in RUN (R428, R431, R504). -/
def Soc.reaches (s : Soc) (at_ : HostAddr) : Bool :=
  s.dev.awake && s.dev.ifRuns && at_.isXspi == s.dev.hostXspi

/-- The enable check of the page of kind `k` passes (R47, R80, R122, R175, R220, R227, R330, R348, R503).
A page whose chapter gives no check passes. -/
def Dev.enableLegal (d : Dev) (k : PageKind) (inst pg : Nat) : Bool :=
  (!ownedKind k || d.get pg COM.OWNER_KIND != 0) &&
  match k with
  | .pos => !d.posCfgBad pg
  | .rsv => !d.rsvCfgBad pg
  | .ssi => !d.ssiCfgBad pg
  | .emu => d.get pg EMU.RATIO_N != 0 && decide (d.get pg EMU.RATIO_N ≤ d.get pg EMU.RATIO_M)
      && d.get pg EMU.CFG_MIN_GAP != 0
  | .stg => d.get pgALM ALM.ST_STATE != 3 && !d.stgCfgBad inst && !(d.timing inst == 1 && d.absMode inst)
      && !d.cmBad inst
  | .leg => !d.slave inst && d.bound inst
  | .adcg => decide (d.get pg ADCG.CFG_N_SLOTS ≤ 16) && (List.range (d.get pg ADCG.CFG_N_SLOTS)).all (fun s =>
      decide (d.getAt pg ADCG.SLOT_AVG s ≤ 8) && decide (d.getAt pg ADCG.SLOT_SHIFT s ≤ 8))
  | .sdi => d.get pg SDI.CFG_FORMAT != 3 && decide (16 ≤ d.get pg SDI.CFG_DIV)
      && decide (8 ≤ d.get pg SDI.OSR_OSR ∧ d.get pg SDI.OSR_OSR ≤ 256)
      && decide (4 ≤ d.get pg SDI.OSR_OC_OSR ∧ d.get pg SDI.OSR_OC_OSR ≤ 32)
      && !(d.get pg SDI.CFG_FORMAT == 2 && decide (d.get pg SDI.CFG_DIV / 2 ≤ d.get pg SDI.CFG_SKEW))
      && !(d.get pg SDI.CFG_FORMAT == 0 && decide (d.get pg SDI.CFG_DIV ≤ d.get pg SDI.CFG_SKEW))
  | .vlk => !(d.vId == 0 && d.get pgCLK CLK.REF_CFG_REF_SRC == 3)
      && decide (10 ≤ d.get (pgVLK 0) VLK.ARRAY_CFG_SLEW_PPM ∧ d.get (pgVLK 0) VLK.ARRAY_CFG_SLEW_PPM ≤ 1000)
      && d.get (pgVLK 0) VLK.ARRAY_CFG_ISO_TIME != 0
  | .nrg => !d.nrgCfgBad
  | .thm => !d.thmCfgBad
  | _ => true

/-- The device with DCFG of drive `k` as a write of its EN field alone stores it (R314). -/
def Dev.driveStored (d : Dev) (k : Fin 16) (en : Bool) : Dev :=
  d.putAt pgFLD FLD.DCFG k
    ((wordPut (d.reg (pgFLD + 0x100 + 128 * k.val)) FLD.DCFG_EN.lo FLD.DCFG_EN.width (b2n en)).toNat &&& 0xFCFFFFC0)

/-- The levels `a`, `b` and `z` of position interface `n` have not been sampled in this TCLK, and each that changes has
passed its filter (R93). -/
def Dev.takesLevels (d : Dev) (n : Fin 8) (a b z : Bool) : Prop :=
  (d.pos[n]).sampT ≠ d.time + 1 ∧
  (a ≠ (d.pos[n]).a → d.filtered (d.pos[n]).aT (d.get (pgPOS n) POS.CFG_FILT) = true) ∧
  (b ≠ (d.pos[n]).b → d.filtered (d.pos[n]).bT (d.get (pgPOS n) POS.CFG_FILT) = true) ∧
  (z ≠ (d.pos[n]).z → d.filtered (d.pos[n]).zT (d.get (pgPOS n) POS.CFG_FILT) = true)

/-- Position interface `n` has no count, index event or window end in this TCLK, and no probe latches (R104). -/
def Dev.posAlone (d : Dev) (n : Fin 8) : Prop :=
  (d.pos[n]).cntT ≠ d.time + 1 ∧ (∀ e, (d.pos[n]).idx = some e → e.1 ≠ d.time) ∧
  (∀ e, (d.pos[n]).winEnd = some e → e.t ≠ d.time) ∧ ∀ j : Fin 8, (d.pos[j]).prbT ≠ d.time + 1

/-- Two devices agree but for an interrupt's doings: the register file and the pending-bit array (R17, R524). -/
def Dev.agreeOffRegs (d e : Dev) : Prop := ∃ r p, e = { d with regs := r, pba := p }

/-- Every register but those of `l` and the vector latches reads as before. -/
def Dev.keepsRegs (d e : Dev) (l : List Nat) : Prop :=
  ∀ a, a ∉ l → a ≠ pgPCIE + PCIE.VLATCH.off → a ≠ pgPCIE + PCIE.VLATCH.off + 4 → e.reg a = d.reg a

/-- No drive starts, and the device is in RUN: nothing is aborted and nothing wakes (R308, R428). -/
def Dev.quiet (d : Dev) : Prop := d.awake = true ∧ ∀ k < 16, d.phase k = 0 ∨ d.phase k = 4

/-- Stream `st` of cluster `c` is about to issue `i` for a job of one of the 64 contexts (R257), a well-formed instruction
of operation `op`, and the comparison of its copies lets it pass without a note (R249, R263, R350). -/
def Soc.issues (b : Soc) (c : Fin 4) (st : Fin 3) (v : Vote) (i : Iss) (op : Nat) : Prop :=
  b.issue c st = some i ∧ i.run.job.ctx < 64 ∧ opOf i.w = op ∧ insnReserved i.w = false ∧ b.dev.compare c st v = (b.dev, true)

/-- In `u` every copy of the stream holds the registers `p`, at `pc` or where the loops that end there lead, and the run
counts the instruction from the cycle in which it issues (R248), with `extra` more, unless the program has run past its
end (R273). With no result outstanding the next one issues in the next cycle, or after the whole of a BR or LOOP. -/
def Soc.retired (b u : Soc) (c : Fin 4) (st : Fin 3) (i : Iss) (p : Dpath) (pc extra : Nat) : Prop :=
  (closeLoops p.stack pc).1 < i.loop.progLen →
    (∀ j ∈ b.dev.copies c st, (u.dev.clu[c]).dp[fin3 j]
      = { p with pc := (closeLoops p.stack pc).1, stack := (closeLoops p.stack pc).2.1 }) ∧
    ∃ r, (u.dev.clu[c]).run[st] = some r ∧
      r = i.run.issued (i.run.issueAt (b.dev.getAt (pgCLU c) ⟨CLU.CFG.off, 0, 19 - 5 * st.val, 5⟩ 0) i.w).1 i.w
        (extra + (closeLoops p.stack pc).2.2) ∧
      (i.run.ready = [] → i.run.infl = [] →
        r.cyc = i.run.cyc + (if opOf i.w = 0x18 ∨ opOf i.w = 0x19 then insnCycles i.w else 1)
          + (extra + (closeLoops p.stack pc).2.2))

/-- Every byte of memory outside the `n` from `a` reads as before. -/
def Soc.keepsBytes (b u : Soc) (a n : Nat) : Prop := ∀ x, (x < a ∨ a + n ≤ x) → memGet u.mem x = memGet b.mem x

/-- Drive `k` refused or aborted its start with `code` (R300, R304, R308): IDLE, the code in LAST, and REFUSED. -/
def Dev.startRefused (d : Dev) (k code : Nat) : Prop :=
  d.phase k = 0 ∧ d.getAt pgFLD FLD.DSTAT_LAST k = code ∧ d.flagAt pgFLD FLD.EV_REFUSED k = true

/-- The shadows of FORCE of the legs of stage `k` in `b` read as `f` of their place (R301). -/
def Dev.forced (b d : Dev) (k : Nat) (f : Nat → Nat) : Prop :=
  ∀ i n, (b.stageUnits k)[i]? = some n → d.get (pgLEG n) LEG.CTL_FORCE = f i

/-- Between `w` and `u`, drive `k` has been handed over (R305, R291): every context it lists runs if it is admitted, and
memory outside the hand-over blocks and the CURFOC states, in words 0 to 255 of these contexts, reads as before. -/
def Soc.handedOver (w u : Soc) (k kind t0 : Nat) (back : Bool) : Prop :=
  u.dev.phase k = 4 ∧ u.dev.getAt pgFLD FLD.DSTAT_KIND k = kind ∧ u.dev.flagAt pgFLD FLD.DSTAT_DIR k = back ∧
  u.dev.getAt pgFLD FLD.T0 k = t0 % 2 ^ 32 ∧ u.dev.flagAt pgFLD FLD.EV_HANDED_OVER k = true ∧
  w.dev.forced u.dev k (fun _ => 0) ∧
  (∀ x ∈ w.dev.driveCtx k, u.dev.flagAt pgCTX CTX.CCTL_RUN x = w.dev.flagAt pgCTX CTX.CCFG_VALID x) ∧
  (∀ a, (∀ x ∈ w.dev.driveCtx k, a < w.dev.ctxWord x 0 ∨ w.dev.ctxWord x 256 ≤ a) → memGet u.mem a = memGet w.mem a)

/-- Byte address `a` lies in word `w` of the state area of the context that runs loop `id` (R320, R343). -/
def Dev.inLoopWord (d : Dev) (id w a : Nat) : Prop :=
  ∃ l, d.loopDecl id = some l ∧ d.ctxWord l.ctx w ≤ a ∧ a < d.ctxWord l.ctx w + 4

/-- Gnomon has latched the lock-out with `cause`, and every output enable is inactive (R389). -/
def Dev.lockedWith (d : Dev) (cause : Nat) : Prop :=
  d.lockedOut = true ∧ bitOf (d.get pgGNM GNM.LOCK_CAUSE_CAUSE) cause = true ∧ d.legDis = allLegs

/-- A safe-channel fault of `kind` on `path` has been taken (R398). -/
def Dev.snFaulted (d : Dev) (kind path : Nat) : Prop :=
  d.lockedWith 2 ∧ d.get pgSNET SNET.FAULT_KIND = kind ∧ d.get pgSNET SNET.FAULT_PATH = path ∧
  d.gnm.qA = [] ∧ d.gnm.qB = [] ∧ d.gnm.pairs = 0 ∧ d.flag pgSNET SNET.ST_BASE_WAIT = true

/-- A request on SREQ has ended with `code` (R405). -/
def Dev.sreqEnded (d : Dev) (cmd code : Nat) : Prop :=
  d.get pgSNET SNET.SREQ_STAT_CMD = cmd ∧ d.get pgSNET SNET.SREQ_STAT_CODE = code ∧
  d.flag pgSNET SNET.IRQ_REQ_DONE = true

/-- A device reset with the cause bits `bits` has acted on `b` (R433): the boot starts again, Gnomon, the elapsed time
and the kept registers stay, and every other register is back where Gnomon runs
and requests nothing. -/
def Dev.resetDone (b u : Dev) (bits : Nat) (powerOn : Bool) : Prop :=
  u.time = 0 ∧ u.wall = b.wall ∧ u.adm = none ∧ u.boot.due = true ∧ u.gnm = b.gnm ∧ u.legDis = b.legDis ∧ u.pwrMode = 0 ∧
  u.get pgPWR PWR.RST_CAUSE = b.get pgPWR PWR.RST_CAUSE ||| bits ∧
  (b.gnm.running = true → b.gnm.active = none → b.gnm.reqs = [] →
    ∀ a, a ≠ pgPWR + PWR.RST_CAUSE.off → u.reg a = if isKept powerOn a then b.reg a else resetWord a)

/-- A frame of TYPE `type` that a device takes as its own (R481, R485, R499): it came through an UP port, it is addressed
to this device alone, another device sent it, and its SEQ is ahead. -/
def Dev.frameFor (d : Dev) (h : VHdr) (type : Nat) : Prop :=
  d.vUp h.port = true ∧ h.dst.toNat = d.vId ∧ h.src.toNat ≠ d.vId ∧ d.seqAhead h type = true

/-- A MODE frame of the manager for the transaction that this participant joined (R497, R499). -/
def Dev.frameOfTxn (d : Dev) (h : VHdr) (txn : Byte) : Prop :=
  d.frameFor h 3 ∧ h.src = 0 ∧ d.vlk.txn.num = txn.toNat ∧ d.vlk.txn.joined = true

/-- An acknowledgement of a participant of the manager's open transaction (R497, R498). -/
def Dev.ackOfTxn (d : Dev) (h : VHdr) (txn : Byte) : Prop :=
  d.frameFor h 4 ∧ d.vId = 0 ∧ d.vlk.txn.isOpen = true ∧ d.vlk.txn.num = txn.toNat ∧
  bitOf d.vlk.txn.parts h.src.toNat = true

/-- The transaction is over with state `st` (R497, R498). -/
def Dev.txnOver (d : Dev) (st : Nat) : Prop := d.get (pgVLK 0) VLK.TXN_STAT_STATE = st ∧ d.vlk.txn.isOpen = false

/-- Rows that may store to SRAM, DRAM or the boot flash; every other row leaves all their bytes alone. -/
def mayStore (c : Instr) : Bool :=
  match c with
  | .registerWrite _ _ _ | .unmappedAccess _ _ | .enableWrite _ | .disableWrite _ | .admissionComplete _ | .dispatch _ _ _
  | .st _ _ _ _ | .sta _ _ _ _ | .clampOp _ _ _ _ | .ramp _ _ _ _ | .contextMemoryWrite _ _ _ | .start _ | .measDone _ _
  | .ipdDone _ _ | .ledgerTick _ | .escClr | .limitRamp _ | .recoveryEnd _ _ | .modeReq _ _ _ _ | .modeHandover _ _
  | .bootPass _ _ | .hostMemoryWrite _ _ _ | .xspiWrite _ _ | .sliceCopyDone _ _ | .ethRxFrame _ _ _ _ _ _
  | .ethTxDone _ _ _ | .flDone _ | .capRecord _ | .unrolled _ | .secDone _ | .debugStep _ _ _ _ => true
  | _ => false

end Sys2Proof.Machine
end

