-- ==== Sys2Proof/Certificates/Slice0/Obligations.lean ====
section
/-! DEFINITION. The statements for the provers. A clause about a command says, under hypotheses on the state and the
operands, that `exec` answers a next state and what it holds. For an event, `b` is the block when the event arrives,
`dt` TCLK after the command before it. Where a row's change is followed up (R308, R428), the clause says what the block `u`
holds before the follow-up `Dev.follow`, which changes nothing in a quiet device (`Dev.follow_quiet`). -/

open Sys2Proof Sys2Proof.Machine

/-- For every command c and state s whose queue is c followed by rest, step at s answers what exec c answers at s with the queue rest. exec answers a next state for every command and state, and leaves the queue alone. With an empty queue, step answers the state after one TCLK with the same memories: that idle tick is the model's choice (DESIGN CHOICE, log entry 8). -/
def Obligations.StepRunsTheFrontCommand : Prop :=
  (∀ (s : State) (c : Instr) (rest : List Instr),
    s.pending = c :: rest → step s = exec c { s with pending := rest }) ∧
  (∀ (c : Instr) (s : State), ∃ u : Soc, exec c s = .next { s with soc := u }) ∧
  (∀ s : State, s.pending = [] →
    ∃ u, step s = .next { s with soc := u } ∧ u = s.soc.after 1 ∧ u.mem = s.soc.mem ∧ u.flash = s.soc.flash)

/-- For every page: an event sets its bit in IRQ_RAW whatever IRQ_EN holds; IRQ_FLAG reads as IRQ_RAW AND IRQ_EN; IRQ_FORCE reads 0; IRQ_FLAG_CLEAR answers a next state in which the written bits are clear in IRQ_RAW but for events of the same cycle; IRQ_FORCE answers a next state in which the written bits that the page implements are set. The device otherwise keeps its hidden state, every other register but the vector latches, and its memories. -/
def Obligations.InterruptRegistersFollowTheirRule : Prop :=
  ∀ (p : BitVec 8) (k : PageKind) (i o : Nat) (s : State), pageOf (pageAt p) = some (k, i, o) →
    (∀ f : Fld, (s.soc.dev.irq (pageAt p) f).reg (pageAt p + 0x10)
      = BitVec.ofNat 32 ((s.soc.dev.reg (pageAt p + 0x10)).toNat ||| 2 ^ f.lo)) ∧
    s.soc.dev.pageRead k i (pageAt p) 0x018
      = s.soc.dev.pageRead k i (pageAt p) 0x010 &&& s.soc.dev.pageRead k i (pageAt p) 0x014 ∧
    s.soc.dev.pageRead k i (pageAt p) 0x01C = 0 ∧
    (∀ mask again : Word, s.soc.answers (pageAt p + 0x018) = true →
      ∃ u, exec (.irqFlagClear p mask again) s = .next { s with soc := u } ∧
        u.dev.reg (pageAt p + 0x10)
          = (s.soc.dev.reg (pageAt p + 0x10) &&& ~~~mask) ||| (again &&& irqMask k) ∧
        s.soc.dev.keepsRegs u.dev [pageAt p + 0x10] ∧ s.soc.dev.agreeOffRegs u.dev ∧
        u.mem = s.soc.mem ∧ u.flash = s.soc.flash) ∧
    (∀ mask : Word, s.soc.answers (pageAt p + 0x01C) = true →
      ∃ u, exec (.irqForce p mask) s = .next { s with soc := u } ∧
        u.dev.reg (pageAt p + 0x10) = s.soc.dev.reg (pageAt p + 0x10) ||| (mask &&& irqMask k) ∧
        s.soc.dev.keepsRegs u.dev [pageAt p + 0x10] ∧ s.soc.dev.agreeOffRegs u.dev ∧
        u.mem = s.soc.mem ∧ u.flash = s.soc.flash)

/-- On a page that answers: IRQ_EN_WRITE stores the implemented bits; ERRCODE_CLR without a new error leaves CODE, ORIGIN and LOST 0; LOCK_SET sets LOCK on every page but GNM; COMMIT_REQ on a page with a commit group, with none pending and WHEN below 3, sets PENDING and stores WHEN. Each answers a next state and keeps every other register but the vector latches. -/
def Obligations.EnablesLocksErrorsAndCommits : Prop :=
  ∀ (p : BitVec 8) (k : PageKind) (i o : Nat) (s : State), pageOf (pageAt p) = some (k, i, o) →
    (∀ w : Word, s.soc.answers (pageAt p + 0x014) = true →
      ∃ u, exec (.irqEnWrite p w) s = .next { s with soc := u } ∧ u.dev.reg (pageAt p + 0x14) = w &&& irqMask k ∧
        s.soc.dev.keepsRegs u.dev [pageAt p + 0x14] ∧ s.soc.dev.agreeOffRegs u.dev) ∧
    (s.soc.answers (pageAt p + 0x020) = true →
      ∃ u, exec (.errcodeClr p none) s = .next { s with soc := u } ∧ u.dev.get (pageAt p) COM.ERRCODE_CODE = 0 ∧
        u.dev.get (pageAt p) COM.ERRCODE_ORIGIN = 0 ∧ u.dev.get (pageAt p) COM.ERRCODE_LOST = 0 ∧
        s.soc.dev.keepsRegs u.dev [pageAt p + 0x20] ∧ s.soc.dev.agreeOffRegs u.dev) ∧
    (k ≠ .gnm → s.soc.answers (pageAt p + 0x028) = true →
      ∃ u, exec (.lockSet p) s = .next { s with soc := u } ∧ u.dev.flag (pageAt p) COM.LOCK = true ∧
        s.soc.dev.keepsRegs u.dev [pageAt p + 0x28] ∧ u.mem = s.soc.mem) ∧
    (∀ when : BitVec 2, hasCommit k = true → s.soc.answers (pageAt p + 0x02C) = true → when.toNat ≠ 3 →
      s.soc.dev.flag (pageAt p) COM.COMMIT_PENDING = false →
      ∃ u, exec (.commitReq p when) s = .next { s with soc := u } ∧
        u.dev.flag (pageAt p) COM.COMMIT_PENDING = true ∧ u.dev.get (pageAt p) COM.COMMIT_WHEN = when.toNat ∧
        s.soc.dev.keepsRegs u.dev [pageAt p + 0x2C] ∧ u.mem = s.soc.mem)

/-- CTRL.EN of every page but GNM, on a page that answers: an enable of a disabled page without an outstanding mismatch leaves CTRL.EN and ENABLED 1 where the enable check of its chapter passes, else ENABLED stays 0; a disable of an enabled page leaves both 0. SCTRL.EN of a stage: a legal enable starts the estimator in FALLBACK, a disable takes it to the state OFF with REASON 5. DCFG.EN of a drive: a legal enable sets ENABLED, a disable clears it and leaves PHASE IDLE. Each answers a next state. -/
def Obligations.EnableFieldsTakeEffect : Prop :=
  (∀ (p : BitVec 8) (k : PageKind) (i o : Nat) (s : State), pageOf (pageAt p) = some (k, i, o) → k ≠ .gnm →
    s.soc.answers (pageAt p + 0x008) = true →
    (s.soc.dev.flag (pageAt p) COM.ST_ENABLED = false → s.soc.dev.dupOutstanding k (pageAt p) = false →
      ∃ u : Soc, exec (.enableWrite (.ctrl p)) s = .next { s with soc := u.map (fun d => s.soc.dev.follow d) } ∧
        u.dev.flag (pageAt p) COM.CTRL_EN = true ∧
        u.dev.flag (pageAt p) COM.ST_ENABLED = s.soc.dev.enableLegal k i (pageAt p)) ∧
    (s.soc.dev.flag (pageAt p) COM.ST_ENABLED = true →
      ∃ u : Soc, exec (.disableWrite (.ctrl p)) s = .next { s with soc := u.map (fun d => s.soc.dev.follow d) } ∧
        u.dev.flag (pageAt p) COM.CTRL_EN = false ∧ u.dev.flag (pageAt p) COM.ST_ENABLED = false)) ∧
  (∀ (k : Fin 16) (s : State), s.soc.answers (pgEPH + 0x118 + 64 * k.val) = true →
    ((s.soc.dev.est[k]).on = false → s.soc.dev.estBad k = false →
      ∃ u : Soc, exec (.enableWrite (.sctrl (BitVec.ofNat 4 k.val))) s = .next { s with soc := u.map (fun d => s.soc.dev.follow d) } ∧
        u.dev.flagAt pgEPH EPH.SCTRL_EN k = true ∧ (u.dev.est[k]).on = true ∧
        u.dev.getAt pgEPH EPH.STATE_STATE k = 1 ∧ u.mem = s.soc.mem) ∧
    ((s.soc.dev.est[k]).on = true →
      ∃ u : Soc, exec (.disableWrite (.sctrl (BitVec.ofNat 4 k.val))) s = .next { s with soc := u.map (fun d => s.soc.dev.follow d) } ∧
        u.dev.flagAt pgEPH EPH.SCTRL_EN k = false ∧ (u.dev.est[k]).on = false ∧
        u.dev.getAt pgEPH EPH.STATE_STATE k = 0 ∧ u.dev.getAt pgEPH EPH.STATE_REASON k = 5 ∧
        u.dev.flagAt pgEPH EPH.STATE_ARMED k = false ∧ u.mem = s.soc.mem)) ∧
  (∀ (k : Fin 16) (s : State), s.soc.answers (pgFLD + 0x100 + 128 * k.val) = true →
    (s.soc.dev.flagAt pgFLD FLD.DSTAT_ENABLED k = false → (s.soc.dev.driveStored k true).fldCfgBad k = false →
      ∃ u : Soc, exec (.enableWrite (.dcfg (BitVec.ofNat 4 k.val))) s = .next { s with soc := u.map (fun d => s.soc.dev.follow d) } ∧
        u.dev.flagAt pgFLD FLD.DSTAT_ENABLED k = true ∧ u.mem = s.soc.mem) ∧
    (s.soc.dev.flagAt pgFLD FLD.DSTAT_ENABLED k = true →
      ∃ u : Soc, exec (.disableWrite (.dcfg (BitVec.ofNat 4 k.val))) s = .next { s with soc := u.map (fun d => s.soc.dev.follow d) } ∧
        u.dev.flagAt pgFLD FLD.DSTAT_ENABLED k = false ∧ u.dev.phase k = 0 ∧ u.mem = s.soc.mem))

/-- A whole aligned REGISTER_WRITE at a register with no row or action of its own, on a page that answers, not live and with no latent duplicate: every RW, RWS and, on an unlocked page, RWL bit takes the written bit, a W1C bit written 1 is cleared, a W1S bit written 1 is set, and every other bit (RO, RWA, locked RWL) keeps its value; a write to an RWL field of a locked page stores WRITE_LOCKED, one to an RWA field ALMANAC_ONLY. A write that is not whole and aligned stores ACCESS_WIDTH and changes no register at 0x40 or above. An UNMAPPED_ACCESS stores HOST_UNMAPPED in the interface page, or counts in LOST where a code stands; a read answers 0 and no other register changes. Each answers a next state. -/
def Obligations.RegisterWritesFollowTheAccessTypes : Prop :=
  (∀ (at_ : HostAddr) (w : Word) (a : Nat) (k : PageKind) (i off e : Nat) (r : RegDesc) (s : State), at_.target = .page a →
    a % 4 = 0 → pageOf a = some (k, i, off) → 0x40 ≤ off → s.soc.reaches at_ = true → s.soc.answers a = true →
    s.soc.dev.liveRefusal k i (a - off) off = none → (s.soc.action k i (a - off) off w).isNone = true →
    regAt k i off = some (r, e) → s.soc.dev.latentGuard k (a - off) off w = false →
    (∀ x ∈ s.soc.dev.red, x.1 ≠ a - off + 0xF00) →
    ∃ u : Soc, exec (.registerWrite at_ 15 w) s = .next { s with soc := u.map (fun d => s.soc.dev.follow d) } ∧ u.mem = s.soc.mem ∧
      (∀ j : Fin 32, ∀ takes : Bool, takes = (bitOf (r.mask .rw) j || bitOf (r.mask .rws) j
          || (bitOf (r.mask .rwl) j && !s.soc.dev.locked (a - off))) →
        (takes = true → bitOf (r.mask .w1c) j = false → bitOf (r.mask .w1s) j = false →
          (u.dev.reg a).getLsbD j = w.getLsbD j) ∧
        (takes = false → bitOf (r.mask .w1c) j = true → bitOf (r.mask .w1s) j = false →
          (u.dev.reg a).getLsbD j = ((s.soc.dev.reg a).getLsbD j && !w.getLsbD j)) ∧
        (takes = false → bitOf (r.mask .w1c) j = false → bitOf (r.mask .w1s) j = true →
          (u.dev.reg a).getLsbD j = ((s.soc.dev.reg a).getLsbD j || w.getLsbD j)) ∧
        (takes = false → bitOf (r.mask .w1c) j = false → bitOf (r.mask .w1s) j = false →
          (u.dev.reg a).getLsbD j = (s.soc.dev.reg a).getLsbD j)) ∧
      (s.soc.dev.get (a - off) COM.ERRCODE_CODE = 0 →
        (r.mask .rwl ≠ 0 → s.soc.dev.locked (a - off) = true →
          u.dev.get (a - off) COM.ERRCODE_CODE = Err.WRITE_LOCKED) ∧
        (r.mask .rwa ≠ 0 → (r.mask .rwl = 0 ∨ s.soc.dev.locked (a - off) = false) →
          u.dev.get (a - off) COM.ERRCODE_CODE = Err.ALMANAC_ONLY))) ∧
  (∀ (at_ : HostAddr) (be : BitVec 4) (w : Word) (a : Nat) (k : PageKind) (i off : Nat) (s : State),
    at_.target = .page a → pageOf a = some (k, i, off) → s.soc.reaches at_ = true → s.soc.answers a = true →
    (be ≠ 15 ∨ a % 4 ≠ 0) →
    ∃ u : Soc, exec (.registerWrite at_ be w) s = .next { s with soc := u.map (fun d => s.soc.dev.follow d) } ∧ u.mem = s.soc.mem ∧
      s.soc.dev.keepsRegs u.dev [a - off + 0x20] ∧
      (s.soc.dev.get (a - off) COM.ERRCODE_CODE = 0 → u.dev.get (a - off) COM.ERRCODE_CODE = Err.ACCESS_WIDTH)) ∧
  (∀ (at_ : HostAddr) (wr : Option (BitVec 4 × Word)) (s : State), at_.target = .unmapped → s.soc.reaches at_ = true →
    ∃ u, exec (.unmappedAccess at_ wr) s = .next { s with soc := u } ∧ u.mem = s.soc.mem ∧
      (wr = none → u.dev.reply = [0]) ∧ s.soc.dev.keepsRegs u.dev [s.soc.dev.ifPage + 0x20] ∧
      (s.soc.dev.get s.soc.dev.ifPage COM.ERRCODE_CODE = 0 →
        u.dev.get s.soc.dev.ifPage COM.ERRCODE_CODE = Err.HOST_UNMAPPED) ∧
      (s.soc.dev.get s.soc.dev.ifPage COM.ERRCODE_CODE ≠ 0 →
        u.dev.get s.soc.dev.ifPage COM.ERRCODE_CODE = s.soc.dev.get s.soc.dev.ifPage COM.ERRCODE_CODE ∧
        u.dev.get s.soc.dev.ifPage COM.ERRCODE_LOST = min 127 (s.soc.dev.get s.soc.dev.ifPage COM.ERRCODE_LOST + 1)))

/-- A due COMMIT_LOAD clears PENDING of its group. Of a WHEN = 0 commit, every RWS register of the stage group but the FORCE word, and BANK_REQ of every context, has its shadow as the active value, and BANK_PENDING of a context shows whether that differs from the bank in force; a stage commit not due changes nothing. PAIRING_WINDOW_CLOSE drops every window that has run out, changes nothing else where their words agree in the fields in use, and reacts where the one window that has run out covers a word that differs. Each answers a next state. -/
def Obligations.CommitLoadsAndPairingWindows : Prop :=
  (∀ (dt : Nat) (s : State) (b : Soc), b = s.soc.after dt →
    (b.dev.flag pgCTX COM.COMMIT_PENDING = true → b.dev.ctxWhen = 0 →
      ∃ u : Soc, exec (.commitLoad dt none) s = .next { s with soc := u.map (fun d => b.dev.follow d) } ∧
        u.dev.flag pgCTX COM.COMMIT_PENDING = false ∧ u.mem = s.soc.mem ∧
        (∀ x : Nat, 1 ≤ x → x < 64 →
          u.dev.actGetAt pgCTX CTX.CCTL_BANK_REQ x = b.dev.getAt pgCTX CTX.CCTL_BANK_REQ x ∧
          u.dev.flagAt pgCTX CTX.CSTAT_BANK_PENDING x
            = (b.dev.getAt pgCTX CTX.CCTL_BANK_REQ x != b.dev.getAt pgCTX CTX.CSTAT_ACTIVE_BANK x))) ∧
    (∀ k : Fin 16,
      (b.dev.commitDue k = true →
        ∃ u : Soc, exec (.commitLoad dt (some k)) s = .next { s with soc := u.map (fun d => b.dev.follow d) } ∧
          u.dev = (b.dev.put (pgSTG k) COM.COMMIT_PENDING 0).loadStageGroup k ∧
          u.dev.flag (pgSTG k) COM.COMMIT_PENDING = false ∧ u.mem = s.soc.mem ∧
          ((b.dev.sh k).armWhen = 0 → ∀ r ∈ b.dev.stageGroup k, (∀ n, r ≠ pgLEG n + 0x5C) → u.dev.actReg r = b.dev.reg r)) ∧
      (b.dev.commitDue k = false →
        ∃ u : Soc, exec (.commitLoad dt (some k)) s = .next { s with soc := u.map (fun d => b.dev.follow d) } ∧ u = b))) ∧
  (∀ (dt : Nat) (s : State) (b : Soc), b = s.soc.after dt →
    (∀ x ∈ b.dev.dupWin, x.2 ≤ b.dev.time → ∀ k i off w, pageOf x.1 = some (k, i, off) →
      (dupWords k).find? (fun w => w.2 == off) = some w → b.dev.dupLive k (x.1 / 0x1000 * 0x1000) w = false) →
    ∃ u : Soc, exec (.pairingWindowClose dt) s = .next { s with soc := u.map (fun d => b.dev.follow d) } ∧
      u.dev = { b.dev with dupWin := b.dev.dupWin.filter (fun x => decide (b.dev.time < x.2)) }) ∧
  (∀ (dt : Nat) (s : State) (b : Soc) (a t : Nat) (k : PageKind) (i off : Nat) (w : Nat × Nat), b = s.soc.after dt →
    b.dev.dupWin = [(a, t)] → t ≤ b.dev.time → pageOf a = some (k, i, off) →
    (dupWords k).find? (fun w => w.2 == off) = some w → b.dev.dupLive k (a / 0x1000 * 0x1000) w = true →
    ∃ u : Soc, exec (.pairingWindowClose dt) s = .next { s with soc := u.map (fun d => b.dev.follow d) } ∧
      u.dev = ({ b.dev with dupWin := [] } : Dev).dupReact k i (a / 0x1000 * 0x1000) w ∧
      (b.dev.get (a / 0x1000 * 0x1000) COM.ERRCODE_CODE = 0 →
        u.dev.get (a / 0x1000 * 0x1000) COM.ERRCODE_CODE = Err.RX_DUP))

/-- With the Almanac idle and no stage of the set enabled, CHECK and ADMIT begin COPYING and note the command, RELEASE of an empty Almanac raises DONE and else goes to APPLYING with every context stopped, and a reserved command stores ADM_CMD_CODE with the command in DETAIL0; while it is busy each of them stores ADM_BUSY with STATE in DETAIL0. ADMISSION_COMPLETE of a CHECK that passes returns to the STATE before; of an ADMIT that passes, with no stage enabled, it takes STATE 3, and with no job running the new set is in force with STATE ADMITTED, REDUCED after a retirement; a set that fails leaves the STATE before with the first code; a RELEASE ends with no set and STATE EMPTY. Each answers a next state. -/
def Obligations.AlmanacCommandsBeginAndEnd : Prop :=
  (∀ s : State, s.soc.answers (pgALM + 0x48) = true →
    (s.soc.dev.almBusy = false →
      (∃ u, exec .check s = .next { s with soc := u } ∧ u.dev.almState = 1 ∧ u.dev.almanac.cmd = 1 ∧
        u.dev.almanac.prev = s.soc.dev.almState ∧ u.mem = s.soc.mem) ∧
      (s.soc.dev.admRunning = none →
        (∃ u, exec .admitSet s = .next { s with soc := u } ∧ u.dev.almState = 1 ∧ u.dev.almanac.cmd = 2
          ∧ u.dev.almanac.prev = s.soc.dev.almState ∧ u.mem = s.soc.mem) ∧
        (s.soc.dev.almState = 0 → ∃ u, exec .release s = .next { s with soc := u } ∧
          u.dev.flag pgALM ALM.IRQ_DONE = true ∧ u.dev.almState = 0 ∧ u.mem = s.soc.mem) ∧
        (s.soc.dev.almState ≠ 0 → ∃ u, exec .release s = .next { s with soc := u } ∧ u.dev.almState = 3 ∧
          u.dev.almanac.cmd = 3 ∧ u.mem = s.soc.mem ∧
          ∀ x : Nat, 1 ≤ x → x < 64 → u.dev.flagAt pgCTX CTX.CCTL_RUN x = false)) ∧
      (∀ code : BitVec 3, 4 ≤ code.toNat →
        ∃ u, exec (.admCmdReserved code) s = .next { s with soc := u } ∧ u.dev.almState = s.soc.dev.almState ∧
          u.dev.get pgALM ALM.REFUSE_CODE = Err.ADM_CMD_CODE ∧ u.dev.getAt pgALM ALM.REFUSE_DETAIL 0 = code.toNat ∧
          (s.soc.dev.get pgALM COM.ERRCODE_CODE = 0 → u.dev.get pgALM COM.ERRCODE_CODE = Err.ADM_CMD_CODE))) ∧
    (s.soc.dev.almBusy = true → ∀ (c : Instr) (code : BitVec 3),
      c ∈ [.check, .admitSet, .release, .admCmdReserved code] → 4 ≤ code.toNat →
      ∃ u, exec c s = .next { s with soc := u } ∧ u.dev.almState = s.soc.dev.almState ∧
        u.dev.get pgALM ALM.REFUSE_CODE = Err.ADM_BUSY ∧ u.dev.getAt pgALM ALM.REFUSE_DETAIL 0 = s.soc.dev.almState ∧
        u.dev.almanac = s.soc.dev.almanac)) ∧
  (∀ (dt : Nat) (s : State) (b c : Soc), b = s.soc.after dt → c = b.copied →
    (b.dev.almState = 1 ∨ b.dev.almState = 2) →
    (∀ p : Plan, c.admVerify disCheck = .ok p →
      (b.dev.almanac.cmd = 1 →
        ∃ u : Soc, exec (.admissionComplete dt) s = .next { s with soc := u.map (fun d => b.dev.follow d) } ∧
          u.dev.almState = (if b.dev.almanac.reduced && b.dev.almanac.prev != 0 then 5 else b.dev.almanac.prev % 8) ∧
          u.dev.get pgALM ALM.PLACE_ADDR = placeRecord ∧ u.dev.flag pgALM ALM.IRQ_DONE = true ∧
          u.dev.flag pgALM ALM.ST_LAST_REFUSED = false ∧ u.dev.adm = b.dev.adm) ∧
      (b.dev.almanac.cmd ≠ 1 → b.dev.admRunning = none →
        (b.dev.jobRuns = true →
          ∃ u : Soc, exec (.admissionComplete dt) s = .next { s with soc := u.map (fun d => b.dev.follow d) } ∧ u.dev.almState = 3 ∧
            u.dev.almanac.next = some p ∧ u.mem = s.soc.mem ∧
            ∀ x : Nat, 1 ≤ x → x < 64 → u.dev.flagAt pgCTX CTX.CCTL_RUN x = false) ∧
        (b.dev.jobRuns = false → b.dev.flag pgBIST BIST.ST_BUSY = false →
          ∃ u : Soc, exec (.admissionComplete dt) s = .next { s with soc := u.map (fun d => b.dev.follow d) } ∧
            u.dev.almState = (if b.dev.almanac.reduced then 5 else 4) ∧ u.dev.adm = some p.set ∧
            u.dev.get pgALM ALM.SETUP_ID = p.set.setupId % 2 ^ 32 ∧ u.dev.flag pgALM ALM.IRQ_DONE = true))) ∧
    (∀ r : Refuse, c.admVerify disCheck = .error r →
      ∃ u : Soc, exec (.admissionComplete dt) s = .next { s with soc := u.map (fun d => b.dev.follow d) } ∧
        u.dev.almState = (if b.dev.almanac.reduced && b.dev.almanac.prev != 0 then 5 else b.dev.almanac.prev % 8) ∧
        u.dev.get pgALM ALM.REFUSE_CODE = r.code % 2 ^ 16 ∧ u.dev.flag pgALM ALM.IRQ_REFUSED = true ∧
        u.dev.adm = b.dev.adm ∧ u.mem = s.soc.mem)) ∧
  (∀ (dt : Nat) (s : State) (b : Soc), b = s.soc.after dt → b.dev.almState = 3 → b.dev.almanac.cmd = 3 →
    b.dev.almanac.next = none → b.dev.jobRuns = false →
    ∃ u : Soc, exec (.admissionComplete dt) s = .next { s with soc := u.map (fun d => b.dev.follow d) } ∧ u.dev.almState = 0 ∧ u.dev.adm = none ∧
      u.dev.get pgALM ALM.SETUP_ID = 0 ∧ u.dev.flag pgALM ALM.IRQ_DONE = true ∧ u.mem = s.soc.mem)

/-- A scheduled slice that may start rotates the roles and takes the old main copy under test, its next start one period on; a recovery slice takes the first datapath to be tested. SLICE_SKIP counts a skipped slice and moves its start on. SLICE_BIST_ENTRY, SLICE_END and SLICE_HANDBACK each move the slice on at their time; a failed one is over, its datapath retired and slices stopped. BACKGROUND_PROMOTION promotes every due job of its loop. Each answers a next state. -/
def Obligations.InOperationSlicesRun : Prop :=
  ∀ (dt : Nat) (c : Fin 4) (s : State) (b : Soc), b = s.soc.after dt →
    (∀ t, b.dev.sliceStart c = some t → b.dev.engineFree = true → t ≤ b.dev.time → b.dev.hasFinder c = true →
      b.dev.pairIdle c = true → b.dev.get (pgCLU c) CLU.MODE_STAT_STATE ≠ 2 → b.dev.get (pgCLU c) CLU.MODE_STAT_STATE ≠ 3 →
      b.dev.flag pgALM ALM.ST_SLICES_STOPPED = false →
      (b.dev.flag (pgCLU c) CLU.MM_INFO_LATCHED = false ∨ b.dev.get (pgCLU c) CLU.MM_TIME ≠ b.dev.time32) →
      ∃ u, exec (.sliceTime0 dt c false) s = .next { s with soc := u } ∧ u.mem = s.soc.mem ∧
        (∃ x, u.dev.slice = some x ∧ x.cluster = c.val ∧ x.t0 = some b.dev.time ∧
          x.dut = b.dev.get (pgCLU c) CLU.CFG_MAIN ∧ x.recovery = false) ∧
        u.dev.get (pgCLU c) CLU.CFG_MAIN = b.dev.get (pgCLU c) CLU.CFG_CHECK ∧
        u.dev.get (pgCLU c) CLU.CFG_CHECK = b.dev.get (pgCLU c) CLU.CFG_FINDER ∧
        u.dev.get (pgCLU c) CLU.CFG_FINDER = b.dev.get (pgCLU c) CLU.CFG_MAIN ∧
        u.dev.get (pgCLU c) CLU.ROT_ROT_CNT = (b.dev.get (pgCLU c) CLU.ROT_ROT_CNT + 1) % 2 ^ CLU.ROT_ROT_CNT.width ∧
        u.dev.flag pgBIST BIST.ST_SLICE = true) ∧
    (∀ r, (b.dev.clu[c]).recov = some r → b.dev.flag (pgCLU c) CLU.MM_INFO_RECOVERING = true → b.dev.engineFree = true →
      (∀ dut : Nat, (b.dev.hasFinder c = true ∧ b.dev.pairIdle c = true ∧ r.todo ≠ [] ∧ dut = b.dev.get (pgCLU c) CLU.CFG_MAIN
          ∨ b.dev.hasFinder c = false ∧ r.todo.head? = some dut) →
        ∃ u, exec (.sliceTime0 dt c true) s = .next { s with soc := u } ∧ u.mem = s.soc.mem ∧
          ∃ x, u.dev.slice = some x ∧ x.cluster = c.val ∧ x.t0 = some b.dev.time ∧ x.dut = dut ∧ x.recovery = true)) ∧
    (∀ t a, b.dev.sliceStart c = some t → b.dev.adm = some a →
      (t + 400 * a.slicePeriod ≤ b.dev.time ∨ ∃ e ∈ b.dev.sliceDue, e.1 ≠ c.val ∧ t < e.2 ∧ e.2 ≤ b.dev.time) →
      ∃ u, exec (.sliceSkip dt c) s = .next { s with soc := u } ∧ u.mem = s.soc.mem ∧
        u.dev.get (pgCLU c) CLU.ROT_SKIP_CNT
          = min (2 ^ CLU.ROT_SKIP_CNT.width - 1) (b.dev.get (pgCLU c) CLU.ROT_SKIP_CNT + 1) ∧
        u.dev.sliceStart c = some (t + 400 * a.slicePeriod)) ∧
    (∀ x t, b.dev.sliceOn c = some x → x.t0 = some t →
      (x.bist = false → x.ended = false → t + 800 ≤ b.dev.time →
        ∃ u, exec (.sliceBistEntry dt c) s = .next { s with soc := u } ∧ u.dev.slice = some { x with bist := true } ∧
          u.dev.regs = b.dev.regs ∧ u.mem = s.soc.mem) ∧
      (∀ sig : Word, x.bist = true → t + 20800 ≤ b.dev.time →
        (∃ u : Soc, exec (.sliceEnd dt c sig true) s = .next { s with soc := u.map (fun d => b.dev.follow d) } ∧
          u.dev.slice = some { x with bist := false, ended := true } ∧
          u.dev.flag pgBIST BIST.IRQ_SLICE_DONE = true ∧ u.mem = s.soc.mem) ∧
        ∃ u : Soc, exec (.sliceEnd dt c sig false) s = .next { s with soc := u.map (fun d => b.dev.follow d) } ∧ u.dev.slice = none ∧
          u.dev.flag pgALM ALM.ST_SLICES_STOPPED = true ∧ u.dev.flag pgBIST BIST.IRQ_FAIL = true ∧
          (3 * c.val + x.dut < 12 → bitOf (u.dev.get pgALM ALM.RETIRED) (3 * c.val + x.dut) = true) ∧
          u.mem = s.soc.mem) ∧
      (x.ended = true → t + 21600 ≤ b.dev.time →
        ∃ u, exec (.sliceHandback dt c) s = .next { s with soc := u } ∧ u.dev.slice = none ∧
          u.dev.flag pgBIST BIST.ST_SLICE = false ∧ u.mem = s.soc.mem)) ∧
    (∀ (id : BitVec 8) r, b.dev.loopDecl id.toNat = some r → r.trigger = 3 →
      (∃ j ∈ b.dev.ready, j.loop = id.toNat ∧ j.promoted = false ∧ j.trigT + 400 * r.period ≤ b.dev.time) →
      ∃ u, exec (.backgroundPromotion dt id) s = .next { s with soc := u } ∧
        (∀ j ∈ u.dev.ready, j.loop = id.toNat → j.trigT + 400 * r.period ≤ b.dev.time → j.promoted = true) ∧
        u.dev.flag pgALM ALM.IRQ_PROMOTED = true ∧ u.mem = s.soc.mem)

/-- Levels that the filter lets through: in quadrature mode a legal step of A and B moves COUNT by one, up in the order 00, 10, 11, 01 and down against it, reversed with DIR_INV. In Hall mode, from an invalid code the first sector k sets TURN_POS to k, REFERENCED to 1, HALL_INVALID to 0 and ANGLE to the centre of the sector. Edges that the filter lets through: the first index event of an enabled, unreferenced quadrature position observes TURN_POS and references the position; a window that ends on an enabled page counts WIN_SEQ and begins the next; a selected probe edge with its VALID bit clear latches the time and sets VALID; an emulated step with a backlog and its gap elapsed moves BACKLOG towards 0 and OUT_COUNT with it. -/
def Obligations.PositionInputsMoveAndLatch : Prop :=
  ((∀ (dt : Nat) (n : Fin 8) (x y : Bool) (s : State) (b : Soc) (i : Int), b = s.soc.after dt →
    b.dev.enabled (pgPOS n) = true → b.dev.get (pgPOS n) POS.CFG_MODE = 0 →
    b.dev.takesLevels n x y (b.dev.pos[n]).z → (∀ e, (b.dev.pos[n]).idx = some e → e.1 ≠ b.dev.time) →
    ((quadIndex x y + 4 - quadIndex (b.dev.pos[n]).a (b.dev.pos[n]).b) % 4 = 1 ∧ i = 1 ∨
      (quadIndex x y + 4 - quadIndex (b.dev.pos[n]).a (b.dev.pos[n]).b) % 4 = 3 ∧ i = -1) →
    ∃ u, exec (.quadratureCount dt n x y) s = .next { s with soc := u } ∧
      u.dev.get (pgPOS n) POS.COUNT
        = unsig 32 (b.dev.getI (pgPOS n) POS.COUNT + if b.dev.flag (pgPOS n) POS.CFG_DIR_INV then -i else i) ∧
      (u.dev.pos[n]).a = x ∧ (u.dev.pos[n]).b = y ∧ u.mem = s.soc.mem) ∧
  (∀ (dt : Nat) (n : Fin 8) (x y z : Bool) (s : State) (b : Soc) (k : Nat), b = s.soc.after dt →
    b.dev.enabled (pgPOS n) = true → b.dev.get (pgPOS n) POS.CFG_MODE = 1 →
    b.dev.takesLevels n x y z → (∀ e, (b.dev.pos[n]).idx = some e → e.1 ≠ b.dev.time) →
    hallSector (b.dev.pos[n]).a (b.dev.pos[n]).b (b.dev.pos[n]).z = none → hallSector x y z = some k →
    ∃ u, exec (.hallSectorChange dt n x y z) s = .next { s with soc := u } ∧
      u.dev.get (pgPOS n) POS.TURN_POS = k ∧ u.dev.flag (pgPOS n) POS.ST_REFERENCED = true ∧
      u.dev.flag (pgPOS n) POS.ST_HALL_INVALID = false ∧
      u.dev.get (pgPOS n) POS.ANGLE = hallCentre (b.dev.get (pgPOS n) POS.ANGLE_OFS) k ∧ u.mem = s.soc.mem)) ∧
  ((∀ (dt : Nat) (n : Fin 8) (s : State) (b : Soc), b = s.soc.after dt →
    (b.dev.enabled (pgPOS n) = true → b.dev.get (pgPOS n) POS.CFG_MODE = 0 → b.dev.flag (pgPOS n) POS.CFG_IDX_GATE = false →
      b.dev.filtered (b.dev.pos[n]).zT (2 * max 1 (b.dev.get (pgPOS n) POS.CFG_FILT)) = true →
      b.dev.flag (pgPOS n) POS.ST_REFERENCED = false → (b.dev.pos[n]).illT ≠ b.dev.time + 1 →
      ∃ u, exec (.indexEvent dt n) s = .next { s with soc := u } ∧
        u.dev.get (pgPOS n) POS.IDX_OBS = b.dev.get (pgPOS n) POS.TURN_POS ∧
        u.dev.flag (pgPOS n) POS.ST_REFERENCED = true ∧ u.dev.flag (pgPOS n) POS.IDX_STAT_SUSPECT = false ∧
        u.mem = s.soc.mem) ∧
    (b.dev.enabled (pgPOS n) = true → (b.dev.pos[n]).winStart + b.dev.get (pgPOS n) POS.SPD_WIN ≤ b.dev.time + 1 →
      ∃ u, exec (.window dt n) s = .next { s with soc := u } ∧
        u.dev.get (pgPOS n) POS.SPD_STAT_WIN_SEQ = (b.dev.get (pgPOS n) POS.SPD_STAT_WIN_SEQ + 1) % 2 ^ 16 ∧
        (u.dev.pos[n]).winStart = (b.dev.pos[n]).winStart + b.dev.get (pgPOS n) POS.SPD_WIN ∧
        (u.dev.pos[n]).win.net = 0 ∧ (u.dev.pos[n]).win.up = false ∧ (u.dev.pos[n]).win.down = false ∧ u.mem = s.soc.mem) ∧
    (b.dev.filtered (b.dev.pos[n]).prbT (b.dev.get (pgPOS n) POS.PRB_CFG_FILT) = true →
      (b.dev.get (pgPOS n) POS.PRB_CFG_EDGE = 1 ∨ b.dev.get (pgPOS n) POS.PRB_CFG_EDGE = 3) →
      b.dev.flag (pgPOS n) POS.PRB_STAT_R_VALID = false →
      ∃ u, exec (.probeEdge dt n true) s = .next { s with soc := u } ∧
        u.dev.flag (pgPOS n) POS.PRB_STAT_R_VALID = true ∧
        u.dev.get (pgPOS n) POS.PRB_R_TIME
          = unsig 32 ((b.dev.time : Int) - (2 + b.dev.get (pgPOS n) POS.PRB_CFG_FILT)) ∧ u.mem = s.soc.mem) ∧
    (b.dev.filtered (b.dev.pos[n]).prbT (b.dev.get (pgPOS n) POS.PRB_CFG_FILT) = true →
      (b.dev.get (pgPOS n) POS.PRB_CFG_EDGE = 2 ∨ b.dev.get (pgPOS n) POS.PRB_CFG_EDGE = 3) →
      b.dev.flag (pgPOS n) POS.PRB_STAT_F_VALID = false →
      ∃ u, exec (.probeEdge dt n false) s = .next { s with soc := u } ∧
        u.dev.flag (pgPOS n) POS.PRB_STAT_F_VALID = true ∧
        u.dev.get (pgPOS n) POS.PRB_F_TIME
          = unsig 32 ((b.dev.time : Int) - (2 + b.dev.get (pgPOS n) POS.PRB_CFG_FILT)) ∧ u.mem = s.soc.mem)) ∧
  (∀ (dt : Nat) (m : Fin 4) (s : State) (b : Soc) (i : Int), b = s.soc.after dt → b.dev.enabled (pgEMU m) = true →
    (b.dev.emu[m]).gapEnd ≤ b.dev.time →
    (0 < b.dev.getI (pgEMU m) EMU.BACKLOG ∧ i = 1 ∨ b.dev.getI (pgEMU m) EMU.BACKLOG < 0 ∧ i = -1) →
    ∃ u, exec (.emuStep dt m) s = .next { s with soc := u } ∧
      u.dev.get (pgEMU m) EMU.BACKLOG = unsig 9 (b.dev.getI (pgEMU m) EMU.BACKLOG - i) ∧
      u.dev.get (pgEMU m) EMU.OUT_COUNT = unsig 32 (b.dev.getI (pgEMU m) EMU.OUT_COUNT + i) ∧ u.mem = s.soc.mem))

/-- On a position page that answers: SET_COUNT stores the word in COUNT, and in quadrature mode sets REFERENCED, and a count of the same TCLK is applied to the written value; SNAP_TAKE copies COUNT, ANGLE, SPEED and SPD_STAT to the snapshot registers and changes no other register; ILL_CNT_CLR and IDX_STAT_CLR clear their counters and nothing else; where the host owns the probe, PRB_CFG_WRITE stores the configuration bits and clears both VALID bits, and PRB_REARM clears the bits written with 1 among the four W1C bits and nothing else. -/
def Obligations.PositionHostCommands : Prop :=
  ∀ (n : Fin 8) (w : Word) (s : State),
    (s.soc.answers (pgPOS n + 0x60) = true → (s.soc.dev.pos[n]).cntT = s.soc.dev.time + 1 →
      (∀ e, (s.soc.dev.pos[n]).idx = some e → e.1 ≠ s.soc.dev.time) →
      ∃ u, exec (.setCount n w) s = .next { s with soc := u } ∧
        u.dev.get (pgPOS n) POS.COUNT = unsig 32 (w.toInt + (s.soc.dev.pos[n]).last) ∧ u.mem = s.soc.mem) ∧
    (s.soc.answers (pgPOS n + 0x60) = true → s.soc.dev.posAlone n → ∃ u, exec (.setCount n w) s = .next { s with soc := u } ∧
      u.dev.get (pgPOS n) POS.COUNT = w.toNat ∧
      (s.soc.dev.get (pgPOS n) POS.CFG_MODE = 0 → u.dev.flag (pgPOS n) POS.ST_REFERENCED = true) ∧
      s.soc.dev.keepsRegs u.dev [pgPOS n + 0x58, pgPOS n + 0x5C, pgPOS n + 0x64, pgPOS n + 0x0C] ∧ u.mem = s.soc.mem) ∧
    (s.soc.answers (pgPOS n + 0xA0) = true → ∃ u, exec (.snapTake n) s = .next { s with soc := u } ∧
      u.dev.get (pgPOS n) POS.SNAP_COUNT = s.soc.dev.get (pgPOS n) POS.COUNT ∧
      u.dev.get (pgPOS n) POS.SNAP_ANGLE = s.soc.dev.get (pgPOS n) POS.ANGLE ∧
      u.dev.get (pgPOS n) POS.SNAP_SPEED = s.soc.dev.get (pgPOS n) POS.SPEED ∧
      u.dev.get (pgPOS n) POS.SNAP_SPD_STAT = s.soc.dev.get (pgPOS n) POS.SPD_STAT ∧
      s.soc.dev.keepsRegs u.dev [pgPOS n + 0xA4, pgPOS n + 0xA8, pgPOS n + 0xAC, pgPOS n + 0xB0] ∧ u.mem = s.soc.mem) ∧
    (s.soc.answers (pgPOS n + 0x70) = true → ∃ u, exec (.illCntClr n) s = .next { s with soc := u } ∧
      u.dev.get (pgPOS n) POS.ILL_CNT_COUNT = 0 ∧ s.soc.dev.keepsRegs u.dev [pgPOS n + 0x70] ∧ u.mem = s.soc.mem) ∧
    (s.soc.answers (pgPOS n + 0x7C) = true → ∃ u, exec (.idxStatClr n) s = .next { s with soc := u } ∧
      u.dev.get (pgPOS n) POS.IDX_STAT_MISS_CNT = 0 ∧ s.soc.dev.keepsRegs u.dev [pgPOS n + 0x7C] ∧
      u.mem = s.soc.mem) ∧
    (s.soc.dev.hostOwnsProbe n = true →
      (s.soc.answers (pgPOS n + 0x80) = true → ∃ u, exec (.prbCfgWrite n w) s = .next { s with soc := u } ∧
        u.dev.reg (pgPOS n + 0x80) = BitVec.ofNat 32 (w.toNat / 2 ^ 17 * 2 ^ 17) ∧
        u.dev.flag (pgPOS n) POS.PRB_STAT_R_VALID = false ∧ u.dev.flag (pgPOS n) POS.PRB_STAT_F_VALID = false ∧
        s.soc.dev.keepsRegs u.dev [pgPOS n + 0x80, pgPOS n + 0x9C] ∧ u.mem = s.soc.mem) ∧
      (s.soc.answers (pgPOS n + 0x9C) = true → ∃ u, exec (.prbRearm n w) s = .next { s with soc := u } ∧
        u.dev.reg (pgPOS n + 0x9C) = s.soc.dev.reg (pgPOS n + 0x9C) &&& ~~~(w &&& 0xF) ∧
        s.soc.dev.keepsRegs u.dev [pgPOS n + 0x9C] ∧ u.mem = s.soc.mem))

/-- With both codes at the sample latch, a sample of an enabled resolver takes them and publishes MECH from the loop state it leaves, started; while an entry is invalid, a sampling instant sets LOS and clears POS_VALID. A due SSI request of an idle interface with the data line high starts a frame; a frame that has run its time, within TM_MAX, and is the first stores RAW as the word, Gray-decoded where the page says so, and sets POS_VALID; a frame whose data line stays low beyond TM_MAX ends and counts a timeout. -/
def Obligations.ResolverAndSsiFramesArrive : Prop :=
  ∀ (dt : Nat) (n : Fin 4) (s : State) (b : Soc), b = s.soc.after dt →
    (b.dev.enabled (pgRSV n) = true →
      (∀ x y : Nat × Bool, (b.dev.rsvEntry n 1 && b.dev.rsvEntry n 2) = true → (b.dev.rsv[n]).sinC = some x →
        (b.dev.rsv[n]).cosC = some y →
        ∃ u, exec (.resolverSample dt n) s = .next { s with soc := u } ∧ (u.dev.rsv[n]).started = true ∧
          u.dev.get (pgRSV n) RSV.MECH = (u.dev.rsv[n]).phi / 2 ^ 16 % 2 ^ 32 ∧ (u.dev.rsv[n]).sinC = none ∧
          (u.dev.rsv[n]).cosC = none ∧ u.mem = s.soc.mem) ∧
      ((b.dev.rsvEntry n 1 && b.dev.rsvEntry n 2) = false → (b.dev.rsvInstant n b.dev.time).isSome = true →
        ∃ u, exec (.resolverSample dt n) s = .next { s with soc := u } ∧ u.dev.flag (pgRSV n) RSV.ST_LOS = true ∧
          u.dev.flag (pgRSV n) RSV.ST_POS_VALID = false ∧ u.mem = s.soc.mem)) ∧
    (b.dev.enabled (pgSSI n) = true → b.dev.get (pgSSI n) SSI.REQ_SRC = 0 → (b.dev.ssi[n]).nextReq ≤ b.dev.time →
      (b.dev.ssi[n]).inFrame = false → (b.dev.ssi[n]).busyUntil ≤ b.dev.time →
      ∃ u, exec (.ssiRequest dt n true) s = .next { s with soc := u } ∧ (u.dev.ssi[n]).inFrame = true ∧
        (u.dev.ssi[n]).start = b.dev.time ∧
        (u.dev.ssi[n]).nextReq = (b.dev.ssi[n]).nextReq + b.dev.get (pgSSI n) SSI.REQ_PERIOD ∧
        u.dev.regs = b.dev.regs ∧ u.mem = s.soc.mem) ∧
    (b.dev.enabled (pgSSI n) = true → (b.dev.ssi[n]).inFrame = true →
      (∀ w : Word, b.dev.ssiEnd (pgSSI n) (b.dev.ssi[n]).start ≤ b.dev.time →
        b.dev.ssiLast (pgSSI n) (b.dev.ssi[n]).start ≤ b.dev.time →
        b.dev.time ≤ b.dev.ssiEnd (pgSSI n) (b.dev.ssi[n]).start + b.dev.get (pgSSI n) SSI.TM_TM_MAX → (b.dev.ssi[n]).haveLast = false →
        ∃ u, exec (.ssiFrame dt n w) s = .next { s with soc := u } ∧ (u.dev.ssi[n]).inFrame = false ∧
          u.dev.get (pgSSI n) SSI.RAW
            = (if b.dev.flag (pgSSI n) SSI.CFG_GRAY then
                grayToBin 32 (w.toNat % 2 ^ b.dev.get (pgSSI n) SSI.CFG_BITS)
              else w.toNat % 2 ^ b.dev.get (pgSSI n) SSI.CFG_BITS) % 2 ^ 32 ∧
          u.dev.flag (pgSSI n) SSI.ST_POS_VALID = true ∧ u.mem = s.soc.mem) ∧
      (b.dev.ssiEnd (pgSSI n) (b.dev.ssi[n]).start + b.dev.get (pgSSI n) SSI.TM_TM_MAX ≤ b.dev.time →
        b.dev.get (pgSSI n) SSI.ERR_CNT_TIMEOUT_CNT < 255 →
        ∃ u, exec (.ssiTimeout dt n) s = .next { s with soc := u } ∧ (u.dev.ssi[n]).inFrame = false ∧
          u.dev.get (pgSSI n) SSI.ERR_CNT_TIMEOUT_CNT = b.dev.get (pgSSI n) SSI.ERR_CNT_TIMEOUT_CNT + 1 ∧
          u.mem = s.soc.mem))

/-- A firing stage with nothing carried, no switch crossing and one EDGE entry passing queues that edge three TCLK ahead at its tap. A legal LOAD of a library chart, and a legal in-place validation, set LOADING and bound the load at 2000 plus 8 or 4 TCLK an entry. LOAD_DONE of an in-place chart with no bad entry clears LOADING and sets IDLE_LOADED; with a bad entry it stores its number in LOAD_ERR and clears IDLE_LOADED. A whole word written to a region of a stage of the host, outside the active bank and an idle bank that is busy, is stored; one in no region, in an active bank or in the region of a stage of another owner stores EPH_ACTIVE_WRITE. At the crossing of an armed switch the entries up to it fire from the old chart, the banks swap with ARMED cleared, levels are checked and the rest fires from the new chart. A running stage with FORCE_FB falls back with REASON 5, and one below F_LOW with REASON 1; a due return sets STATE to RUN with the DIR that the speed gives. EPH_CNT_CLR clears both counter words. -/
def Obligations.ChartsFireLoadAndSwitch : Prop :=
  ((∀ (dt : Nat) (k : Fin 16) (s : State) (b : Soc) (r i : Nat), b = s.soc.after dt → b.dev.firing k = true →
    b.dev.crossing k = none → (b.dev.est[k]).carried = [] → (b.dev.est[k]).seen = none → (b.dev.est[k]).fired = 0 →
    b.dev.passing k (b.dev.travel k) = [(r, i)] → entryAction (b.dev.entry i) = 1 →
    ∃ u, exec (.entryFire dt k) s = .next { s with soc := u } ∧ u.mem = s.soc.mem ∧
      (u.dev.sh k).edges = (b.dev.sh k).edges ++ [(32 * (b.dev.time + 3) + 32 * r / b.dev.travel k,
        entryLeg (b.dev.entry i),
        if b.dev.estDir k < 0 then entryPrior (b.dev.entry i) else entryState (b.dev.entry i))] ∧
      (u.dev.est[k]).fired = 1 ∧ u.dev.regs = b.dev.regs) ∧
  (∀ (k : Fin 16) (s : State), s.soc.answers (pgEPH + 0x11C + 64 * k.val) = true → s.soc.dev.loadBusy k = false →
    (∀ (c : BitVec 16) (lib n : Nat), lib = s.soc.dev.getAt pgEPH EPH.LIB_ADDR k →
      n = memNat s.soc.mem (lib + 8 + 8 * c.toNat + 4) 2 → c.toNat < memNat s.soc.mem lib 4 →
      0 < n → n ≤ s.soc.dev.bankSize k →
      ∃ u, exec (.ephLoad k c) s = .next { s with soc := u } ∧ u.dev.flagAt pgEPH EPH.STATE_LOADING k = true ∧
        (u.dev.est[k]).loadChart = c.toNat ∧ (u.dev.est[k]).loadCount = n ∧
        (u.dev.est[k]).loadEnd = s.soc.dev.time + (2000 + 8 * n) ∧ u.mem = s.soc.mem) ∧
    (∀ c : BitVec 11, 0 < c.toNat → c.toNat ≤ s.soc.dev.bankSize k →
      ∃ u, exec (.ephValidateInPlace k c) s = .next { s with soc := u } ∧
        u.dev.flagAt pgEPH EPH.STATE_LOADING k = true ∧ (u.dev.est[k]).loadChart = 0xFFFF ∧
        (u.dev.est[k]).loadCount = c.toNat ∧ (u.dev.est[k]).loadEnd = s.soc.dev.time + (2000 + 4 * c.toNat) ∧
        u.mem = s.soc.mem)) ∧
  (∀ (dt : Nat) (k : Fin 16) (s : State) (b : Soc) (l : List Nat), b = s.soc.after dt →
    b.dev.flagAt pgEPH EPH.STATE_LOADING k = true → (b.dev.est[k]).loadChart = 0xFFFF →
    l = (List.range (b.dev.est[k]).loadCount).map (fun j => b.dev.entry (b.dev.idleBase k + j)) →
    ∃ (u : Soc) (d : Dev), exec (.loadDone dt k) s = .next { s with soc := u } ∧ u.mem = s.soc.mem ∧
      u.dev = (List.range 32).foldl (fun (d : Dev) r => d.promoLibrary r) d ∧
      d.flagAt pgEPH EPH.STATE_LOADING k = false ∧
      (b.dev.firstBad k 0 none [] l = none → d.flagAt pgEPH EPH.STATE_IDLE_LOADED k = true ∧
        (d.est[k]).cntI = (b.dev.est[k]).loadCount) ∧
      (∀ j, b.dev.firstBad k 0 none [] l = some j → d.flagAt pgEPH EPH.STATE_IDLE_LOADED k = false ∧
        d.getAt pgEPH EPH.LOAD_ERR_CODE k = Err.EPH_CHART_BAD ∧
        d.getAt pgEPH EPH.LOAD_ERR_INDEX k = j % 2 ^ EPH.LOAD_ERR_INDEX.width))) ∧
  ((∀ (w : Fin 6144) (v : Word) (k : Nat) (s : State), s.soc.answers pgEPH = true →
    s.soc.dev.regionOf (w.val / 2) = some k →
    ¬ (s.soc.dev.activeBase k ≤ w.val / 2 ∧ w.val / 2 < s.soc.dev.activeBase k + s.soc.dev.bankSize k) →
    s.soc.dev.loadBusy k = false → s.soc.dev.get (pgSTG k) COM.OWNER_KIND = 1 →
    ∃ u, exec (.ephWindowWrite w true v) s = .next { s with soc := u } ∧ mapGet ephDefault u.dev.eph w.val = v ∧
      (∀ j, j ≠ w.val → mapGet ephDefault u.dev.eph j = mapGet ephDefault s.soc.dev.eph j) ∧ u.mem = s.soc.mem) ∧
  (∀ (w : Fin 6144) (v : Word) (s : State), s.soc.answers pgEPH = true →
    (∀ k, s.soc.dev.regionOf (w.val / 2) = some k → s.soc.dev.get (pgSTG k) COM.OWNER_KIND ≠ 1 ∨
      (s.soc.dev.activeBase k ≤ w.val / 2 ∧ w.val / 2 < s.soc.dev.activeBase k + s.soc.dev.bankSize k)) →
    ∃ u, exec (.ephWindowWrite w true v) s = .next { s with soc := u } ∧ u.dev.eph = s.soc.dev.eph ∧
      (s.soc.dev.get pgEPH COM.ERRCODE_CODE = 0 → u.dev.get pgEPH COM.ERRCODE_CODE = Err.EPH_ACTIVE_WRITE) ∧
      s.soc.dev.keepsRegs u.dev [pgEPH + 0x20] ∧ u.mem = s.soc.mem) ∧
  (∀ (dt : Nat) (k : Fin 16) (s : State) (b : Soc), b = s.soc.after dt →
    (∀ r, b.dev.firing k = true → b.dev.crossing k = some r →
      ∃ (u : Soc) (d e : Dev), exec (.switched dt k) s = .next { s with soc := u } ∧ d = b.dev.fireUpTo k r ∧
        e = d.swapBanks k ∧ e.flagAt pgEPH EPH.STATE_ARMED k = false ∧ e.flagAt pgEPH EPH.STATE_CHART_VALID k = true ∧
        (e.est[k]).cntA = (d.est[k]).cntI ∧
        (d.getAt pgEPH EPH.STATE_ACTIVE_BANK k ≤ 1 →
          e.getAt pgEPH EPH.STATE_ACTIVE_BANK k = 1 - d.getAt pgEPH EPH.STATE_ACTIVE_BANK k) ∧
        (∃ p, u.dev = (e.levelCheck k p).fireUpTo k ((e.levelCheck k p).travel k)) ∧ u.mem = s.soc.mem) ∧
    ((b.dev.est[k]).on = true → b.dev.inRun k = true → b.dev.ephFrozen = false →
      (b.dev.flagAt pgEPH EPH.SCTRL_FORCE_FB k = true →
        ∃ u, exec (.fallback dt k) s = .next { s with soc := u } ∧ u.dev.getAt pgEPH EPH.STATE_STATE k = 1 ∧
          u.dev.getAt pgEPH EPH.STATE_REASON k = 5 ∧ u.mem = s.soc.mem) ∧
      (b.dev.flagAt pgEPH EPH.SCTRL_FORCE_FB k = false →
        (b.dev.est[k]).omega.natAbs < b.dev.getAt pgEPH EPH.F_LOW k →
        ∃ u, exec (.fallback dt k) s = .next { s with soc := u } ∧ u.dev.getAt pgEPH EPH.STATE_STATE k = 1 ∧
          u.dev.getAt pgEPH EPH.STATE_REASON k = 1 ∧
          (b.dev.running k = true → (u.dev.sh k).forceZero = some (b.dev.time + 1)) ∧ u.mem = s.soc.mem)) ∧
    (b.dev.returnDue k = true → b.dev.ephFrozen = false →
      ∃ u, exec (.returnRun dt k) s = .next { s with soc := u } ∧ u.dev.getAt pgEPH EPH.STATE_STATE k = 2 ∧
        u.dev.getAt pgEPH EPH.STATE_DIR k = b2n (decide ((b.dev.est[k]).omega < 0)) ∧ u.mem = s.soc.mem)) ∧
  (∀ (k : Fin 16) (s : State), s.soc.answers (pgEPH + 0x514 + 32 * k.val) = true →
    ∃ u, exec (.ephCntClr k) s = .next { s with soc := u } ∧ u.dev.getAt pgEPH EPH.CNT_A k = 0 ∧
      u.dev.getAt pgEPH EPH.CNT_B k = 0 ∧
      s.soc.dev.keepsRegs u.dev [pgEPH + EPH.CNT_A.off + EPH.CNT_A.stride * k.val,
        pgEPH + EPH.CNT_B.off + EPH.CNT_B.stride * k.val] ∧ s.soc.dev.agreeOffRegs u.dev ∧ u.mem = s.soc.mem))

/-- Of a running stage under compare control: at the end of its carrier the next carrier begins one period later with CARRIER_CNT one up and no compare taken, and its zero event follows; a forced zero event that is due begins it at once; the period event and a compare event are taken once in the carrier and bring the stage event 1, or 2 to 5 with LATE_EDGE where the compare lies behind. A waiting stage whose source has its zero event in this TCLK starts running. Where debug is allowed and the stream exists, DEBUG_HALT halts it, and with HALT_FREEZE nowhere set no register changes. FREEZE_END ends every halt, and with nothing frozen it changes no register. STG_CNT_CLR, LEG_CNT_CLR and CM_CNT_CLR clear their counter words and change no other register and no hidden state. -/
def Obligations.StageEventsHaltsAndCounters : Prop :=
  (∀ (dt : Nat) (k : Fin 16) (s : State) (b : Soc), b = s.soc.after dt →
    (b.dev.running k = true → b.dev.frozen k = false → (b.dev.sh k).forceZero = none → b.dev.stgSet k ≠ 3 →
      (b.dev.sh k).x0 + b.dev.period k ≤ b.dev.time →
      ∃ (u : Soc) (d : Dev), exec (.zeroEvent dt k) s = .next { s with soc := u } ∧ u.dev = d.zeroNow k ∧
        d.get (pgSTG k) STG.CARRIER_CNT = (b.dev.get (pgSTG k) STG.CARRIER_CNT + 1) % 2 ^ 32 ∧
        (d.sh k).x0 = (b.dev.sh k).x0 + b.dev.period k ∧ (d.sh k).cmpTaken = List.replicate 4 false ∧
        (d.sh k).perTaken = false ∧ u.mem = s.soc.mem) ∧
    (∀ t : Nat, b.dev.running k = true → b.dev.frozen k = false → (b.dev.sh k).forceZero = some t → t ≤ b.dev.time →
      ∃ (u : Soc) (d : Dev), exec (.zeroEvent dt k) s = .next { s with soc := u } ∧ u.dev = d.zeroNow k ∧
        d.get (pgSTG k) STG.CARRIER_CNT = (b.dev.get (pgSTG k) STG.CARRIER_CNT + 1) % 2 ^ 32 ∧
        (d.sh k).x0 = b.dev.time ∧ (d.sh k).forcedT = b.dev.time + 1 ∧ u.mem = s.soc.mem) ∧
    (b.dev.compareCtl k = true → (b.dev.sh k).perTaken = false →
      periodPos (b.dev.countMode k) (b.dev.period k) ≤ b.dev.xPos k →
      ∃ (u : Soc) (d : Dev), exec (.periodEvent dt k) s = .next { s with soc := u } ∧ u.dev = d.stageEvent k 1 ∧
        (d.sh k).perTaken = true ∧ d.regs = b.dev.regs ∧ u.mem = s.soc.mem) ∧
    (∀ j : Fin 4, b.dev.compareCtl k = true → b.dev.commitDue k = false → (b.dev.sh k).cmpTaken.getD j false = false → b.dev.cmpPos k j ≤ b.dev.xPos k →
      ∃ (u : Soc) (d : Dev), exec (.stageCompareEvent dt k j) s = .next { s with soc := u } ∧
        u.dev = (d.irqIf (decide (b.dev.cmpPos k j < b.dev.xPos k)) (pgSTG k) STG.IRQ_LATE_EDGE).stageEvent k (2 + j) ∧
        (d.sh k).cmpTaken = (b.dev.sh k).cmpTaken.set j true ∧ d.regs = b.dev.regs ∧ u.mem = s.soc.mem) ∧
    (b.dev.enabled (pgSTG k) = true → b.dev.flag (pgSTG k) STG.ST_WAIT_SYNC = true →
      b.dev.get (pgSTG k) STG.CFG_SYNC_SRC < 16 →
      (b.dev.sh (b.dev.get (pgSTG k) STG.CFG_SYNC_SRC)).zeroT = b.dev.time + 1 →
      ∃ u, exec (.syncStart dt k) s = .next { s with soc := u } ∧ u.dev.running k = true ∧
        u.dev.flag (pgSTG k) STG.ST_WAIT_SYNC = false ∧ u.mem = s.soc.mem)) ∧
  ((∀ (dt : Nat) (s : State) (b : Soc), b = s.soc.after dt →
    (∀ (c : Fin 4) (st : Fin 3), b.dev.debugAllowed = true → b.dev.copies c st ≠ [] →
      ∃ u : Soc, exec (.debugHalt dt c st) s = .next { s with soc := u.map (fun d => b.dev.follow d) } ∧
        (u.dev.clu[c]).halt[st] = true ∧ u.mem = s.soc.mem ∧
        ((∀ p, b.dev.flag p COM.CTRL_HALT_FREEZE = false) → u.dev.regs = b.dev.regs ∧ u.dev.leg = b.dev.leg)) ∧
    (∃ (u : Soc) (d : Dev), exec (.freezeEnd dt) s = .next { s with soc := u } ∧
      (∀ (c : Fin 4) (st : Fin 3), (d.clu[c]).halt[st] = false) ∧ d.regs = b.dev.regs ∧
      ((∀ p, b.dev.flag p COM.ST_FROZEN = false) → u.dev = d) ∧ u.mem = s.soc.mem)) ∧
  (∀ (k : Fin 16) (n : Fin 64) (s : State),
    (s.soc.answers (pgSTG k + 0x78) = true →
      ∃ u, exec (.stgCntClr k) s = .next { s with soc := u } ∧ u.dev.get (pgSTG k) STG.CNT = 0 ∧
        s.soc.dev.keepsRegs u.dev [pgSTG k + STG.CNT.off] ∧ s.soc.dev.agreeOffRegs u.dev ∧ u.mem = s.soc.mem) ∧
    (s.soc.answers (pgLEG n + 0x6C) = true →
      ∃ u, exec (.legCntClr n) s = .next { s with soc := u } ∧ u.dev.get (pgLEG n) LEG.CNT = 0 ∧
        s.soc.dev.keepsRegs u.dev [pgLEG n + LEG.CNT.off] ∧ s.soc.dev.agreeOffRegs u.dev ∧ u.mem = s.soc.mem) ∧
    (s.soc.answers (pgSTG k + 0x240) = true →
      ∃ u, exec (.cmCntClr k) s = .next { s with soc := u } ∧ u.dev.get (pgSTG k) STG.CM_CNT = 0 ∧
        s.soc.dev.keepsRegs u.dev [pgSTG k + STG.CM_CNT.off] ∧ s.soc.dev.agreeOffRegs u.dev ∧ u.mem = s.soc.mem)))

/-- Under compare control with FORCE 0, an ON edge that is due now, with no OFF edge due, commands the level of R158 and is taken; in EPHEMERIS a queued edge that is due commands its level and leaves the queue. A pending turn-on that is due, with its complement off for the floor and no pair rule against it, turns its gate on. After MIN_O in O a pair on its way to H turns S3 off and schedules S1 its dead time later; after OFF_GAP the named inner switch is off. -/
def Obligations.LegEdgesAndGateTimes : Prop :=
  ∀ (dt : Nat) (n : Fin 64) (s : State) (b : Soc), b = s.soc.after dt →
    (∀ k : Nat, k = b.dev.legStage n → b.dev.bound n = true → b.dev.slave n = false → b.dev.running k = true →
      b.dev.frozen k = false → b.dev.force n = 0 → b.dev.commitDue k = false → b.dev.flag (pgLEG n) COM.ST_FROZEN = false →
      (b.dev.stgSet k ≠ 3 → (b.dev.sh k).edges = [] → (b.dev.lh n).onTaken = false → b.dev.edgeU k n true / 512 = b.dev.xPos k →
        ((b.dev.lh n).offTaken = true ∨ b.dev.xPos k < b.dev.edgeU k n false / 512) →
        ∃ (u : Soc) (d : Dev), exec (.legEdge dt n) s = .next { s with soc := u } ∧ (d.lh n).onTaken = true ∧
          d.regs = b.dev.regs ∧
          u.dev = d.command n (b.dev.pulseLevel n true) (b.dev.tap0 + b.dev.edgeTap k (b.dev.edgeU k n true)) ∧
          u.mem = s.soc.mem) ∧
      (∀ t l : Nat, b.dev.stgSet k = 3 → (b.dev.sh k).edges = [(t, n.val, l)] → t < b.dev.tap0 + 32 →
        ∃ (u : Soc) (d : Dev), exec (.legEdge dt n) s = .next { s with soc := u } ∧ (d.sh k).edges = [] ∧
          d.regs = b.dev.regs ∧ u.dev = d.command n l (if b.dev.coarseOnly then t / 32 * 32 else t) ∧
          u.mem = s.soc.mem)) ∧
    (∀ (high hit : Bool) (due : Nat),
      (b.dev.lh n).pend.find? (fun p => p.1 == high && decide (p.2.1 < b.dev.tap0 + 32)) = some (high, due, hit) →
      b.dev.gate (b.dev.compLeg n) (!high) = false →
      (b.dev.paired n = true → n.val % 2 = 0 → b.dev.gate (n.val + 1) high = true) →
      (∀ c, (b.dev.lh (b.dev.compLeg n)).offOf (!high) = some c →
        c + 32 * b.dev.getAt pgTRIP TRIP.FLOOR (b.dev.legStage n) ≤ due) →
      ∃ u : Soc, exec (.turnOn dt n high) s = .next { s with soc := u.map (fun d => b.dev.follow d) } ∧
        u.dev.gate n high = true ∧ (u.dev.lh n).pend = (b.dev.lh n).pend.filter (fun p => p.1 != high) ∧
        b.dev.keepsRegs u.dev [pgLEG n + LEG.LEVEL.off] ∧ u.mem = s.soc.mem) ∧
    (∀ e : Nat, (b.dev.lh n).minO = some e → e < b.dev.tap0 + 32 → n.val % 2 = 0 → (b.dev.lh n).drive = .normal →
      (b.dev.lh n).goal = 1 → b.dev.gate (n.val + 1) true = true → b.dev.gate (n.val + 1) false = true →
      b.dev.gate n true = false → b.dev.gate n false = false →
      ∃ u, exec (.minOExpiry dt n) s = .next { s with soc := u } ∧ u.dev.gate (n.val + 1) true = true ∧
        u.dev.gate (n.val + 1) false = false ∧ (u.dev.lh n).minO = none ∧
        (u.dev.lh n).pend = [(true, e + b.dev.dead n true, false)] ∧ u.mem = s.soc.mem) ∧
    (∀ (e : Nat) (s2 : Bool), (b.dev.lh n).gap = some (e, s2) → e < b.dev.tap0 + 32 → n.val % 2 = 0 →
      ∃ u, exec (.offGapExpiry dt n) s = .next { s with soc := u } ∧ u.dev.gate (n.val + 1) s2 = false ∧
        (u.dev.lh n).gap = none ∧ u.mem = s.soc.mem)

/-- A due trigger of a measured carrier triggers its instant in the next TCLK and is no longer to come. At H + 70 a carrier with both shunt results in time, in range, not forced, tripped or without window publishes the three phase currents of its sector with VALID, its SEQ one up and TIME. An in-line instant with all its words, the last 3 TCLK ago, publishes with VALID the AND of its words, SEQ one up. -/
def Obligations.CurrentSetsArePublished : Prop :=
  ∀ (dt : Nat) (k : Fin 16) (s : State) (b : Soc), b = s.soc.after dt →
    (∀ (second : Bool) (t : Nat), (b.dev.sh k).cm.act = true →
      (if second then (b.dev.sh k).cm.e1 else (b.dev.sh k).cm.e0) = some t → t ≤ b.dev.time →
      ∃ (u : Soc) (d : Dev), exec (.reconTrigger dt k second) s = .next { s with soc := u } ∧
        u.dev = d.instant k (b2n second) (b.dev.time + 1) ∧ d.regs = b.dev.regs ∧
        (if second then (d.sh k).cm.e1 else (d.sh k).cm.e0) = none ∧ u.mem = s.soc.mem) ∧
    (∀ r0 r1 : ShuntRes, (b.dev.sh k).cm.act = true → b.dev.recon k = true →
      (b.dev.sh k).x0 + b.dev.period k / 2 + 70 ≤ b.dev.time →
      (b.dev.sh k).cm.forced = false → (b.dev.sh k).cm.tripped = false → (b.dev.sh k).cm.nowin = false →
      (b.dev.sh k).cm.sector < 6 → (b.dev.sh k).cm.res0 = some r0 → (b.dev.sh k).cm.res1 = some r1 →
      r0.time ≤ (b.dev.sh k).x0 + b.dev.period k / 2 + 67 → r1.time ≤ (b.dev.sh k).x0 + b.dev.period k / 2 + 67 →
      r0.range = false → r1.range = false →
      ∃ u : Soc, exec (.cmPublish dt k) s = .next { s with soc := u.map (fun d => b.dev.follow d) } ∧
        u.dev.getIAt (pgSTG k) STG.CM_I ((phaseOrder (b.dev.sh k).cm.sector).getD 0 0) = b.dev.amps k 0 (r0.code : Int) ∧
        u.dev.getIAt (pgSTG k) STG.CM_I ((phaseOrder (b.dev.sh k).cm.sector).getD 2 0)
          = satInt 16 (-b.dev.amps k 0 (r1.code : Int)) ∧
        u.dev.getIAt (pgSTG k) STG.CM_I ((phaseOrder (b.dev.sh k).cm.sector).getD 1 0)
          = satInt 16 (-(b.dev.amps k 0 (r0.code : Int) - b.dev.amps k 0 (r1.code : Int))) ∧
        u.dev.flag (pgSTG k) STG.CM_STAT_VALID = true ∧
        u.dev.get (pgSTG k) STG.CM_STAT_SEQ = (b.dev.get (pgSTG k) STG.CM_STAT_SEQ + 1) % 2 ^ 16 ∧
        u.dev.get (pgSTG k) STG.CM_TIME = b.dev.time32 ∧ (u.dev.sh k).cm.act = false ∧ u.mem = s.soc.mem) ∧
    (∀ (q : InlReq) (rest : List InlReq) (ws : List SdiTaken), (b.dev.sh k).cm.inl = q :: rest → q.words = ws.map some →
      (∀ w ∈ ws, w.time + 3 ≤ b.dev.time) → b.dev.phase k ≠ 2 →
      ∃ u : Soc, exec (.inlinePublish dt k) s = .next { s with soc := u.map (fun d => b.dev.follow d) } ∧
        (u.dev.sh k).cm.inl = rest ∧ u.dev.flag (pgSTG k) STG.CM_STAT_VALID = ws.all (fun w => w.ok) ∧
        u.dev.get (pgSTG k) STG.CM_STAT_SEQ = (b.dev.get (pgSTG k) STG.CM_STAT_SEQ + 1) % 2 ^ 16 ∧
        (ws.all (fun w => w.ok) = true → 1 < ws.length → ws.length < 5 →
          u.dev.getIAt (pgSTG k) STG.CM_I 0 = b.dev.amps k 0 (signed 16 ((ws.map (fun w => w.val)).getD 0 0)) ∧
          u.dev.getIAt (pgSTG k) STG.CM_I 1 = b.dev.amps k 1 (signed 16 ((ws.map (fun w => w.val)).getD 1 0))) ∧
        u.mem = s.soc.mem)

/-- A trigger that has reached an enabled group, or a sampling instant of the resolver of an entry, joins the waiting requests, and counts an overrun where its entry waits already. A free converter of a ready group starts the one waiting, unlinked entry that it serves, and is free again 50 TCLK later. A code within range that an injected conversion gives 52 TCLK after its start stands in its result register with LATE where LAT_MAX is passed. -/
def Obligations.ConversionsRunAndAnswer : Prop :=
  ∀ (dt : Nat) (g : Fin 4) (s : State) (b : Soc), b = s.soc.after dt → b.dev.enabled (pgADCG g) = true →
    (∀ (r : Fin 32) (p : Nat × Nat),
      (b.dev.flagAt (pgADCG g) ADCG.INJ_VALID r && b.dev.getAt (pgADCG g) ADCG.INJ_KIND r != 0) = false →
      (b.dev.ah g).arr.find? (fun p => p.1 == r.val && decide (p.2 ≤ b.dev.time)) = some p →
      p ∉ (b.dev.ah g).pend → (∀ x ∈ (b.dev.ah g).runs, x.tR ≠ p.2) →
      ((b.dev.ah g).pend.any (fun q => q.1 == r.val) = false →
        ∃ u, exec (.injRequest dt g r) s = .next { s with soc := u } ∧ (u.dev.ah g).pend = (b.dev.ah g).pend ++ [p] ∧
          (u.dev.ah g).arr = (b.dev.ah g).arr.erase p ∧ u.dev.regs = b.dev.regs ∧ u.mem = s.soc.mem) ∧
      ((b.dev.ah g).pend.any (fun q => q.1 == r.val) = true → b.dev.get (pgADCG g) ADCG.CNT_OVR_CNT < 2 ^ 16 - 1 →
        ∃ u, exec (.injRequest dt g r) s = .next { s with soc := u } ∧ (u.dev.ah g).pend = (b.dev.ah g).pend ∧
          u.dev.get (pgADCG g) ADCG.CNT_OVR_CNT = b.dev.get (pgADCG g) ADCG.CNT_OVR_CNT + 1 ∧ u.mem = s.soc.mem)) ∧
    (∀ r : Fin 32, b.dev.flagAt (pgADCG g) ADCG.INJ_VALID r = true → b.dev.getAt (pgADCG g) ADCG.INJ_KIND r ≠ 0 →
      (b.dev.rsvInstant (b.dev.getAt (pgADCG g) ADCG.INJ_SRC r) b.dev.time).isSome = true →
      (b.dev.ah g).pend = [] → (b.dev.ah g).runs = [] →
      ∃ u, exec (.injRequest dt g r) s = .next { s with soc := u } ∧ (u.dev.ah g).pend = [(r.val, b.dev.time)] ∧
        u.dev.regs = b.dev.regs ∧ u.mem = s.soc.mem) ∧
    (∀ (c : Fin 3) (r : Nat) (q : Nat × Nat), (b.dev.ah g).calReq = [] → b.dev.convFree g c = true → b.dev.flag (pgADCG g) ADCG.ST_READY = true →
      b.dev.nextInj g c = some r → b.dev.flagAt (pgADCG g) ADCG.INJ_LINK r = false →
      (0 < r → b.dev.flagAt (pgADCG g) ADCG.INJ_LINK (r - 1) = false) →
      (b.dev.ah g).pend.find? (fun q => q.1 == r) = some q →
      ∃ u, exec (.conversionStart dt g c) s = .next { s with soc := u } ∧
        (u.dev.ah g).pend = (b.dev.ah g).pend.erase q ∧
        (u.dev.ah g).runs = (b.dev.ah g).runs ++ [⟨b.dev.getAt (pgADCG g) ADCG.INJ_CONV r, b.dev.time, 0, r,
          b.dev.getAt (pgADCG g) ADCG.INJ_PIN r, q.2, b.dev.distNow g (b.dev.getAt (pgADCG g) ADCG.INJ_PIN r), b.dev.thm.refTrim.getD g 0⟩] ∧
        (u.dev.ah g).free = (b.dev.ah g).free.set (b.dev.getAt (pgADCG g) ADCG.INJ_CONV r) (b.dev.time + 50) ∧
        u.dev.regs = b.dev.regs ∧ u.mem = s.soc.mem) ∧
    (∀ (c : Fin 3) (x : BitVec 14) (r : ConvRun),
      (b.dev.ah g).runs.find? (fun r => r.conv == c.val && decide (r.start + 52 ≤ b.dev.time)) = some r → r.kind = 0 →
      r.idx < 32 →
      ∃ u : Soc, exec (.conversionResult dt g c (.code x)) s = .next { s with soc := u.map (fun d => b.dev.follow d) } ∧
        (u.dev.ah g).runs = (b.dev.ah g).runs.erase r ∧
        u.dev.getAt (pgADCG g) ADCG.INJ_RES r.idx
          = b2n (decide (r.tR + b.dev.getAt (pgADCG g) ADCG.INJ_LAT_MAX r.idx < r.start + 52)) * 2 ^ 31
            + b2n r.dist * 2 ^ 28 + x.toNat ∧ u.mem = s.soc.mem)

/-- On an enabled group CAL_GO asks for the converters of a mask none of which calibrates; CAL_START with nothing injected waiting or running and the converters free sets CAL_BUSY for 2048 TCLK; CAL_DONE at its time clears the bits of its converters and raises CAL_DONE for the host, or READY after the enable. CLAMP sets the bit of its pin. SLOT_WRITE of legal AVG and SHIFT stores the slot. ADC_CNT_CLR and SDI_ERR_CLR clear their counters and change no other register and no hidden state. -/
def Obligations.ConvertersCalibrateAndClamp : Prop :=
  (∀ (g : Fin 4) (s : State),
    (∀ mask : BitVec 3, s.soc.answers (pgADCG g + 0xD4) = true → s.soc.dev.enabled (pgADCG g) = true →
      (∀ c < 3, bitOf mask.toNat c = true → bitOf (s.soc.dev.get (pgADCG g) ADCG.ST_CAL_BUSY) c = false) →
      ∃ u, exec (.calGo g mask) s = .next { s with soc := u } ∧
        (u.dev.ah g).calReq = (s.soc.dev.ah g).calReq ++ (if mask = 0 then [] else [(mask.toNat, s.soc.dev.time)]) ∧
        u.dev.regs = s.soc.dev.regs ∧ u.mem = s.soc.mem) ∧
    (∀ (j : Fin 16) (w : Word), s.soc.answers (pgADCG g + 0x50 + 4 * j.val) = true →
      wordField w 12 4 ≤ 8 → wordField w 8 4 ≤ 8 →
      ∃ u, exec (.slotWrite g j w) s = .next { s with soc := u } ∧
        u.dev.reg (pgADCG g + 0x50 + 4 * j.val) = w &&& 0xFF0F ∧
        s.soc.dev.keepsRegs u.dev [pgADCG g + 0x50 + 4 * j.val] ∧ u.mem = s.soc.mem) ∧
    (s.soc.answers (pgADCG g + 0xE4) = true →
      ∃ u, exec (.adcCntClr g) s = .next { s with soc := u } ∧ u.dev.get (pgADCG g) ADCG.CNT = 0 ∧
        s.soc.dev.keepsRegs u.dev [pgADCG g + ADCG.CNT.off] ∧ s.soc.dev.agreeOffRegs u.dev ∧ u.mem = s.soc.mem)) ∧
  (∀ (n : Fin 24) (s : State), s.soc.answers (pgSDI n + 0x60) = true →
    ∃ u, exec (.sdiErrClr n) s = .next { s with soc := u } ∧ u.dev.get (pgSDI n) SDI.ERR_CNT = 0 ∧
      s.soc.dev.keepsRegs u.dev [pgSDI n + SDI.ERR_CNT.off] ∧ s.soc.dev.agreeOffRegs u.dev ∧ u.mem = s.soc.mem) ∧
  (∀ (dt : Nat) (g : Fin 4) (s : State) (b : Soc), b = s.soc.after dt →
    (∀ q : Nat × Nat, b.dev.enabled (pgADCG g) = true → (b.dev.ah g).calReq = [q] → q.1 < 8 →
      (b.dev.ah g).pend = [] → (b.dev.ah g).arr = [] → (b.dev.ah g).runs = [] →
      b.dev.get (pgADCG g) ADCG.ST_CAL_BUSY = 0 → (∀ c < 3, (b.dev.ah g).free.getD c 0 ≤ b.dev.time) →
      ∃ u, exec (.calStart dt g) s = .next { s with soc := u } ∧
        u.dev.get (pgADCG g) ADCG.ST_CAL_BUSY = q.1 ∧ (u.dev.ah g).calReq = [] ∧
        (u.dev.ah g).calRun = (b.dev.ah g).calRun ++ [(q.1, b.dev.time + 2048, true)] ∧ u.mem = s.soc.mem) ∧
    (∀ (m e : Nat) (host : Bool), (b.dev.ah g).calRun = [(m, e, host)] → e ≤ b.dev.time →
      ∃ u, exec (.calDone dt g) s = .next { s with soc := u } ∧ (u.dev.ah g).calRun = [] ∧
        u.dev.get (pgADCG g) ADCG.ST_CAL_BUSY
          = b.dev.get (pgADCG g) ADCG.ST_CAL_BUSY - (b.dev.get (pgADCG g) ADCG.ST_CAL_BUSY &&& m) ∧
        (if host then u.dev.flag (pgADCG g) ADCG.IRQ_CAL_DONE = true
          else u.dev.flag (pgADCG g) ADCG.ST_READY = true) ∧ u.mem = s.soc.mem) ∧
    (∀ p : Fin 16,
      (∃ u, exec (.clamp dt g p) s = .next { s with soc := u } ∧
        bitOf (u.dev.get (pgADCG g) ADCG.CLAMP_STAT) p = true ∧ u.dev.flag (pgADCG g) ADCG.IRQ_CLAMP = true ∧
        u.mem = s.soc.mem) ∧
      (bitOf (b.dev.get (pgADCG g) ADCG.CLAMP_STAT) p = true →
        ∃ u, exec (.clampInactive dt g p) s = .next { s with soc := u } ∧
          bitOf (u.dev.get (pgADCG g) ADCG.CLAMP_STAT) p = false ∧
          (u.dev.ah g).detEnd = (b.dev.ah g).detEnd.set p (b.dev.time + 1) ∧ u.mem = s.soc.mem)))

/-- At its boundary an enabled input puts into DATA the sinc3 sum of its latest samples scaled to Q1.15, rounded and saturated, with its TIME. An OC row takes the sample of its clock edge, shows in OC_VALUE the sinc2 sum in Q1.15 (a value between two codes narrowed either way: the spec states no rounding, log entry 14) and in OC whether that passes a threshold with the window full, or a fault holds it. STUCK after STUCK_N equal samples and CLK_LOSS after 2 x DIV without an edge set their status bits and STREAM_FAULT; the clock returns. -/
def Obligations.SigmaDeltaWordsAndFaults : Prop :=
  ∀ (dt : Nat) (n : Fin 24) (s : State) (b : Soc) (fmt osr : Nat), b = s.soc.after dt → b.dev.enabled (pgSDI n) = true →
    fmt = b.dev.get (pgSDI n) SDI.CFG_FORMAT → osr = b.dev.get (pgSDI n) SDI.OSR_OSR →
    (∀ (e : Nat) (v : Int), e + b.dev.sdiSkew n + 4 = b.dev.time → (b.dev.sd n).edge = e + 1 →
      (b.dev.sd n).wordEdge ≠ e + 1 →
      (fmt = 1 → (b.dev.sd n).count % osr = 0) → (fmt ≠ 1 → e % (osr * b.dev.get (pgSDI n) SDI.CFG_DIV) = 0) →
      v = roundDiv (32768 * firSum (sinc3 osr) (((b.dev.sd n).samples.take (3 * osr - 2)).map (sdiSample fmt)))
        (8 * osr ^ 3 : Nat) →
      ∃ u : Soc, exec (.sdiWord dt n) s = .next { s with soc := u.map (fun d => b.dev.follow d) } ∧
        u.dev.get (pgSDI n) SDI.DATA % 2 ^ 16 = unsig 16 (satInt 16 v) ∧
        (fmt ≠ 2 → u.dev.get (pgSDI n) SDI.DATA / 2 ^ 31 = b2n (decide (3 * osr - 2 ≤ (b.dev.sd n).count)
          && (fmt == 1 || decide ((b.dev.sd n).enT + (3 * osr - 2) * b.dev.get (pgSDI n) SDI.CFG_DIV ≤ e))
          && !b.dev.flag (pgSDI n) SDI.ST_STREAM_FAULT)) ∧
        u.dev.get (pgSDI n) SDI.WORD_TIME = b.dev.time32 ∧ (u.dev.sd n).wordEdge = e + 1 ∧ u.mem = s.soc.mem) ∧
    (∀ (first second : BitVec 2) (xs : List (BitVec 4)) (num den : Int) (r e : Nat),
      e + b.dev.sdiSkew n + 3 = b.dev.time → (b.dev.sd n).enT ≤ e → (b.dev.sd n).edge ≤ e →
      (fmt = 1 ∨ e % b.dev.get (pgSDI n) SDI.CFG_DIV = 0) → r = b.dev.get (pgSDI n) SDI.OSR_OC_OSR →
      xs = (sdiCode fmt first second :: (b.dev.sd n).samples).take 766 →
      num = 32768 * firSum (sinc2 r) ((xs.take (2 * r - 1)).map (sdiSample fmt)) → den = (8 * r ^ 2 : Nat) →
      ∃ (u : Soc) (f : Nat) (y : Int), exec (.oc dt n first second) s = .next { s with soc := u.map (fun d => b.dev.follow d) } ∧ f < 2 ∧
        y = satInt 16 (if num % den = 0 then num / den else num / den + f) ∧
        (u.dev.sd n).samples = xs ∧ (u.dev.sd n).count = (b.dev.sd n).count + 1 ∧ (u.dev.sd n).edge = e + 1 ∧
        u.dev.getI (pgSDI n) SDI.OC_VALUE = y ∧ u.dev.flag (pgSDI n) SDI.ST_RUNNING = true ∧
        u.dev.flag (pgSDI n) SDI.ST_OC
          = ((b.dev.flag (pgSDI n) SDI.ST_STREAM_FAULT && b.dev.flag (pgSDI n) SDI.ERR_CFG_OC_ON_FAULT)
            || ((decide (b.dev.getI (pgSDI n) SDI.OC_THR_OC_HIGH < y) || decide (y < b.dev.getI (pgSDI n) SDI.OC_THR_OC_LOW))
              && decide (2 * r - 1 ≤ (b.dev.sd n).count + 1))) ∧ u.mem = s.soc.mem) ∧
    (b.dev.get (pgSDI n) SDI.ERR_CFG_STUCK_N ≠ 0 → b.dev.flag (pgSDI n) SDI.ST_STUCK = false →
      b.dev.get (pgSDI n) SDI.ERR_CFG_STUCK_N ≤ (b.dev.sd n).same →
      ∃ u : Soc, exec (.stuck dt n) s = .next { s with soc := u.map (fun d => b.dev.follow d) } ∧
        u.dev.flag (pgSDI n) SDI.ST_STUCK = true ∧ u.dev.flag (pgSDI n) SDI.ST_STREAM_FAULT = true ∧
        u.mem = s.soc.mem) ∧
    (fmt = 1 → b.dev.flag (pgSDI n) SDI.ST_CLK_LOSS = false →
      max (b.dev.sd n).enT (max ((b.dev.sd n).edge - 1) ((b.dev.sd n).back - 1)) + 2 * b.dev.get (pgSDI n) SDI.CFG_DIV
        ≤ b.dev.time →
      ∃ u : Soc, exec (.clkLoss dt n) s = .next { s with soc := u.map (fun d => b.dev.follow d) } ∧
        u.dev.flag (pgSDI n) SDI.ST_CLK_LOSS = true ∧ u.dev.flag (pgSDI n) SDI.ST_RUNNING = false ∧
        u.dev.flag (pgSDI n) SDI.ST_STREAM_FAULT = true ∧ u.mem = s.soc.mem) ∧
    (b.dev.flag (pgSDI n) SDI.ST_CLK_LOSS = true →
      ∃ u : Soc, exec (.clockLossEnd dt n) s = .next { s with soc := u } ∧
        u.dev.flag (pgSDI n) SDI.ST_CLK_LOSS = false ∧ u.dev.flag (pgSDI n) SDI.ST_RUNNING = true ∧
        u.mem = s.soc.mem)

/-- An enabled, owned source whose input has been active for its filter time sets its FLAG bit, LAST and LAST_TIME and adds a trip of each of its stages, and the legs are driven. One whose input has been inactive for that time lets its unlatched trips release from then on. At a release zero event of a stage exactly its due trips end. A host request with a legal state does the same for source 175 and each stage named, latched. -/
def Obligations.TripsActAndRelease : Prop :=
  (∀ (dt : Nat) (s : State) (b : Soc), b = s.soc.after dt →
    (∀ (j : Fin 168) (x : Int) (held : Nat), b.dev.srcLevel j = false → b.dev.srcEn j = true → b.dev.srcOwned j = true →
      (b.dev.tripInput j x held).tripFiltered j true = true →
      ∃ (u : Soc) (d : Dev),
        exec (.tripSourceActive dt j x held) s = .next { s with soc := u.map (fun d => b.dev.follow d) } ∧
        u.dev = d.tripDrive ∧ d.srcLevel j = true ∧
        bitOf (d.getAt pgTRIP TRIP.FLAG (j.val / 32)) (j.val % 32) = true ∧
        d.get pgTRIP TRIP.LAST = j.val ∧ d.get pgTRIP TRIP.LAST_TIME = (b.dev.time + 1) % 2 ^ 32 ∧
        (∀ k < 16, bitOf (b.dev.srcStages j) k = true →
          ⟨j.val, k, none, b.dev.getAt pgTRIP TRIP.SRC_CFG_STATE_SEL j, b.dev.flagAt pgTRIP TRIP.SRC_CFG_LATCH j, none⟩
            ∈ d.trip.acts) ∧ u.mem = s.soc.mem) ∧
    (∀ (j : Fin 168) (x : Int) (held : Nat), b.dev.srcLevel j = true →
      (b.dev.tripInput j x held).tripFiltered j false = true →
      ∃ u : Soc, exec (.tripSourceInactive dt j x held) s = .next { s with soc := u.map (fun d => b.dev.follow d) } ∧
        u.dev.srcLevel j = false ∧
        u.dev.trip.acts = b.dev.trip.acts.map (fun a =>
          if a.src = j.val ∧ a.latch = false then { a with rel := some b.dev.time } else a) ∧ u.mem = s.soc.mem) ∧
    (∀ k : Fin 16, (b.dev.sh k).zeroT = b.dev.time + 1 →
      (∃ a ∈ b.dev.trip.acts, a.stage = k.val ∧ ∃ t, a.rel = some t ∧ t < b.dev.time) →
      ∃ u : Soc, exec (.tripRelease dt k) s = .next { s with soc := u.map (fun d => b.dev.follow d) } ∧
        (∀ a, a ∈ u.dev.trip.acts ↔
          a ∈ b.dev.trip.acts ∧ ¬ (a.stage = k.val ∧ ∃ t, a.rel = some t ∧ t < b.dev.time)) ∧ u.mem = s.soc.mem)) ∧
  (∀ (sel : BitVec 2) (stages : BitVec 16) (s : State), s.soc.answers (pgTRIP + 0x98) = true → sel ≠ 3 →
    s.soc.dev.srcLevel 175 = false →
    ∃ (u : Soc) (d : Dev), exec (.tripReq sel stages) s = .next { s with soc := u.map (fun d => s.soc.dev.follow d) } ∧
      u.dev = d.tripDrive.tripConditionEnd 175 ∧ d.trip.hostT = s.soc.dev.time + 1 ∧
      bitOf (d.getAt pgTRIP TRIP.FLAG 5) 15 = true ∧ d.get pgTRIP TRIP.LAST = 175 ∧
      (∀ k < 16, bitOf stages.toNat k = true → ⟨175, k, none, sel.toNat, true, none⟩ ∈ d.trip.acts) ∧
      u.mem = s.soc.mem)

/-- FLAG_CLEAR clears each set flag of the mask whose source is inactive and is not 172, lets its latched trips release from then on, and leaves the bits outside the mask. INTLK_CLR of a leg that is unbound, or whose stage is not enabled, clears its interlock word, and with no fault left source 174 is inactive. CRC_CHECK at its time computes CFG_CRC over SRC_CFG0 to SRC_CFG175 and shows CRC_FAIL exactly where it differs from the reference. With testing on and a test due, the next comparator with a side enabled is put on the spare and the next test is due one sixteenth of the interval later. A due step of a running test is taken; the third lets the spare cover the pin alone and the sixth ends that. A verdict with both sides of spare and comparator consistent counts a pass and ends the test; one that finds the comparator bad marks it FAILED, keeps the spare on its pin and stops the round. -/
def Obligations.FlagsInterlocksAndComparatorTests : Prop :=
  ((∀ (j : Fin 6) (mask : Word) (s : State), s.soc.answers (pgTRIP + 0xC0 + 4 * j.val) = true →
    ∃ u : Soc, exec (.flagClear j mask) s = .next { s with soc := u.map (fun d => s.soc.dev.follow d) } ∧ u.mem = s.soc.mem ∧
      (∀ i : Fin 32, mask.getLsbD i = true → bitOf (s.soc.dev.getAt pgTRIP TRIP.FLAG j) i = true →
        32 * j.val + i.val < 176 → 32 * j.val + i.val ≠ 172 → s.soc.dev.srcActive (32 * j.val + i.val) = false →
        bitOf (u.dev.getAt pgTRIP TRIP.FLAG j) i = false ∧
        (∀ a ∈ s.soc.dev.trip.acts, a.src = 32 * j.val + i.val → a.latch = true →
          { a with rel := some s.soc.dev.time } ∈ u.dev.trip.acts)) ∧
      (∀ i : Fin 32, mask.getLsbD i = false →
        bitOf (u.dev.getAt pgTRIP TRIP.FLAG j) i = bitOf (s.soc.dev.getAt pgTRIP TRIP.FLAG j) i)) ∧
  (∀ (n : Fin 64) (s : State), s.soc.answers (pgTRIP + 0xEC) = true →
    (s.soc.dev.bound n = true → s.soc.dev.flag (pgSTG (s.soc.dev.legStage n)) COM.CTRL_EN = false) →
    ∃ u : Soc, exec (.intlkClr n) s = .next { s with soc := u.map (fun d => s.soc.dev.follow d) } ∧
      u.dev.getAt pgTRIP TRIP.INTLK_STAT n = 0 ∧
      ((∀ m < 64, m ≠ n.val → s.soc.dev.flagAt pgTRIP TRIP.INTLK_STAT_FAULT m = false) → u.dev.srcLevel 174 = false) ∧
      u.mem = s.soc.mem) ∧
  (∀ (dt : Nat) (t c : Nat) (s : State) (b : Soc), b = s.soc.after dt → b.dev.trip.nextCrc = some t → t ≤ b.dev.time →
    c = crc32c b.dev.srcCfgBytes →
    ∃ u : Soc, exec (.crcCheck dt) s = .next { s with soc := u.map (fun d => b.dev.follow d) } ∧
      u.dev.get pgTRIP TRIP.CFG_CRC = c % 2 ^ 32 ∧ u.dev.trip.nextCrc = some (t + 400000) ∧
      u.dev.flag pgTRIP TRIP.ST_CRC_FAIL = decide (c ≠ b.dev.get pgTRIP TRIP.CFG_CRC_REF) ∧ u.mem = s.soc.mem)) ∧
  (∀ (dt : Nat) (g : Fin 4) (s : State) (b : Soc), b = s.soc.after dt →
    (b.dev.flag (pgCMPB g) COM.ST_FROZEN = false → b.dev.flag (pgCMPB g) CMPB.TEST_CFG_TEST_EN = true → b.dev.flag (pgCMPB g) CMPB.ST_TEST_STOPPED = false →
      0 < b.dev.get (pgCMPB g) CMPB.TEST_CFG_INTERVAL → b.dev.get (pgCMPB g) CMPB.TEST_CFG_INTERVAL ≤ 1000 →
      (b.dev.cmp[g]).testing = none → (b.dev.cmp[g]).nextT ≤ b.dev.time → (b.dev.cmp[g]).nextI < 16 →
      (b.dev.flagAt (pgCMPB g) CMPB.THR_EN_HIGH (b.dev.cmp[g]).nextI
        || b.dev.flagAt (pgCMPB g) CMPB.THR_EN_LOW (b.dev.cmp[g]).nextI) = true →
      ∃ u : Soc, exec (.comparatorTestStart dt g) s = .next { s with soc := u.map (fun d => b.dev.follow d) } ∧
        (u.dev.cmp[g]).testing = some (b.dev.cmp[g]).nextI ∧
        u.dev.get (pgCMPB g) CMPB.ST_SPARE_PIN = (b.dev.cmp[g]).nextI ∧
        (u.dev.cmp[g]).nextT = (b.dev.cmp[g]).nextT + 25000 * b.dev.get (pgCMPB g) CMPB.TEST_CFG_INTERVAL ∧
        (u.dev.cmp[g]).nextI = ((b.dev.cmp[g]).nextI + 1) % 16 ∧ u.mem = s.soc.mem) ∧
    (∀ i t : Nat, (b.dev.cmp[g]).testing = some i → cmpSteps[(b.dev.cmp[g]).steps]? = some t →
      (b.dev.cmp[g]).startT + t ≤ b.dev.time → b.dev.flag (pgCMPB g) COM.ST_FROZEN = false →
      ∃ u : Soc, exec (.comparatorTestStep dt g) s = .next { s with soc := u.map (fun d => b.dev.follow d) } ∧
        (u.dev.cmp[g]).steps = (b.dev.cmp[g]).steps + 1 ∧
        ((b.dev.cmp[g]).steps = 2 → u.dev.flag (pgCMPB g) CMPB.ST_SPARE_ACTIVE = true) ∧
        ((b.dev.cmp[g]).steps = 5 → u.dev.flag (pgCMPB g) CMPB.ST_SPARE_ACTIVE = false) ∧ u.mem = s.soc.mem) ∧
    (∀ (i : Nat) (spare comp : BitVec 4), (b.dev.cmp[g]).testing = some i → i < 16 → 6 ≤ (b.dev.cmp[g]).steps →
      sideOk spare false = true → sideOk spare true = true →
      (sideOk comp false = true → sideOk comp true = true →
        b.dev.getAt (pgCMPB g) CMPB.RESULT_PASS_CNT i + 1 < 2 ^ CMPB.RESULT_PASS_CNT.width →
        ∃ u : Soc, exec (.comparatorTestVerdict dt g spare comp) s
            = .next { s with soc := u.map (fun d => b.dev.follow d) } ∧
          u.dev.getAt (pgCMPB g) CMPB.RESULT_PASS_CNT i = b.dev.getAt (pgCMPB g) CMPB.RESULT_PASS_CNT i + 1 ∧
          u.dev.flagAt (pgCMPB g) CMPB.RESULT_INCONCL i = false ∧ (u.dev.cmp[g]).testing = none ∧
          u.mem = s.soc.mem) ∧
      ((sideOk comp false && sideOk comp true) = false →
        ∃ u : Soc, exec (.comparatorTestVerdict dt g spare comp) s
            = .next { s with soc := u.map (fun d => b.dev.follow d) } ∧
          u.dev.flagAt (pgCMPB g) CMPB.RESULT_FAILED i = true ∧ u.dev.flag (pgCMPB g) CMPB.ST_SPARE_PERM = true ∧
          u.dev.get (pgCMPB g) CMPB.ST_SPARE_PIN = i ∧ u.dev.flag (pgCMPB g) CMPB.ST_TEST_STOPPED = true ∧
          (u.dev.cmp[g]).testing = none ∧ u.mem = s.soc.mem)))

/-- Each writes the exact result of its operands to DST narrowed to 16 bits: wrapped with WRAP in class A, saturated otherwise, with Z and N from the value kept and V where it was changed; the other registers and the accumulators stay. All copies retire with these registers, the next program counter and the cycles of the table. NOP changes no register. LDI, MOV, MIN and MAX write their value to DST with Z and N. SAT limits Va to plus or minus IMM[14:0], CLAMP to the range of Vb and Vc, with L where the value was changed; CLAMP with IMM[2] also stores the saturated excess in its slot and leaves every other byte of memory. -/
def Obligations.LoopArithmeticMovesAndLimits : Prop :=
  ((∀ (p : Dpath) (d : Fin 16) (wrap : Bool) (x y : Int), y = (if wrap then signed 16 (unsig 16 x) else satInt 16 x) →
    (p.put16 d wrap x).dp = { p with v := p.v.set d (BitVec.ofInt 16 y), zf := y == 0, nf := decide (y < 0), vf := decide (y ≠ x) }) ∧
  (∀ (dt : Nat) (c : Fin 4) (st : Fin 3) (v : Vote) (s : State) (b : Soc) (i : Iss), b = s.soc.after dt →
    (b.issues c st v i 0x03 →
      ∃ u : Soc, exec (.add dt c st v) s = .next { s with soc := u.map (fun d => b.dev.follow d) } ∧ u.mem = s.soc.mem ∧
        b.retired u c st i ((i.dp.put16 (dstOf i.w) (wrapOf i.clsS i.w) (i.dp.r (saOf i.w) + i.dp.r (sbOf i.w))).dp) (i.dp.pc + 1) 0) ∧
    (b.issues c st v i 0x04 →
      ∃ u : Soc, exec (.sub dt c st v) s = .next { s with soc := u.map (fun d => b.dev.follow d) } ∧ u.mem = s.soc.mem ∧
        b.retired u c st i ((i.dp.put16 (dstOf i.w) (wrapOf i.clsS i.w) (i.dp.r (saOf i.w) - i.dp.r (sbOf i.w))).dp) (i.dp.pc + 1) 0) ∧
    (b.issues c st v i 0x05 →
      ∃ u : Soc, exec (.neg dt c st v) s = .next { s with soc := u.map (fun d => b.dev.follow d) } ∧ u.mem = s.soc.mem ∧
        b.retired u c st i ((i.dp.put16 (dstOf i.w) (wrapOf i.clsS i.w) (-i.dp.r (saOf i.w))).dp) (i.dp.pc + 1) 0) ∧
    (b.issues c st v i 0x06 →
      ∃ u : Soc, exec (.abs dt c st v) s = .next { s with soc := u.map (fun d => b.dev.follow d) } ∧ u.mem = s.soc.mem ∧
        b.retired u c st i ((i.dp.put16 (dstOf i.w) (wrapOf i.clsS i.w) (((i.dp.r (saOf i.w)).natAbs : Nat))).dp) (i.dp.pc + 1) 0) ∧
    (b.issues c st v i 0x09 →
      ∃ u : Soc, exec (.mul dt c st v) s = .next { s with soc := u.map (fun d => b.dev.follow d) } ∧ u.mem = s.soc.mem ∧
        b.retired u c st i ((i.dp.put16 (dstOf i.w) false (roundDiv (i.dp.r (saOf i.w) * i.dp.r (sbOf i.w) * (2 ^ shOf i.w : Nat)) 32768)).dp) (i.dp.pc + 1) 0) ∧
    (b.issues c st v i 0x0D →
      ∃ u : Soc, exec (.rnd dt c st v) s = .next { s with soc := u.map (fun d => b.dev.follow d) } ∧ u.mem = s.soc.mem ∧
        b.retired u c st i ((i.dp.put16 (dstOf i.w) false (roundDiv (i.dp.a (accOf i.w) * (2 ^ shOf i.w : Nat)) 32768)).dp) (i.dp.pc + 1) 0))) ∧
  (∀ (dt : Nat) (c : Fin 4) (st : Fin 3) (v : Vote) (s : State) (b : Soc) (i : Iss), b = s.soc.after dt →
    (b.issues c st v i 0x00 →
      ∃ u : Soc, exec (.nop dt c st v) s = .next { s with soc := u.map (fun d => b.dev.follow d) } ∧ u.mem = s.soc.mem ∧
        b.retired u c st i (i.dp) (i.dp.pc + 1) 0) ∧
    (b.issues c st v i 0x01 →
      ∃ u : Soc, exec (.ldi dt c st v) s = .next { s with soc := u.map (fun d => b.dev.follow d) } ∧ u.mem = s.soc.mem ∧
        b.retired u c st i ((i.dp.setR (dstOf i.w) (signed 16 (immOf i.w))).zn (signed 16 (immOf i.w))) (i.dp.pc + 1) 0) ∧
    (b.issues c st v i 0x02 →
      ∃ u : Soc, exec (.mov dt c st v) s = .next { s with soc := u.map (fun d => b.dev.follow d) } ∧ u.mem = s.soc.mem ∧
        b.retired u c st i ((i.dp.setR (dstOf i.w) (i.dp.r (saOf i.w))).zn (i.dp.r (saOf i.w))) (i.dp.pc + 1) 0) ∧
    (b.issues c st v i 0x07 →
      ∃ u : Soc, exec (.min dt c st v) s = .next { s with soc := u.map (fun d => b.dev.follow d) } ∧ u.mem = s.soc.mem ∧
        b.retired u c st i ((i.dp.setR (dstOf i.w) (min (i.dp.r (saOf i.w)) (i.dp.r (sbOf i.w)))).zn (min (i.dp.r (saOf i.w)) (i.dp.r (sbOf i.w)))) (i.dp.pc + 1) 0) ∧
    (b.issues c st v i 0x08 →
      ∃ u : Soc, exec (.max dt c st v) s = .next { s with soc := u.map (fun d => b.dev.follow d) } ∧ u.mem = s.soc.mem ∧
        b.retired u c st i ((i.dp.setR (dstOf i.w) (max (i.dp.r (saOf i.w)) (i.dp.r (sbOf i.w)))).zn (max (i.dp.r (saOf i.w)) (i.dp.r (sbOf i.w)))) (i.dp.pc + 1) 0) ∧
    (∀ (m x : Int), m = (immOf i.w % 32768 : Nat) → x = min (max (i.dp.r (saOf i.w)) (-m)) m →
    (b.issues c st v i 0x21 →
      ∃ u : Soc, exec (.sat dt c st v) s = .next { s with soc := u.map (fun d => b.dev.follow d) } ∧ u.mem = s.soc.mem ∧
        b.retired u c st i ({ ((i.dp.setR (dstOf i.w) x).zn x) with lf := decide (x ≠ i.dp.r (saOf i.w)) }) (i.dp.pc + 1) 0)) ∧
    (∀ x : Int, x = min (max (i.dp.r (saOf i.w)) (i.dp.r (sbOf i.w))) (i.dp.r (scOf i.w)) →
    (b.issues c st v i 0x20 →
      ∃ u : Soc, exec (.clampOp dt c st v) s = .next { s with soc := u.map (fun d => b.dev.follow d) } ∧ 
        (bitOf (immOf i.w) 2 = false → u.mem = s.soc.mem) ∧
        (bitOf (immOf i.w) 2 = true →
          memNat u.mem (b.ctxAddr i (832 + immOf i.w % 4)) 4 = unsig 16 (satInt 16 (i.dp.r (saOf i.w) - x)) ∧
          b.keepsBytes u (b.ctxAddr i (832 + immOf i.w % 4)) 4) ∧
        b.retired u c st i ({ ((i.dp.setR (dstOf i.w) x).zn x) with lf := decide (x ≠ i.dp.r (saOf i.w)) }) (i.dp.pc + 1) 0)))

/-- MAC and MSU add and subtract the product to the accumulator, ASH shifts it, each saturated to 40 bits in class S or with the saturation bit and wrapped otherwise; ACLR clears or loads it. INTEG adds the product, less KB times the excess with IMM[2], and limits the sum to the two limits of its slot with L. All copies retire with the result and memory unchanged. LD of a word of the state, coefficient or image area, or of a table of the loop, writes its low half, or the upper one, to DST, brought to the stage exponent in FORMAT 1. ST of a FORMAT 0 register replaces the addressed half word and LDA and STA move an accumulator in two words; no other byte of memory changes. Addresses lie in the area, and no word read is uncorrectable. -/
def Obligations.LoopAccumulatorsAndMemory : Prop :=
  (∀ (dt : Nat) (c : Fin 4) (st : Fin 3) (v : Vote) (s : State) (b : Soc) (i : Iss), b = s.soc.after dt →
    (b.issues c st v i 0x0A →
      ∃ u : Soc, exec (.mac dt c st v) s = .next { s with soc := u.map (fun d => b.dev.follow d) } ∧ u.mem = s.soc.mem ∧
        b.retired u c st i ((i.dp.put40 (accOf i.w) (i.clsS || bitOf (immOf i.w) 1) (i.dp.a (accOf i.w) + i.dp.r (saOf i.w) * i.dp.r (sbOf i.w))).dp) (i.dp.pc + 1) 0) ∧
    (b.issues c st v i 0x0B →
      ∃ u : Soc, exec (.msu dt c st v) s = .next { s with soc := u.map (fun d => b.dev.follow d) } ∧ u.mem = s.soc.mem ∧
        b.retired u c st i ((i.dp.put40 (accOf i.w) (i.clsS || bitOf (immOf i.w) 1) (i.dp.a (accOf i.w) - i.dp.r (saOf i.w) * i.dp.r (sbOf i.w))).dp) (i.dp.pc + 1) 0) ∧
    (∀ x : Int, x = (if bitOf (immOf i.w) 0 then i.dp.r (saOf i.w) * 32768 else 0) →
    (b.issues c st v i 0x0C →
      ∃ u : Soc, exec (.aclr dt c st v) s = .next { s with soc := u.map (fun d => b.dev.follow d) } ∧ u.mem = s.soc.mem ∧
        b.retired u c st i ((i.dp.setA (accOf i.w) x).zn x) (i.dp.pc + 1) 0)) ∧
    (∀ k x : Int, k = signed 5 (immOf i.w) →
      x = (if 0 ≤ k then i.dp.a (accOf i.w) * (2 ^ k.toNat : Nat) else roundDiv (i.dp.a (accOf i.w)) (2 ^ (-k).toNat : Nat)) →
    (b.issues c st v i 0x0E →
      ∃ u : Soc, exec (.ash dt c st v) s = .next { s with soc := u.map (fun d => b.dev.follow d) } ∧ u.mem = s.soc.mem ∧
        b.retired u c st i ((i.dp.put40 (accOf i.w) (i.clsS || bitOf (immOf i.w) 5) x).dp) (i.dp.pc + 1) 0)) ∧
    (∀ (n : Nat) (x hi lo y : Int), n = 256 + 256 * i.run.bank + 240 + 2 * (immOf i.w % 4) →
      b.bad (b.ctxAddr i n) = false →
      (bitOf (immOf i.w) 2 = true → ∀ w ∈ [n + 1, 832 + immOf i.w % 4], b.bad (b.ctxAddr i w) = false) →
      hi = signed 16 (b.word (b.ctxAddr i n) / 65536) * 32768 → lo = signed 16 (b.word (b.ctxAddr i n)) * 32768 →
      x = i.dp.a (accOf i.w) + i.dp.r (saOf i.w) * i.dp.r (sbOf i.w)
        - (if bitOf (immOf i.w) 2 then signed 16 (b.word (b.ctxAddr i (n + 1)))
            * signed 16 (b.word (b.ctxAddr i (832 + immOf i.w % 4))) else 0) →
      y = (if hi < lo then hi else min (max x lo) hi) →
    (b.issues c st v i 0x23 →
      ∃ u : Soc, exec (.integ dt c st v) s = .next { s with soc := u.map (fun d => b.dev.follow d) } ∧ u.mem = s.soc.mem ∧
        b.retired u c st i ({ ((i.dp.setA (accOf i.w) y).zn y) with vf := false, lf := decide (hi < lo ∨ hi < x ∨ x < lo) }) (i.dp.pc + 1) 0))) ∧
  (∀ (dt : Nat) (c : Fin 4) (st : Fin 3) (v : Vote) (s : State) (b : Soc) (i : Iss), b = s.soc.after dt →
    (∀ (a : Nat) (e : Bool) (x : Int),
      ((spaceOf i.w = 0 ∧ i.addr < 256 ∧ a = b.ctxAddr i i.addr ∧ e = true) ∨
        (spaceOf i.w = 1 ∧ i.addr < 256 ∧ a = b.ctxAddr i (256 + 256 * i.run.bank + i.addr) ∧ e = true) ∨
        (spaceOf i.w = 2 ∧ i.addr < 64 ∧ a = b.ctxAddr i (768 + i.addr) ∧ e = false)) → b.bad a = false →
      x = (if i.fmt then toStage (if i.half then signed 16 (b.word a / 65536) else signed 16 (b.word a))
            (if e && !i.half then signed 6 (b.word a / 65536) else 0) i.dp.e
          else if i.half then signed 16 (b.word a / 65536) else signed 16 (b.word a)) →
    (b.issues c st v i 0x10 →
      ∃ u : Soc, exec (.ld dt c st v) s = .next { s with soc := u.map (fun d => b.dev.follow d) } ∧ u.mem = s.soc.mem ∧
        b.retired u c st i ((i.dp.setR (dstOf i.w) x).zn x) (i.dp.pc + 1) 0)) ∧
    (∀ (t : Nat × Nat) (m : Int), spaceOf i.w = 4 → b.dev.loopTable i.loop (immOf i.w / 2 ^ 24) = some t → i.addr < t.2 →
      i.fmt = false →
      m = (if i.half then signed 16 (b.word (t.1 + 4 * i.addr) / 65536) else signed 16 (b.word (t.1 + 4 * i.addr))) →
    (b.issues c st v i 0x10 →
      ∃ u : Soc, exec (.ld dt c st v) s = .next { s with soc := u.map (fun d => b.dev.follow d) } ∧ u.mem = s.soc.mem ∧
        b.retired u c st i ((i.dp.setR (dstOf i.w) m).zn m) (i.dp.pc + 1) 0)) ∧
    (∀ a : Nat, spaceOf i.w = 0 → i.addr < 256 → i.fmt = false → a = b.ctxAddr i i.addr → b.bad a = false →
    (b.issues c st v i 0x11 →
      ∃ u : Soc, exec (.st dt c st v) s = .next { s with soc := u.map (fun d => b.dev.follow d) } ∧ b.keepsBytes u a 4 ∧
        memNat u.mem a 4 = (if i.half then i.dp.ru (saOf i.w) * 65536 + b.word a % 65536
          else b.word a / 65536 * 65536 + i.dp.ru (saOf i.w)) ∧
        b.retired u c st i (i.dp) (i.dp.pc + 1) 0)) ∧
    (∀ x : Int, spaceOf i.w = 0 → i.addr + 1 < 256 → b.bad (b.ctxAddr i i.addr) = false →
      b.bad (b.ctxAddr i (i.addr + 1)) = false →
      x = signed 40 (b.word (b.ctxAddr i i.addr) + b.word (b.ctxAddr i (i.addr + 1)) % 256 * 2 ^ 32) →
    (b.issues c st v i 0x12 →
      ∃ u : Soc, exec (.lda dt c st v) s = .next { s with soc := u.map (fun d => b.dev.follow d) } ∧ u.mem = s.soc.mem ∧
        b.retired u c st i ((i.dp.setA (accOf i.w) x).zn x) (i.dp.pc + 1) 0)) ∧
    (∀ a : Nat, spaceOf i.w = 0 → i.addr + 1 < 256 → a = b.ctxAddr i i.addr → b.bad a = false → b.bad (a + 4) = false →
    (b.issues c st v i 0x13 →
      ∃ u : Soc, exec (.sta dt c st v) s = .next { s with soc := u.map (fun d => b.dev.follow d) } ∧ b.keepsBytes u a 8 ∧
        memNat u.mem a 4 = unsig 32 (i.dp.a (accOf i.w)) ∧
        memNat u.mem (a + 4) 4 = unsig 32 ((i.dp.a (accOf i.w)).fdiv 4294967296) ∧
        b.retired u c st i (i.dp) (i.dp.pc + 1) 0)))

/-- BR whose condition holds goes to its target inside the program and leaves the loops around it; otherwise it falls through. LOOP with a body opens a level, with an empty body only counts, and at a fifth level faults its context with kind 5. STAGE in FORMAT 0 changes nothing. END counts the job, keeps MAX_CYC at the largest count and frees the stream. A reserved instruction faults its context with kind 1: FAULT is set, RUN cleared and the stream free. -/
def Obligations.LoopControl : Prop :=
  ∀ (dt : Nat) (c : Fin 4) (st : Fin 3) (v : Vote) (s : State) (b : Soc) (i : Iss), b = s.soc.after dt →
    (brCond i.dp i.w = false →
    (b.issues c st v i 0x18 →
      ∃ u : Soc, exec (.br dt c st v) s = .next { s with soc := u.map (fun d => b.dev.follow d) } ∧ u.mem = s.soc.mem ∧
        b.retired u c st i (i.dp) (i.dp.pc + 1) 0)) ∧
    (∀ t : Nat, brCond i.dp i.w = true → (t : Int) = (i.dp.pc : Int) + 1 + signed 16 (immOf i.w) → t < i.loop.progLen →
    (b.issues c st v i 0x18 →
      ∃ u : Soc, exec (.br dt c st v) s = .next { s with soc := u.map (fun d => b.dev.follow d) } ∧ u.mem = s.soc.mem ∧
        b.retired u c st i ({ i.dp with stack := leaveLoops t i.dp.stack }) t 0)) ∧
    (∀ n m : Nat, n = immOf i.w / 65536 → m = immOf i.w % 65536 → i.dp.pc + m < i.loop.progLen →
      (m = 0 → i.dp.stack.length < 4 →
    (b.issues c st v i 0x19 →
      ∃ u : Soc, exec (.loop dt c st v) s = .next { s with soc := u.map (fun d => b.dev.follow d) } ∧ u.mem = s.soc.mem ∧
        b.retired u c st i (i.dp) (i.dp.pc + 1) n)) ∧
      (4 ≤ i.dp.stack.length → b.issues c st v i 0x19 →
        ∃ u : Soc, exec (.loop dt c st v) s = .next { s with soc := u.map (fun d => b.dev.follow d) } ∧
          u.mem = s.soc.mem ∧ u.dev.flagAt pgCTX CTX.CSTAT_FAULT i.run.job.ctx = true ∧
          u.dev.getAt pgCTX CTX.CSTAT_FAULT_KIND i.run.job.ctx = 5 ∧ (u.dev.clu[c]).run[st] = none) ∧
      (m ≠ 0 → i.dp.stack.length < 4 →
    (b.issues c st v i 0x19 →
      ∃ u : Soc, exec (.loop dt c st v) s = .next { s with soc := u.map (fun d => b.dev.follow d) } ∧ u.mem = s.soc.mem ∧
        b.retired u c st i ({ i.dp with stack := ⟨i.dp.pc + 1, i.dp.pc + 1 + m, n⟩ :: i.dp.stack }) (i.dp.pc + 1) 0))) ∧
    (i.fmt = false →
    (b.issues c st v i 0x1A →
      ∃ u : Soc, exec (.stage dt c st v) s = .next { s with soc := u.map (fun d => b.dev.follow d) } ∧ u.mem = s.soc.mem ∧
        b.retired u c st i (i.dp) (i.dp.pc + 1) 0)) ∧
    (∀ (x cyc : Nat), x = i.run.job.ctx → cyc = i.run.drained + 1 + (if i.fmt then 8 else 0) → b.issues c st v i 0x1B →
      ∃ u : Soc, exec (.jobEnd dt c st v) s = .next { s with soc := u.map (fun d => b.dev.follow d) } ∧ u.mem = s.soc.mem ∧
        u.dev.getAt pgCTX CTX.JOBS x = (b.dev.getAt pgCTX CTX.JOBS x + 1) % 2 ^ 32 ∧
        (cyc < 2 ^ 32 → u.dev.getAt pgCTX CTX.MAX_CYC x = max (b.dev.getAt pgCTX CTX.MAX_CYC x) cyc) ∧
        (u.dev.clu[c]).run[st] = none ∧ u.dev.flagAt (pgCLU c) CLU.STREAM_BUSY st = false) ∧
    (b.issue c st = some i → i.run.job.ctx < 64 → insnReserved i.w = true → b.dev.compare c st v = (b.dev, true) →
      ∃ u : Soc, exec (.reservedOpcode dt c st v) s = .next { s with soc := u.map (fun d => b.dev.follow d) } ∧
        u.mem = s.soc.mem ∧ u.dev.flagAt pgCTX CTX.CSTAT_FAULT i.run.job.ctx = true ∧
        u.dev.getAt pgCTX CTX.CSTAT_FAULT_KIND i.run.job.ctx = 1 ∧
        u.dev.flagAt pgCTX CTX.CCTL_RUN i.run.job.ctx = false ∧ (u.dev.clu[c]).run[st] = none)

/-- Each macro operation writes the pair or triple that its rule computes with 24 fraction bits from its operands, narrowed to Q1.15: Clarke of two or three phases, Park and its inverse with cosine and sine from Vc and its neighbour, the CORDIC sine and cosine, and the duties of space-vector modulation. RAMP that is not initialising moves its word by at most RATE towards Va and stores it, with L where the step was limited. -/
def Obligations.LoopTransforms : Prop :=
  ∀ (dt : Nat) (c : Fin 4) (st : Fin 3) (v : Vote) (s : State) (b : Soc) (i : Iss), b = s.soc.after dt →
    (∀ va vb vc vd : Int, va = q24 (i.dp.r (saOf i.w)) → vb = q24 (i.dp.r (sbOf i.w)) → vc = q24 (i.dp.r (scOf i.w)) →
      vd = q24 (i.dp.r (scOf i.w + 1)) →
    (bitOf (immOf i.w) 0 = false →
    (b.issues c st v i 0x28 →
      ∃ u : Soc, exec (.clarke dt c st v) s = .next { s with soc := u.map (fun d => b.dev.follow d) } ∧ u.mem = s.soc.mem ∧
        b.retired u c st i ((i.dp.putPair (dstOf i.w) va (mul24 (va + 2 * vb) kInvSqrt3)).dp) (i.dp.pc + 1) 0)) ∧
    (bitOf (immOf i.w) 0 = true →
    (b.issues c st v i 0x28 →
      ∃ u : Soc, exec (.clarke dt c st v) s = .next { s with soc := u.map (fun d => b.dev.follow d) } ∧ u.mem = s.soc.mem ∧
        b.retired u c st i ((i.dp.putPair (dstOf i.w) (roundDiv (2 * va - vb - vc) 3) (mul24 (vb - vc) kInvSqrt3)).dp) (i.dp.pc + 1) 0)) ∧
    (b.issues c st v i 0x29 →
      ∃ u : Soc, exec (.park dt c st v) s = .next { s with soc := u.map (fun d => b.dev.follow d) } ∧ u.mem = s.soc.mem ∧
        b.retired u c st i ((i.dp.putPair (dstOf i.w) (mul24 va vc + mul24 vb vd) (mul24 (-va) vd + mul24 vb vc)).dp) (i.dp.pc + 1) 0) ∧
    (b.issues c st v i 0x2A →
      ∃ u : Soc, exec (.ipark dt c st v) s = .next { s with soc := u.map (fun d => b.dev.follow d) } ∧ u.mem = s.soc.mem ∧
        b.retired u c st i ((i.dp.putPair (dstOf i.w) (mul24 va vc - mul24 vb vd) (mul24 va vd + mul24 vb vc)).dp) (i.dp.pc + 1) 0)) ∧
    (∀ co si : Int, co = satInt 16 (roundDiv (sincos24 (i.dp.ru (saOf i.w))).1 512) →
      si = satInt 16 (roundDiv (sincos24 (i.dp.ru (saOf i.w))).2 512) →
    (b.issues c st v i 0x2B →
      ∃ u : Soc, exec (.sincos dt c st v) s = .next { s with soc := u.map (fun d => b.dev.follow d) } ∧ u.mem = s.soc.mem ∧
        b.retired u c st i (((i.dp.setR (dstOf i.w) co).setR (dstOf i.w + 1) si).zn co) (i.dp.pc + 1) 0)) ∧
    (b.issues c st v i 0x2C →
      ∃ u : Soc, exec (.svm dt c st v) s = .next { s with soc := u.map (fun d => b.dev.follow d) } ∧ u.mem = s.soc.mem ∧
        b.retired u c st i ((opSvm i.clsS i.w i.dp).dp) (i.dp.pc + 1) 0) ∧
    (∀ (j a y : Nat) (rate : Int), j = immOf i.w % 4 → a = b.ctxAddr i (836 + j) → y = b.word a →
      (∀ w ∈ [840, 836 + j, 256 + 256 * i.run.bank + 248 + j], b.bad (b.ctxAddr i w) = false) →
      bitOf (b.word (b.ctxAddr i 840)) j = false → rate = signed 16 (b.word (b.ctxAddr i (256 + 256 * i.run.bank + 248 + j))) →
      ∀ t z : Int, t = i.dp.r (saOf i.w) - signed 16 y → z = signed 16 y + min (max t (-rate.natAbs)) rate.natAbs →
    (b.issues c st v i 0x22 →
      ∃ u : Soc, exec (.ramp dt c st v) s = .next { s with soc := u.map (fun d => b.dev.follow d) } ∧ 
        memNat u.mem a 4 = unsig 16 z ∧ b.keepsBytes u a 4 ∧
        b.retired u c st i ({ ((i.dp.setR (dstOf i.w) z).zn z) with lf := decide ((rate.natAbs : Int) < t ∨ t < -rate.natAbs) }) (i.dp.pc + 1) 0))

/-- GTL interpolates the gain points of the context, TL1 and TL2 the table that they name, and write the value to DST, the table look-ups with L where an axis was limited. PSEL writes the chart and crossing half that its table selects to DST and its neighbour. Tables are the loop's own and in range. OUT to the mailbox of the loop stages its word, of 16 or 32 bits. OUT to a stage output writes the register that the selector names with Va, shifted for compares and PHASE, or with Va and Vb; OUTC asks for a commit of the stage with its WHEN. All copies retire. -/
def Obligations.LoopLookupsAndOutputs : Prop :=
  (∀ (dt : Nat) (c : Fin 4) (st : Fin 3) (v : Vote) (s : State) (b : Soc) (i : Iss), b = s.soc.after dt →
    (∀ (n g : Nat) (y : Int), n = b.dev.getAt pgCTX CTX.CCFG_GT_N i.run.job.ctx → 0 < n →
      g = b.dev.get pgCTX CTX.POOL_ADDR + 4 * b.dev.getAt pgCTX CTX.CCFG_GT_BASE i.run.job.ctx →
      (∀ p ∈ gainPoints n (i.dp.r (saOf i.w)), b.bad (g + 4 * p) = false) →
      y = gainAt ((List.range n).map (fun p => signed 16 (b.word (g + 4 * p)))) (i.dp.r (saOf i.w)) →
    (b.issues c st v i 0x30 →
      ∃ u : Soc, exec (.gtl dt c st v) s = .next { s with soc := u.map (fun d => b.dev.follow d) } ∧ u.mem = s.soc.mem ∧
        b.retired u c st i ((i.dp.setR (dstOf i.w) y).zn y) (i.dp.pc + 1) 0)) ∧
    (∀ t : List Nat, b.tableWords i = .ok t →
      (∀ (y : Int) (l : Bool), tl1 t (i.dp.r (saOf i.w)) = some (y, l) →
    (b.issues c st v i 0x31 →
      ∃ u : Soc, exec (.tl1 dt c st v) s = .next { s with soc := u.map (fun d => b.dev.follow d) } ∧ u.mem = s.soc.mem ∧
        b.retired u c st i ({ ((i.dp.setR (dstOf i.w) y).zn y) with lf := l }) (i.dp.pc + 1) 0)) ∧
      (∀ (y : Int) (l : Bool), tl2 t (i.dp.r (saOf i.w)) (i.dp.r (sbOf i.w)) = some (y, l) →
    (b.issues c st v i 0x32 →
      ∃ u : Soc, exec (.tl2 dt c st v) s = .next { s with soc := u.map (fun d => b.dev.follow d) } ∧ u.mem = s.soc.mem ∧
        b.retired u c st i ({ ((i.dp.setR (dstOf i.w) y).zn y) with lf := l }) (i.dp.pc + 1) 0)) ∧
      (∀ ch cx : Nat, psel t (i.dp.ru (saOf i.w)) (i.dp.ru (sbOf i.w)) (immOf i.w % 65536) = some (ch, cx, false) →
    (b.issues c st v i 0x2D →
      ∃ u : Soc, exec (.psel dt c st v) s = .next { s with soc := u.map (fun d => b.dev.follow d) } ∧ u.mem = s.soc.mem ∧
        b.retired u c st i (((i.dp.setR (dstOf i.w) (signed 16 ch)).setR (dstOf i.w + 1) (signed 16 cx)).zn (signed 16 ch)) (i.dp.pc + 1) 0)))) ∧
  (∀ (dt : Nat) (c : Fin 4) (st : Fin 3) (v : Vote) (s : State) (b : Soc) (i : Iss), b = s.soc.after dt →
    (∀ (o k x : Nat), i.loop.outs[immOf i.w / 256 % 16]? = some o → o / 1024 = 0x0C → spaceOf i.w = 3 → i.fmt = false →
      bitOf (immOf i.w) 12 = false → k = immOf i.w % 256 → k < 8 →
      x = (if bitOf (immOf i.w) 13 then i.dp.ru (saOf i.w) * 65536 + i.dp.ru (sbOf i.w) else i.dp.ru (saOf i.w)) →
    (b.issues c st v i 0x38 →
      ∃ u : Soc, exec (.out dt c st v) s = .next { s with soc := u.map (fun d => b.dev.follow d) } ∧ u.mem = s.soc.mem ∧
        mapGet (fun _ => 0) u.dev.stage (8 * i.loop.id + k) = x ∧
        b.retired u c st i (i.dp) (i.dp.pc + 1) 0)) ∧
    (∀ (o x sel : Nat) (t : PageKind × Nat × Nat), i.loop.outs[immOf i.w / 256 % 16]? = some o → o / 1024 = 0x01 →
      spaceOf i.w = 3 → i.fmt = false → bitOf (immOf i.w) 12 = false → sel = immOf i.w % 256 →
      b.dev.outReg (o % 16) sel = some t →
      x = (if bitOf (immOf i.w) 13 then i.dp.ru (saOf i.w) * 65536 + i.dp.ru (sbOf i.w)
          else if outHigh sel then i.dp.ru (saOf i.w) * 65536 else i.dp.ru (saOf i.w)) → b.issues c st v i 0x38 →
      ∃ (u : Soc) (d : Dev), exec (.out dt c st v) s = .next { s with soc := u.map (fun d => b.dev.follow d) } ∧
        u.mem = s.soc.mem ∧ d = b.dev.outWrite i.run.job.ctx t x ∧ b.retired u c st i i.dp (i.dp.pc + 1) 0 ∧
        (∀ a, pgSTG 0 ≤ a → a < pgLEG 63 + 0x1000 → u.dev.reg a = d.reg a)) ∧
    (∀ o : Nat, i.loop.outs[immOf i.w / 256 % 16]? = some o → o / 1024 = 0x01 → immOf i.w % 4 ≠ 3 →
      b.dev.flag (pgSTG (o % 16)) COM.COMMIT_PENDING = false →
    (b.issues c st v i 0x39 →
      ∃ u : Soc, exec (.outc dt c st v) s = .next { s with soc := u.map (fun d => b.dev.follow d) } ∧ u.mem = s.soc.mem ∧
        u.dev.flag (pgSTG (o % 16)) COM.COMMIT_PENDING = true ∧
        u.dev.get (pgSTG (o % 16)) COM.COMMIT_WHEN = immOf i.w % 4 ∧
        b.retired u c st i (i.dp) (i.dp.pc + 1) 0)))

/-- A trigger whose input latency has elapsed, of a running context on a stream here that is not latched, becomes a ready job. DISPATCH of a stream that may dispatch takes the best ready job: it runs with 12 cycles counted in the bank in force, its copies start cleared, the stream shows BUSY. RUN of an admitted context sets RUN and clears FAULT, or clears RUN and drops what waits; RAMP_RESTART asks for the initialisation at the next dispatch. -/
def Obligations.JobsReleaseAndDispatch : Prop :=
  (∀ (dt : Nat) (s : State) (b : Soc), b = s.soc.after dt →
    (∀ (id t : Nat) (r : LoopDecl), b.dev.flag pgCTX COM.ST_FROZEN = false → b.dev.trigs = [(id, t)] → b.dev.loopDecl id = some r → t + r.lin ≤ b.dev.time →
      (∀ x ∈ b.dev.timers, b.dev.halfNs < x.2) → b.dev.streamLatched r.ctx = false →
      b.dev.flagAt pgCTX CTX.CCTL_RUN r.ctx = true → b.dev.ctxStream r.ctx / 16 ≠ 15 →
      ∃ u : Soc, exec (.jobRelease dt) s = .next { s with soc := u.map (fun d => b.dev.follow d) } ∧
        u.dev.ready = b.dev.ready ++ [⟨id, r.ctx, t, false⟩] ∧ u.dev.trigs = [] ∧ u.dev.timers = b.dev.timers ∧
        u.dev.regs = b.dev.regs ∧ u.mem = s.soc.mem) ∧
    (∀ (c : Fin 4) (st : Fin 3) (j : Job) (r : LoopDecl), b.dev.canDispatch c st = true →
      b.dev.bestJob (b.dev.streamCode c st) = some j → b.dev.loopDecl j.loop = some r → 0 < r.progLen → j.ctx < 64 →
      ∃ u : Soc, exec (.dispatch dt c st) s = .next { s with soc := u.map (fun d => b.dev.follow d) } ∧
        u.dev.ready = b.dev.ready.erase j ∧
        (u.dev.clu[c]).run[st] = some ⟨j, u.dev.getAt pgCTX CTX.CSTAT_ACTIVE_BANK j.ctx, 12, [], []⟩ ∧
        (∀ k ∈ u.dev.copies c st, (u.dev.clu[c]).dp[fin3 k] = Dpath.cleared) ∧
        u.dev.flagAt (pgCLU c) CLU.STREAM_BUSY st = true ∧ u.dev.getAt (pgCLU c) CLU.STREAM_CTX st = j.ctx ∧
        u.dev.flagAt pgCTX CTX.CSTAT_RUNNING j.ctx = true)) ∧
  (∀ (x : BitVec 6) (s : State), s.soc.answers (pgCTX + 0x104 + 32 * x.toNat) = true →
    (s.soc.dev.flagAt pgCTX CTX.CCFG_VALID x.toNat = true →
      ∃ u : Soc, exec (.runWrite x true) s = .next { s with soc := u.map (fun d => s.soc.dev.follow d) } ∧
        u.dev.flagAt pgCTX CTX.CCTL_RUN x.toNat = true ∧ u.dev.flagAt pgCTX CTX.CSTAT_FAULT x.toNat = false ∧
        u.dev.rampPend = s.soc.dev.rampPend ++ [(x.toNat, 0)] ∧ u.mem = s.soc.mem) ∧
    (∃ u : Soc, exec (.runWrite x false) s = .next { s with soc := u.map (fun d => s.soc.dev.follow d) } ∧
      u.dev.flagAt pgCTX CTX.CCTL_RUN x.toNat = false ∧
      u.dev.ready = s.soc.dev.ready.filter (fun j => j.ctx != x.toNat) ∧
      s.soc.dev.keepsRegs u.dev [pgCTX + CTX.CCTL.off + 32 * x.toNat] ∧ u.mem = s.soc.mem) ∧
    (∃ u, exec (.rampRestart x) s = .next { s with soc := u } ∧
      u.dev = { s.soc.dev with rampPend := s.soc.dev.rampPend ++ [(x.toNat, 0)] } ∧ u.mem = s.soc.mem))

/-- A whole aligned host write to memory that is on and that no rule refuses stores its word and leaves every other byte; with a refusal memory stays and the code is reported. CTX_CNT_CLR clears JOBS, MAX_CYC and CNT of one context or of all 63, CLU_CNT_CLR the counters of a cluster. An ADD that saturates in class S sets S_SAT, and one that leaves the range in class A sets A_OVF. -/
def Obligations.ContextMemoryAndLoopCounters : Prop :=
  (∀ (at_ : HostAddr) (w : Word) (a : Nat) (s : State), at_.target = .mem a → a % 4 = 0 → s.soc.reaches at_ = true →
    s.soc.dev.memOn a = true → s.soc.dev.limitWord a = false →
    (s.soc.dev.memRefusal a = none →
      (∃ u, exec (.contextMemoryWrite at_ 15 w) s = .next { s with soc := u } ∧ memNat u.mem a 4 = w.toNat ∧
        s.soc.keepsBytes u a 4 ∧ u.dev = s.soc.dev) ∧
      (∃ u, exec (.hostMemoryWrite at_ 15 w) s = .next { s with soc := u } ∧ memNat u.mem a 4 = w.toNat ∧
        s.soc.keepsBytes u a 4 ∧ u.dev = s.soc.dev)) ∧
    (∀ pg c : Nat, s.soc.dev.memRefusal a = some (pg, c) →
      ∃ u, exec (.contextMemoryWrite at_ 15 w) s = .next { s with soc := u } ∧ u.mem = s.soc.mem ∧
        u.dev = s.soc.dev.err pg c)) ∧
  (∀ (x : BitVec 6) (c : Fin 4) (s : State),
    (s.soc.answers (pgCTX + 0x58) = true →
      (x ≠ 0 → ∃ u, exec (.ctxCntClr false x) s = .next { s with soc := u } ∧ u.dev.getAt pgCTX CTX.JOBS x.toNat = 0 ∧
        u.dev.getAt pgCTX CTX.MAX_CYC x.toNat = 0 ∧ u.dev.getAt pgCTX CTX.CNT x.toNat = 0 ∧
        s.soc.dev.keepsRegs u.dev [pgCTX + 0x110 + 32 * x.toNat, pgCTX + 0x114 + 32 * x.toNat, pgCTX + 0x118 + 32 * x.toNat] ∧
        u.mem = s.soc.mem) ∧
      (∃ u, exec (.ctxCntClr true x) s = .next { s with soc := u } ∧
        (∀ k, 1 ≤ k → k < 64 → u.dev.getAt pgCTX CTX.JOBS k = 0 ∧ u.dev.getAt pgCTX CTX.MAX_CYC k = 0 ∧
          u.dev.getAt pgCTX CTX.CNT k = 0) ∧ u.mem = s.soc.mem)) ∧
    (s.soc.answers (pgCLU c + 0x70) = true →
      ∃ u, exec (.cluCntClr c) s = .next { s with soc := u } ∧ u.dev.get (pgCLU c) CLU.SB = 0 ∧
        (∀ k < 3, u.dev.getAt (pgCLU c) CLU.BUSY k = 0) ∧
        s.soc.dev.keepsRegs u.dev [pgCLU c + 0x44, pgCLU c + 0x60, pgCLU c + 0x64, pgCLU c + 0x68] ∧ u.mem = s.soc.mem)) ∧
  (∀ (dt : Nat) (c : Fin 4) (st : Fin 3) (v : Vote) (s : State) (b : Soc) (i : Iss), b = s.soc.after dt →
    b.issues c st v i 0x03 →
    (i.dp.r (saOf i.w) + i.dp.r (sbOf i.w) < -32768 ∨ 32767 < i.dp.r (saOf i.w) + i.dp.r (sbOf i.w)) →
    ∃ u : Soc, exec (.add dt c st v) s = .next { s with soc := u.map (fun d => b.dev.follow d) } ∧
      (i.clsS = true → u.dev.flagAt pgCTX CTX.STICKY_S_SAT i.run.job.ctx = true) ∧
      (i.clsS = false → u.dev.flagAt pgCTX CTX.STICKY_A_OVF i.run.job.ctx = true))

/-- A START of a ready drive with FS_EN = 1 clears its measurement, forces every leg of the stage off, asks for a commit and enters MEASURE at that time. With FS_EN = 0, EMF_MIN above 0 and an absolute source it hands over at once with KIND 3, or 4 for Hall. A drive that is not IDLE or not enabled refuses. A STOP in any phase forces the legs off, clears RUN of the listed contexts, restores a changed PERIOD and leaves the drive IDLE. -/
def Obligations.DrivesStartAndStop : Prop :=
  ∀ (k : Fin 16) (s : State), s.soc.answers (pgFLD + 0x150 + 128 * k.val) = true →
    (s.soc.dev.phase k = 0 → s.soc.dev.flagAt pgFLD FLD.DSTAT_ENABLED k = true → s.soc.dev.running k = true →
      (∀ n ∈ s.soc.dev.stageLegs k, s.soc.dev.tripped n = false) → s.soc.dev.stoCondition = false →
      (∀ x ∈ s.soc.dev.driveCtx k,
        s.soc.dev.flagAt pgCTX CTX.CCTL_RUN x = false ∧ s.soc.dev.flagAt pgCTX CTX.CCFG_VALID x = true) →
      s.soc.dev.flagAt pgFLD FLD.DSTAT_WRONG_MACHINE k = false →
      (s.soc.dev.flagAt pgFLD FLD.DCFG_FS_EN k = true →
        ∃ u : Soc, exec (.start k) s = .next { s with soc := u } ∧ u.dev.phase k = 1 ∧
          (u.dev.fh k).t0 = s.soc.dev.time ∧ (u.dev.fh k).triples = [] ∧
          s.soc.dev.forced u.dev k (fun _ => 3) ∧ u.dev.flag (pgSTG k) COM.COMMIT_PENDING = true ∧ u.mem = s.soc.mem) ∧
      (s.soc.dev.flagAt pgFLD FLD.DCFG_FS_EN k = false → 0 < s.soc.dev.getAt pgFLD FLD.EMF_MIN k →
        s.soc.dev.srcAbsolute (s.soc.dev.getAt pgFLD FLD.DLINK_SRC k) = true →
        ∃ u : Soc, exec (.start k) s = .next { s with soc := u } ∧
          s.soc.handedOver u k (if s.soc.dev.srcHall (s.soc.dev.getAt pgFLD FLD.DLINK_SRC k) then 4 else 3)
            s.soc.dev.time false)) ∧
    ((s.soc.dev.phase k ≠ 0 ∨ s.soc.dev.flagAt pgFLD FLD.DSTAT_ENABLED k = false) →
      ∃ u : Soc, exec (.start k) s = .next { s with soc := u } ∧ u.dev.phase k = s.soc.dev.phase k ∧
        u.dev.getAt pgFLD FLD.DSTAT_LAST k = Err.FLD_NOT_READY ∧ u.dev.flagAt pgFLD FLD.EV_REFUSED k = true ∧
        u.mem = s.soc.mem) ∧
    ∃ u : Soc, exec (.stop k) s = .next { s with soc := u } ∧ u.dev.phase k = 0 ∧
      s.soc.dev.forced u.dev k (fun _ => 3) ∧
      (∀ x ∈ s.soc.dev.driveCtx k, u.dev.flagAt pgCTX CTX.CCTL_RUN x = false) ∧
      (∀ p, (s.soc.dev.fh k).period = some p → p < 2 ^ 24 → u.dev.get (pgSTG k) STG.PERIOD = p) ∧
      (u.dev.fh k).period = none ∧ (u.dev.fh k).wrote = [] ∧ u.mem = s.soc.mem

/-- In MEASURE the next slot of the window requests U, V and W of VSENSE_GROUP as housekeeping conversions, and the result of W completes a triple at the TCLK of U, with V and W taken back to it. When the window has ended, MEAS_ANGLE and MEAS_SPEED hold the fit and MEAS_DONE is set. With no leg tripped, a turning machine with an inconsistent window is refused with FLD_MEAS; a consistent one at a speed within CATCH_MAX is caught by the direction of f where no absolute source contradicts it; a machine at rest without an absolute source goes to IPD where that is on. -/
def Obligations.MeasurementsDecideTheStart : Prop :=
  ∀ (dt : Nat) (k : Fin 16) (s : State) (b : Soc), b = s.soc.after dt → b.dev.phase k = 1 →
    b.dev.flag pgFLD COM.ST_FROZEN = false →
    (∀ i g : Nat, i = (b.dev.time - (b.dev.fh k).t0) / (400 * max 1 (b.dev.getAt pgFLD FLD.FS_TIME_SAMPLE k)) →
      (b.dev.fh k).asked ≤ i → b.dev.time < (b.dev.fh k).t0 + 4000 * b.dev.getAt pgFLD FLD.FS_TIME_MEAS_TIME k →
      g = b.dev.getAt pgFLD FLD.VSENSE_GROUP k →
      ∃ t : Soc, exec (.measureTriple dt k) s = .next { s with soc := t } ∧ (t.dev.fh k).asked = i + 1 ∧
        (t.dev.ah g).hkq = (b.dev.ah g).hkq ++ [64 + 4 * k.val, 65 + 4 * k.val, 66 + 4 * k.val] ∧
        t.dev.regs = b.dev.regs ∧ t.mem = s.soc.mem) ∧
    (∀ (g : Fin 4) (cv : Fin 3) (x : BitVec 14) (r : ConvRun) (u v : Nat × Nat),
      (b.dev.ah g).runs.find? (fun r => r.conv == cv.val && decide (r.start + 52 ≤ b.dev.time)) = some r →
      r.kind = 1 → r.idx = 66 + 4 * k.val → (b.dev.fh k).t0 ≤ r.start → (b.dev.fh k).cur = [u, v] →
      ∃ (t : Soc) (y : Triple), exec (.conversionResult dt g cv (.code x)) s
          = .next { s with soc := t.map (fun d => b.dev.follow d) } ∧
        (t.dev.fh k).triples = (b.dev.fh k).triples ++ [y] ∧ (t.dev.fh k).cur = [] ∧ y.t = u.1 ∧
        y.ub = (interpolate (b.dev.fh k).lastV v.2 v.1 u.1 - interpolate (b.dev.fh k).lastW x.toNat r.start u.1)
          * b.dev.getAt pgFLD FLD.VS_SCALE k ∧ t.mem = s.soc.mem) ∧
    ∀ (t0 : Nat), t0 = (b.dev.fh k).t0 + 4000 * b.dev.getAt pgFLD FLD.FS_TIME_MEAS_TIME k → t0 ≤ b.dev.time →
      (∀ n ∈ b.dev.stageLegs k, b.dev.tripped n = false) →
      ∀ (emf phi : Nat) (f : Int) (bad : Bool), fitWindow (b.dev.fh k).triples t0 = (emf, f, phi, bad) →
        -(2 ^ 31) ≤ f → f < 2 ^ 31 →
        ∃ u : Soc, exec (.measDone dt k) s = .next { s with soc := u } ∧
          u.dev.getAt pgFLD FLD.MEAS_ANGLE k = (if 0 ≤ f then phi + 2 ^ 32 - 2 ^ 30 else phi + 2 ^ 30) % 2 ^ 32 ∧
          u.dev.getIAt pgFLD FLD.MEAS_SPEED k = f ∧ u.dev.flagAt pgFLD FLD.EV_MEAS_DONE k = true ∧
          (b.dev.getAt pgFLD FLD.EMF_MIN k * 1000 * 2 ^ 20 ≤ emf → bad = true →
            u.dev.startRefused k Err.FLD_MEAS ∧ u.mem = s.soc.mem) ∧
          (b.dev.getAt pgFLD FLD.EMF_MIN k * 1000 * 2 ^ 20 ≤ emf → bad = false →
            f.natAbs ≤ b.dev.getAt pgFLD FLD.CATCH_MAX k → b.dev.getAt pgFLD FLD.DCFG_CTX_CUR k ≠ 0 →
            b.dev.srcAbsolute (b.dev.getAt pgFLD FLD.DLINK_SRC k) = false →
            b.handedOver u k 1 t0 (decide (f < 0))) ∧
          (emf < b.dev.getAt pgFLD FLD.EMF_MIN k * 1000 * 2 ^ 20 →
            b.dev.srcAbsolute (b.dev.getAt pgFLD FLD.DLINK_SRC k) = false →
            b.dev.flagAt pgFLD FLD.DCFG_IPD_EN k = true → b.dev.get (pgSTG k) STG.CM_MODE_SENSING = 2 →
            u.dev.phase k = 2 ∧ (u.dev.fh k).step = 0 ∧ (u.dev.fh k).resp = [] ∧
            (u.dev.fh k).period = some (b.dev.get (pgSTG k) STG.PERIOD) ∧
            u.dev.get (pgSTG k) STG.PERIOD = 400 * b.dev.getAt pgFLD FLD.IPD_CFG_T_P k ∧ u.mem = s.soc.mem)

/-- In IPD, with the commit of the last step loaded and the shadows as written, a step that is due forces the levels of a vector, of the opposite one or off, and commits at the next boundary. A published set with a current above IMAX aborts with the legs off; the first one after the end of a first carrier adds the response. When the gap is over and the six responses are in, a saliency and polarity at or above their limits hand over with KIND 2 and the axis nearest the polarity in IPD_ANGLE, and a mean response of 0 or less is refused. After the polarity step the larger response decides. A due sample of a drive in RUN, from a new valid mailbox at a speed of at least F_BASE over 10, is counted with its flux, or, as the EST_N-th, gives a verdict that starts the count again. T_MAG_WRITE stores the temperature and clears STALE. STALE comes when the temperature has not been written for its AGE. NEW_MACHINE clears WRONG_MACHINE and FIRST_DONE; CLR_DEMAG clears DEMAG. -/
def Obligations.InitialPositionAndMagnetFlux : Prop :=
  (∀ (dt : Nat) (k : Fin 16) (s : State) (b : Soc), b = s.soc.after dt → b.dev.phase k = 2 →
    b.dev.flag pgFLD COM.ST_FROZEN = false →
    (b.dev.ipdStepDue k = true → b.dev.fldClean k = true →
      ∃ u : Soc, exec (.ipdVector dt k) s = .next { s with soc := u } ∧ u.dev.phase k = 2 ∧
        (u.dev.fh k).step = (b.dev.fh k).step + 1 ∧ b.dev.forced u.dev k (b.dev.ipdForce k (b.dev.fh k).step) ∧
        u.dev.flag (pgSTG k) COM.COMMIT_PENDING = true ∧ u.dev.get (pgSTG k) COM.COMMIT_WHEN = 1 ∧
        (u.dev.fh k).resp = (b.dev.fh k).resp ∧ u.mem = s.soc.mem) ∧
    (b.dev.ipdOver k = true → (b.dev.ipdSet k).startRefused k Err.FLD_IPD_CURRENT ∧
      b.dev.forced (b.dev.ipdSet k) k (fun _ => 3)) ∧
    (b.dev.ipdOver k = false → (b.dev.fh k).resp.length < 6 →
      3 * (b.dev.fh k).resp.length + 2 < (b.dev.fh k).step ∨
        ((b.dev.fh k).step = 3 * (b.dev.fh k).resp.length + 2 ∧ b.dev.flag (pgSTG k) COM.COMMIT_PENDING = false) →
      ((b.dev.ipdSet k).fh k).resp = (b.dev.fh k).resp ++ [b.dev.ipdResponse k (b.dev.fh k).resp.length] ∧
        (b.dev.ipdSet k).regs = b.dev.regs) ∧
    (b.dev.ipdGapOver k = true →
      (∀ (td tp m2 m1 : Nat) (sum : Int), (b.dev.fh k).step = 18 → (b.dev.fh k).resp.length = 6 →
        ipdSums (b.dev.fh k).resp = (td, tp, m2, m1, sum) →
        (sum ≤ 0 →
          ∃ u : Soc, exec (.ipdDone dt k) s = .next { s with soc := u } ∧ u.dev.startRefused k Err.FLD_IPD_AMBIG ∧
            u.mem = s.soc.mem) ∧
        (0 < sum → b.dev.getAt pgFLD FLD.IPD_LIM_SAL_MIN k * sum.toNat * 65536 ≤ m2 * 256 →
          b.dev.getAt pgFLD FLD.IPD_LIM_POL_MIN k * sum.toNat * 65536 ≤ m1 * 256 →
          (td + 2 ^ 48 - tp) % 2 ^ 48 ≤ 2 ^ 46 →
          ∃ u : Soc, exec (.ipdDone dt k) s = .next { s with soc := u } ∧ b.handedOver u k 2 b.dev.time false ∧
            u.dev.getAt pgFLD FLD.IPD_ANGLE k = td % 2 ^ 48 / 2 ^ 16 ∧ u.dev.flagAt pgFLD FLD.EV_IPD_DONE k = true)) ∧
      ∀ r1 r2 : Int, (b.dev.fh k).step = 24 → (b.dev.fh k).pol = [r1, r2] →
        b.dev.getAt pgFLD FLD.IPD_LIM_POL_MIN k * (r1 + r2) ≤ 512 * ((r1 - r2).natAbs : Int) →
        ∃ u : Soc, exec (.ipdDone dt k) s = .next { s with soc := u } ∧ b.handedOver u k 2 b.dev.time false ∧
          u.dev.getAt pgFLD FLD.IPD_ANGLE k
            = ((ipdSums (b.dev.fh k).resp).1 + (if r1 < r2 then 2 ^ 47 else 0)) % 2 ^ 48 / 2 ^ 16)) ∧
  ((∀ (dt : Nat) (k : Fin 16) (s : State) (b : Soc) (l : Nat), b = s.soc.after dt →
    l = b.dev.getAt pgFLD FLD.DLINK_MB_LOOP k → b.dev.flag pgFLD COM.ST_FROZEN = false →
    b.dev.flagAt pgFLD FLD.DCFG_MON_EN k = true → b.dev.getAt pgFLD FLD.DCFG_MTYPE k = 0 → b.dev.phase k = 4 →
    b.dev.time / 400000 ≠ (b.dev.fh k).tick → b.dev.mailbox l 7 ≠ (b.dev.fh k).mbSeq →
    bitOf (b.dev.mailbox l 5) 15 = true → b.dev.mailI l 4 ≠ 0 →
    b.dev.getAt pgFLD FLD.F_BASE k ≤ 10 * (b.dev.mailI l 4).natAbs * 65536 →
    b.dev.flagAt pgFLD FLD.DSTAT_STALE k = false →
    ∃ u : Soc, exec (.bemfSample dt k) s = .next { s with soc := u } ∧
      (u.dev.fh k).tick = b.dev.time / 400000 ∧ (u.dev.fh k).mbSeq = b.dev.mailbox l 7 ∧
      ((b.dev.fh k).n + 1 < b.dev.getAt pgFLD FLD.BAND_B_EST_N k →
        (u.dev.fh k).n = (b.dev.fh k).n + 1 ∧ (u.dev.fh k).sum = (b.dev.fh k).sum + b.dev.bemfPsi k) ∧
      (b.dev.getAt pgFLD FLD.BAND_B_EST_N k ≤ (b.dev.fh k).n + 1 →
        (u.dev.fh k).n = 0 ∧ (u.dev.fh k).sum = 0 ∧ u.dev.flagAt pgFLD FLD.EV_VERDICT k = true ∧
        u.dev.flagAt pgFLD FLD.DSTAT_FIRST_DONE k = true ∧
        (b.dev.getAt pgFLD FLD.BAND_A_HIGH k < u.dev.getAt pgFLD FLD.RATIO_RATIO k →
          u.dev.flagAt pgFLD FLD.DSTAT_WRONG_MACHINE k = true) ∧
        (u.dev.getAt pgFLD FLD.RATIO_RATIO k ≤ b.dev.getAt pgFLD FLD.BAND_A_HIGH k →
          u.dev.getAt pgFLD FLD.RATIO_RATIO k < b.dev.getAt pgFLD FLD.BAND_A_LOW k →
          b.dev.getAt pgFLD FLD.BAND_B_FLOOR k ≤ u.dev.getAt pgFLD FLD.RATIO_RATIO k →
          u.dev.flagAt pgFLD FLD.DSTAT_DEMAG k = true)) ∧
      u.mem = s.soc.mem) ∧
  (∀ (k : Fin 16) (v : BitVec 16) (s : State), s.soc.answers (pgFLD + 0x128 + 128 * k.val) = true →
    ∃ u : Soc, exec (.tMagWrite k v) s = .next { s with soc := u } ∧ u.dev.getAt pgFLD FLD.T_MAG k = v.toNat ∧
      u.dev.flagAt pgFLD FLD.DSTAT_STALE k = false ∧ (u.dev.fh k).magT = s.soc.dev.time ∧ u.mem = s.soc.mem) ∧
  (∀ (dt : Nat) (k : Fin 16) (s : State) (b : Soc), b = s.soc.after dt →
    b.dev.flag pgFLD COM.ST_FROZEN = false → b.dev.getAt pgFLD FLD.TSRC_SRC k = 0 →
    (b.dev.fh k).magT + 40000000 * b.dev.getAt pgFLD FLD.TSRC_AGE k ≤ b.dev.time →
    ∃ u : Soc, exec (.stale dt k) s = .next { s with soc := u } ∧ u.dev.flagAt pgFLD FLD.DSTAT_STALE k = true ∧
      u.mem = s.soc.mem) ∧
  (∀ (k : Fin 16) (s : State), s.soc.answers (pgFLD + 0x17C + 128 * k.val) = true →
    (∃ u : Soc, exec (.newMachine k) s = .next { s with soc := u } ∧
      u.dev.flagAt pgFLD FLD.DSTAT_WRONG_MACHINE k = false ∧ u.dev.flagAt pgFLD FLD.DSTAT_FIRST_DONE k = false ∧
      u.mem = s.soc.mem) ∧
    ∃ u : Soc, exec (.clrDemag k) s = .next { s with soc := u } ∧ u.dev.flagAt pgFLD FLD.DSTAT_DEMAG k = false ∧
      (∀ a, a ≠ pgFLD + FLD.DSTAT.off + 128 * k.val → u.dev.reg a = s.soc.dev.reg a) ∧ u.mem = s.soc.mem))

/-- A due tick measures the DC link: U_VALID, U_DC and, for a good word, E_LINK. A voltage at or above U_OV takes ESC to 2 and REGEN_LIM to 0; a bad word takes ESC from 0 to 1 with REGEN_LIM 0. CHOP_FAULT comes once enough ticks rose. ESC_CLR below U_REARM with no hot resistor clears ESC and CHOP_FAULT and gives REGEN_LIM 0x7FFF, in word 247 of each reference loop; otherwise it leaves ESC and memory. A request while no discharge runs starts one at that time if the ledger, DIS_EN and the stage are enabled, and otherwise leaves state 3. An abort of a running discharge stops it in state 3 with its leg forced off. T_DIS after the start the discharge is late once: the interrupt bit is set and it still runs. -/
def Obligations.LedgerAndDischarge : Prop :=
  ((∀ (dt : Nat) (s : State) (b : Soc), b = s.soc.after dt → b.dev.enabled pgNRG = true →
    (b.dev.time / 40000 ≠ b.dev.nrg.tick → -(2 ^ 31) ≤ b.dev.linkU → b.dev.linkU < 2 ^ 31 →
      ∃ u : Soc, exec (.ledgerTick dt) s = .next { s with soc := u.map (fun d => b.dev.follow d) } ∧
        u.dev.nrg.tick = b.dev.time / 40000 ∧ u.dev.flag pgNRG NRG.ST_U_VALID = b.dev.linkGood ∧
        u.dev.getI pgNRG NRG.U_DC = b.dev.linkU ∧
        (b.dev.linkGood = true → u.dev.get pgNRG NRG.E_LINK
          = (b.dev.get pgNRG NRG.CAP * b.dev.linkU * b.dev.linkU / 2000000000).toNat % 2 ^ 32) ∧
        (b.dev.linkGood = true → (b.dev.get pgNRG NRG.OV_CFG_U_OV * 1000 : Int) ≤ b.dev.linkU →
          b.dev.get pgNRG NRG.ST_ESC < 2 → u.dev.get pgNRG NRG.ST_ESC = 2 ∧ u.dev.get pgNRG NRG.REGEN_LIM = 0) ∧
        (b.dev.linkGood = false → b.dev.get pgNRG NRG.ST_ESC = 0 →
          u.dev.get pgNRG NRG.ST_ESC = 1 ∧ u.dev.get pgNRG NRG.REGEN_LIM = 0) ∧
        (b.dev.get pgNRG NRG.ST_ESC = 2 → u.dev.get pgNRG NRG.ST_ESC = 2 ∧ u.mem = s.soc.mem) ∧
        (∀ a, (∀ k ∈ b.dev.machines, ¬ b.dev.inLoopWord (b.dev.getAt pgNRG NRG.MACH_A_REF_LOOP k) 247 a) →
          memGet u.mem a = memGet s.soc.mem a)) ∧
    (b.dev.flag pgNRG NRG.ST_CHOP_FAULT = false → b.dev.get pgNRG NRG.CHOP_CFG_CHOP_T ≤ b.dev.nrg.rising →
      ∃ u : Soc, exec (.chopFault dt) s = .next { s with soc := u.map (fun d => b.dev.follow d) } ∧
        u.dev.flag pgNRG NRG.ST_CHOP_FAULT = true ∧ u.dev.flag pgNRG NRG.IRQ_CHOP_FAULT = true ∧ u.mem = s.soc.mem)) ∧
  (∀ s : State, s.soc.answers (pgNRG + 0xC4) = true →
    (s.soc.dev.linkGood = true → s.soc.dev.linkU < s.soc.dev.get pgNRG NRG.OV_CFG_U_REARM * 1000 →
      s.soc.dev.flag pgNRG NRG.ST_RES_HOT = false →
      ∃ u : Soc, exec .escClr s = .next { s with soc := u.map (fun d => s.soc.dev.follow d) } ∧
        u.dev.get pgNRG NRG.ST_ESC = 0 ∧ u.dev.flag pgNRG NRG.ST_CHOP_FAULT = false ∧
        u.dev.get pgNRG NRG.REGEN_LIM = 0x7FFF ∧
        ((∀ k ∈ s.soc.dev.machines, ∀ l, s.soc.dev.loopDecl (s.soc.dev.getAt pgNRG NRG.MACH_A_REF_LOOP k) = some l →
            s.soc.dev.ctxWord l.ctx 0 % 4 = 0) →
          ∀ k ∈ s.soc.dev.machines, ∀ l, s.soc.dev.loopDecl (s.soc.dev.getAt pgNRG NRG.MACH_A_REF_LOOP k) = some l →
            u.word (s.soc.dev.ctxWord l.ctx 247) = 0x7FFF) ∧
        (∀ a, (∀ k ∈ s.soc.dev.machines,
            ¬ s.soc.dev.inLoopWord (s.soc.dev.getAt pgNRG NRG.MACH_A_REF_LOOP k) 247 a) →
          memGet u.mem a = memGet s.soc.mem a)) ∧
    ((s.soc.dev.linkGood = false ∨ (s.soc.dev.get pgNRG NRG.OV_CFG_U_REARM * 1000 : Int) ≤ s.soc.dev.linkU ∨
        s.soc.dev.flag pgNRG NRG.ST_RES_HOT = true) →
      ∃ u : Soc, exec .escClr s = .next { s with soc := u.map (fun d => s.soc.dev.follow d) } ∧
        u.dev.get pgNRG NRG.ST_ESC = s.soc.dev.get pgNRG NRG.ST_ESC ∧ u.mem = s.soc.mem))) ∧
  ((∀ s : State, s.soc.answers (pgNRG + 0xC0) = true →
    (s.soc.dev.disRunning = false → s.soc.dev.enabled pgNRG = true → s.soc.dev.flag pgNRG NRG.DIS_CFG_DIS_EN = true →
      s.soc.dev.enabled (pgSTG (s.soc.dev.get pgNRG NRG.DIS_CFG_STAGE)) = true →
      ∃ u : Soc, exec .disReq s = .next { s with soc := u.map (fun d => s.soc.dev.follow d) } ∧
        u.dev.get pgNRG NRG.ST_DIS = 1 ∧ u.dev.nrg.disStart = s.soc.dev.time ∧ u.dev.nrg.disLate = false ∧
        u.mem = s.soc.mem) ∧
    (s.soc.dev.disRunning = false →
      (s.soc.dev.enabled pgNRG = false ∨ s.soc.dev.flag pgNRG NRG.DIS_CFG_DIS_EN = false ∨
        s.soc.dev.enabled (pgSTG (s.soc.dev.get pgNRG NRG.DIS_CFG_STAGE)) = false) →
      ∃ u : Soc, exec .disReq s = .next { s with soc := u.map (fun d => s.soc.dev.follow d) } ∧
        u.dev.get pgNRG NRG.ST_DIS = 3 ∧ u.mem = s.soc.mem) ∧
    (s.soc.dev.disRunning = true →
      ∃ u : Soc, exec .disAbort s = .next { s with soc := u.map (fun d => s.soc.dev.follow d) } ∧
        u.dev.get pgNRG NRG.ST_DIS = 3 ∧ u.dev.flag pgNRG NRG.IRQ_DIS_STOPPED = true ∧
        (∀ n, s.soc.dev.disLeg = some n → u.dev.get (pgLEG n) LEG.CTL_FORCE = 3) ∧ u.mem = s.soc.mem)) ∧
  (∀ (dt : Nat) (s : State) (b : Soc), b = s.soc.after dt → b.dev.enabled pgNRG = true → b.dev.disRunning = true →
    b.dev.nrg.disLate = false → b.dev.nrg.disStart + 4000000 * b.dev.get pgNRG NRG.DIS_CFG_T_DIS ≤ b.dev.time →
    ∃ u : Soc, exec (.disLate dt) s = .next { s with soc := u.map (fun d => b.dev.follow d) } ∧
      u.dev.nrg.disLate = true ∧ u.dev.flag pgNRG NRG.IRQ_DIS_LATE = true ∧ u.dev.disRunning = true ∧
      u.mem = s.soc.mem))

/-- At the start of a new round period with no round under way, the round is counted, its results are empty and each group waits for its channels; with one under way the round is late and is skipped. When the last result is in, the round is published: ROUND_VALID, ROUND_CNT one more, and NTC_FAULT of each module exactly where its code lies outside the range. A due update takes the die power, moves each die node and each node of a valid module by its step towards R times the power, and starts the turn-on counts again. A due ramp moves the factor g of each valid module towards its target by at most RAMP, never past it, and writes I_NOM times g to I_LIM; memory changes only in word 246 of the reference loops. -/
def Obligations.HousekeepingAndThermalModels : Prop :=
  (∀ (dt : Nat) (s : State) (b : Soc), b = s.soc.after dt → b.dev.enabled pgTHM = true → b.dev.fwRuns = true →
    (b.dev.roundNumber ≠ b.dev.thm.round →
      ∃ u : Soc, exec (.hkRoundStart dt) s = .next { s with soc := u } ∧ u.dev.thm.round = b.dev.roundNumber ∧
        (b.dev.thm.missing = none →
          u.dev.thm.res = [] ∧
          u.dev.thm.missing = some ((List.range 4).map (fun g => (b.dev.roundChannels g).length)).sum ∧
          u.dev.flag pgTHM THM.ST_HK_LATE = false ∧
          (∀ g : Fin 4, (u.dev.adc[g]).hkq = (b.dev.adc[g]).hkq ++ b.dev.roundChannels g)) ∧
        (∀ n, b.dev.thm.missing = some n →
          u.dev.thm.missing = some n ∧ u.dev.flag pgTHM THM.ST_HK_LATE = true ∧
          u.dev.flag pgTHM THM.IRQ_HK_LATE = true ∧ u.dev.adc = b.dev.adc) ∧ u.mem = s.soc.mem) ∧
    (b.dev.thm.missing = some 0 →
      ∃ u : Soc, exec (.hkRoundComplete dt) s = .next { s with soc := u.map (fun d => b.dev.follow d) } ∧
        u.dev.thm.missing = none ∧ u.dev.thm.res = [] ∧ u.dev.flag pgTHM THM.ST_ROUND_VALID = true ∧
        u.dev.get pgTHM THM.ROUND_CNT = (b.dev.get pgTHM THM.ROUND_CNT + 1) % 2 ^ THM.ROUND_CNT.width ∧
        u.dev.flag pgTHM THM.IRQ_ROUND = true ∧
        (∀ k < 16, ∀ c, b.dev.modValid k = true →
          b.dev.hkValue (b.dev.getAt pgTHM THM.MCFG_NTC_PIN k / 16) (32 + k) = some c →
          u.dev.flagAt pgTHM THM.T_NTC_NTC_FAULT k = decide (c < 0x40 ∨ 0x3FC0 < c)) ∧ u.mem = s.soc.mem)) ∧
  (∀ (dt : Nat) (s : State) (b : Soc), b = s.soc.after dt → b.dev.enabled pgTHM = true → b.dev.fwRuns = true →
    (∀ pdie : Word, b.dev.time / 40000 ≠ b.dev.thm.upd →
      ∃ u : Soc, exec (.thmModelUpdate dt pdie) s = .next { s with soc := u.map (fun d => b.dev.follow d) } ∧
        u.dev.thm.upd = b.dev.time / 40000 ∧ u.dev.get pgTHM THM.P_DIE = pdie.toNat ∧
        (∀ j < 4, u.dev.thm.die.getD j 0 = nodeStep (b.dev.thm.die.getD j 0)
          ((Config.dieRes j % 65536 : Nat) * (pdie.toNat : Int) * 2 ^ 32 / 1000000) (Config.dieTau j % 65536)) ∧
        (∀ k < 16, b.dev.thm.mods = true → b.dev.modValid k = true →
          u.dev.thm.foster.getD (4 * k) 0 = nodeStep (b.dev.thm.foster.getD (4 * k) 0)
            (b.dev.getAt pgTHM THM.FR_A_R0 k * b.dev.moduleLoss k / 1000) (b.dev.getAt pgTHM THM.FT_A_TAU0 k)) ∧
        (∀ n : Fin 64, (u.dev.leg[n]).nOn = 0) ∧ u.mem = s.soc.mem) ∧
    (b.dev.thm.mods = true → b.dev.time / 400000 ≠ b.dev.thm.ramp →
      ∃ u : Soc, exec (.limitRamp dt) s = .next { s with soc := u } ∧ u.dev.thm.ramp = b.dev.time / 400000 ∧
        (∀ k < 16, b.dev.modValid k = true →
          u.dev.thm.g.getD k 65536 = (if b.dev.thm.g.getD k 65536 < b.dev.gTarget k
            then min (b.dev.gTarget k) (b.dev.thm.g.getD k 65536 + b.dev.getAt pgTHM THM.DRT_RAMP k)
            else max (b.dev.gTarget k) (b.dev.thm.g.getD k 65536 - b.dev.getAt pgTHM THM.DRT_RAMP k)) ∧
          u.dev.getAt pgTHM THM.I_NOM_I_LIM k
            = (b.dev.getAt pgTHM THM.I_NOM_I_NOM k * u.dev.thm.g.getD k 65536 + 32768) / 65536
              % 2 ^ THM.I_NOM_I_LIM.width) ∧
        (∀ a, (∀ k ∈ b.dev.modules, ¬ b.dev.inLoopWord (b.dev.getAt pgTHM THM.MCFG_REF_LOOP k) 246 a) →
          memGet u.mem a = memGet s.soc.mem a)))

/-- A NOP of a pair whose copies differ latches MM_INFO with KIND 1 at that time and signals event 3 to Gnomon. MM_CLR of a latched cluster none of whose served stages is enabled starts its recovery. When every datapath to be tested has its result, the recovery ends; with none failed LATCHED clears and the request of the cluster ends, and with one failed and not two left LATCHED stays. At an exchange point with no input in disagreement, every input taken at the point before is released and the inputs of the cluster are taken anew; a disagreement in a protected mode latches MM_INFO. A due comparator test that passes is counted; one that fails sets FAIL and latches MM_INFO. Either way the next is due in the next millisecond. -/
def Obligations.MismatchesRecoverAndCopiesExchange : Prop :=
  ((∀ (dt : Nat) (c : Fin 4) (s : State) (b : Soc) (i : Iss), b = s.soc.after dt →
    b.issue c 0 = some i → opOf i.w = 0 → insnReserved i.w = false → b.dev.protectedStream c 0 = true →
    b.dev.mode c = 0 → b.dev.flag (pgCLU c) CLU.MM_INFO_LATCHED = false →
    ∃ u : Soc, exec (.nop dt c 0 .differ) s = .next { s with soc := u.map (fun d => b.dev.follow d) } ∧
        u.dev.flag (pgCLU c) CLU.MM_INFO_LATCHED = true ∧ u.dev.get (pgCLU c) CLU.MM_INFO_KIND = 1 ∧
        u.dev.get (pgCLU c) CLU.MM_TIME = b.dev.time % 2 ^ 32 ∧
        ⟨3, 0, c, 0, 0, b.dev.get (pgCLU c) CLU.SERVED_PAIR⟩ ∈ u.dev.gnq ∧ u.mem = s.soc.mem) ∧
  (∀ (c : Fin 4) (s : State), s.soc.answers (pgCLU c + 0x94) = true →
    s.soc.dev.flag (pgCLU c) CLU.MM_INFO_LATCHED = true → s.soc.dev.flag (pgCLU c) CLU.MM_INFO_RECOVERING = false →
    (∀ k < 16, bitOf (s.soc.dev.get (pgCLU c) CLU.SERVED_PAIR) k = true → s.soc.dev.flag (pgSTG k) COM.CTRL_EN = false) →
    ∃ u : Soc, exec (.mmClr c) s = .next { s with soc := u.map (fun d => s.soc.dev.follow d) } ∧
        u.dev.flag (pgCLU c) CLU.MM_INFO_RECOVERING = true ∧ u.dev.flag (pgCLU c) CLU.MM_INFO_LATCHED = true ∧ u.mem = s.soc.mem) ∧
  (∀ (dt : Nat) (c : Fin 4) (s : State) (b : Soc) (r : Recovery), b = s.soc.after dt → (b.dev.clu[c]).recov = some r →
    b.dev.flag (pgCLU c) CLU.MM_INFO_RECOVERING = true → r.todo = [] → b.dev.sliceOn c = none →
    (r.failed = [] →
      ∃ u : Soc, exec (.recoveryEnd dt c) s = .next { s with soc := u.map (fun d => b.dev.follow d) } ∧
        u.dev.flag (pgCLU c) CLU.MM_INFO_RECOVERING = false ∧
        u.dev.flag (pgCLU c) CLU.MM_INFO_LATCHED = false ∧ (u.dev.clu[c]).recov = none ∧
        (∀ e ∈ u.dev.red, e.1 ≠ pgCLU c) ∧ u.mem = s.soc.mem) ∧
    (r.failed ≠ [] → b.dev.liveCount c ≠ 2 →
      ∃ u : Soc, exec (.recoveryEnd dt c) s = .next { s with soc := u.map (fun d => b.dev.follow d) } ∧
        u.dev.flag (pgCLU c) CLU.MM_INFO_RECOVERING = false ∧
        u.dev.flag (pgCLU c) CLU.MM_INFO_LATCHED = b.dev.flag (pgCLU c) CLU.MM_INFO_LATCHED ∧ u.mem = s.soc.mem))) ∧
  (∀ (dt : Nat) (c : Fin 4) (s : State) (b : Soc), b = s.soc.after dt →
    (∀ bad : List (BitVec 16), b.dev.time % 16 = 0 →
      ((∀ e ∈ (b.dev.clu[c]).agr, ∀ x ∈ bad, x.toNat ≠ e.1) →
        ∃ u : Soc, exec (.exchangePoint dt c bad) s = .next { s with soc := u.map (fun d => b.dev.follow d) } ∧
        (∀ e ∈ (b.dev.clu[c]).agr, e ∈ (u.dev.clu[c]).rel) ∧
        (u.dev.clu[c]).agr = (b.dev.exchangeCodes c).map (fun x => (x, b.dev.inputWords x)) ∧ u.mem = s.soc.mem) ∧
      ((∃ e ∈ (b.dev.clu[c]).agr, ∃ x ∈ bad, x.toNat = e.1) → b.dev.mode c < 2 →
        ∃ u : Soc, exec (.exchangePoint dt c bad) s = .next { s with soc := u.map (fun d => b.dev.follow d) } ∧
        u.dev.flag (pgCLU c) CLU.MM_INFO_LATCHED = true ∧ u.mem = s.soc.mem)) ∧
    (b.dev.mode c < 2 → (b.dev.clu[c]).testT ≤ b.dev.time →
      (∃ u : Soc, exec (.ctest dt c true) s = .next { s with soc := u.map (fun d => b.dev.follow d) } ∧
        (u.dev.clu[c]).testN = (b.dev.clu[c]).testN + 1 ∧
        (u.dev.clu[c]).testT = (b.dev.time / 400000 + 1) * 400000 ∧
        u.dev.get (pgCLU c) CLU.CTEST_PASS_CNT = min 0xFFFF (b.dev.get (pgCLU c) CLU.CTEST_PASS_CNT + 1) ∧ u.mem = s.soc.mem) ∧
      ∃ u : Soc, exec (.ctest dt c false) s = .next { s with soc := u.map (fun d => b.dev.follow d) } ∧
        (u.dev.clu[c]).testN = (b.dev.clu[c]).testN + 1 ∧
        u.dev.flag (pgCLU c) CLU.CTEST_FAIL = true ∧ u.dev.flag (pgCLU c) CLU.MM_INFO_LATCHED = true ∧ u.mem = s.soc.mem))

/-- A request for MODE 3 or WHEN 3 is refused with RX_MODE_REQ. A legal one in ALM state IDLE takes effect at once: STATE 4 and the new MODE_ACT; with a set admitted it waits in STATE 1. The check passes to STATE 2 or refuses with STATE 5. The boundary stops dispatch, and once every stream is idle the change takes effect in STATE 3, which the end of the handover takes to 4 with IRQ HANDOVER. -/
def Obligations.ClustersChangeMode : Prop :=
  (∀ (c : Fin 4) (to_ when : BitVec 2) (stage : BitVec 4) (s : State), s.soc.answers (pgCLU c + 0x80) = true →
    ((to_ = 3 ∨ when = 3) →
      ∃ u : Soc, exec (.modeReq c to_ when stage) s = .next { s with soc := u.map (fun d => s.soc.dev.follow d) } ∧
        u.dev.get (pgCLU c) CLU.MODE_STAT_CODE = Err.RX_MODE_REQ ∧
        u.dev.get (pgCLU c) CLU.ST_MODE_ACT = s.soc.dev.get (pgCLU c) CLU.ST_MODE_ACT ∧ u.mem = s.soc.mem) ∧
    (to_ ≠ 3 → when ≠ 3 → ¬ (1 ≤ s.soc.dev.get (pgCLU c) CLU.MODE_STAT_STATE ∧ s.soc.dev.get (pgCLU c) CLU.MODE_STAT_STATE ≤ 3) →
      s.soc.dev.flag (pgCLU c) CLU.MM_INFO_LATCHED = false → s.soc.dev.almBusy = false →
      s.soc.dev.dupLatentDiff .clu (pgCLU c) = false →
      (∀ w ∈ dupWords .clu, (pgCLU c + w.2, s.soc.dev.time) ∉ s.soc.dev.latWas) → (to_ = 1 → 3 ≤ s.soc.dev.liveCount c) →
      (s.soc.dev.almState = 0 →
        ∃ u : Soc, exec (.modeReq c to_ when stage) s = .next { s with soc := u.map (fun d => s.soc.dev.follow d) } ∧
        u.dev.get (pgCLU c) CLU.MODE_STAT_STATE = 4 ∧ u.dev.get (pgCLU c) CLU.ST_MODE_ACT = to_.toNat ∧ u.mem = s.soc.mem) ∧
      (s.soc.dev.almState ≠ 0 →
        ∃ u : Soc, exec (.modeReq c to_ when stage) s = .next { s with soc := u.map (fun d => s.soc.dev.follow d) } ∧
        u.dev.get (pgCLU c) CLU.MODE_STAT_STATE = 1 ∧ u.dev.get (pgCLU c) CLU.MODE_STAT_TARGET = to_.toNat ∧
        (u.dev.clu[c]).bound = false ∧ (u.dev.clu[c]).modeWhen = when.toNat ∧ (u.dev.clu[c]).modeStage = stage.toNat ∧ u.mem = s.soc.mem))) ∧
  (∀ (dt : Nat) (c : Fin 4) (s : State) (b : Soc), b = s.soc.after dt →
    (b.dev.get (pgCLU c) CLU.MODE_STAT_STATE = 1 →
      (b.dev.adm = none → ∃ u : Soc, exec (.modeCheckDone dt c) s = .next { s with soc := u.map (fun d => b.dev.follow d) } ∧
        u.dev.get (pgCLU c) CLU.MODE_STAT_STATE = 2 ∧ u.mem = s.soc.mem) ∧
      (∀ a p, b.dev.adm = some a → b.dev.modePlan a c (b.dev.get (pgCLU c) CLU.MODE_STAT_TARGET) = .ok p →
        ∃ u : Soc, exec (.modeCheckDone dt c) s = .next { s with soc := u.map (fun d => b.dev.follow d) } ∧
        u.dev.get (pgCLU c) CLU.MODE_STAT_STATE = 2 ∧ u.mem = s.soc.mem) ∧
      (∀ a r, b.dev.adm = some a → b.dev.modePlan a c (b.dev.get (pgCLU c) CLU.MODE_STAT_TARGET) = .error r →
        ∃ u : Soc, exec (.modeCheckDone dt c) s = .next { s with soc := u.map (fun d => b.dev.follow d) } ∧
        u.dev.get (pgCLU c) CLU.MODE_STAT_STATE = 5 ∧
        u.dev.get (pgCLU c) CLU.MODE_STAT_CODE = Err.RX_MODE_PLACE ∧ u.mem = s.soc.mem)) ∧
    (b.dev.get (pgCLU c) CLU.MODE_STAT_STATE = 2 →
      (((b.dev.clu[c]).modeWhen = 0 ∨ (b.dev.clu[c]).modeWhen = 1 ∧ (b.dev.sh (b.dev.clu[c]).modeStage).zeroT = b.dev.time + 1) →
        ∃ u : Soc, exec (.modeBoundary dt c) s = .next { s with soc := u.map (fun d => b.dev.follow d) } ∧
        (u.dev.clu[c]).bound = true ∧ u.mem = s.soc.mem) ∧
      ((b.dev.clu[c]).bound = true → b.dev.clusterIdle c = true → b.dev.sliceOn c = none →
        ∃ u : Soc, exec (.modeHandover dt c) s = .next { s with soc := u.map (fun d => b.dev.follow d) } ∧
        u.dev.get (pgCLU c) CLU.MODE_STAT_STATE = 3 ∧ (u.dev.clu[c]).bound = false ∧
        u.dev.get (pgCLU c) CLU.ST_MODE_ACT = b.dev.get (pgCLU c) CLU.MODE_STAT_TARGET ∧ (b.dev.adm = none → u.mem = s.soc.mem))) ∧
    (b.dev.get (pgCLU c) CLU.MODE_STAT_STATE = 3 →
      ∃ u : Soc, exec (.modeHandover dt c) s = .next { s with soc := u.map (fun d => b.dev.follow d) } ∧
        u.dev.get (pgCLU c) CLU.MODE_STAT_STATE = 4 ∧ u.dev.flag (pgCLU c) CLU.IRQ_HANDOVER = true ∧ u.mem = s.soc.mem))

/-- A step of a halted stream runs its next instruction as if it were not halted, and the stream stays halted: for a NOP the copies retire with unchanged registers. A write that every copy takes reaches every copy and no other datapath. A debugger that attaches in state ANALYSIS locks Gnomon out with cause 11; detaching ends that condition. -/
def Obligations.DebuggerStepsAndWrites : Prop :=
  ∀ (dt : Nat) (s : State) (b : Soc), b = s.soc.after dt →
    (∀ (c : Fin 4) (st : Fin 3), (b.dev.clu[c]).halt[st] = true → b.dev.debugAllowed = true →
      (∀ (v : Vote) (g : Soc) (i : Iss),
        g = b.map (fun d => (d.modClu c (fun h => { h with halt := h.halt.set st false })).put (pgCLU c) COM.ST_FROZEN 0) → g.issues c st v i 0 →
        ∃ u : Soc, exec (.debugStep dt c st v) s = .next { s with soc := u.map (fun d => b.dev.follow d) } ∧
        (u.dev.clu[c]).halt[st] = true ∧ g.retired u c st i i.dp (i.dp.pc + 1) 0 ∧ u.mem = s.soc.mem) ∧
      (∀ r : DbgReg,
        ∃ u : Soc, exec (.debugWrite dt c st r .agree) s = .next { s with soc := u.map (fun d => b.dev.follow d) } ∧
        (∀ j : Fin 3, (u.dev.clu[c]).dp[j]
          = (if j.val ∈ b.dev.copies c st then ((b.dev.clu[c]).dp[j]).debugPut r else (b.dev.clu[c]).dp[j])) ∧ u.mem = s.soc.mem)) ∧
    (b.dev.analysis = true → b.dev.gnm.running = true →
      ∃ u : Soc, exec (.debugAttach dt) s = .next { s with soc := u.map (fun d => b.dev.follow d) } ∧
        u.dev.gnm.dbg = true ∧ u.dev.lockedWith 11 ∧ u.mem = s.soc.mem) ∧
    ∃ u : Soc, exec (.debugDetach dt) s = .next { s with soc := u.map (fun d => b.dev.follow d) } ∧
        u.dev.gnm.dbg = false ∧ u.dev.lockedOut = b.dev.lockedOut ∧ u.dev.regs = b.dev.regs ∧ u.mem = s.soc.mem

/-- A channel whose level has passed its filter and demands sets STO and takes every output enable off at once; a shorter level changes nothing. With no channel and no safe command demanding, STO ends; a sub-tick then raises GDEN_A and GDEN_B and starts the settling time, after which the output enables return. Under STO or lock-out a sub-tick withdraws GDEN. A safety tick counts the disagreement of the channels, records an episode that has ended and samples SRST_REQ; a count above DISC_T locks out with cause 1. -/
def Obligations.SafeTorqueOffActs : Prop :=
  ∀ (dt : Nat) (s : State) (b : Soc), b = s.soc.after dt → b.dev.gnm.running = true →
    (∀ (chB demand : Bool) (held : Nat), held + 1 < 32 * b.dev.gnCfg 8 2 →
      ∃ u : Soc, exec (.stoChannelChange dt chB demand held) s = .next { s with soc := u.map (fun d => b.dev.follow d) } ∧
        u.dev = b.dev ∧ u.mem = s.soc.mem) ∧
    (∀ (chB : Bool) (held : Nat), 32 * b.dev.gnCfg 8 2 ≤ held + 1 →
      ∃ u : Soc, exec (.stoChannelChange dt chB true held) s = .next { s with soc := u.map (fun d => b.dev.follow d) } ∧
        u.dev.flag pgGNM (if chB then GNM.ST_CH_B else GNM.ST_CH_A) = true ∧ u.dev.flag pgGNM GNM.ST_STO = true ∧
        u.dev.legDis = allLegs ∧ u.dev.gnm.settle = none ∧ u.mem = s.soc.mem) ∧
    (∀ (chB : Bool) (held : Nat), 32 * b.dev.gnCfg 8 2 ≤ held + 1 → b.dev.flag pgGNM (if chB then GNM.ST_CH_A else GNM.ST_CH_B) = false →
      b.dev.flag pgGNM GNM.ST_SN_DEMAND = false →
      ∃ u : Soc, exec (.stoChannelChange dt chB false held) s = .next { s with soc := u.map (fun d => b.dev.follow d) } ∧
        u.dev.flag pgGNM (if chB then GNM.ST_CH_B else GNM.ST_CH_A) = false ∧ u.dev.flag pgGNM GNM.ST_STO = false ∧
        u.dev.legDis = b.dev.legDis ∧ u.mem = s.soc.mem) ∧
    ((b.dev.flag pgGNM GNM.ST_STO = true ∨ b.dev.lockedOut = true) → b.dev.gnm.req = none →
      ∃ u : Soc, exec (.subTick dt) s = .next { s with soc := u.map (fun d => b.dev.follow d) } ∧
        u.dev.gnm.gdenCmd = false ∧
        (b.dev.gnm.gdenCmd = true → u.dev.flag pgGNM GNM.ST_GDEN_A = false ∧ u.dev.flag pgGNM GNM.ST_GDEN_B = false) ∧ u.mem = s.soc.mem) ∧
    (b.dev.flag pgGNM GNM.ST_STO = false → b.dev.lockedOut = false → b.dev.gnm.gdenCmd = false → b.dev.gnm.req = none →
      ∃ u : Soc, exec (.subTick dt) s = .next { s with soc := u.map (fun d => b.dev.follow d) } ∧
        u.dev.gnm.gdenCmd = true ∧ u.dev.flag pgGNM GNM.ST_GDEN_A = true ∧ u.dev.flag pgGNM GNM.ST_GDEN_B = true ∧
        u.dev.gnm.settle = some (b.dev.wall + wallMs (b.dev.gnCfg 12 1)) ∧ u.mem = s.soc.mem) ∧
    (∀ t, b.dev.gnm.settle = some t → t ≤ b.dev.wall → b.dev.flag pgGNM GNM.ST_STO = false → b.dev.lockedOut = false →
      ∃ u : Soc, exec (.outputEnableRestore dt) s = .next { s with soc := u.map (fun d => b.dev.follow d) } ∧
        u.dev.legDis = 0 ∧ u.dev.gnm.settle = none ∧ u.dev.flag pgGNM GNM.IRQ_STO_REL = true ∧ u.mem = s.soc.mem) ∧
    (∀ srst : Bool,
      ∃ u : Soc, exec (.safetyTick dt srst) s = .next { s with soc := u.map (fun d => b.dev.follow d) } ∧
        (b.dev.flag pgGNM GNM.ST_CH_A ≠ b.dev.flag pgGNM GNM.ST_CH_B → u.dev.gnm.disc = b.dev.gnm.disc + 1) ∧
        (b.dev.flag pgGNM GNM.ST_CH_A = b.dev.flag pgGNM GNM.ST_CH_B → b.dev.gnm.disc ≠ 0 →
          b.dev.gnm.chT ≠ b.dev.time + 1 →
          u.dev.gnm.disc = 0 ∧ u.dev.get pgGNM GNM.DISC_LEN = min b.dev.gnm.disc 0xFFFF ∧
          u.dev.get pgGNM GNM.DISC_RESULT = (if b.dev.gnm.discFault then 2 else 1)) ∧
        (srst = true → u.dev.gnm.high = b.dev.gnm.high + 1) ∧
        (srst = false → b.dev.gnm.high ≠ 0 →
          u.dev.gnm.high = 0 ∧ u.dev.gnm.edge = some (b.dev.gnm.high, b.dev.gnm.highAt)) ∧ u.mem = s.soc.mem) ∧
    (b.dev.gnm.active.isSome = true → b.dev.gnm.discFault = false → b.dev.gnCfg 10 2 * 10 < b.dev.gnm.disc →
      ∃ u : Soc, exec (.discFault dt) s = .next { s with soc := u.map (fun d => b.dev.follow d) } ∧
        u.dev.lockedWith 1 ∧ u.dev.gnm.discFault = true ∧ u.mem = s.soc.mem)

/-- Each cause latches the lock-out with its own bit of CAUSE and takes every output enable off: a core fault 5, a supply outside its window 7, a GDEN readback 8, a bad configuration CRC 9, a lost heartbeat in RUN 10, a LOCK request at the next sub-tick 12. The end of a readback fault, the return of the supply and of the heartbeats are noted and clear nothing. A pulse of 500 to 20,000 ticks that began after the lock-out, with STO not active and every latched cause gone, clears LOCKOUT and CAUSE and sets FIRST to 0xFF and RESULT to 1; a pulse of another length is refused with RESULT 4 and clears nothing. A reset of Gnomon returns its registers, puts every FLOOR to 800 and takes every output enable off. -/
def Obligations.LockOutsAndGnomonReset : Prop :=
  ((∀ (dt : Nat) (s : State) (b : Soc), b = s.soc.after dt → b.dev.gnm.running = true →
    (∃ u : Soc, exec (.coreFault dt) s = .next { s with soc := u.map (fun d => b.dev.follow d) } ∧
        u.dev.lockedWith 5 ∧ u.mem = s.soc.mem) ∧
    (∃ u : Soc, exec (.vddGnWindow dt false) s = .next { s with soc := u.map (fun d => b.dev.follow d) } ∧
        u.dev.lockedWith 7 ∧ u.dev.gnm.supplyOk = none ∧ u.mem = s.soc.mem) ∧
    (∃ u : Soc, exec (.vddGnWindow dt true) s = .next { s with soc := u.map (fun d => b.dev.follow d) } ∧
        u.dev.gnm.supplyOk = some (b.dev.gnm.supplyOk.getD b.dev.wall) ∧ u.dev.regs = b.dev.regs ∧ u.mem = s.soc.mem) ∧
    (∀ (p q : Bool) (held : Nat), (p ≠ b.dev.gnm.gdenCmd ∨ q ≠ b.dev.gnm.gdenCmd) → 3200 < held →
      ∃ u : Soc, exec (.gdenReadbackFault dt p q held) s = .next { s with soc := u.map (fun d => b.dev.follow d) } ∧
        u.dev.lockedWith 8 ∧ u.dev.gnm.gdenBad = true ∧ u.mem = s.soc.mem) ∧
    (∀ held : Nat,
      ∃ u : Soc, exec (.gdenReadbackFault dt b.dev.gnm.gdenCmd b.dev.gnm.gdenCmd held) s = .next { s with soc := u.map (fun d => b.dev.follow d) } ∧
        u.dev.gnm.gdenBad = false ∧ u.dev.lockedOut = b.dev.lockedOut ∧
        u.dev.flag pgGNM GNM.ST_GDEN_A = b.dev.gnm.gdenCmd ∧ u.dev.flag pgGNM GNM.ST_GDEN_B = b.dev.gnm.gdenCmd ∧ u.mem = s.soc.mem) ∧
    (b.dev.gnm.active.isSome = true → ∃ u : Soc, exec (.cfgCrcRecheck dt true) s = .next { s with soc := u.map (fun d => b.dev.follow d) } ∧
        u.dev.lockedWith 9 ∧ u.mem = s.soc.mem) ∧
    (b.dev.pwrMode = 0 → b.dev.justWoken = false → ∃ u : Soc, exec (.heartbeatLoss dt true) s = .next { s with soc := u.map (fun d => b.dev.follow d) } ∧
        u.dev.lockedWith 10 ∧ u.dev.gnm.beatOk = none ∧ u.mem = s.soc.mem) ∧
    (∃ u : Soc, exec (.heartbeatLoss dt false) s = .next { s with soc := u.map (fun d => b.dev.follow d) } ∧
        u.dev.gnm.beatOk = some (b.dev.gnm.beatOk.getD b.dev.wall) ∧ u.dev.regs = b.dev.regs ∧ u.mem = s.soc.mem) ∧
    (∀ x a : Nat, b.dev.gnm.req = some (3, x, a) →
      ∃ u : Soc, exec (.subTick dt) s = .next { s with soc := u.map (fun d => b.dev.follow d) } ∧
        u.dev.lockedWith 12 ∧ u.dev.sreqEnded 3 0 ∧ u.dev.gnm.req = none ∧ u.mem = s.soc.mem)) ∧
  (∀ s : State, s.soc.answers (pgSNET + 0x40) = true → s.soc.dev.flag pgSNET SNET.SREQ_STAT_BUSY = false →
    ∃ u : Soc, exec .lock s = .next { s with soc := u.map (fun d => s.soc.dev.follow d) } ∧
        u.dev.flag pgSNET SNET.SREQ_STAT_BUSY = true ∧
        u.dev.gnm.req = some (3, 0, s.soc.dev.get pgSNET SNET.SREQ_ARG) ∧ u.mem = s.soc.mem)) ∧
  (∀ (dt : Nat) (s : State) (b : Soc), b = s.soc.after dt →
    (∀ n t : Nat, b.dev.gnm.running = true → b.dev.gnm.edge = some (n, t) →
      (500 ≤ n → n ≤ 20000 → b.dev.lockedOut = true → b.dev.gnm.lockAt < t → b.dev.flag pgGNM GNM.ST_STO = false →
        (∀ c < 13, bitOf (b.dev.get pgGNM GNM.LOCK_CAUSE_CAUSE) c = true → b.dev.causeGone c = true) →
        ∃ u : Soc, exec (.resetEdge dt) s = .next { s with soc := u.map (fun d => b.dev.follow d) } ∧
        u.dev.lockedOut = false ∧ u.dev.get pgGNM GNM.LOCK_CAUSE_CAUSE = 0 ∧ u.dev.get pgGNM GNM.LOCK_CAUSE_FIRST = 0xFF ∧
        u.dev.get pgGNM GNM.RESET_STAT_RESULT = 1 ∧ u.dev.get pgGNM GNM.RESET_STAT_COUNT = n ∧ u.dev.gnm.edge = none ∧ u.mem = s.soc.mem) ∧
      ((n < 500 ∨ 20000 < n) →
        ∃ u : Soc, exec (.resetEdge dt) s = .next { s with soc := u.map (fun d => b.dev.follow d) } ∧
        u.dev.get pgGNM GNM.RESET_STAT_RESULT = 4 ∧ u.dev.lockedOut = b.dev.lockedOut ∧
        u.dev.get pgGNM GNM.LOCK_CAUSE_CAUSE = b.dev.get pgGNM GNM.LOCK_CAUSE_CAUSE ∧ u.dev.gnm.edge = none ∧ u.mem = s.soc.mem)) ∧
    ∀ (running : Bool) (inFlight : Half),
      ∃ u : Soc, exec (.gnomonReset dt running inFlight) s = .next { s with soc := u.map (fun d => b.dev.follow d) } ∧
        u.dev.gnm.running = running ∧ u.dev.gnm.active = none ∧ u.dev.legDis = allLegs ∧
        (∀ k < 16, u.dev.getAt pgTRIP TRIP.FLOOR k = 800) ∧
        (running = true → ∀ a, pgGNM ≤ a ∧ a < pgGNM + 0x1000 → u.dev.reg a = resetWord a) ∧ u.mem = s.soc.mem)

/-- CFG_LOAD and CFG_CONFIRM are requests in progress until the next sub-tick. Under lock-out a well-formed block in SRAM is then loaded: STATE 1 and its CRC in CFG_CRC; without lock-out CFG_LOAD ends with GN_CFG_LIVE. A confirmation with that CRC within 10 s makes it the active configuration, with its FLOOR values; with another CRC the loaded block is dropped. A block that is not confirmed in 10 s is dropped. -/
def Obligations.SafetyConfigurationChanges : Prop :=
  (∀ s : State, s.soc.answers (pgSNET + 0x40) = true → s.soc.dev.flag pgSNET SNET.SREQ_STAT_BUSY = false →
    (∃ u : Soc, exec .cfgLoad s = .next { s with soc := u.map (fun d => s.soc.dev.follow d) } ∧
        u.dev.flag pgSNET SNET.SREQ_STAT_BUSY = true ∧
        u.dev.gnm.req = some (1, 0, s.soc.dev.get pgSNET SNET.SREQ_ARG) ∧ u.mem = s.soc.mem) ∧
    ∃ u : Soc, exec .cfgConfirm s = .next { s with soc := u.map (fun d => s.soc.dev.follow d) } ∧
        u.dev.flag pgSNET SNET.SREQ_STAT_BUSY = true ∧
        u.dev.gnm.req = some (2, 0, s.soc.dev.get pgSNET SNET.SREQ_ARG) ∧ u.mem = s.soc.mem) ∧
  (∀ (dt : Nat) (s : State) (b : Soc), b = s.soc.after dt →
    (b.dev.gnm.running = true → ∀ x a : Nat,
      (b.dev.gnm.req = some (1, x, a) →
        (∀ blk : List Byte, blk = memGetList b.mem a 140 → b.dev.lockedOut = true → b.dev.gnm.loaded = none →
          0x10000000 ≤ a → a + 140 ≤ 0x10800000 → gnBlockOk blk = true → b.dev.deployed = false →
          ∃ u : Soc, exec (.subTick dt) s = .next { s with soc := u.map (fun d => b.dev.follow d) } ∧
        u.dev.gnm.loaded = some blk ∧ u.dev.gnm.active = b.dev.gnm.active ∧ u.dev.get pgGNM GNM.CFG_STAT_STATE = 1 ∧
        u.dev.get pgGNM GNM.CFG_CRC = crc32c blk % 2 ^ 32 ∧ u.dev.sreqEnded 1 0 ∧ u.mem = s.soc.mem) ∧
        (b.dev.lockedOut = false → b.dev.resetNow = false →
          ∃ u : Soc, exec (.subTick dt) s = .next { s with soc := u.map (fun d => b.dev.follow d) } ∧
        u.dev.gnm.loaded = b.dev.gnm.loaded ∧ u.dev.sreqEnded 1 Err.GN_CFG_LIVE ∧ u.mem = s.soc.mem)) ∧
      (b.dev.gnm.req = some (2, x, a) →
        ∀ blk : List Byte, b.dev.gnm.loaded = some blk → b.dev.wall < b.dev.gnm.loadT + wallMs 10000 →
        (a = b.dev.get pgGNM GNM.CFG_CRC →
          ∃ u : Soc, exec (.subTick dt) s = .next { s with soc := u.map (fun d => b.dev.follow d) } ∧
        u.dev.gnm.active = some blk ∧ u.dev.gnm.loaded = none ∧ u.dev.get pgGNM GNM.CFG_STAT_STATE = 2 ∧
        u.dev.flag pgGNM GNM.ST_CONFIG_ACTIVE = true ∧
        (∀ k < 16, u.dev.getAt pgTRIP TRIP.FLOOR k = listNat blk (44 + 2 * k) 2 % 2 ^ TRIP.FLOOR.width) ∧
        u.dev.sreqEnded 2 0 ∧ u.mem = s.soc.mem) ∧
        (a ≠ b.dev.get pgGNM GNM.CFG_CRC →
          ∃ u : Soc, exec (.subTick dt) s = .next { s with soc := u.map (fun d => b.dev.follow d) } ∧
        u.dev.gnm.active = b.dev.gnm.active ∧ u.dev.gnm.loaded = none ∧ u.dev.sreqEnded 2 Err.GN_CFG_CONFIRM ∧ u.mem = s.soc.mem))) ∧
    (b.dev.gnm.loaded.isSome = true → b.dev.gnm.loadT + wallMs 10000 ≤ b.dev.wall →
      ∃ u : Soc, exec (.cfgTimeout dt) s = .next { s with soc := u.map (fun d => b.dev.follow d) } ∧
        u.dev.gnm.loaded = none ∧ u.dev.gnm.active = b.dev.gnm.active ∧
        u.dev.get pgGNM GNM.CFG_STAT_CODE = Err.GN_CFG_TIMEOUT ∧ u.mem = s.soc.mem))

/-- The oldest event of kind 1 to 4 is taken and recorded, and its reaction of the configuration follows: a request of its stages, or lock-out 4. A sample outside counts RUN, one inside clears RUN and REACTED. A full RUN reacts once: lock-out 3, or a request of its stage. CLR_SSAT, CLR_GTRIP and a reserved request are in progress until the next sub-tick, which clears S_SAT of a class S context, or flag 172 where no request is active; a reserved one ends with GN_REQ. -/
def Obligations.EventsAndTorqueAreHandled : Prop :=
  (∀ (dt : Nat) (s : State) (b : Soc), b = s.soc.after dt → b.dev.gnm.running = true →
    (∀ (e : GnEvent) (rest : List GnEvent) (r : Nat), b.dev.gnq = e :: rest → 1 ≤ e.kind → e.kind ≤ 4 →
      r = b.dev.gnCfg 13 1 / 4 ^ (e.kind - 1) % 4 →
      ∃ u : Soc, exec (.applicationEvent dt) s = .next { s with soc := u.map (fun d => b.dev.follow d) } ∧
        u.dev.get pgGNM GNM.EVT_LAST
          = (e.kind * 2 ^ 28 + r * 2 ^ 26 + e.ctx * 2 ^ 20 + e.cluster * 2 ^ 16 + e.type * 2 ^ 8 + e.inst) % 2 ^ 32 ∧
        u.dev.get pgGNM GNM.EVT_CNT = min 0xFFFFFFFF (b.dev.get pgGNM GNM.EVT_CNT + 1) ∧ u.dev.gnq = rest ∧
        (r = 1 ∨ r = 2 → ⟨some e, 0, e.stages⟩ ∈ u.dev.gnm.reqs) ∧ (r = 3 → u.dev.lockedWith 4 ∧ e ∈ u.dev.gnm.evLock) ∧ u.mem = s.soc.mem) ∧
    (∀ n : Fin 8, b.dev.gnCfg (78 + 8 * n) 1 ≠ 0 →
      ∃ u : Soc, exec (.torqueSample dt n) s = .next { s with soc := u.map (fun d => b.dev.follow d) } ∧
        u.dev.flagAt pgGNM GNM.TQ_STAT_OUTSIDE n = b.dev.tqOutside n ∧
        (b.dev.tqOutside n = true →
          u.dev.getAt pgGNM GNM.TQ_STAT_RUN n = min 0xFFFF (b.dev.getAt pgGNM GNM.TQ_STAT_RUN n + 1)) ∧
        (b.dev.tqOutside n = false →
          u.dev.getAt pgGNM GNM.TQ_STAT_RUN n = 0 ∧ u.dev.flagAt pgGNM GNM.TQ_STAT_REACTED n = false) ∧
        u.mem = s.soc.mem) ∧
    (∀ (n : Fin 8) (react : Nat), react = b.dev.gnCfg (78 + 8 * n) 1 → react ≠ 0 →
      b.dev.flagAt pgGNM GNM.TQ_STAT_REACTED n = false →
      10 * b.dev.gnCfg (82 + 8 * n) 2 ≤ b.dev.getAt pgGNM GNM.TQ_STAT_RUN n →
      ∃ u : Soc, exec (.torqueReact dt n) s = .next { s with soc := u.map (fun d => b.dev.follow d) } ∧
        u.dev.flagAt pgGNM GNM.TQ_STAT_REACTED n = true ∧ (react = 1 → u.dev.lockedWith 3) ∧
        (react ≠ 1 → ⟨none, n, 2 ^ (b.dev.gnCfg (77 + 8 * n) 1 % 16)⟩ ∈ u.dev.gnm.reqs) ∧ u.mem = s.soc.mem)) ∧
  (∀ s : State, s.soc.answers (pgSNET + 0x40) = true → s.soc.dev.flag pgSNET SNET.SREQ_STAT_BUSY = false →
    (∀ x : BitVec 6,
      ∃ u : Soc, exec (.clrSsat x) s = .next { s with soc := u.map (fun d => s.soc.dev.follow d) } ∧
        u.dev.flag pgSNET SNET.SREQ_STAT_BUSY = true ∧
        u.dev.gnm.req = some (4, x.toNat, s.soc.dev.get pgSNET SNET.SREQ_ARG) ∧ u.mem = s.soc.mem) ∧
    (∃ u : Soc, exec .clrGtrip s = .next { s with soc := u.map (fun d => s.soc.dev.follow d) } ∧
        u.dev.flag pgSNET SNET.SREQ_STAT_BUSY = true ∧
        u.dev.gnm.req = some (5, 0, s.soc.dev.get pgSNET SNET.SREQ_ARG) ∧ u.mem = s.soc.mem) ∧
    ∀ cmd : BitVec 4, 6 ≤ cmd.toNat →
      ∃ u : Soc, exec (.sreqReserved cmd) s = .next { s with soc := u.map (fun d => s.soc.dev.follow d) } ∧
        u.dev.flag pgSNET SNET.SREQ_STAT_BUSY = true ∧
        u.dev.gnm.req = some (cmd.toNat, 0, s.soc.dev.get pgSNET SNET.SREQ_ARG) ∧ u.mem = s.soc.mem) ∧
  (∀ (dt : Nat) (s : State) (b : Soc) (x a : Nat), b = s.soc.after dt → b.dev.gnm.running = true →
    (b.dev.gnm.req = some (4, x, a) → x < 64 →
      (b.dev.classS x = true → mapGet (fun _ => 0) b.dev.ctx.satT x ≠ b.dev.time + 1 →
        ∃ u : Soc, exec (.subTick dt) s = .next { s with soc := u.map (fun d => b.dev.follow d) } ∧
        u.dev.flagAt pgCTX CTX.STICKY_S_SAT x = false ∧ u.dev.getAt pgCTX CTX.STICKY_SAT_CNT x = 0 ∧
        u.dev.sreqEnded 4 0 ∧ u.mem = s.soc.mem) ∧
      (b.dev.classS x = false →
        ∃ u : Soc, exec (.subTick dt) s = .next { s with soc := u.map (fun d => b.dev.follow d) } ∧
        u.dev.sreqEnded 4 Err.GN_REQ ∧ u.mem = s.soc.mem)) ∧
    (b.dev.gnm.req = some (5, x, a) →
      (b.dev.getAt pgTRIP TRIP.TARGET_IMASK 172 = 0 →
        ∃ u : Soc, exec (.subTick dt) s = .next { s with soc := u.map (fun d => b.dev.follow d) } ∧
        bitOf (u.dev.getAt pgTRIP TRIP.FLAG 5) 12 = false ∧ u.dev.sreqEnded 5 0 ∧ u.mem = s.soc.mem) ∧
      (b.dev.getAt pgTRIP TRIP.TARGET_IMASK 172 ≠ 0 →
        ∃ u : Soc, exec (.subTick dt) s = .next { s with soc := u.map (fun d => b.dev.follow d) } ∧
        u.dev.getAt pgTRIP TRIP.FLAG 5 = b.dev.getAt pgTRIP TRIP.FLAG 5 ∧
        u.dev.sreqEnded 5 Err.GN_REQ_ACTIVE ∧ u.mem = s.soc.mem)) ∧
    (∀ cmd, b.dev.gnm.req = some (cmd, x, a) → 6 ≤ cmd → cmd < 16 →
      ∃ u : Soc, exec (.subTick dt) s = .next { s with soc := u.map (fun d => b.dev.follow d) } ∧
        u.dev.sreqEnded cmd Err.GN_REQ ∧ u.mem = s.soc.mem))

/-- A copy with a bad CRC is counted and dropped; a good one waits in its queue; a fifth faults with KIND 2. Equal oldest copies are accepted: data, SEQ and the STO demand follow; unequal ones fault with KIND 1, a copy left alone past W_P with KIND 2, a silent channel past WD with KIND 4, each with lock-out 2. A due status PDU has the next SEQ and ends in the CRC of its 32 bytes. CNT_CLR clears the counters. -/
def Obligations.SafeChannelPairsCopies : Prop :=
  (∀ (dt : Nat) (s : State) (b : Soc), b = s.soc.after dt → b.dev.snOn = true →
    (∀ bytes : List Byte, listNat bytes 32 4 ≠ crc32c (bytes.take 32) →
      ∃ u : Soc, exec (.safeCopyReceived dt false bytes) s = .next { s with soc := u.map (fun d => b.dev.follow d) } ∧
        u.dev.get pgSNET SNET.CNT_A_CRC_CNT = min 0xFFFF (b.dev.get pgSNET SNET.CNT_A_CRC_CNT + 1) ∧ u.dev.gnm.qA = b.dev.gnm.qA ∧ u.mem = s.soc.mem) ∧
    (∀ (pathB : Bool) (bytes : List Byte), bytes.length = 36 → listNat bytes 32 4 = crc32c (bytes.take 32) →
      listNat bytes 2 1 = 1 → listNat bytes 0 2 = b.dev.get pgSNET SNET.SN_ID_CONN_RX → listNat bytes 3 1 = 0 →
      listNat bytes 16 1 < 4 → b.dev.gnm.hasLast = false →
      ((if pathB then b.dev.gnm.qB else b.dev.gnm.qA).length < 4 →
        ∃ u : Soc, exec (.safeCopyReceived dt pathB bytes) s = .next { s with soc := u.map (fun d => b.dev.follow d) } ∧
        (if pathB then u.dev.gnm.qB else u.dev.gnm.qA)
          = (if pathB then b.dev.gnm.qB else b.dev.gnm.qA) ++ [⟨bytes, b.dev.wall⟩] ∧ u.mem = s.soc.mem) ∧
      (4 ≤ (if pathB then b.dev.gnm.qB else b.dev.gnm.qA).length →
        ∃ u : Soc, exec (.safeCopyReceived dt pathB bytes) s = .next { s with soc := u.map (fun d => b.dev.follow d) } ∧
        u.dev.snFaulted 2 (b2n pathB) ∧ u.mem = s.soc.mem)) ∧
    (∀ x y : SafeCopy, b.dev.gnm.qA = [x] → b.dev.gnm.qB = [y] →
      (x.bytes = y.bytes → b.dev.flag pgSNET SNET.ST_BASE_WAIT = true →
        ∃ u : Soc, exec (.pairingEvaluation dt) s = .next { s with soc := u.map (fun d => b.dev.follow d) } ∧
        u.dev.get pgSNET SNET.LAST_SEQ = x.seq % 2 ^ 32 ∧
        (∀ j < 4, u.dev.getAt pgSNET SNET.RX_DATA j = listNat x.bytes (16 + 4 * j) 4 % 2 ^ 32) ∧
        u.dev.flag pgSNET SNET.ST_BASE_WAIT = false ∧
        u.dev.flag pgSNET SNET.ST_SN_DEMAND = bitOf (listNat x.bytes 16 1) 0 ∧
        (bitOf (listNat x.bytes 16 1) 0 = true → u.dev.flag pgGNM GNM.ST_STO = true ∧ u.dev.legDis = allLegs) ∧
        u.dev.gnm.pairs = b.dev.gnm.pairs + 1 ∧ u.dev.gnm.qA = [] ∧ u.dev.gnm.qB = [] ∧ u.mem = s.soc.mem) ∧
      (x.bytes ≠ y.bytes → x.t ≤ y.t → ∃ u : Soc, exec (.pairingEvaluation dt) s = .next { s with soc := u.map (fun d => b.dev.follow d) } ∧
        u.dev.snFaulted 1 0 ∧ u.mem = s.soc.mem)) ∧
    (∀ x : SafeCopy, b.dev.gnm.qA = [x] → b.dev.gnm.qB = [] →
      x.t + wallUs (b.dev.get pgSNET SNET.W_P) < b.dev.wall →
      ∃ u : Soc, exec (.snMissing dt) s = .next { s with soc := u.map (fun d => b.dev.follow d) } ∧
        u.dev.snFaulted 2 0 ∧ u.mem = s.soc.mem) ∧
    (b.dev.gnm.wd + wallUs (b.dev.get pgSNET SNET.WD) ≤ b.dev.wall →
      ∃ u : Soc, exec (.snWatchdog dt) s = .next { s with soc := u.map (fun d => b.dev.follow d) } ∧
        u.dev.snFaulted 4 0 ∧ u.mem = s.soc.mem) ∧
    (b.dev.gnm.txT + wallUs (b.dev.gnCfg 28 4) ≤ b.dev.wall →
      ∃ (u : Soc) (body : List Byte), exec (.statusPduTx dt) s = .next { s with soc := u } ∧
        u.dev.gnm.pdu = body ++ natBytes 4 (crc32c body) ∧ body.length = 32 ∧ listNat body 4 4 = u.dev.gnm.txSeq ∧
        listNat body 16 1 = b.dev.snFlags ∧ u.dev.gnm.txSeq = (b.dev.gnm.txSeq + 1) % 2 ^ 32 ∧
        u.dev.gnm.txT = b.dev.wall ∧ u.mem = s.soc.mem)) ∧
  (∀ s : State, s.soc.answers (pgSNET + 0x9C) = true →
    ∃ u : Soc, exec .snetCntClr s = .next { s with soc := u } ∧ u.dev.get pgSNET SNET.CNT_A = 0 ∧
      u.dev.get pgSNET SNET.CNT_B = 0 ∧ u.dev.get pgSNET SNET.CNT_PAIR = 0 ∧
      (∀ a, a ≠ pgSNET + 0x90 → a ≠ pgSNET + 0x94 → a ≠ pgSNET + 0x98 → u.dev.reg a = s.soc.dev.reg a) ∧
      u.mem = s.soc.mem)

/-- A window writes its count, its run of failing windows and FAIL; a new failure of M2 locks Gnomon out with cause 6. REF_READY comes after the delay and 16 good windows of M0. Holdover starts once, and 1 ms of it, or an unlocked PLL0, holds the clocks. A hold ends with every lock set, on the fallback exactly where REF is not ready, at a TCLK that is a multiple of 16. RETURN leaves the fallback only with REF ready and no switch in its cycle. -/
def Obligations.ClocksAreMonitoredAndHeld : Prop :=
  (∀ (dt : Nat) (s : State) (b : Soc), b = s.soc.after dt →
    (∀ (m : Fin 3) (count : BitVec 24) (late : Bool) (pass : Bool) (run : Nat), ¬ (m = 0 ∧ b.dev.pwrMode = 2 ∧ b.dev.clk.xoOn = false) →
      pass = (!late && decide ((monBand m).1 ≤ count.toNat ∧ count.toNat ≤ (monBand m).2.1)) →
      run = (if pass then 0 else min 127 (b.dev.getAt pgCLK CLK.MON_RUN m + 1)) →
      ∃ u : Soc, exec (.monitorWindow dt m count late) s = .next { s with soc := u.map (fun d => b.dev.follow d) } ∧
        u.dev.getAt pgCLK CLK.MON_COUNT m = count.toNat ∧ u.dev.getAt pgCLK CLK.MON_RUN m = run ∧
        u.dev.flagAt pgCLK CLK.MON_FAIL m = decide ((monBand m).2.2 ≤ run) ∧
        (m = 2 → 3 ≤ run → b.dev.flagAt pgCLK CLK.MON_FAIL m = false → b.dev.gnm.running = true → u.dev.lockedWith 6) ∧ u.mem = s.soc.mem) ∧
    (b.dev.clk.xoOn = true → b.dev.flag pgCLK CLK.ST_REF_READY = false → b.dev.flag pgCLK CLK.ST_IRC_FAIL = false →
      16 ≤ b.dev.clk.pass.getD 0 0 → b.dev.clk.xoStart + 40000 * b.dev.get pgCLK CLK.REF_CFG_XO_DELAY ≤ b.dev.wall →
      ∃ u : Soc, exec (.refReady dt) s = .next { s with soc := u.map (fun d => b.dev.follow d) } ∧
        u.dev.flag pgCLK CLK.ST_REF_READY = true ∧ u.dev.flag pgCLK CLK.ST_XO_FAIL = false ∧ u.mem = s.soc.mem) ∧
    (b.dev.flag pgCLK CLK.ST_PLL0_LOCK = true → b.dev.clockHeld = false →
      (∀ missing : Bool, ∃ u : Soc, exec (.holdover dt missing) s = .next { s with soc := u.map (fun d => b.dev.follow d) } ∧
        u.dev.clk.holdover = (if missing then some (b.dev.clk.holdover.getD b.dev.wall) else none) ∧ u.mem = s.soc.mem) ∧
      ∃ u : Soc, exec (.pll0Unlock dt) s = .next { s with soc := u.map (fun d => b.dev.follow d) } ∧
        u.dev.flag pgCLK CLK.ST_PLL0_LOCK = false ∧ u.dev.clockHeld = true ∧ u.dev.clk.holdCause = 2 ∧ u.mem = s.soc.mem) ∧
    (∀ t, b.dev.clk.holdover = some t → t + 400000 ≤ b.dev.wall → b.dev.clockHeld = false →
      ∃ u : Soc, exec (.holdoverExpiry dt) s = .next { s with soc := u.map (fun d => b.dev.follow d) } ∧
        u.dev.clockHeld = true ∧ u.dev.clk.holdCause = 2 ∧ u.dev.clk.holdover = none ∧ u.mem = s.soc.mem) ∧
    (∀ t, b.dev.clk.restartAt = some t → t ≤ b.dev.wall →
      ∃ u : Soc, exec (.xoRestart dt) s = .next { s with soc := u.map (fun d => b.dev.follow d) } ∧
        u.dev.clk.xoOn = true ∧ u.dev.clk.xoStart = b.dev.wall ∧ u.dev.clk.restartAt = none ∧ u.mem = s.soc.mem) ∧
    (∀ ready : Bool, ready = b.dev.flag pgCLK CLK.ST_REF_READY → b.dev.clockHeld = true →
      (ready = true ∨ b.dev.flag pgCLK CLK.ST_IRC_FAIL = false) →
      ∃ u : Soc, exec (.holdExit dt) s = .next { s with soc := u.map (fun d => b.dev.follow d) } ∧
        u.dev.clockHeld = false ∧ u.dev.flag pgCLK CLK.ST_ON_FALLBACK = !ready ∧
        u.dev.flag pgCLK CLK.ST_PLL0_LOCK = true ∧ u.dev.flag pgCLK CLK.ST_PLL1_LOCK = true ∧
        u.dev.flag pgCLK CLK.ST_DLL_LOCK = true ∧ u.dev.time % 16 = 0 ∧
        u.dev.get pgCLK CLK.HOLD_CNT = min 0xFFFFFFFF (b.dev.get pgCLK CLK.HOLD_CNT + 1) ∧ u.mem = s.soc.mem)) ∧
  (∀ s : State, s.soc.answers (pgCLK + 0x40) = true →
    (s.soc.dev.flag pgCLK CLK.ST_REF_READY = true → s.soc.dev.flag pgCLK CLK.ST_ON_FALLBACK = true →
      s.soc.dev.clk.ircT ≠ some s.soc.dev.wall →
      ∃ u : Soc, exec .returnWrite s = .next { s with soc := u } ∧
        u.dev.flag pgCLK CLK.ST_ON_FALLBACK = false ∧ u.dev.flag pgCLK CLK.ST_ALIGN = false ∧ u.mem = s.soc.mem) ∧
    (s.soc.dev.flag pgCLK CLK.ST_REF_READY = false →
      ∃ u : Soc, exec .returnWrite s = .next { s with soc := u } ∧
        u.dev.flag pgCLK CLK.ST_ON_FALLBACK = s.soc.dev.flag pgCLK CLK.ST_ON_FALLBACK ∧ u.mem = s.soc.mem))

/-- The DLL unlocks and locks again; a calibration is busy until its result. SS_CFG is written in ALM state IDLE with a legal depth and seed. A request for a point becomes HOST and the target is the slower request. A change to a faster point waits for VDD and then re-locks; to a slower one it re-locks at once. VDD that fails in V_TIMEOUT ends the change. 1 us after the lock the point is in force. -/
def Obligations.DelayLineAndOperatingPointChange : Prop :=
  (∀ (dt : Nat) (s : State) (b : Soc), b = s.soc.after dt →
    (b.dev.flag pgCLK CLK.ST_DLL_LOCK = true →
      ∃ u : Soc, exec (.dllUnlock dt) s = .next { s with soc := u } ∧
        u.dev.flag pgCLK CLK.ST_DLL_LOCK = false ∧ u.dev.flag pgCLK CLK.IRQ_DLL_UNLOCK = true ∧ u.mem = s.soc.mem) ∧
    (b.dev.tclkRuns = true → b.dev.pwrMode ≠ 2 → ∃ u : Soc, exec (.dllRelock dt) s = .next { s with soc := u } ∧
        u.dev.flag pgCLK CLK.ST_DLL_LOCK = true ∧ u.mem = s.soc.mem) ∧
    (∀ (worst : BitVec 16) (t : Nat), b.dev.clk.calEnd = some t → t ≤ b.dev.time →
      ∃ u : Soc, exec (.tapcalDone dt worst) s = .next { s with soc := u } ∧
        u.dev.flag pgCLK CLK.DLL_CAL_BUSY = false ∧ u.dev.get pgCLK CLK.DLL_CAL_WORST = worst.toNat ∧
        u.dev.flag pgCLK CLK.IRQ_TAPCAL_DONE = true ∧ u.dev.clk.calEnd = none ∧ u.mem = s.soc.mem) ∧
    (∀ goal act : Nat, goal = b.dev.get pgPWR PWR.OP_STAT_TARGET → act = b.dev.get pgPWR PWR.ST_OP_ACT → goal ≠ act →
      b.dev.flag pgPWR PWR.ST_SEQ_BUSY = false → b.dev.flag pgCLK CLK.ST_IRC_FAIL = false → b.dev.opSpaced = true →
      b.dev.pwrMode = 0 → b.dev.tclkRuns = true →
      ∃ u : Soc, exec (.opChangeStart dt) s = .next { s with soc := u } ∧
        u.dev.flag pgPWR PWR.ST_SEQ_BUSY = true ∧ u.dev.pwr.goal = goal ∧ u.dev.pwr.lastOp = some b.dev.time ∧
        (goal < act → u.dev.pwr.step = 1 ∧ u.dev.pwr.vsel = goal ∧ u.dev.flag pgPWR PWR.ST_VDD_OK = false) ∧
        (act < goal → u.dev.pwr.step = 2 ∧ u.dev.flag pgCLK CLK.ST_PLL1_LOCK = false) ∧ u.mem = s.soc.mem) ∧
    (b.dev.pwr.step = 1 →
      (∃ u : Soc, exec (.vddOk dt) s = .next { s with soc := u } ∧
        u.dev.flag pgPWR PWR.ST_VDD_OK = true ∧ u.dev.pwr.step = 2 ∧ u.dev.flag pgCLK CLK.ST_PLL1_LOCK = false ∧ u.mem = s.soc.mem) ∧
      (b.dev.pwr.vStart + 400 * b.dev.get pgPWR PWR.V_CFG ≤ b.dev.time →
        ∃ u : Soc, exec (.vTimeout dt) s = .next { s with soc := u } ∧
        u.dev.pwr.step = 0 ∧ u.dev.pwr.vsel = b.dev.get pgPWR PWR.ST_OP_ACT ∧
        u.dev.flag pgPWR PWR.ST_SEQ_BUSY = false ∧ u.dev.flag pgPWR PWR.IRQ_V_TIMEOUT = true ∧ u.mem = s.soc.mem)) ∧
    (b.dev.pwr.step = 2 → b.dev.clockHeld = false →
      ∃ u : Soc, exec (.pll1Lock dt) s = .next { s with soc := u } ∧
        u.dev.flag pgCLK CLK.ST_PLL1_LOCK = true ∧ u.dev.pwr.step = 3 ∧ u.dev.pwr.lockT = b.dev.time ∧ u.mem = s.soc.mem) ∧
    (b.dev.pwr.step = 3 → b.dev.clockHeld = false → b.dev.pwr.lockT + 400 ≤ b.dev.time → b.dev.pwr.goal < 3 →
      ∃ u : Soc, exec (.relockSwitch dt) s = .next { s with soc := u } ∧
        u.dev.get pgPWR PWR.ST_OP_ACT = b.dev.pwr.goal ∧ u.dev.pwr.step = 0 ∧
        u.dev.flag pgPWR PWR.ST_SEQ_BUSY = false ∧ u.dev.flag pgPWR PWR.IRQ_OP_DONE = true ∧
        u.dev.get pgPWR PWR.OP_STAT_CHANGES = (b.dev.get pgPWR PWR.OP_STAT_CHANGES + 1) % 2 ^ 16 ∧ u.mem = s.soc.mem)) ∧
  (∀ s : State, s.soc.answers (pgCLK + 0x64) = true → s.soc.dev.flag pgCLK CLK.DLL_CAL_BUSY = false →
    ∃ u : Soc, exec .dllCalGo s = .next { s with soc := u } ∧
        u.dev.flag pgCLK CLK.DLL_CAL_BUSY = true ∧ u.dev.clk.calEnd = some (s.soc.dev.time + 4096) ∧ u.mem = s.soc.mem) ∧
  (∀ (w : Word) (s : State), s.soc.answers (pgCLK + 0x58) = true → wordField w 29 2 ≠ 3 → wordField w 0 16 ≠ 0 →
    (s.soc.dev.almState = 0 →
      ∃ u : Soc, exec (.ssCfgWrite w) s = .next { s with soc := u } ∧
        u.dev.get pgCLK CLK.SS_CFG = w.toNat &&& 0xE000FFFF ∧ u.mem = s.soc.mem) ∧
    (s.soc.dev.almState ≠ 0 →
      ∃ u : Soc, exec (.ssCfgWrite w) s = .next { s with soc := u } ∧
        u.dev.get pgCLK CLK.SS_CFG = s.soc.dev.get pgCLK CLK.SS_CFG ∧ u.mem = s.soc.mem)) ∧
  (∀ (op : BitVec 2) (s : State), s.soc.answers (pgPWR + 0x40) = true →
    (op ≠ 3 → s.soc.dev.adm = none → s.soc.dev.flag pgCLK CLK.ST_IRC_FAIL = false →
      ∃ u : Soc, exec (.opReq op) s = .next { s with soc := u } ∧
        u.dev.get pgPWR PWR.OP_STAT_HOST = op.toNat ∧
        u.dev.get pgPWR PWR.OP_STAT_TARGET = max op.toNat (s.soc.dev.get pgPWR PWR.OP_STAT_THM) ∧ u.mem = s.soc.mem) ∧
    (op = 3 →
      ∃ u : Soc, exec (.opReq op) s = .next { s with soc := u } ∧
        u.dev.get pgPWR PWR.OP_STAT_HOST = s.soc.dev.get pgPWR PWR.OP_STAT_HOST ∧
        u.dev.flag pgPWR PWR.IRQ_OP_REFUSED = true ∧ u.mem = s.soc.mem))

/-- A sleep request of an idle device, with no wake event and no monitor attribution in its cycle, is accepted and MODE is 1 from the next TCLK, of a deep one 2 with the PLLs and the DLL off; WAKE_TIMER starts where it is not 0. A busy device stays in RUN. An enabled source wakes it to RUN, and so does the timer; an entry not yet in effect is abandoned. CLKEN_SLEEP takes its 20 bits, CLKEN_DEEP those from 8, and CLKEN_RUN keeps every group that may not be gated. -/
def Obligations.PowerModesAndWakes : Prop :=
  (∀ s : State, s.soc.answers (pgPWR + 0x4C) = true →
    (s.soc.dev.modeBusy = false → s.soc.dev.pwr.attrT ≠ some s.soc.dev.wall → s.soc.dev.wokenNow = false →
      (∃ u : Soc, exec .sleepRequest s = .next { s with soc := u } ∧
        u.dev.pwrMode = 0 ∧ u.dev.pwr.enter = some 1 ∧
        (∀ dt, 0 < dt → (u.after dt).dev.pwrMode = 1 ∧ (u.after dt).dev.pwr.enter = none ∧
          (u.after dt).dev.pwr.wakeAt = (if s.soc.dev.get pgPWR PWR.WAKE_TIMER = 0 then none
            else some (s.soc.dev.time + 400000 * s.soc.dev.get pgPWR PWR.WAKE_TIMER))) ∧ u.mem = s.soc.mem) ∧
      (s.soc.dev.flag pgCLK CLK.ST_IRC_FAIL = false →
        ∃ u : Soc, exec .deepSleepRequest s = .next { s with soc := u } ∧
        u.dev.pwrMode = 0 ∧ u.dev.pwr.enter = some 2 ∧
        (∀ dt, 0 < dt → (u.after dt).dev.pwrMode = 2 ∧ (u.after dt).dev.flag pgCLK CLK.ST_PLL0_LOCK = false ∧
          (u.after dt).dev.flag pgCLK CLK.ST_PLL1_LOCK = false ∧ (u.after dt).dev.flag pgCLK CLK.ST_DLL_LOCK = false ∧
          (s.soc.dev.flag pgCLK CLK.REF_CFG_XO_DEEP_OFF = true →
            (u.after dt).dev.clk.xoOn = false ∧ (u.after dt).dev.flag pgCLK CLK.ST_REF_READY = false)) ∧ u.mem = s.soc.mem)) ∧
    (s.soc.dev.modeBusy = true →
      (∃ u : Soc, exec .sleepRequest s = .next { s with soc := u } ∧
        u.dev.pwrMode = 0 ∧ u.dev.pwr.enter = none ∧ u.mem = s.soc.mem) ∧
      ∃ u : Soc, exec .deepSleepRequest s = .next { s with soc := u } ∧
        u.dev.pwrMode = 0 ∧ u.dev.pwr.enter = none ∧ u.mem = s.soc.mem)) ∧
  (∀ (dt : Nat) (s : State) (b : Soc) (src : Fin 5), b = s.soc.after dt → b.dev.pwr.enter.isSome = true →
    bitOf (b.dev.get pgPWR PWR.WAKE_EN) src = true →
    ∃ u : Soc, exec (.wake dt src) s = .next { s with soc := u } ∧
        u.dev.pwr.enter = none ∧ u.dev.pwrMode = b.dev.pwrMode ∧ u.mem = s.soc.mem) ∧
  (∀ (dt : Nat) (s : State) (b : Soc), b = s.soc.after dt → b.dev.pwrMode = 1 → b.dev.pwr.waking = false →
    b.dev.pwr.enter = none →
    (∀ src : Fin 5, bitOf (b.dev.get pgPWR PWR.WAKE_EN) src = true →
      ∃ u : Soc, exec (.wake dt src) s = .next { s with soc := u } ∧
        u.dev.pwrMode = 0 ∧ u.dev.flag pgPWR PWR.IRQ_WAKE = true ∧ u.dev.pwr.wakeAt = none ∧ u.mem = s.soc.mem) ∧
    (∀ t, b.dev.pwr.wakeAt = some t → t ≤ b.dev.time → bitOf (b.dev.get pgPWR PWR.WAKE_EN) 4 = true →
      ∃ u : Soc, exec (.wakeTimer dt) s = .next { s with soc := u } ∧
        u.dev.pwrMode = 0 ∧ u.dev.flag pgPWR PWR.IRQ_WAKE = true ∧ u.dev.pwr.wakeAt = none ∧ u.mem = s.soc.mem)) ∧
  (∀ (w : Word) (s : State),
    (s.soc.answers (pgPWR + 0x58) = true →
      ∃ u : Soc, exec (.clkenWrite 0 w) s = .next { s with soc := u } ∧
        u.dev.get pgPWR PWR.CLKEN_RUN = w.toNat % 2 ^ 20 ||| s.soc.dev.gateRefused (w.toNat % 2 ^ 20) ∧
        bitOf (u.dev.get pgPWR PWR.CLKEN_RUN) 0 = true ∧ bitOf (u.dev.get pgPWR PWR.CLKEN_RUN) 8 = true ∧
        bitOf (u.dev.get pgPWR PWR.CLKEN_RUN) 9 = true ∧ u.mem = s.soc.mem) ∧
    (s.soc.answers (pgPWR + 0x5C) = true →
      ∃ u : Soc, exec (.clkenWrite 1 w) s = .next { s with soc := u } ∧
        u.dev.get pgPWR PWR.CLKEN_SLEEP = w.toNat % 2 ^ 20 ∧ u.mem = s.soc.mem) ∧
    (s.soc.answers (pgPWR + 0x60) = true →
      ∃ u : Soc, exec (.clkenWrite 2 w) s = .next { s with soc := u } ∧
        u.dev.get pgPWR PWR.CLKEN_DEEP = w.toNat % 2 ^ 20 / 256 * 256 ∧ u.mem = s.soc.mem))

/-- Each device reset adds its bit to RST_CAUSE, starts the boot, keeps Gnomon and the kept registers, and with Gnomon running and requesting nothing returns every other register; SOFT_RST only with its key, the watchdog only in RUN. PERST# resets the PCIE page, but for its lock, and its interrupt table. BLK_RST holds groups 10 to 19, and a group that newly enters reset discards its transfers. A flush clears the crossing bit once its partner runs. -/
def Obligations.ResetsHaveTheirScope : Prop :=
  (∀ (dt : Nat) (s : State) (b : Soc), b = s.soc.after dt →
    (∃ u : Soc, exec (.powerOn dt) s = .next { s with soc := u } ∧
        b.dev.resetDone u.dev 1 true ∧ u.mem = s.soc.mem) ∧
    (∃ u : Soc, exec (.resetPin dt) s = .next { s with soc := u } ∧
        b.dev.resetDone u.dev 2 false ∧ u.mem = s.soc.mem) ∧
    (∀ supplies : BitVec 5, supplies ≠ 0 →
      ∃ u : Soc, exec (.brownOut dt supplies) s = .next { s with soc := u } ∧
        b.dev.resetDone u.dev (4 * supplies.toNat) false ∧ u.mem = s.soc.mem) ∧
    (b.dev.pwrMode = 0 → b.dev.justWoken = false → ∃ u : Soc, exec (.watchdog dt) s = .next { s with soc := u } ∧
        b.dev.resetDone u.dev 128 false ∧ u.mem = s.soc.mem) ∧
    (∀ inFlight : BitVec 16, b.dev.inReset 11 = false →
      ∃ u : Soc, exec (.perst dt true inFlight) s = .next { s with soc := u.map (fun d => b.dev.follow d) } ∧
        u.dev.pwr.perst = true ∧ u.dev.inReset 11 = true ∧ u.dev.msix = [] ∧
        bitOf (u.dev.get pgPWR PWR.XSTAT) 1 = true ∧
        (∀ a, pgPCIE ≤ a → a < pgPCIE + 0x1000 → a ≠ pgPCIE + COM.LOCK.off → a ≠ pgPCIE + PCIE.VLATCH.off → a ≠ pgPCIE + PCIE.VLATCH.off + 4 →
          u.dev.reg a = resetWord a) ∧ u.mem = s.soc.mem) ∧
    (∀ j : Fin 8, b.dev.partnerRuns j = true →
      ∃ u : Soc, exec (.partnerFlush dt j) s = .next { s with soc := u } ∧
        bitOf (u.dev.get pgPWR PWR.XSTAT) j = false ∧ u.mem = s.soc.mem)) ∧
  (∀ (key : BitVec 16) (s : State), s.soc.answers (pgPWR + 0x6C) = true →
    (key = 0x52A7 → ∃ u : Soc, exec (.softRst key) s = .next { s with soc := u } ∧
        s.soc.dev.resetDone u.dev 256 false ∧ u.mem = s.soc.mem) ∧
    (key ≠ 0x52A7 → ∃ u : Soc, exec (.softRst key) s = .next { s with soc := u } ∧
        u.dev.time = s.soc.dev.time ∧ u.dev.boot = s.soc.dev.boot ∧ u.mem = s.soc.mem)) ∧
  (∀ (w : Word) (inFlight : Vector (BitVec 16) 8) (s : State), s.soc.answers (pgPWR + 0x64) = true →
    ∃ u : Soc, exec (.blkRst w inFlight) s = .next { s with soc := u.map (fun d => s.soc.dev.follow d) } ∧
        u.dev.get pgPWR PWR.BLK_RST = w.toNat % 2 ^ 20 / 1024 * 1024 ∧
        (w.getLsbD 14 = true → s.soc.dev.inReset 14 = false →
          (∀ c : Fin 4, u.dev.can[c] = []) ∧ bitOf (u.dev.get pgPWR PWR.XSTAT) 4 = true) ∧
        (w.getLsbD 17 = true → s.soc.dev.inReset 17 = false →
          u.dev.get pgCAP CAP.ST_STATE = 0 ∧ bitOf (u.dev.get pgPWR PWR.XSTAT) 6 = true) ∧ u.mem = s.soc.mem)

/-- With TEST_EN high a device does not leave reset: no pass runs. A due pass counts itself and takes the RETRY bits. A bad ROM ends it in a halt with step 0 failed. A primary image that cannot be read sets the ALT flag of step 3 and leaves a pass due. With no ALT flag set, everything the pass meets in order and a primary image that passes its checks, it ends at step 8 with DONE, no failed outcome and the version of the image. A RETRY write adds its bits. -/
def Obligations.BootPassesRun : Prop :=
  (∀ (dt : Nat) (o : BootObs) (s : State) (b : Soc), b = s.soc.after dt → b.dev.boot.due = true → b.dev.boot.retOk = true →
    (o.testEn = true → ∃ u : Soc, exec (.bootPass dt o) s = .next { s with soc := u } ∧
        u.dev = b.dev ∧ u.mem = s.soc.mem) ∧
    (o.testEn = false →
    (∃ u : Soc, exec (.bootPass dt o) s = .next { s with soc := u } ∧
      u.dev.get pgBOOT BOOT.BOOT_CNT = (b.dev.get pgBOOT BOOT.BOOT_CNT + 1) % 2 ^ 32 ∧
      u.dev.get pgBOOT BOOT.RETRY = 0 ∧ u.flash = s.soc.flash) ∧
    (o.romOk = false →
      ∃ u : Soc, exec (.bootPass dt o) s = .next { s with soc := u } ∧
        u.dev.flag pgBOOT BOOT.ST_HALTED = true ∧ u.dev.boot.due = false ∧ u.dev.get pgBOOT BOOT.OUTCOME = 1 ∧
        u.dev.get pgBOOT BOOT.ST_STEP = 0 ∧ u.mem = s.soc.mem) ∧
    (o.romOk = true → b.dev.boot.retry = 0 → b.dev.get pgBOOT BOOT.RETRY = 0 → b.dev.get pgBOOT BOOT.ALT_FLAGS = 0 →
      lcState b.dev.boot.trans ≠ 4 →
      (o.flashOk = false →
        ∃ u : Soc, exec (.bootPass dt o) s = .next { s with soc := u } ∧
        bitOf (u.dev.get pgBOOT BOOT.ALT_FLAGS) 3 = true ∧ u.dev.boot.due = true ∧
        u.dev.get pgBOOT BOOT.ST_STEP = 3 ∧ u.dev.flag pgBOOT BOOT.IRQ_FAIL = true ∧ u.mem = s.soc.mem) ∧
      (∀ (h body : List Byte) (t : BitVec 16), h = memGetList b.flash 0x100000 4096 →
        body = memGetList b.flash 0x101000 (imgLen h) → hdr h 0 4 = magic → imgKind h = 1 →
        b.dev.boot.fwSvn ≤ imgSvn h →
        o.flashOk = true → o.xoReady = some t → t.toNat ≤ 20 → o.trainOk = true → o.bist = 0 → o.progOk = true →
        o.gnOk = true → o.patchOk = true → o.almOk = true → o.linkUp = true →
        ∃ u : Soc, exec (.bootPass dt o) s = .next { s with soc := u } ∧
          (b.dev.imgCheck h body 1 (fun k => k == 0) = 0 → u.dev.flag pgBOOT BOOT.ST_DONE = true ∧
            u.dev.boot.due = false ∧ u.dev.get pgBOOT BOOT.ST_STEP = 8 ∧ u.dev.get pgBOOT BOOT.OUTCOME = 0 ∧
            u.dev.flag pgBOOT BOOT.ST_SECONDARY = false ∧ u.dev.get pgBOOT BOOT.FW_VERSION = hdr h 8 4) ∧
          u.flash = s.soc.flash)))) ∧
  (∀ (bits : BitVec 9) (s : State), s.soc.answers (pgBOOT + 0x50) = true →
    ∃ u : Soc, exec (.retry bits) s = .next { s with soc := u } ∧
        u.dev.get pgBOOT BOOT.RETRY = s.soc.dev.get pgBOOT BOOT.RETRY ||| bits.toNat ∧ u.mem = s.soc.mem)

/-- VERIFY_CFG, ATTEST and GET_KEYS begin while SEC is idle, and ATTEST burns its one-time index; RELEASE_CFG clears CFG_VERIFIED; SVN_COMMIT burns the image SVN; a reserved command ends with SEC_CMD. The end of GET_KEYS writes only its report; that of VERIFY_CFG with a bad image verifies nothing. A token that finds LCS busy is refused with LCS_BUSY; a finished one sets its transition bit. A host test run is busy from its request to its result, which comes no sooner than its run time. Whether a signature verifies is an opaque constant of Config (log 27), so it stands in the conclusions. -/
def Obligations.SecurityCommandsAndTokens : Prop :=
  (∀ s : State, s.soc.answers (pgSEC + 0x40) = true → s.soc.dev.flag pgSEC SEC.ST_BUSY = false →
    (s.soc.dev.cfgInUse = false →
      (∃ u : Soc, exec .verifyCfg s = .next { s with soc := u } ∧
        u.dev.flag pgSEC SEC.ST_BUSY = true ∧ u.dev.flag pgSEC SEC.ST_CFG_VERIFIED = false ∧ u.dev.boot.secCmd = 1 ∧ u.mem = s.soc.mem) ∧
      ∃ u : Soc, exec .releaseCfg s = .next { s with soc := u } ∧
        u.dev.flag pgSEC SEC.ST_CFG_VERIFIED = false ∧ u.dev.get pgSEC SEC.CFG_END = 0 ∧ u.dev.boot.cfgHash = [] ∧
        u.dev.get pgSEC SEC.CMD_STAT = 2 * 2 ^ 16 ∧ u.mem = s.soc.mem) ∧
    (s.soc.dev.boot.nextQ < 2 ^ 20 →
      ∃ u : Soc, exec .attest s = .next { s with soc := u } ∧
        u.dev.flag pgSEC SEC.ST_BUSY = true ∧ u.dev.boot.secCmd = 3 ∧ u.dev.boot.lmsQ = some (s.soc.dev.boot.nextQ + 1) ∧ u.mem = s.soc.mem) ∧
    (∃ u : Soc, exec .getKeys s = .next { s with soc := u } ∧
        u.dev.flag pgSEC SEC.ST_BUSY = true ∧ u.dev.boot.secCmd = 4 ∧ u.mem = s.soc.mem) ∧
    (s.soc.dev.flag pgBOOT BOOT.ST_DONE = true → s.soc.dev.boot.fwSvn ≤ s.soc.dev.get pgBOOT BOOT.FW_SVN_IMAGE →
      ∃ u : Soc, exec .svnCommit s = .next { s with soc := u } ∧
        u.dev.boot.fwSvn = s.soc.dev.get pgBOOT BOOT.FW_SVN_IMAGE ∧
        u.dev.get pgBOOT BOOT.FW_SVN_OTP = s.soc.dev.get pgBOOT BOOT.FW_SVN_IMAGE ∧ u.mem = s.soc.mem) ∧
    (∀ cmd : BitVec 3, cmd = 0 ∨ 6 ≤ cmd.toNat →
      ∃ u : Soc, exec (.secCmdReserved cmd) s = .next { s with soc := u } ∧
        u.dev.get pgSEC SEC.CMD_STAT = cmd.toNat * 2 ^ 16 + Err.SEC_CMD ∧ u.dev.flag pgSEC SEC.IRQ_REFUSED = true ∧
        u.dev.boot = s.soc.dev.boot ∧ u.mem = s.soc.mem)) ∧
  (∀ (dt : Nat) (s : State) (b : Soc) (a : Nat), b = s.soc.after dt → b.dev.flag pgSEC SEC.ST_BUSY = true →
    a = b.dev.get pgSEC SEC.ARG0 →
    (b.dev.boot.secCmd = 4 →
      ∃ u : Soc, exec (.secDone dt) s = .next { s with soc := u } ∧
        u.dev.flag pgSEC SEC.ST_BUSY = false ∧ u.dev.get pgSEC SEC.CMD_STAT = 4 * 2 ^ 16 ∧ u.dev.flag pgSEC SEC.IRQ_DONE = true ∧ b.keepsBytes u a 4272) ∧
    (∀ h : List Byte, h = memGetList b.mem a 4096 → b.dev.boot.secCmd = 1 →
      (b.dev.imgCheck h (memGetList b.mem (a + 4096) (imgLen h)) 2 (fun k => k == 1) ≠ 0 →
        ∃ u : Soc, exec (.secDone dt) s = .next { s with soc := u } ∧
        u.dev.flag pgSEC SEC.ST_BUSY = false ∧ u.dev.get pgSEC SEC.CMD_STAT = 2 ^ 16 + Err.SEC_IMG_SIGN ∧
        u.dev.flag pgSEC SEC.ST_CFG_VERIFIED = b.dev.flag pgSEC SEC.ST_CFG_VERIFIED ∧ u.mem = s.soc.mem) ∧
      (inSram a (4096 + imgLen h) = true → b.dev.get pgSEC SEC.ARG1 = 4096 + imgLen h →
        ∃ u : Soc, exec (.secDone dt) s = .next { s with soc := u } ∧
        (b.dev.imgCheck h (memGetList b.mem (a + 4096) (imgLen h)) 2 (fun k => k == 1) = 0 →
          u.dev.flag pgSEC SEC.ST_CFG_VERIFIED = true ∧ u.dev.get pgSEC SEC.CFG_BASE = a + 4096 ∧
          u.dev.get pgSEC SEC.CFG_END = a + 4096 + imgLen h ∧ u.dev.get pgSEC SEC.CMD_STAT = 2 ^ 16) ∧ u.mem = s.soc.mem))) ∧
  (∀ s : State, s.soc.answers (pgLCS + 0x44) = true →
    ((s.soc.dev.flag pgLCS LCS.ST_PENDING = true ∨ s.soc.dev.boot.burn.isSome = true) →
      ∃ u : Soc, exec .tokenGo s = .next { s with soc := u } ∧
        u.dev.get pgLCS LCS.TOKEN_STAT_CODE = Err.LCS_BUSY ∧ u.dev.boot = s.soc.dev.boot ∧ u.mem = s.soc.mem) ∧
    (∀ (a t : Nat) (h tok : List Byte), a = s.soc.dev.get pgLCS LCS.TOKEN_ADDR → h = memGetList s.soc.mem a 4096 →
      tok = memGetList s.soc.mem (a + 4096) 128 → t = listNat tok 1 1 → s.soc.dev.flag pgLCS LCS.ST_PENDING = false →
      s.soc.dev.boot.burn = none → s.soc.dev.flag pgSEC SEC.ST_BUSY = false → inSram a 4224 = true → imgLen h = 128 →
      listNat tok 0 1 = lcState s.soc.dev.boot.trans →
      tokenRow (listNat tok 0 1) t (imgKeyset h) = some false →
      ∃ u : Soc, exec .tokenGo s = .next { s with soc := u } ∧
        (s.soc.dev.imgCheck h tok 3 (fun k => decide (k < 2)) = 0 →
          u.dev.flag pgLCS LCS.TOKEN_STAT_BUSY = true ∧ u.dev.get pgLCS LCS.TOKEN_STAT_CODE = 0 ∧
          ∃ x, u.dev.boot.burn = some x ∧ x.target = t) ∧ u.mem = s.soc.mem)) ∧
  (∀ (dt : Nat) (s : State) (b : Soc), b = s.soc.after dt →
    (∀ x : Burn, b.dev.boot.burn = some x → x.target < 5 →
      ∃ u : Soc, exec (.tokenDone dt) s = .next { s with soc := u } ∧
        bitOf u.dev.boot.trans x.target = true ∧ u.dev.boot.burn = none ∧ u.dev.flag pgLCS LCS.ST_PENDING = true ∧
        u.dev.get pgLCS LCS.ST_TARGET = x.target ∧ u.dev.flag pgLCS LCS.TOKEN_STAT_BUSY = false ∧ u.mem = s.soc.mem) ∧
    (∀ (sig : Word) (pass : Bool) (t : Nat), b.dev.flag pgBIST BIST.ST_BUSY = true → t = b.dev.get pgBIST BIST.ST_TARGET →
      b.dev.runT + 400 * (if b.dev.get pgBIST BIST.RUN_REQ_PROG = 0 then runUs t else 0) ≤ b.dev.time →
      ∃ u : Soc, exec (.runDone dt sig pass) s = .next { s with soc := u.map (fun d => b.dev.follow d) } ∧
        u.dev.flag pgBIST BIST.ST_BUSY = false ∧ u.dev.getAt pgBIST BIST.RESULT_STATE t = (if pass then 1 else 2) ∧
        u.dev.getAt pgBIST BIST.SIG t = sig.toNat ∧ u.dev.flag pgBIST BIST.IRQ_RUN_DONE = true ∧ u.mem = s.soc.mem)) ∧
  (∀ (t : BitVec 4) (s : State), s.soc.answers (pgBIST + 0x40) = true →
    (s.soc.dev.almState = 0 → s.soc.dev.flag pgBIST BIST.ST_BUSY = false → s.soc.dev.slice = none → t ≠ 12 →
      s.soc.dev.get pgLCS LCS.ST_STATE ≠ 4 → s.soc.dev.flag pgBIST BIST.ST_PROG_VALID = true →
      ∃ u : Soc, exec (.runReq t 0 false) s = .next { s with soc := u.map (fun d => s.soc.dev.follow d) } ∧
        u.dev.flag pgBIST BIST.ST_BUSY = true ∧ u.dev.get pgBIST BIST.ST_TARGET = t.toNat ∧ u.mem = s.soc.mem) ∧
    (s.soc.dev.almState ≠ 0 →
      ∃ u : Soc, exec (.runReq t 0 false) s = .next { s with soc := u.map (fun d => s.soc.dev.follow d) } ∧
        u.dev.flag pgBIST BIST.ST_BUSY = s.soc.dev.flag pgBIST BIST.ST_BUSY ∧ u.mem = s.soc.mem))

/-- A port goes DOWN, TRAINING, UP, DEGRADED and back as its row says, and DOWN forgets its hops. ENUM of the manager sends one frame on ring A, whose return sets MEMBERS and RING. A worker adds its ID and passes the frame on with one hop less. A NAK and a discarded frame are journalled; a discarded code group or CRC is counted. VLK_CNT_CLR clears the counts. -/
def Obligations.PortsAndRingFollowTheLink : Prop :=
  (∀ (dt : Nat) (s : State) (b : Soc), b = s.soc.after dt →
    (∀ p : Fin 2,
      (∃ u : Soc, exec (.portLoss dt p) s = .next { s with soc := u.map (fun d => b.dev.follow d) } ∧
        u.dev.vPort p = 0 ∧ (b.dev.vPort p = 2 → u.dev.vlk.hops.getD p none = none) ∧ u.mem = s.soc.mem) ∧
      (b.dev.vPort p = 0 → b.dev.enabled (pgVLK p) = true →
        ∃ u : Soc, exec (.commaAlignment dt p) s = .next { s with soc := u.map (fun d => b.dev.follow d) } ∧
        u.dev.vPort p = 1 ∧ u.dev.flag (pgVLK p) VLK.IRQ_PORT = true ∧ u.mem = s.soc.mem) ∧
      (b.dev.vPort p = 1 →
        ∃ u : Soc, exec (.portUp dt p) s = .next { s with soc := u.map (fun d => b.dev.follow d) } ∧
        u.dev.vPort p = 2 ∧ u.dev.flag (pgVLK p) VLK.IRQ_PORT = true ∧ u.mem = s.soc.mem) ∧
      (b.dev.vPort p = 2 →
        ∃ u : Soc, exec (.portDegraded dt p) s = .next { s with soc := u.map (fun d => b.dev.follow d) } ∧
        u.dev.vPort p = 3 ∧ u.dev.flag (pgVLK p) VLK.IRQ_PORT = true ∧
        ∃ e, u.dev.vlk.jrnl = (e :: b.dev.vlk.jrnl).take 256 ∧ u.mem = s.soc.mem) ∧
      (b.dev.vPort p = 3 → ∃ u : Soc, exec (.portRecovered dt p) s = .next { s with soc := u.map (fun d => b.dev.follow d) } ∧
        u.dev.vPort p = 2 ∧ u.dev.flag (pgVLK p) VLK.IRQ_PORT = true ∧ u.mem = s.soc.mem)) ∧
    (∀ (h : VHdr) (ids : List (BitVec 5)) (m : Nat), b.dev.vUp h.port = true →
      m = ids.foldl (fun (m : Nat) i => m ||| 2 ^ i.toNat) 1 →
      (h.src.toNat = 0 → b.dev.vId = 0 →
        ∃ u : Soc, exec (.enumFrame dt h ids) s = .next { s with soc := u.map (fun d => b.dev.follow d) } ∧
        u.dev.get (pgVLK 0) VLK.MEMBERS = m ∧
        u.dev.get (pgVLK 0) VLK.RING = (if b.dev.get (pgVLK 0) VLK.MEMBERS &&& m ≠ b.dev.get (pgVLK 0) VLK.MEMBERS then 2
          else if h.wrapped || !b.dev.vUp 0 || !b.dev.vUp 1 then 1 else 0) ∧ u.mem = s.soc.mem) ∧
      (h.src.toNat ≠ b.dev.vId → b.dev.seqAhead h 5 = true → 2 ≤ h.hops.toNat → b.dev.vUp h.onward = true →
        (∀ i ∈ ids, i.toNat ≠ b.dev.vId) →
        ∃ u : Soc, exec (.enumFrame dt h ids) s = .next { s with soc := u.map (fun d => b.dev.follow d) } ∧
        u.dev.vlk.sent = [⟨h.onward, 5, 3, h.src.toNat, h.dst.toNat, h.onward + 2 * b2n h.wrapped,
          h.hops.toNat - 1, h.seq.toNat, ids.map (fun i => BitVec.ofNat 8 i.toNat) ++ [BitVec.ofNat 8 b.dev.vId]⟩] ∧ u.mem = s.soc.mem)) ∧
    (∀ (h : VHdr) (code : Half), b.dev.frameFor h 4 →
      ∃ u : Soc, exec (.nak dt h code) s = .next { s with soc := u } ∧
        (∃ e, u.dev.vlk.jrnl = (e :: b.dev.vlk.jrnl).take 256) ∧
        (code.toNat = Err.VLK_FRAME → b.dev.get (pgVLK h.port) COM.ERRCODE_CODE = 0 →
          u.dev.get (pgVLK h.port) COM.ERRCODE_CODE = Err.VLK_FRAME) ∧
        (code.toNat ≠ Err.VLK_FRAME → code.toNat / 4096 = 0xE → b.dev.get (pgVLK 0) COM.ERRCODE_CODE = 0 →
          u.dev.get (pgVLK 0) COM.ERRCODE_CODE = code.toNat) ∧ u.mem = s.soc.mem) ∧
    (∀ (h : VHdr) (why : VBad) (bytes : List Byte), b.dev.vPort h.port ≠ 0 →
      ∃ u : Soc, exec (.frameDiscarded dt h why bytes) s = .next { s with soc := u.map (fun d => b.dev.follow d) } ∧
        (∃ e, u.dev.vlk.jrnl = (e :: b.dev.vlk.jrnl).take 256) ∧
        u.dev.get (pgVLK h.port) VLK.ERR_CNT_CODE_CNT = min 0xFFFF (b.dev.get (pgVLK h.port) VLK.ERR_CNT_CODE_CNT
          + if why = .code then 1 else 0) ∧
        u.dev.get (pgVLK h.port) VLK.ERR_CNT_CRC_CNT = min 0xFFFF (b.dev.get (pgVLK h.port) VLK.ERR_CNT_CRC_CNT
          + if why = .crc then 1 else 0) ∧ u.mem = s.soc.mem)) ∧
  (∀ s : State, s.soc.answers (pgVLK 0 + 0x120) = true →
    (s.soc.dev.vId = 0 → s.soc.dev.vlk.txn.isOpen = false → s.soc.dev.vUp 0 = true →
      ∃ u : Soc, exec .enum s = .next { s with soc := u } ∧
        u.dev.vlk.sent = [⟨0, 5, 3, 0, 0, 0, 32, s.soc.dev.vlk.seqTx.getD 4 0, [0]⟩] ∧ u.mem = s.soc.mem) ∧
    (s.soc.dev.vId ≠ 0 → ∃ u : Soc, exec .enum s = .next { s with soc := u } ∧
        u.dev.vlk.sent = [] ∧ u.mem = s.soc.mem)) ∧
  (∀ (p : Fin 2) (s : State), s.soc.answers (pgVLK p + 0x50) = true →
    ∃ u : Soc, exec (.vlkCntClr p) s = .next { s with soc := u } ∧
        u.dev.get (pgVLK p) VLK.ERR_CNT_CODE_CNT = 0 ∧ u.dev.get (pgVLK p) VLK.ERR_CNT_CRC_CNT = 0 ∧ u.mem = s.soc.mem)

/-- Every 100 us the manager sends SYNC on both rings with its time and CORR 0. A worker with one UP port forms OFFSET from a SYNC, shows its hops, is not isolated, and slews or steps as far as R488 says. DELAY_REQ goes out of each UP port every 10 ms and is answered with the turnaround; LINK_DLY takes the mean of the last 16 exchanges. A worker without SYNC for ISO_TIME is ISOLATED and holds where ISO_HOLD says so. HOLD_CLR clears the hold unless it is ISOLATED. -/
def Obligations.ArrayTimeIsTaken : Prop :=
  (∀ (dt : Nat) (s : State) (b : Soc), b = s.soc.after dt →
    (b.dev.vId = 0 → b.dev.vUp 0 = true → b.dev.vUp 1 = true → b.dev.vOn = true → b.dev.vlk.syncT + 40000 ≤ b.dev.time →
      ∃ u : Soc, exec (.syncSend dt) s = .next { s with soc := u } ∧
        u.dev.vlk.syncT = b.dev.time ∧ u.dev.vlk.sent = [
        ⟨0, 1, 0, 0, 0xFF, 0, 32, b.dev.vlk.seqTx.getD 0 0, natBytes 8 b.dev.time ++ natBytes 4 0⟩,
        ⟨1, 1, 0, 0, 0xFF, 1, 32, b.dev.vlk.seqTx.getD 0 0, natBytes 8 b.dev.time ++ natBytes 4 0⟩] ∧ u.mem = s.soc.mem) ∧
    (∀ (h : VHdr) (tM : BitVec 64) (corr : Word) (frac : BitVec 12) (residence : Word) (x : Int),
      x = (tM.toNat * 2500 + corr.toNat + b.dev.get (pgVLK h.port) VLK.LINK_DLY : Int) - (b.dev.time * 2500 + frac.toNat : Nat) →
      b.dev.vUp h.port = true → b.dev.vUp h.onward = false → b.dev.flag (pgVLK h.onward) VLK.PSTAT_TIMING = false →
      b.dev.vId ≠ 0 → h.src.toNat ≠ b.dev.vId → b.dev.seqAhead h 1 = true → h.hops.toNat ≤ 32 →
      ∃ u : Soc, exec (.syncReceived dt h tM corr frac residence) s = .next { s with soc := u.map (fun d => b.dev.follow d) } ∧
        u.dev.getI (pgVLK 0) VLK.OFFSET = satInt 32 x ∧
        u.dev.get (pgVLK 0) VLK.ALIGN_STAT_HOPS = 32 - h.hops.toNat ∧ u.dev.flag (pgVLK 0) VLK.ST_ISOLATED = false ∧
        u.dev.vlk.lastSync = b.dev.wall ∧
        (b.dev.get pgCLK CLK.REF_CFG_REF_SRC = 3 →
          (x.natAbs ≤ 250 → u.dev.flag (pgVLK 0) VLK.ALIGN_STAT_SLEWING = false) ∧
          (250 < x.natAbs → b.dev.anyRunning = true ∨ x.natAbs ≤ 1000000 →
            u.dev.flag (pgVLK 0) VLK.ALIGN_STAT_SLEWING = true ∧ u.dev.flag (pgVLK 0) VLK.ALIGN_STAT_STEPPED = false) ∧
          (1000000 < x.natAbs → b.dev.anyRunning = false → b.dev.vlk.txn.isOpen = false →
            u.dev.flag (pgVLK 0) VLK.ALIGN_STAT_STEPPED = true ∧ u.dev.clockHeld = true)) ∧ u.mem = s.soc.mem) ∧
    (∀ (frac : Vector (BitVec 5) 2), b.dev.vlk.dlyT + 4000000 ≤ b.dev.time → b.dev.vlk.t1.length = 2 →
      ∃ u : Soc, exec (.delayReqSend dt frac) s = .next { s with soc := u } ∧
        u.dev.vlk.dlyT = b.dev.time ∧
        (∀ p : Fin 2, b.dev.vUp p = true → u.dev.vlk.t1.getD p none = some (32 * b.dev.time + (frac[p]).toNat)) ∧
        u.dev.vlk.sent.map (fun f => (f.port, f.type, f.sub))
          = ((List.range 2).filter (fun p => b.dev.vUp p)).map (fun p => (p, 5, 1)) ∧ u.mem = s.soc.mem) ∧
    (∀ (h : VHdr) (turnaround : Word), b.dev.vUp h.port = true → h.src.toNat ≠ b.dev.vId → b.dev.seqAhead h 5 = true →
      (∃ u : Soc, exec (.delayReq dt h turnaround) s = .next { s with soc := u } ∧
        u.dev.get (pgVLK h.port) VLK.PSTAT_NEIGHBOUR = h.src.toNat ∧
        u.dev.flag (pgVLK h.port) VLK.PSTAT_NB_VALID = true ∧
        u.dev.vlk.sent = [⟨h.port, 5, 2, b.dev.vId, h.src.toNat, h.port, 32, b.dev.vlk.seqTx.getD 4 0, natBytes 4 turnaround.toNat⟩] ∧ u.mem = s.soc.mem) ∧
      (∀ (frac : BitVec 5) (t1 : Nat) (x : Int) (l : List Int) (n : Int), b.dev.vlk.t1.getD h.port none = some t1 →
        x = ((32 * b.dev.time + frac.toNat : Nat) - (t1 : Int)) * 2500 - 32 * (turnaround.toNat : Int) →
        l = (x :: b.dev.vlk.dly.getD h.port []).take 16 → n = l.foldl (fun a c => a + c) 0 →
        0 ≤ n → n < 64 * (l.length : Int) * 2 ^ 31 →
        ∃ u : Soc, exec (.delayResp dt h turnaround frac) s = .next { s with soc := u } ∧
        ∃ f < 2, (u.dev.get (pgVLK h.port) VLK.LINK_DLY : Int)
          = n / (64 * (l.length : Int)) + (if n % (64 * (l.length : Int)) = 0 then 0 else (f : Nat)) ∧ u.mem = s.soc.mem)) ∧
    (b.dev.vId ≠ 0 → b.dev.vOn = true → b.dev.flag (pgVLK 0) VLK.ST_ISOLATED = false →
      b.dev.vlk.lastSync + 40000 * b.dev.get (pgVLK 0) VLK.ARRAY_CFG_ISO_TIME ≤ b.dev.wall →
      ∃ u : Soc, exec (.isolated dt) s = .next { s with soc := u.map (fun d => b.dev.follow d) } ∧
        u.dev.flag (pgVLK 0) VLK.ST_ISOLATED = true ∧
        (b.dev.flag (pgVLK 0) VLK.ARRAY_CFG_ISO_HOLD = true → u.dev.flag (pgVLK 0) VLK.HOLD_STAT_HELD = true ∧
          (b.dev.flag (pgVLK 0) VLK.HOLD_STAT_HELD = false → u.dev.get (pgVLK 0) VLK.HOLD_STAT_CAUSE = 1)) ∧ u.mem = s.soc.mem)) ∧
  (∀ s : State, s.soc.answers (pgVLK 0 + 0x144) = true →
    (s.soc.dev.flag (pgVLK 0) VLK.ST_ISOLATED = false →
      ∃ u : Soc, exec .holdClr s = .next { s with soc := u.map (fun d => s.soc.dev.follow d) } ∧
        u.dev.flag (pgVLK 0) VLK.HOLD_STAT_HELD = false ∧ u.mem = s.soc.mem) ∧
    (s.soc.dev.flag (pgVLK 0) VLK.ST_ISOLATED = true →
      ∃ u : Soc, exec .holdClr s = .next { s with soc := u.map (fun d => s.soc.dev.follow d) } ∧
        u.dev.flag (pgVLK 0) VLK.HOLD_STAT_HELD = s.soc.dev.flag (pgVLK 0) VLK.HOLD_STAT_HELD ∧ u.mem = s.soc.mem))

/-- A named participant that passes the checks of R496 is READY with its commits armed; one that fails refuses and joins nothing. COMMIT in time takes the transaction to STATE 2, ABORT ends it, and HOLD latches a hold. A MODE frame with another TXN is answered with a NAK. At the boundary, with COMMIT before it, the armed groups load and the transaction is over in STATE 3; else the device holds and it is over in STATE 5. -/
def Obligations.ParticipantsVoteAndHold : Prop :=
  ∀ (dt : Nat) (s : State) (b : Soc), b = s.soc.after dt →
    (∀ (h : VHdr) (txn : Byte) (btype : Bool) (stage : BitVec 4) (bound : BitVec 64) (parts : Word),
      b.dev.frameFor h 3 → h.src = 0 → b.dev.vlk.txn.isOpen = false → bitOf parts.toNat b.dev.vId = true →
      (b.dev.prepareCheck btype stage.toNat bound.toNat = none →
        ∃ u : Soc, exec (.prepareFrame dt h txn btype stage bound parts) s = .next { s with soc := u.map (fun d => b.dev.follow d) } ∧
        u.dev.get (pgVLK 0) VLK.TXN_STAT_STATE = 1 ∧
        u.dev.get (pgVLK 0) VLK.TXN_STAT_TXN = txn.toNat ∧ u.dev.vlk.txn.isOpen = true ∧ u.dev.vlk.txn.joined = true ∧
        u.dev.vlk.txn.num = txn.toNat ∧ u.dev.vlk.txn.bound = bound.toNat ∧ u.dev.vlk.txn.armed = b.dev.armedCommits ∧
        ∃ f, u.dev.vlk.sent = [f] ∧ f.type = 4 ∧ f.sub = 1 ∧ f.dst = 0 ∧ u.mem = s.soc.mem) ∧
      (∀ c, b.dev.prepareCheck btype stage.toNat bound.toNat = some c →
        ∃ u : Soc, exec (.prepareFrame dt h txn btype stage bound parts) s = .next { s with soc := u.map (fun d => b.dev.follow d) } ∧
        u.dev.vlk.txn.isOpen = false ∧ u.dev.vlk.txn.joined = false ∧
        ∃ f, u.dev.vlk.sent = [f] ∧ f.type = 4 ∧ f.sub = 2 ∧ f.dst = 0 ∧ f.payload = [txn, 0] ++ natBytes 2 c ∧ u.mem = s.soc.mem)) ∧
    (∀ (h : VHdr) (txn : Byte), b.dev.frameOfTxn h txn →
      (b.dev.vlk.txn.isOpen = true → b.dev.vlk.txn.commitT = none →
        ∃ u : Soc, exec (.commitFrame dt h txn) s = .next { s with soc := u.map (fun d => b.dev.follow d) } ∧
        u.dev.get (pgVLK 0) VLK.TXN_STAT_STATE = 2 ∧ u.dev.vlk.txn.commitT = some b.dev.time ∧ u.mem = s.soc.mem) ∧
      (b.dev.vlk.txn.isOpen = true →
        ∃ u : Soc, exec (.abortFrame dt h txn) s = .next { s with soc := u.map (fun d => b.dev.follow d) } ∧
        u.dev.txnOver 4 ∧ u.dev.vlk.txn.armed = [] ∧ u.mem = s.soc.mem) ∧
      (∃ u : Soc, exec (.holdFrame dt h txn) s = .next { s with soc := u.map (fun d => b.dev.follow d) } ∧
        u.dev.get (pgVLK 0) VLK.TXN_STAT_STATE = 5 ∧ u.dev.flag (pgVLK 0) VLK.HOLD_STAT_HELD = true ∧
        (b.dev.flag (pgVLK 0) VLK.HOLD_STAT_HELD = false → u.dev.get (pgVLK 0) VLK.HOLD_STAT_CAUSE = 3) ∧ u.mem = s.soc.mem)) ∧
    (∀ (h : VHdr) (txn : Byte), b.dev.frameFor h 3 → h.src = 0 → b.dev.vlk.txn.num ≠ txn.toNat →
      ∃ u : Soc, exec (.commitFrame dt h txn) s = .next { s with soc := u.map (fun d => b.dev.follow d) } ∧
        u.dev.vlk.txn = b.dev.vlk.txn ∧
        ∃ f, u.dev.vlk.sent = [f] ∧ f.type = 4 ∧ f.sub = 5 ∧ f.payload = [0, 0] ++ natBytes 2 Err.VLK_BUSY ∧ u.mem = s.soc.mem) ∧
    (b.dev.vId ≠ 0 → b.dev.vlk.txn.isOpen = true → b.dev.vlk.txn.boundT = none → b.dev.vlk.txn.joined = true →
      (∀ c, b.dev.boundaryNow = (true, false) → b.dev.vlk.txn.commitT = some c → c < b.dev.time → b.dev.clockHeld = false →
        ∃ u : Soc, exec (.arrayBoundary dt) s = .next { s with soc := u.map (fun d => b.dev.follow d) } ∧
        u.dev.txnOver 3 ∧ u.dev.vlk.txn.armed = [] ∧
        (∀ k < 16, b.dev.vlk.txn.armed = [pgSTG k] → u.dev.flag (pgSTG k) COM.COMMIT_PENDING = false) ∧ u.mem = s.soc.mem) ∧
      (b.dev.boundaryNow.2 = true ∨ (b.dev.boundaryNow.1 = true ∧ b.dev.vlk.txn.commitT = none) →
        ∃ u : Soc, exec (.arrayBoundary dt) s = .next { s with soc := u.map (fun d => b.dev.follow d) } ∧
        u.dev.txnOver 5 ∧ u.dev.vlk.txn.armed = [] ∧ u.dev.flag (pgVLK 0) VLK.HOLD_STAT_HELD = true ∧ u.mem = s.soc.mem))

/-- PREPARE with the manager itself READY opens the next transaction and commits at once where it is the only participant. A participant outside MEMBERS aborts it; a worker opens none. The last READY commits, or aborts within 49.06 us of the boundary. REFUSE, ABORT and T_VOTE abort. T_ACK after the boundary the maps are written, and the transaction is over in STATE 3 where all applied, else in STATE 5. -/
def Obligations.TheManagerDecides : Prop :=
  (∀ (btype : Bool) (stage : BitVec 4) (s : State) (parts bound : Nat), s.soc.answers (pgVLK 0 + 0x120) = true →
    parts = s.soc.dev.get (pgVLK 0) VLK.PARTS →
    bound = (if btype then s.soc.dev.get (pgVLK 0) VLK.BOUND_LO
      else s.soc.dev.get (pgVLK 0) VLK.BOUND_LO + 2 ^ 32 * s.soc.dev.get (pgVLK 0) VLK.BOUND_HI) →
    (s.soc.dev.vId = 0 → s.soc.dev.prepareCheck btype stage.toNat bound = none → bitOf parts 0 = true →
      parts &&& s.soc.dev.get (pgVLK 0) VLK.MEMBERS = parts →
      ∃ u : Soc, exec (.prepare btype stage) s = .next { s with soc := u.map (fun d => s.soc.dev.follow d) } ∧
        u.dev.get (pgVLK 0) VLK.TXN_STAT_STATE = (if parts = 1 then 2 else 1) ∧
        u.dev.get (pgVLK 0) VLK.TXN_STAT_TXN = (s.soc.dev.vlk.txn.num + 1) % 256 ∧ u.dev.get (pgVLK 0) VLK.READY_MAP = 1 ∧
        u.dev.vlk.txn.isOpen = true ∧ u.dev.vlk.txn.armed = s.soc.dev.armedCommits ∧
        (parts = 1 → u.dev.vlk.txn.commitT = some s.soc.dev.time) ∧ u.mem = s.soc.mem) ∧
    (s.soc.dev.vId = 0 → s.soc.dev.vlk.txn.isOpen = false → parts &&& s.soc.dev.get (pgVLK 0) VLK.MEMBERS ≠ parts →
      ∃ u : Soc, exec (.prepare btype stage) s = .next { s with soc := u.map (fun d => s.soc.dev.follow d) } ∧
        u.dev.txnOver 4 ∧ u.mem = s.soc.mem) ∧
    (s.soc.dev.vId ≠ 0 →
      ∃ u : Soc, exec (.prepare btype stage) s = .next { s with soc := u.map (fun d => s.soc.dev.follow d) } ∧
        u.dev.vlk.txn = s.soc.dev.vlk.txn ∧ u.dev.vlk.sent = [] ∧ u.mem = s.soc.mem) ∧
    (s.soc.dev.vId = 0 → s.soc.dev.vlk.txn.isOpen = true →
      ∃ u : Soc, exec .arrayAbort s = .next { s with soc := u.map (fun d => s.soc.dev.follow d) } ∧
        u.dev.txnOver 4 ∧ u.dev.vlk.txn.armed = [] ∧ u.mem = s.soc.mem)) ∧
  (∀ (dt : Nat) (s : State) (b : Soc), b = s.soc.after dt →
    (∀ (h : VHdr) (txn : Byte), b.dev.ackOfTxn h txn →
      (∀ (r : Nat) (late : Bool), b.dev.get (pgVLK 0) VLK.TXN_STAT_STATE = 1 →
        r = b.dev.get (pgVLK 0) VLK.READY_MAP ||| 2 ^ h.src.toNat →
        late = (!b.dev.vlk.txn.angle && decide (b.dev.vlk.txn.bound < b.dev.time + 19624)) →
        (r &&& b.dev.vlk.txn.parts ≠ b.dev.vlk.txn.parts →
          ∃ u : Soc, exec (.ready dt h txn) s = .next { s with soc := u.map (fun d => b.dev.follow d) } ∧
        u.dev.get (pgVLK 0) VLK.READY_MAP = r ∧ u.dev.get (pgVLK 0) VLK.TXN_STAT_STATE = 1 ∧ u.mem = s.soc.mem) ∧
        (r &&& b.dev.vlk.txn.parts = b.dev.vlk.txn.parts →
          (late = false →
            ∃ u : Soc, exec (.ready dt h txn) s = .next { s with soc := u.map (fun d => b.dev.follow d) } ∧
        u.dev.get (pgVLK 0) VLK.READY_MAP = r ∧ u.dev.get (pgVLK 0) VLK.TXN_STAT_STATE = 2 ∧
        u.dev.vlk.txn.commitT = some b.dev.time ∧ u.mem = s.soc.mem) ∧
          (late = true → ∃ u : Soc, exec (.ready dt h txn) s = .next { s with soc := u.map (fun d => b.dev.follow d) } ∧
        u.dev.txnOver 4 ∧ u.mem = s.soc.mem)) ∧
        (∀ code : Half, (∀ p ∈ b.dev.vlk.txn.armed, p % 4096 = 0) →
          ∃ u : Soc, exec (.refuse dt h txn code) s = .next { s with soc := u.map (fun d => b.dev.follow d) } ∧
        u.dev.txnOver 4 ∧ u.dev.get (pgVLK 0) VLK.TXN_STAT_FIRST_REFUSER = h.src.toNat ∧
        u.dev.get (pgVLK 0) VLK.TXN_STAT_CODE = code.toNat ∧ u.mem = s.soc.mem)) ∧
      (∃ u : Soc, exec (.applied dt h txn) s = .next { s with soc := u.map (fun d => b.dev.follow d) } ∧
        u.dev.vlk.txn = { b.dev.vlk.txn with applied := b.dev.vlk.txn.applied ||| 2 ^ h.src.toNat } ∧ u.mem = s.soc.mem) ∧
      (∃ u : Soc, exec (.notApplied dt h txn) s = .next { s with soc := u.map (fun d => b.dev.follow d) } ∧
        u.dev.vlk.txn = { b.dev.vlk.txn with notApplied := b.dev.vlk.txn.notApplied ||| 2 ^ h.src.toNat } ∧ u.mem = s.soc.mem)) ∧
    (b.dev.vId = 0 → b.dev.vlk.txn.isOpen = true →
      (b.dev.get (pgVLK 0) VLK.TXN_STAT_STATE = 1 →
        b.dev.vlk.txn.voteT + 400 * b.dev.get (pgVLK 0) VLK.TIMERS_T_VOTE ≤ b.dev.time →
        ∃ u : Soc, exec (.voteTimeout dt) s = .next { s with soc := u.map (fun d => b.dev.follow d) } ∧
        u.dev.txnOver 4 ∧ u.mem = s.soc.mem) ∧
      (∀ t, b.dev.get (pgVLK 0) VLK.TXN_STAT_STATE = 2 → b.dev.vlk.txn.boundT = some t →
        t + 400 * b.dev.get (pgVLK 0) VLK.TIMERS_T_ACK ≤ b.dev.time → b.dev.vlk.txn.applied < 2 ^ 32 →
        ∃ u : Soc, exec (.ackTimeout dt) s = .next { s with soc := u.map (fun d => b.dev.follow d) } ∧
        u.dev.get (pgVLK 0) VLK.APPLIED_MAP = b.dev.vlk.txn.applied ∧
        u.dev.txnOver (if b.dev.vlk.txn.applied &&& b.dev.vlk.txn.parts = b.dev.vlk.txn.parts then 3 else 5) ∧
        (b.dev.vlk.txn.applied &&& b.dev.vlk.txn.parts ≠ b.dev.vlk.txn.parts → b.dev.vlk.txn.joined = true →
          u.dev.flag (pgVLK 0) VLK.HOLD_STAT_HELD = true) ∧ u.mem = s.soc.mem)))

/-- PLACE of a context that qualifies, on a member, makes PLACE_STAT busy; while a transaction or a move runs it is refused with VLK_BUSY. A refusal of the target ends the move with VLK_PLACE. An accepted move sends the 16 segments of the context, which is then away on a remote stream. A lost guest is marked once. MAILBOX words of a guest go to the mailbox of its loop or to the mirror; a CONTEXT segment joins the image of its home. -/
def Obligations.ContextsMoveOverTheLink : Prop :=
  (∀ (ctx : BitVec 6) (target : BitVec 5) (s : State), s.soc.answers (pgVLK 0 + 0x148) = true →
    (s.soc.dev.vlk.txn.isOpen = false → s.soc.dev.flag (pgVLK 0) VLK.PLACE_STAT_BUSY = false → target.toNat ≠ s.soc.dev.vId →
      s.soc.dev.placeable ctx.toNat = true → bitOf (s.soc.dev.get (pgVLK 0) VLK.MEMBERS) target.toNat = true →
      ∃ u : Soc, exec (.place ctx target) s = .next { s with soc := u } ∧
        u.dev.flag (pgVLK 0) VLK.PLACE_STAT_BUSY = true ∧ u.dev.get (pgVLK 0) VLK.PLACE_STAT_CODE = 0 ∧
        u.dev.vlk.place = some (ctx.toNat, target.toNat) ∧ u.mem = s.soc.mem) ∧
    (s.soc.dev.vlk.txn.isOpen = true ∨ s.soc.dev.flag (pgVLK 0) VLK.PLACE_STAT_BUSY = true →
      ∃ u : Soc, exec (.place ctx target) s = .next { s with soc := u } ∧
        u.dev.get (pgVLK 0) VLK.PLACE_STAT_CODE = Err.VLK_BUSY ∧ u.dev.vlk.place = s.soc.dev.vlk.place ∧ u.mem = s.soc.mem)) ∧
  (∀ (dt : Nat) (s : State) (b : Soc), b = s.soc.after dt →
    (∀ x t, b.dev.vlk.place = some (x, t) → t ≠ b.dev.vId → x < 64 →
      (∃ u : Soc, exec (.placeDone dt false) s = .next { s with soc := u } ∧
        u.dev.flag (pgVLK 0) VLK.PLACE_STAT_BUSY = false ∧ u.dev.vlk.place = none ∧
        u.dev.get (pgVLK 0) VLK.PLACE_STAT_CODE = Err.VLK_PLACE ∧ u.dev.vlk.away = b.dev.vlk.away ∧ u.mem = s.soc.mem) ∧
      (b.dev.flagAt pgCTX CTX.CSTAT_RUNNING x = false → b.dev.vUp 0 = true →
        ∃ u : Soc, exec (.placeDone dt true) s = .next { s with soc := u } ∧
        u.dev.flag (pgVLK 0) VLK.PLACE_STAT_BUSY = false ∧ u.dev.vlk.place = none ∧
        u.dev.awayAt x = some ⟨x, t, false⟩ ∧ u.dev.ctxStream x / 16 = 15 ∧ u.dev.vlk.sent.length = 16 ∧ u.mem = s.soc.mem)) ∧
    (∀ (ctx : BitVec 6) (a : AwayCtx), b.dev.awayAt ctx.toNat = some a → a.lost = false →
      ∃ u : Soc, exec (.guestLost dt ctx) s = .next { s with soc := u } ∧
        u.dev.awayAt ctx.toNat = some { a with lost := true } ∧ u.dev.flag (pgVLK 0) VLK.IRQ_GUEST_LOST = true ∧ u.mem = s.soc.mem) ∧
    (∀ (h : VHdr) (home ctx loop : Byte) (words : Vector Half 8), b.dev.frameFor h 2 →
      (home.toNat = b.dev.vId → (b.dev.awayAt ctx.toNat).isSome = true →
        ∃ u : Soc, exec (.mailbox dt h home ctx loop words) s = .next { s with soc := u } ∧
        ∀ i : Fin 8, mapGet (fun _ => 0) u.dev.mbox (8 * loop.toNat + i) = (words[i]).toNat ∧ u.mem = s.soc.mem) ∧
      (home.toNat ≠ b.dev.vId →
        ∃ u : Soc, exec (.mailbox dt h home ctx loop words) s = .next { s with soc := u } ∧
        (∀ i : Fin 8,
          mapGet (fun _ => 0) u.dev.vlk.mirror (8 * (256 * home.toNat + loop.toNat) + i) = (words[i]).toNat) ∧
        u.dev.mbox = b.dev.mbox ∧ u.mem = s.soc.mem)) ∧
    (∀ (h : VHdr) (seg old : List Byte), b.dev.frameFor h 2 → (h.src.toNat, old) ∈ b.dev.vlk.guest.take 1 → old.length < 4096 →
      ∃ u : Soc, exec (.context dt h seg) s = .next { s with soc := u } ∧
        (h.src.toNat, old ++ seg) ∈ u.dev.vlk.guest ∧ u.mem = s.soc.mem))

/-- A malformed or poisoned packet and a reserved opcode write nothing and are journalled. xSPI reads answer the words of memory, READ of DRAM answers zeros, and a length off a multiple of 4 is a protocol error. An unrefused xSPI write stores its bytes and no others. A read of an uncorrectable word is counted and poisoned. TIME_LO and GPTP_NS_LO latch the upper word. VECMAP drops vector 0 but for page 0; a latch clears where its request is 0. A link change shows itself; a scrub counts what it corrects and marks what it cannot. -/
def Obligations.HostAccessesActAndAnswer : Prop :=
  (∀ s : State,
    (s.soc.reaches (.bar0 0) = true →
      (∀ bytes : List Byte, ∃ u : Soc, exec (.pciePoison bytes) s = .next { s with soc := u } ∧
        u.dev.get pgPCIE PCIE.PROT_CNT = min 0xFFFFFFFF (s.soc.dev.get pgPCIE PCIE.PROT_CNT + 1) ∧
        u.dev.flag pgPCIE PCIE.IRQ_PROTOCOL = true ∧ ∃ e, u.dev.vlk.jrnl = (e :: s.soc.dev.vlk.jrnl).take 256 ∧ u.mem = s.soc.mem) ∧
      (∃ u : Soc, exec .pcieTlp s = .next { s with soc := u } ∧
        u.dev.get pgPCIE PCIE.PROT_CNT = min 0xFFFFFFFF (s.soc.dev.get pgPCIE PCIE.PROT_CNT + 1) ∧
        u.dev.flag pgPCIE PCIE.IRQ_PROTOCOL = true ∧ ∃ e, u.dev.vlk.jrnl = (e :: s.soc.dev.vlk.jrnl).take 256 ∧ u.mem = s.soc.mem)) ∧
    (s.soc.reaches (.xspi 0) = true → ∀ op : Half,
      ∃ u : Soc, exec (.xspiReservedOpcode op) s = .next { s with soc := u } ∧
        u.dev.flag pgXSPI XSPI.IRQ_PROTOCOL = true ∧
        ∃ e, u.dev.vlk.jrnl = (e :: s.soc.dev.vlk.jrnl).take 256 ∧ u.mem = s.soc.mem) ∧
    (∀ (a : Word) (n : BitVec 9) (k : Nat), s.soc.reaches (.xspi a) = true →
      (n.toNat = 4 * k → a.toNat % 4 = 0 → s.soc.dev.memOn a.toNat = true → (∀ i < k, s.soc.bad (a.toNat + 4 * i) = false) →
        (inMemory a.toNat (4 * k) = true →
          ∃ u : Soc, exec (.xspiReadSlow a n) s = .next { s with soc := u } ∧
        u.dev.reply = (List.range k).map (fun i => BitVec.ofNat 32 (s.soc.word (a.toNat + 4 * i))) ∧ u.mem = s.soc.mem) ∧
        (inSram a.toNat (4 * k) = true →
          ∃ u : Soc, exec (.xspiRead a n) s = .next { s with soc := u } ∧
        u.dev.reply = (List.range k).map (fun i => BitVec.ofNat 32 (s.soc.word (a.toNat + 4 * i))) ∧ u.mem = s.soc.mem)) ∧
      (inDram a.toNat 1 = true →
        ∃ u : Soc, exec (.xspiRead a n) s = .next { s with soc := u } ∧
        u.dev.reply = List.replicate (n.toNat / 4) 0 ∧ u.dev.flag pgXSPI XSPI.IRQ_PROTOCOL = true ∧ u.mem = s.soc.mem) ∧
      (n.toNat % 4 ≠ 0 → ∃ u : Soc, exec (.xspiReadSlow a n) s = .next { s with soc := u } ∧
        u.dev.flag pgXSPI XSPI.IRQ_PROTOCOL = true ∧ u.mem = s.soc.mem)) ∧
    (∀ (a : Word) (bytes : List Byte) (k : Nat), s.soc.reaches (.xspi a) = true → bytes.length = 4 * k → a.toNat % 4 = 0 →
      inMemory a.toNat (4 * k) = true → s.soc.dev.memOn a.toNat = true →
      ((∀ i < k, s.soc.dev.memRefusal (a.toNat + 4 * i) = none ∧ s.soc.dev.limitWord (a.toNat + 4 * i) = false) →
        ∃ u : Soc, exec (.xspiWrite a bytes) s = .next { s with soc := u.map (fun d => s.soc.dev.follow d) } ∧
        memGetList u.mem a.toNat (4 * k) = bytes ∧ s.soc.keepsBytes u a.toNat (4 * k)) ∧
      (∀ pg c, k = 1 → s.soc.dev.limitWord a.toNat = false → s.soc.dev.memRefusal a.toNat = some (pg, c) →
        ∃ u : Soc, exec (.xspiWrite a bytes) s = .next { s with soc := u.map (fun d => s.soc.dev.follow d) } ∧
        (s.soc.dev.get pg COM.ERRCODE_CODE = 0 → u.dev.get pg COM.ERRCODE_CODE = c) ∧ u.mem = s.soc.mem)) ∧
    (∀ (at_ : HostAddr) (a : Nat), s.soc.reaches at_ = true → at_.target = .mem a → s.soc.dev.memOn (a / 4 * 4) = true →
      (s.soc.bad (a / 4 * 4) = false →
        ∃ u : Soc, exec (.hostMemoryRead at_) s = .next { s with soc := u } ∧
        u.dev.reply = [BitVec.ofNat 32 (s.soc.word (a / 4 * 4))] ∧ u.dev.poison = false ∧ u.mem = s.soc.mem) ∧
      (s.soc.bad (a / 4 * 4) = true →
        ∃ u : Soc, exec (.hostMemoryRead at_) s = .next { s with soc := u } ∧
        u.dev.poison = !at_.isXspi ∧ (at_.isXspi = true → u.dev.reply = [0xFFFFFFFF]) ∧
        u.dev.get pgDBG DBG.ECC_UE_CNT = min 0xFFFFFFFF (s.soc.dev.get pgDBG DBG.ECC_UE_CNT + 1) ∧ u.mem = s.soc.mem)) ∧
    (s.soc.answers TimeReg.counter.address = true →
      ∃ u : Soc, exec (.timeLoRead .counter) s = .next { s with soc := u } ∧
        u.dev.reply = [BitVec.ofNat 32 s.soc.dev.time] ∧ u.dev.clk.timeHi = s.soc.dev.time / 2 ^ 32 ∧ u.mem = s.soc.mem) ∧
    (∀ p : Fin 2, s.soc.answers (TimeReg.gptp p).address = true →
      ∃ u : Soc, exec (.timeLoRead (.gptp p)) s = .next { s with soc := u } ∧
        u.dev.reply = [BitVec.ofNat 32 (s.soc.dev.gptpHalf p / 2)] ∧
        (u.dev.eth[p]).gptpHi = s.soc.dev.gptpHalf p / 2 / 2 ^ 32 % 2 ^ 32 ∧ u.mem = s.soc.mem)) ∧
  (∀ (j : Fin 64) (w : Word) (s : State), s.soc.answers (pgPCIE + 0x100 + 4 * j.val) = true →
    ((∀ k < 4, bitOf w.toNat (8 * k + 7) = true → wordField w (8 * k) 6 = 0 → j.val = 0 ∧ k = 0) →
      ∃ u : Soc, exec (.vecmapWrite j w) s = .next { s with soc := u } ∧
        u.dev.getAt pgPCIE PCIE.VECMAP j = w.toNat &&& 0xBFBFBFBF ∧ u.mem = s.soc.mem) ∧
    (∀ k < 4, bitOf w.toNat (8 * k + 7) = true → wordField w (8 * k) 6 = 0 → ¬ (j.val = 0 ∧ k = 0) →
      ∃ u : Soc, exec (.vecmapWrite j w) s = .next { s with soc := u } ∧
        bitOf (u.dev.getAt pgPCIE PCIE.VECMAP j) (8 * k + 7) = false ∧ u.mem = s.soc.mem)) ∧
  (∀ (j : Fin 2) (w : Word) (s : State), s.soc.answers (pgPCIE + 0x40 + 4 * j.val) = true →
    ∃ u : Soc, exec (.vlatchClear j w) s = .next { s with soc := u } ∧
        ∀ i < 32, bitOf (u.dev.getAt pgPCIE PCIE.VLATCH j) i
          = (bitOf (s.soc.dev.getAt pgPCIE PCIE.VLATCH j) i && (!bitOf w.toNat i || s.soc.dev.vecReq (32 * j.val + i))) ∧ u.mem = s.soc.mem) ∧
  (∀ (dt : Nat) (s : State) (b : Soc), b = s.soc.after dt →
    (∀ (up : Bool) (speed width : BitVec 2), b.dev.hostXspi = false → b.dev.inReset 11 = false → b.dev.gated .pcie 0 = false →
      ∃ u : Soc, exec (.pcieLinkChange dt up speed width) s = .next { s with soc := u } ∧
        u.dev.flag pgPCIE PCIE.ST_LINK_UP = up ∧
        u.dev.get pgPCIE PCIE.ST_SPEED = (if up then speed.toNat else 0) ∧
        u.dev.get pgPCIE PCIE.ST_WIDTH = (if up then width.toNat else 0) ∧ u.mem = s.soc.mem) ∧
    (∀ ce ue : List Word, b.dev.fwRuns = true →
      (∃ u : Soc, exec (.sramScrub dt ce ue) s = .next { s with soc := u } ∧
        u.dev.get pgDBG DBG.ECC_CE_CNT
          = min 0xFFFFFFFF (b.dev.get pgDBG DBG.ECC_CE_CNT + (ce.filter (fun a => inSram a.toNat 1)).length) ∧
        (∀ a, u.bad a = (b.bad a || ue.any (fun x => inSram x.toNat 1 && x.toNat / 4 == a / 4))) ∧ u.mem = s.soc.mem) ∧
      (b.dev.flag pgBOOT BOOT.ST_NO_DRAM = false →
        ∃ u : Soc, exec (.dramScrub dt ce ue) s = .next { s with soc := u } ∧
        u.dev.get pgDBG DBG.ECC_CE_CNT
          = min 0xFFFFFFFF (b.dev.get pgDBG DBG.ECC_CE_CNT + (ce.filter (fun a => inDram a.toNat 1)).length) ∧
        (∀ a, u.bad a = (b.bad a || ue.any (fun x => inDram x.toNat 1 && x.toNat / 4 == a / 4))) ∧ u.mem = s.soc.mem)))

/-- A frame with a bad FCS or length is counted. A frame for the port goes into the buffer of its own descriptor with length and time stamp, or is dropped and counted. 802.1AS sets the gPTP time. TX_DONE gives the descriptor back. A link change shows LINK and AN_DONE. A CAN frame that a filter takes joins the FIFO of 32, or overruns; POP takes one. The request with the lowest identifier is served. Bus errors set the counters and the state; AUTO_RECOVER clears them. A legal flash command is busy until FL_DONE. -/
def Obligations.FramesAndFlashAreServed : Prop :=
  (∀ (dt : Nat) (s : State) (b : Soc) (p : Fin 2), b = s.soc.after dt →
    (b.dev.enabled (pgETH p) = true → b.dev.gated .eth p = false → b.dev.inReset 13 = false →
      (∀ (f : List Byte) (fcsOk : Bool) (age : Half) (sync : Option (BitVec 64 × Word)),
        (fcsOk = false ∨ f.length < 60 ∨ 1518 < f.length →
          ∃ u : Soc, exec (.ethRxFrame dt p f fcsOk age sync) s = .next { s with soc := u.map (fun d => b.dev.follow d) } ∧
        u.dev.get (pgETH p) ETH.CNT_ERR_CNT = min 0xFFFF (b.dev.get (pgETH p) ETH.CNT_ERR_CNT + 1) ∧ u.mem = s.soc.mem) ∧
        (fcsOk = true → 60 ≤ f.length → f.length ≤ 1518 → b.dev.ethSafe p = false →
          (∀ o r, (etherType f).1 = 0x88F7 → sync = some (o, r) → b.dev.fwRuns = true →
            ∃ u : Soc, exec (.ethRxFrame dt p f fcsOk age sync) s = .next { s with soc := u.map (fun d => b.dev.follow d) } ∧
        u.dev.flag (pgETH p) ETH.ST_PTP_LOCKED = true ∧
        u.dev.get (pgETH p) ETH.GPTP_RATE = r.toNat ∧ (u.dev.eth[p]).gptpOfs = o.toNat ∧ u.mem = s.soc.mem) ∧
          (∀ hd a buf own, (etherType f).1 ≠ 0x88F7 → (etherType f).1 ≠ 0x8808 → b.dev.pwrMode ≠ 2 → f.take 6 = b.dev.mac (pgETH p) →
            hd = b.dev.get (pgETH p) ETH.RX_HEAD → a = b.dev.get (pgETH p) ETH.RX_RING + 16 * hd → buf = b.word a →
            own = (inRing a 16 && bitOf (memGet b.mem (a + 6)).toNat 7 && inRing buf 1536) →
            (own = true → b.dev.flag pgSEC SEC.ST_CFG_VERIFIED = false → (buf + f.length ≤ a ∨ a + 16 ≤ buf) →
              ∃ u : Soc, exec (.ethRxFrame dt p f fcsOk age sync) s = .next { s with soc := u.map (fun d => b.dev.follow d) } ∧
        memGetList u.mem buf f.length = f ∧
        memGetList u.mem (a + 4) 12 = natBytes 2 f.length ++ [0, 0] ++ natBytes 8 (b.dev.time - age.toNat) ∧
        u.dev.get (pgETH p) ETH.RX_HEAD = (if b.dev.get (pgETH p) ETH.RX_LEN ≤ hd + 1 then 0 else hd + 1) % 4096 ∧
        u.dev.flag (pgETH p) ETH.IRQ_RX = true ∧ (∀ x, (x < buf ∨ buf + f.length ≤ x) → (x < a + 4 ∨ a + 16 ≤ x) → memGet u.mem x = memGet b.mem x)) ∧
            (own = false →
              ∃ u : Soc, exec (.ethRxFrame dt p f fcsOk age sync) s = .next { s with soc := u.map (fun d => b.dev.follow d) } ∧
        u.dev.get (pgETH p) ETH.CNT_DROP_CNT = min 0xFFFF (b.dev.get (pgETH p) ETH.CNT_DROP_CNT + 1) ∧
        u.dev.flag (pgETH p) ETH.IRQ_RX_DROP = true ∧ u.mem = s.soc.mem)))) ∧
      (∀ (age : Half) (n a : Nat), n = (b.dev.eth[p]).txNext → a = b.dev.get (pgETH p) ETH.TX_RING + 16 * n →
        n ≠ b.dev.get (pgETH p) ETH.TX_TAIL → inRing a 16 = true → b.dev.flag pgSEC SEC.ST_CFG_VERIFIED = false → bitOf (memGet b.mem (a + 6)).toNat 7 = true →
        ∃ u : Soc, exec (.ethTxDone dt p age) s = .next { s with soc := u } ∧
        bitOf (memGet u.mem (a + 6)).toNat 7 = false ∧
        memGetList u.mem (a + 8) 8 = natBytes 8 (b.dev.time - age.toNat) ∧
        (u.dev.eth[p]).txNext = (if b.dev.get (pgETH p) ETH.TX_LEN ≤ n + 1 then 0 else n + 1) ∧
        u.dev.flag (pgETH p) ETH.IRQ_TX_DONE = true ∧ b.keepsBytes u (a + 6) 10) ∧
      (∀ up anDone : Bool, ∃ u : Soc, exec (.ethLinkChange dt p up anDone) s = .next { s with soc := u } ∧
        u.dev.flag (pgETH p) ETH.ST_LINK = up ∧
        u.dev.flag (pgETH p) ETH.ST_AN_DONE = (anDone && b.dev.flag (pgETH p) ETH.CFG_AN_EN) ∧ u.mem = s.soc.mem)) ∧
    (b.dev.flag (pgETH p) ETH.ST_PTP_LOCKED = true → b.dev.fwRuns = true →
      ∃ u : Soc, exec (.ptpSyncLoss dt p) s = .next { s with soc := u } ∧
        u.dev.flag (pgETH p) ETH.ST_PTP_LOCKED = false ∧ u.dev.flag (pgETH p) ETH.IRQ_PTP_LOSS = true ∧ u.mem = s.soc.mem)) ∧
  (∀ (p : Fin 2) (tail : BitVec 12) (s : State), s.soc.answers (pgETH p + 0x60) = true →
    ∃ u : Soc, exec (.txTailWrite p tail) s = .next { s with soc := u } ∧
        u.dev.get (pgETH p) ETH.TX_TAIL = tail.toNat ∧ u.mem = s.soc.mem) ∧
  (∀ (dt : Nat) (s : State) (b : Soc) (c : Fin 4), b = s.soc.after dt →
    (b.dev.canIdle c = false →
      (∀ (xtd : Bool) (id : BitVec 29) (dlc : Word) (data : List Byte), b.dev.canSafe c = false → b.dev.pwrMode ≠ 2 →
        (∃ i < 16, b.dev.canFilter (pgCAN c) i (b2n xtd * 2 ^ 31 + id.toNat) = true) →
        ((b.dev.can[c]).length < 32 →
          ∃ u : Soc, exec (.canRxFrame dt c xtd id dlc data) s = .next { s with soc := u.map (fun d => b.dev.follow d) } ∧
        u.dev.can[c] = b.dev.can[c] ++ [[b2n xtd * 2 ^ 31 + id.toNat, dlc.toNat]
            ++ (List.range 16).map (fun i => listNat ((data ++ List.replicate 64 0).take 64) (4 * i) 4)] ∧
        u.dev.get (pgCAN c) CAN.FIFO_CNT = (b.dev.can[c]).length + 1 ∧ u.dev.flag (pgCAN c) CAN.IRQ_RX = true ∧ u.mem = s.soc.mem) ∧
        (32 ≤ (b.dev.can[c]).length →
          ∃ u : Soc, exec (.canRxFrame dt c xtd id dlc data) s = .next { s with soc := u.map (fun d => b.dev.follow d) } ∧
        u.dev.can[c] = b.dev.can[c] ∧ u.dev.flag (pgCAN c) CAN.IRQ_FIFO_OVR = true ∧ u.mem = s.soc.mem)) ∧
      (∀ j, b.dev.canNext (pgCAN c) = some j →
        ∃ u : Soc, exec (.canTxDone dt c) s = .next { s with soc := u } ∧
        bitOf (u.dev.get (pgCAN c) CAN.TX_REQ) j = false ∧
        (∀ i < 8, i ≠ j → bitOf (u.dev.get (pgCAN c) CAN.TX_REQ) i = bitOf (b.dev.get (pgCAN c) CAN.TX_REQ) i) ∧
        u.dev.flag (pgCAN c) CAN.IRQ_TX_DONE = true ∧ u.mem = s.soc.mem) ∧
      (∀ (tec rec : Byte) (busOff : Bool), ∃ u : Soc, exec (.canBusError dt c tec rec busOff) s = .next { s with soc := u } ∧
        u.dev.get (pgCAN c) CAN.ECR_TEC = tec.toNat ∧
        u.dev.get (pgCAN c) CAN.ECR_REC = rec.toNat ∧
        u.dev.get (pgCAN c) CAN.ST_STATE = (if busOff then 2 else b2n (decide (128 ≤ tec.toNat) || decide (128 ≤ rec.toNat))) ∧ u.mem = s.soc.mem)) ∧
    (b.dev.get (pgCAN c) CAN.ST_STATE = 2 → b.dev.flag (pgCAN c) CAN.CFG_AUTO_RECOVER = true → b.dev.enabled (pgCAN c) = true →
      b.dev.gated .can c = false → b.dev.inReset 14 = false →
      ∃ u : Soc, exec (.canRecover dt c) s = .next { s with soc := u } ∧
        u.dev.get (pgCAN c) CAN.ST_STATE = 0 ∧ u.dev.get (pgCAN c) CAN.ECR_TEC = 0 ∧
        u.dev.get (pgCAN c) CAN.ECR_REC = 0 ∧ u.mem = s.soc.mem)) ∧
  (∀ (c : Fin 4) (s : State),
    (∀ bits : Byte, s.soc.answers (pgCAN c + 0x58) = true →
      ∃ u : Soc, exec (.canTxReq c bits) s = .next { s with soc := u } ∧
        u.dev.get (pgCAN c) CAN.TX_REQ = s.soc.dev.get (pgCAN c) CAN.TX_REQ ||| bits.toNat ∧ u.mem = s.soc.mem) ∧
    (s.soc.answers (pgCAN c + 0x54) = true → (s.soc.dev.can[c]).length ≤ 32 →
      ∃ u : Soc, exec (.rxPop c) s = .next { s with soc := u } ∧
        u.dev.can[c] = (s.soc.dev.can[c]).drop 1 ∧
        u.dev.get (pgCAN c) CAN.FIFO_CNT = (s.soc.dev.can[c]).length - 1 ∧ u.mem = s.soc.mem)) ∧
  (∀ (s : State) (ofs addr len : Nat), s.soc.answers (pgXSPI + 0x40) = true → ofs = s.soc.dev.get pgXSPI XSPI.FL_OFS →
    addr = s.soc.dev.get pgXSPI XSPI.FL_ADDR → len = s.soc.dev.get pgXSPI XSPI.FL_LEN →
    (s.soc.dev.flag pgXSPI XSPI.ST_FL_BUSY = false → s.soc.dev.flag pgBOOT BOOT.ST_DONE = true →
      (0x100000 ≤ ofs → ofs + len ≤ 0x1100000 → len % 256 = 0 → inHostArea addr len = true →
        (∃ u : Soc, exec .flRead s = .next { s with soc := u } ∧
        u.dev.flag pgXSPI XSPI.ST_FL_BUSY = true ∧ u.dev.fl = some ⟨0, ofs, addr, len⟩ ∧ u.mem = s.soc.mem) ∧
        (∃ u : Soc, exec .flProgram s = .next { s with soc := u } ∧
        u.dev.flag pgXSPI XSPI.ST_FL_BUSY = true ∧ u.dev.fl = some ⟨1, ofs, addr, len⟩ ∧ u.mem = s.soc.mem)) ∧
      (0x100000 ≤ ofs → ofs < 0x1100000 →
        ∃ u : Soc, exec .flErase s = .next { s with soc := u } ∧
        u.dev.flag pgXSPI XSPI.ST_FL_BUSY = true ∧ u.dev.fl = some ⟨2, ofs / 65536 * 65536, addr, 65536⟩ ∧ u.mem = s.soc.mem)) ∧
    (s.soc.dev.flag pgXSPI XSPI.ST_FL_BUSY = true →
      ∃ u : Soc, exec .flErase s = .next { s with soc := u } ∧
        u.dev.get pgXSPI XSPI.FL_CODE = Err.FL_CMD ∧ u.dev.fl = s.soc.dev.fl ∧ u.mem = s.soc.mem)) ∧
  (∀ (dt : Nat) (s : State) (b : Soc) (j : FlashJob), b = s.soc.after dt → b.dev.fl = some j →
    (∃ u : Soc, exec (.flDone dt) s = .next { s with soc := u } ∧ u.dev.fl = none ∧
      u.dev.flag pgXSPI XSPI.ST_FL_BUSY = false ∧ u.dev.get pgXSPI XSPI.FL_CODE = 0 ∧ u.dev.flag pgXSPI XSPI.IRQ_FL_DONE = true ∧
      (j.cmd = 0 → b.dev.flag pgSEC SEC.ST_CFG_VERIFIED = false →
        memGetList u.mem j.addr j.len = memGetList b.flash j.ofs j.len ∧ b.keepsBytes u j.addr j.len ∧ u.flash = b.flash) ∧
      (j.cmd = 1 → u.mem = b.mem ∧
        (∀ i < j.len, memGet b.flash (j.ofs + i) = 0xFF → memGet u.flash (j.ofs + i) = memGet b.mem (j.addr + i)) ∧
        (∀ x, (x < j.ofs ∨ j.ofs + j.len ≤ x) → memGet u.flash x = memGet b.flash x)) ∧
      (j.cmd = 2 → u.mem = b.mem ∧
        (∀ x, memGet u.flash x = if j.ofs ≤ x ∧ x < j.ofs + 65536 then 0xFF else memGet b.flash x))))

/-- The tenth check in a row that selects the same slice requests it: the copy starts, or waits for the copy that runs. A copy that is done stands in the loading slot, and a waiting request starts. ARM of a legal configuration with a buffer starts at record 0. TRIG_SW triggers an armed recorder. A record goes to its place in the ring, and the first after the trigger is the trigger record. DONE comes when the window is full and gives its start; the unroll rotates the buffer to that start. -/
def Obligations.PromotionAndTheRecorderRun : Prop :=
  (∀ (dt : Nat) (s : State) (b : Soc) (r : Fin 32) (t : TableDecl), b = s.soc.after dt → b.dev.tableAt r = some t →
    (∀ (k : Nat) (x : StageDecl) (n sl same : Nat), b.dev.promoStage r = some k → b.dev.stageDecl k = some x →
      b.dev.flagAt pgDBG DBG.PROMO_MODE r = false → t.slice ≠ 0 →
      (b.dev.promo[r]).checkT ≤ b.dev.time → n = t.size / t.slice → n ≤ 256 →
      sl = (if x.fMax = 0 then n - 1 else min (n - 1) ((b.dev.est[fin16 k]).omega.natAbs * n / x.fMax)) →
      same = (if (b.dev.promo[r]).lastS = sl then min 10 ((b.dev.promo[r]).same + 1) else 1) →
      ∃ u : Soc, exec (.promotionCheck dt r) s = .next { s with soc := u } ∧
        (u.dev.promo[r]).lastS = sl ∧ (u.dev.promo[r]).same = same ∧
        (u.dev.promo[r]).checkT = (b.dev.time / 400000 + 1) * 400000 ∧
        (same < 10 → (u.dev.promo[r]).copy = (b.dev.promo[r]).copy) ∧
        (same = 10 → (b.dev.promo[r]).asked = false →
          u.dev.getAt pgDBG DBG.PROMO_REQ r = sl ∧ (u.dev.promo[r]).asked = true ∧
          ((b.dev.promo[r]).copy = none → (u.dev.promo[r]).copy = some (sl, b.dev.time + 800 + (t.slice + 1) / 2) ∧
            u.dev.flagAt pgDBG DBG.PROMO_LOADING r = true) ∧
          (∀ q, (b.dev.promo[r]).copy = some q → (u.dev.promo[r]).copy = some q ∧ (u.dev.promo[r]).wait = some sl)) ∧ u.mem = s.soc.mem) ∧
    (∀ sl t1 a, (b.dev.promo[r]).copy = some (sl, t1) → t1 ≤ b.dev.time → a = t.slotAddr (1 - (b.dev.promo[r]).slot) →
      (∀ w, (b.dev.promo[r]).wait = some w →
        ∃ u : Soc, exec (.sliceCopyDone dt r) s = .next { s with soc := u } ∧
        memGetList u.mem a t.slice = memGetList b.mem (t.home + sl * t.slice) t.slice ∧
        (u.dev.promo[r]).copy = some (w, b.dev.time + 800 + (t.slice + 1) / 2) ∧ (u.dev.promo[r]).wait = none ∧ b.keepsBytes u a t.slice) ∧
      ((b.dev.promo[r]).wait = none → t.kind ≠ 2 →
        ∃ u : Soc, exec (.sliceCopyDone dt r) s = .next { s with soc := u } ∧
        memGetList u.mem a t.slice = memGetList b.mem (t.home + sl * t.slice) t.slice ∧
        (u.dev.promo[r]).copy = none ∧ (u.dev.promo[r]).ready = some sl ∧
        u.dev.flagAt pgDBG DBG.PROMO_LOADING r = false ∧ b.keepsBytes u a t.slice))) ∧
  (∀ s : State, s.soc.answers (pgCAP + 0x58) = true →
    (s.soc.dev.capBusy = false → s.soc.dev.tables.any (fun t => t.kind == 4) = true →
      s.soc.dev.flag pgBOOT BOOT.ST_NO_DRAM = false → s.soc.dev.capCfgBad = false →
      ∃ u : Soc, exec .capArm s = .next { s with soc := u } ∧
        u.dev.get pgCAP CAP.ST_STATE = 1 ∧ u.dev.cap = { CapH.initial with armT := s.soc.dev.time } ∧
        u.dev.flag pgCAP CAP.ST_GAP = false ∧ u.dev.flag pgCAP CAP.ST_PRE_SHORT = false ∧ u.mem = s.soc.mem) ∧
    (s.soc.dev.capBusy = true →
      ∃ u : Soc, exec .capArm s = .next { s with soc := u } ∧
        u.dev.get pgCAP CAP.ST_STATE = s.soc.dev.get pgCAP CAP.ST_STATE ∧ u.dev.cap = s.soc.dev.cap ∧
        (s.soc.dev.get pgCAP COM.ERRCODE_CODE = 0 → u.dev.get pgCAP COM.ERRCODE_CODE = Err.CAP_BUSY) ∧ u.mem = s.soc.mem) ∧
    (∃ u : Soc, exec .capStop s = .next { s with soc := u } ∧
        u.dev.get pgCAP CAP.ST_STATE = 0 ∧ u.mem = s.soc.mem) ∧
    (bitOf (s.soc.dev.get pgCAP CAP.TRIG_TRIG_EN) 0 = true → s.soc.dev.get pgCAP CAP.ST_STATE = 1 →
      s.soc.dev.cap.armT < s.soc.dev.time →
      ∃ u : Soc, exec .trigSw s = .next { s with soc := u } ∧
        u.dev.get pgCAP CAP.ST_STATE = 2 ∧ u.dev.get pgCAP CAP.TRIG_CAUSE = 1 ∧
        u.dev.get pgCAP CAP.TRIG_TIME_LO = s.soc.dev.time % 2 ^ 32 ∧ u.dev.flag pgCAP CAP.IRQ_TRIGGERED = true ∧ u.mem = s.soc.mem)) ∧
  (∀ (dt : Nat) (s : State) (b : Soc), b = s.soc.after dt →
    (∀ (raw : Bool) (e ofs a : Nat) (w : List Nat), b.dev.flag pgCAP COM.ST_FROZEN = false →
      raw = decide (b.dev.get pgCAP CAP.CFG_MODE = 0) → e = (if raw then b.dev.capEdge else b.dev.time) →
      w = (if raw then b.dev.rawWords else b.dev.decWords) → ofs = b.dev.cap.count % b.dev.capSlots * b.dev.capRec →
      a = b.dev.get pgCAP CAP.BUF_ADDR + ofs → b.dev.capBusy = true → b.dev.cap.armT < e → b.dev.cap.last ≠ some e →
      (raw = true ∨ e % b.dev.get pgCAP CAP.DEC_DEC_PER = 0) → b.dev.clockHeld = false → b.dev.capFull = false →
      b.dev.gated .cap 0 = false → b.dev.inReset 17 = false → b.dev.capSlots ≠ 0 →
      ∃ u : Soc, exec (.capRecord dt) s = .next { s with soc := u } ∧
        memGetList u.mem a (4 * w.length) = w.flatMap (fun x => natBytes 4 x) ∧
        u.dev.cap.count = b.dev.cap.count + 1 ∧ u.dev.cap.last = some e ∧
        (b.dev.get pgCAP CAP.ST_STATE = 2 → b.dev.cap.trigRec = none → b.dev.cap.trigT ≤ e → ofs < 2 ^ 32 →
          u.dev.cap.trigRec = some b.dev.cap.count ∧ u.dev.get pgCAP CAP.TRIG_OFS = ofs ∧
          u.dev.flag pgCAP CAP.ST_PRE_SHORT = decide (b.dev.cap.count < b.dev.get pgCAP CAP.PRE_REC)) ∧ b.keepsBytes u a (4 * w.length)) ∧
    (∀ t, b.dev.flag pgCAP COM.ST_FROZEN = false → b.dev.cap.trigRec = some t → b.dev.get pgCAP CAP.ST_STATE = 2 → b.dev.capFull = true →
      ∃ u : Soc, exec (.capDone dt) s = .next { s with soc := u } ∧
        u.dev.get pgCAP CAP.ST_STATE = 3 ∧ u.dev.flag pgCAP CAP.IRQ_DONE = true ∧
        u.dev.get pgCAP CAP.START_OFS = (t - min t (b.dev.get pgCAP CAP.PRE_REC)) % b.dev.capSlots * b.dev.capRec % 2 ^ 32 ∧
        u.dev.cap.toUnroll = b.dev.flag pgCAP CAP.CFG_UNROLL ∧ u.mem = s.soc.mem) ∧
    (∀ a n st, b.dev.cap.toUnroll = true → b.dev.get pgCAP CAP.ST_STATE = 3 → b.dev.fwRuns = true →
      a = b.dev.get pgCAP CAP.BUF_ADDR → n = b.dev.capSlots * b.dev.capRec → st = b.dev.get pgCAP CAP.START_OFS →
      ∃ u : Soc, exec (.unrolled dt) s = .next { s with soc := u } ∧
        memGetList u.mem a n = (memGetList b.mem a n).drop st ++ (memGetList b.mem a n).take st ∧
        u.dev.get pgCAP CAP.START_OFS = 0 ∧ u.dev.cap.toUnroll = false ∧ u.dev.flag pgCAP CAP.IRQ_UNROLLED = true ∧ b.keepsBytes u a n))

/-- On a position page that answers, with no count, index event, window end or probe edge in the same TCLK (R104 gives those), SET_COUNT loads COUNT with the written value. In quadrature mode TURN_POS is the written value as a signed 32-bit number modulo MOD, so a written -1 gives MOD - 1. In Hall mode TURN_POS stays. Registers other than COUNT, TURN_POS, ANGLE and STATUS, and memory, stay. -/
def Obligations.SetCountLoadsCountAndTurnPos : Prop :=
  ∀ (n : Fin 8) (w : Word) (s : State) (m : Nat), s.soc.answers (pgPOS n + 0x60) = true → s.soc.dev.posAlone n →
    m = s.soc.dev.get (pgPOS n) POS.COUNT_MOD →
    ∃ u, exec (.setCount n w) s = .next { s with soc := u } ∧
      u.dev.get (pgPOS n) POS.COUNT = w.toNat ∧
      (s.soc.dev.get (pgPOS n) POS.CFG_MODE = 0 → 0 < m →
        (u.dev.get (pgPOS n) POS.TURN_POS : Int) = w.toInt % (m : Int) ∧
        (w = -1 → u.dev.get (pgPOS n) POS.TURN_POS = m - 1)) ∧
      (s.soc.dev.get (pgPOS n) POS.CFG_MODE ≠ 0 →
        u.dev.get (pgPOS n) POS.TURN_POS = s.soc.dev.get (pgPOS n) POS.TURN_POS) ∧
      s.soc.dev.keepsRegs u.dev [pgPOS n + 0x58, pgPOS n + 0x5C, pgPOS n + 0x64, pgPOS n + 0x0C] ∧ u.mem = s.soc.mem

/-- On a CLK page that answers, with no switch to the XO in the same cycle (R435), RETURN with REF_EXT ready and ON_FALLBACK = 1 clears ON_FALLBACK with no hold and no jump of the time counter, and ALIGN is 0. Otherwise STATUS stays and CLK_XO_NOT_READY is stored: in CODE where CODE was 0, else counted in LOST. Registers other than STATUS and ERRCODE stay. -/
def Obligations.ReturnSwitchesBackToTheReference : Prop :=
  ∀ s : State, s.soc.answers (pgCLK + 0x40) = true → s.soc.dev.clk.ircT ≠ some s.soc.dev.wall →
    ∃ u, exec .returnWrite s = .next { s with soc := u } ∧ u.mem = s.soc.mem ∧ u.dev.time = s.soc.dev.time ∧
      u.dev.clockHeld = s.soc.dev.clockHeld ∧ s.soc.dev.keepsRegs u.dev [pgCLK + 0x0C, pgCLK + 0x20] ∧
      (s.soc.dev.flag pgCLK CLK.ST_REF_READY = true → s.soc.dev.flag pgCLK CLK.ST_ON_FALLBACK = true →
        u.dev.flag pgCLK CLK.ST_ON_FALLBACK = false ∧ u.dev.flag pgCLK CLK.ST_ALIGN = false ∧
        u.dev.reg (pgCLK + 0x20) = s.soc.dev.reg (pgCLK + 0x20)) ∧
      ((s.soc.dev.flag pgCLK CLK.ST_REF_READY && s.soc.dev.flag pgCLK CLK.ST_ON_FALLBACK) = false →
        u.dev.reg (pgCLK + 0x0C) = s.soc.dev.reg (pgCLK + 0x0C) ∧
        (s.soc.dev.get pgCLK COM.ERRCODE_CODE = 0 → u.dev.get pgCLK COM.ERRCODE_CODE = Err.CLK_XO_NOT_READY) ∧
        (s.soc.dev.get pgCLK COM.ERRCODE_CODE ≠ 0 →
          u.dev.get pgCLK COM.ERRCODE_CODE = s.soc.dev.get pgCLK COM.ERRCODE_CODE ∧
          u.dev.get pgCLK COM.ERRCODE_LOST = min 127 (s.soc.dev.get pgCLK COM.ERRCODE_LOST + 1)))

/-- No command waits, no set is admitted, the time counter is 0 and the journal is empty; every register reads its reset word but RST_CAUSE, which shows the power-on. Memory and flash list no byte, the model's choice of what they read (DESIGN CHOICE, log entry 2), so the memories and the register file are in their canonical form. -/
def Obligations.ResetIsThePowerOnState : Prop :=
  State.reset.pending = [] ∧ State.reset.soc.mem = [] ∧ State.reset.soc.flash = [] ∧ State.reset.soc.memOk ∧
  State.reset.soc.dev.regsOk ∧ State.reset.soc.dev.adm = none ∧ State.reset.soc.dev.time = 0 ∧
  State.reset.soc.dev.vlk.jrnl = [] ∧ State.reset.soc.dev.get pgPWR PWR.RST_CAUSE = 1 ∧
  (∀ a, a ≠ pgPWR + PWR.RST_CAUSE.off → State.reset.soc.dev.reg a = resetWord a)

/-- From every state whose memory and boot flash list their bytes in the canonical form (addresses rise, no byte equal to what an unlisted one reads), each next state of a step has both in that form. -/
def Obligations.MemoryStaysCanonical : Prop :=
  ∀ s t : State, s.soc.memOk → step s = .next t → t.soc.memOk

/-- For every row but the 31 of mayStore, in every state and with every operand, each byte of SRAM, DRAM and the boot flash reads after the row as before, and the queue is the same. -/
def Obligations.OnlyStoringRowsChangeMemory : Prop :=
  ∀ (c : Instr) (s t : State), mayStore c = false → exec c s = .next t →
    t.soc.mem = s.soc.mem ∧ t.soc.flash = s.soc.flash ∧ t.pending = s.pending

/-- Each row named here completes, in every state whose register answers or after every time, and changes no register but those listed for it (and the vector latches that an interrupt sets) and no byte of memory. When one of these issues and the program does not run past its end, the block is the block before but for the cluster of the stream and its scoreboard counts in STATUS and SB: no other register, no other cluster, no memory, no queue of the device changes. -/
def Obligations.FramesOfNamedRows : Prop :=
  ((∀ (s : State) (p : Fin 2) (c : Fin 4) (tail : BitVec 12) (bits : Byte) (j : Fin 64) (w : Word) (h : Fin 2),
    (s.soc.answers (pgETH p + 0x60) = true → ∃ u, exec (.txTailWrite p tail) s = .next { s with soc := u } ∧
      s.soc.dev.keepsRegs u.dev [pgETH p + 0x60] ∧ u.mem = s.soc.mem) ∧
    (s.soc.answers (pgCAN c + 0x58) = true → ∃ u, exec (.canTxReq c bits) s = .next { s with soc := u } ∧
      s.soc.dev.keepsRegs u.dev [pgCAN c + 0x58] ∧ u.mem = s.soc.mem) ∧
    (s.soc.answers (pgCAN c + 0x54) = true → ∃ u, exec (.rxPop c) s = .next { s with soc := u } ∧
      s.soc.dev.keepsRegs u.dev [pgCAN c + 0x50] ∧ u.mem = s.soc.mem) ∧
    (s.soc.answers (pgVLK p + 0x50) = true → ∃ u, exec (.vlkCntClr p) s = .next { s with soc := u } ∧
      s.soc.dev.keepsRegs u.dev [pgVLK p + 0x48] ∧ u.mem = s.soc.mem) ∧
    (s.soc.answers (pgSNET + 0x9C) = true → ∃ u, exec .snetCntClr s = .next { s with soc := u } ∧
      s.soc.dev.keepsRegs u.dev [pgSNET + SNET.CNT_A.off, pgSNET + SNET.CNT_B.off, pgSNET + SNET.CNT_PAIR.off] ∧ u.mem = s.soc.mem) ∧
    (s.soc.answers (pgCAP + 0x58) = true → ∃ u, exec .capStop s = .next { s with soc := u } ∧
      s.soc.dev.keepsRegs u.dev [pgCAP + 0x0C] ∧ u.mem = s.soc.mem) ∧
    (s.soc.answers (pgPCIE + 0x100 + 4 * j.val) = true → ∃ u, exec (.vecmapWrite j w) s = .next { s with soc := u } ∧
      s.soc.dev.keepsRegs u.dev [pgPCIE + 0x100 + 4 * j.val, pgPCIE + 0x20] ∧ u.mem = s.soc.mem) ∧
    (s.soc.answers (pgPCIE + 0x40 + 4 * h.val) = true → ∃ u, exec (.vlatchClear h w) s = .next { s with soc := u } ∧
      s.soc.dev.keepsRegs u.dev [] ∧ u.mem = s.soc.mem) ∧
    (s.soc.answers (pgXSPI + 0x40) = true → ∃ u, exec .flRead s = .next { s with soc := u } ∧
      s.soc.dev.keepsRegs u.dev [pgXSPI + 0x0C, pgXSPI + 0x20, pgXSPI + 0x40, pgXSPI + 0x50] ∧ u.mem = s.soc.mem) ∧
    (s.soc.answers (pgXSPI + 0x40) = true → ∃ u, exec .flProgram s = .next { s with soc := u } ∧
      s.soc.dev.keepsRegs u.dev [pgXSPI + 0x0C, pgXSPI + 0x20, pgXSPI + 0x40, pgXSPI + 0x50] ∧ u.mem = s.soc.mem) ∧
    (s.soc.answers (pgXSPI + 0x40) = true → ∃ u, exec .flErase s = .next { s with soc := u } ∧
      s.soc.dev.keepsRegs u.dev [pgXSPI + 0x0C, pgXSPI + 0x20, pgXSPI + 0x40, pgXSPI + 0x50] ∧ u.mem = s.soc.mem)) ∧
  (∀ (dt : Nat) (s : State) (b : Soc) (p : Fin 2) (c : Fin 4) (up anDone : Bool), b = s.soc.after dt →
    (∃ u, exec (.ptpSyncLoss dt p) s = .next { s with soc := u } ∧ b.dev.keepsRegs u.dev [pgETH p + 0x0C, pgETH p + 0x10, pgETH p + 0x20] ∧ u.mem = s.soc.mem) ∧
    (∃ u, exec (.ethLinkChange dt p up anDone) s = .next { s with soc := u } ∧ b.dev.keepsRegs u.dev [pgETH p + 0x0C, pgETH p + 0x10] ∧ u.mem = s.soc.mem) ∧
    (∃ u, exec (.canRecover dt c) s = .next { s with soc := u } ∧ b.dev.keepsRegs u.dev [pgCAN c + 0x0C, pgCAN c + 0x4C] ∧ u.mem = s.soc.mem) ∧
    (∃ u, exec (.canTxDone dt c) s = .next { s with soc := u } ∧ b.dev.keepsRegs u.dev [pgCAN c + 0x0C, pgCAN c + 0x10, pgCAN c + 0x4C, pgCAN c + 0x58] ∧ u.mem = s.soc.mem) ∧
    (∃ u, exec (.capDone dt) s = .next { s with soc := u } ∧ b.dev.keepsRegs u.dev [pgCAP + 0x0C, pgCAP + 0x10, pgCAP + 0x6C] ∧ u.mem = s.soc.mem) ∧
    (∃ u, exec (.dllUnlock dt) s = .next { s with soc := u } ∧ b.dev.keepsRegs u.dev [pgCLK + 0x0C, pgCLK + 0x10, pgCLK + 0x20] ∧ u.mem = s.soc.mem) ∧
    (∃ u, exec (.dllRelock dt) s = .next { s with soc := u } ∧ b.dev.keepsRegs u.dev [pgCLK + 0x0C] ∧ u.mem = s.soc.mem) ∧
    (∃ u, exec (.syncSend dt) s = .next { s with soc := u } ∧ b.dev.keepsRegs u.dev [] ∧ u.mem = s.soc.mem) ∧
    (∃ u, exec (.delayReqSend dt (Vector.replicate 2 0)) s = .next { s with soc := u } ∧ b.dev.keepsRegs u.dev [] ∧ u.mem = s.soc.mem))) ∧
  (∀ (dt : Nat) (c : Fin 4) (st : Fin 3) (v : Vote) (s : State) (b : Soc) (i : Iss) (op : Nat), b = s.soc.after dt →
    b.issues c st v i op → (closeLoops i.dp.stack (i.dp.pc + 1)).1 < i.loop.progLen →
    ∃ (x : Vector CluH 4) (m : List (Nat × Word)), (∀ e : Fin 4, e ≠ c → x[e] = b.dev.clu[e]) ∧
      (∀ a, a ≠ pgCLU c + CLU.ST_INFLIGHT.off → a ≠ pgCLU c + CLU.SB.off →
        ({ b.dev with regs := m } : Dev).reg a = b.dev.reg a) ∧
      (op = 0x00 → exec (.nop dt c st v) s = .next { s with soc := { b with dev := b.dev.follow { b.dev with clu := x, regs := m } } }) ∧
      (op = 0x01 → exec (.ldi dt c st v) s = .next { s with soc := { b with dev := b.dev.follow { b.dev with clu := x, regs := m } } }) ∧
      (op = 0x02 → exec (.mov dt c st v) s = .next { s with soc := { b with dev := b.dev.follow { b.dev with clu := x, regs := m } } }) ∧
      (op = 0x07 → exec (.min dt c st v) s = .next { s with soc := { b with dev := b.dev.follow { b.dev with clu := x, regs := m } } }) ∧
      (op = 0x08 → exec (.max dt c st v) s = .next { s with soc := { b with dev := b.dev.follow { b.dev with clu := x, regs := m } } }) ∧
      (op = 0x0C → exec (.aclr dt c st v) s = .next { s with soc := { b with dev := b.dev.follow { b.dev with clu := x, regs := m } } }))
end

