-- ==== Sys2Proof/Laws/Map.lean ====
section
/-! SUPPORT. What a sparse map reads as after a write, and that every write keeps its canonical form. -/

namespace Sys2Proof.Machine

/-- The bound of the canonical form can be lowered. -/
theorem mapOkFrom_mono {α : Type} [DecidableEq α] (dv : Nat → α) (m : List (Nat × α)) {lo hi : Nat}
    (h : mapOkFrom dv hi m = true) (hle : lo ≤ hi) : mapOkFrom dv lo m = true := by
  cases m with
  | nil => rfl
  | cons e t =>
    obtain ⟨k, v⟩ := e
    simp only [mapOkFrom, Bool.and_eq_true, decide_eq_true_eq] at h ⊢
    exact ⟨⟨by omega, h.1.2⟩, h.2⟩

/-- Removing entries keeps the canonical form. -/
theorem mapOkFrom_filter {α : Type} [DecidableEq α] (dv : Nat → α) (p : Nat × α → Bool) :
    ∀ (m : List (Nat × α)) (lo : Nat), mapOkFrom dv lo m = true → mapOkFrom dv lo (m.filter p) = true
  | [], _, _ => rfl
  | (k, v) :: t, lo, h => by
    simp only [mapOkFrom, Bool.and_eq_true, decide_eq_true_eq] at h
    have ht := mapOkFrom_filter dv p t (k + 1) h.2
    by_cases hp : p (k, v) = true
    · simp only [List.filter, hp, mapOkFrom, Bool.and_eq_true, decide_eq_true_eq]
      exact ⟨h.1, ht⟩
    · simp only [List.filter, hp]
      exact mapOkFrom_mono dv _ ht (by omega)

/-- Inserting a value other than the default keeps the canonical form above a bound that the key respects. -/
theorem mapOkFrom_ins {α : Type} [DecidableEq α] (dv : Nat → α) {a : Nat} {v : α} (hv : v ≠ dv a) :
    ∀ (m : List (Nat × α)) (lo : Nat), mapOkFrom dv lo m = true → lo ≤ a → mapOkFrom dv lo (mapIns m a v) = true
  | [], lo, _, hle => by simp [mapIns, mapOkFrom, hv, hle]
  | (k, w) :: t, lo, h, hle => by
    simp only [mapOkFrom, Bool.and_eq_true, decide_eq_true_eq] at h
    obtain ⟨⟨hlo, hw⟩, ht⟩ := h
    simp only [mapIns]
    by_cases h1 : a < k
    · have h2 : a + 1 ≤ k := h1
      simp [h1, hv, mapOkFrom, hle, hw, ht, h2]
    · by_cases h2 : a = k
      · subst h2
        simp [hv, mapOkFrom, hle, ht]
      · simp only [h1, h2, if_false, mapOkFrom, Bool.and_eq_true, decide_eq_true_eq]
        exact ⟨⟨hlo, hw⟩, mapOkFrom_ins dv hv t (k + 1) ht (by omega)⟩

/-- Every write keeps the canonical form. -/
theorem mapOk_put {α : Type} [DecidableEq α] (dv : Nat → α) (m : List (Nat × α)) (a : Nat) (v : α)
    (h : mapOk dv m = true) : mapOk dv (mapPut dv m a v) = true := by
  unfold mapPut
  split
  · exact mapOkFrom_filter dv _ m 0 h
  · exact mapOkFrom_ins dv ‹_› m 0 h (Nat.zero_le a)

theorem mapOk_nil {α : Type} [DecidableEq α] (dv : Nat → α) : mapOk dv [] = true := rfl

theorem mapGet_filter_self {α : Type} (dv : Nat → α) (a : Nat) :
    ∀ m : List (Nat × α), mapGet dv (m.filter (fun e => e.1 != a)) a = dv a
  | [] => rfl
  | (k, w) :: t => by
    by_cases hk : k = a
    · simpa [List.filter, hk] using mapGet_filter_self dv a t
    · have hk' : a ≠ k := fun h => hk h.symm
      have hb : (k != a) = true := by simpa using hk
      simpa only [List.filter, hb, mapGet, hk', if_false] using mapGet_filter_self dv a t

theorem mapGet_filter_ne {α : Type} (dv : Nat → α) {a b : Nat} (hb : b ≠ a) :
    ∀ m : List (Nat × α), mapGet dv (m.filter (fun e => e.1 != a)) b = mapGet dv m b
  | [] => rfl
  | (k, w) :: t => by
    by_cases hk : k = a
    · have : b ≠ k := fun h => hb (h.trans hk)
      simpa [List.filter, hk, mapGet, this, hb] using mapGet_filter_ne dv hb t
    · have hka : (k != a) = true := by simpa using hk
      by_cases h3 : b = k
      · simp [List.filter, hka, mapGet, h3]
      · simpa only [List.filter, hka, mapGet, h3, if_false] using mapGet_filter_ne dv hb t

theorem mapGet_ins_self {α : Type} (dv : Nat → α) (a : Nat) (v : α) :
    ∀ m : List (Nat × α), mapGet dv (mapIns m a v) a = v
  | [] => by simp [mapIns, mapGet]
  | (k, w) :: t => by
    by_cases h1 : a < k
    · simp [mapIns, h1, mapGet]
    · by_cases h2 : a = k
      · simp [mapIns, h2, mapGet]
      · simpa [mapIns, h1, h2, mapGet] using mapGet_ins_self dv a v t

theorem mapGet_ins_ne {α : Type} (dv : Nat → α) {a b : Nat} (v : α) (hb : b ≠ a) :
    ∀ m : List (Nat × α), mapGet dv (mapIns m a v) b = mapGet dv m b
  | [] => by simp [mapIns, mapGet, hb]
  | (k, w) :: t => by
    by_cases h1 : a < k
    · simp [mapIns, h1, mapGet, hb]
    · by_cases h2 : a = k
      · subst h2
        simp [mapIns, mapGet, hb]
      · by_cases h3 : b = k
        · simp [mapIns, h1, h2, mapGet, h3]
        · simpa [mapIns, h1, h2, mapGet, h3] using mapGet_ins_ne dv v hb t

/-- What a sparse map reads as after a write: the value at its key, and every other key as before. -/
theorem mapGet_put {α : Type} [DecidableEq α] (dv : Nat → α) (m : List (Nat × α)) (a b : Nat) (v : α) :
    mapGet dv (mapPut dv m a v) b = if b = a then v else mapGet dv m b := by
  unfold mapPut
  split
  · rename_i hv
    split
    · rename_i hb
      rw [hb, mapGet_filter_self, hv]
    · exact mapGet_filter_ne dv ‹_› m
  · split
    · rename_i hb
      rw [hb, mapGet_ins_self]
    · exact mapGet_ins_ne dv v ‹_› m

end Sys2Proof.Machine
end

