-- ==== Sys2Proof/Laws/State.lean ====
section
/-! SUPPORT. What each update of the state leaves as it was: one lemma per field of the device for a register write and
an active value, and for each unit's update the registers, the active values and the clock. -/

namespace Sys2Proof.Machine

/-! ### A register write and an active value -/

@[simp] theorem Dev.setReg_act (d : Dev) (a : Nat) (w : Word) : (d.setReg a w).act = d.act := rfl
@[simp] theorem Dev.setReg_newShadow (d : Dev) (a : Nat) (w : Word) : (d.setReg a w).newShadow = d.newShadow := rfl
@[simp] theorem Dev.setReg_time (d : Dev) (a : Nat) (w : Word) : (d.setReg a w).time = d.time := rfl
@[simp] theorem Dev.setReg_wall (d : Dev) (a : Nat) (w : Word) : (d.setReg a w).wall = d.wall := rfl
@[simp] theorem Dev.setReg_freeCtr (d : Dev) (a : Nat) (w : Word) : (d.setReg a w).freeCtr = d.freeCtr := rfl
@[simp] theorem Dev.setReg_reply (d : Dev) (a : Nat) (w : Word) : (d.setReg a w).reply = d.reply := rfl
@[simp] theorem Dev.setReg_poison (d : Dev) (a : Nat) (w : Word) : (d.setReg a w).poison = d.poison := rfl
@[simp] theorem Dev.setReg_adm (d : Dev) (a : Nat) (w : Word) : (d.setReg a w).adm = d.adm := rfl
@[simp] theorem Dev.setReg_almanac (d : Dev) (a : Nat) (w : Word) : (d.setReg a w).almanac = d.almanac := rfl
@[simp] theorem Dev.setReg_pos (d : Dev) (a : Nat) (w : Word) : (d.setReg a w).pos = d.pos := rfl
@[simp] theorem Dev.setReg_rsv (d : Dev) (a : Nat) (w : Word) : (d.setReg a w).rsv = d.rsv := rfl
@[simp] theorem Dev.setReg_ssi (d : Dev) (a : Nat) (w : Word) : (d.setReg a w).ssi = d.ssi := rfl
@[simp] theorem Dev.setReg_emu (d : Dev) (a : Nat) (w : Word) : (d.setReg a w).emu = d.emu := rfl
@[simp] theorem Dev.setReg_est (d : Dev) (a : Nat) (w : Word) : (d.setReg a w).est = d.est := rfl
@[simp] theorem Dev.setReg_stg (d : Dev) (a : Nat) (w : Word) : (d.setReg a w).stg = d.stg := rfl
@[simp] theorem Dev.setReg_leg (d : Dev) (a : Nat) (w : Word) : (d.setReg a w).leg = d.leg := rfl
@[simp] theorem Dev.setReg_trip (d : Dev) (a : Nat) (w : Word) : (d.setReg a w).trip = d.trip := rfl
@[simp] theorem Dev.setReg_cmp (d : Dev) (a : Nat) (w : Word) : (d.setReg a w).cmp = d.cmp := rfl
@[simp] theorem Dev.setReg_cap (d : Dev) (a : Nat) (w : Word) : (d.setReg a w).cap = d.cap := rfl
@[simp] theorem Dev.setReg_adc (d : Dev) (a : Nat) (w : Word) : (d.setReg a w).adc = d.adc := rfl
@[simp] theorem Dev.setReg_sdi (d : Dev) (a : Nat) (w : Word) : (d.setReg a w).sdi = d.sdi := rfl
@[simp] theorem Dev.setReg_legDis (d : Dev) (a : Nat) (w : Word) : (d.setReg a w).legDis = d.legDis := rfl
@[simp] theorem Dev.setReg_red (d : Dev) (a : Nat) (w : Word) : (d.setReg a w).red = d.red := rfl
@[simp] theorem Dev.setReg_gnq (d : Dev) (a : Nat) (w : Word) : (d.setReg a w).gnq = d.gnq := rfl
@[simp] theorem Dev.setReg_trigs (d : Dev) (a : Nat) (w : Word) : (d.setReg a w).trigs = d.trigs := rfl
@[simp] theorem Dev.setReg_timers (d : Dev) (a : Nat) (w : Word) : (d.setReg a w).timers = d.timers := rfl
@[simp] theorem Dev.setReg_lastTrig (d : Dev) (a : Nat) (w : Word) : (d.setReg a w).lastTrig = d.lastTrig := rfl
@[simp] theorem Dev.setReg_eph (d : Dev) (a : Nat) (w : Word) : (d.setReg a w).eph = d.eph := rfl
@[simp] theorem Dev.setReg_dupWin (d : Dev) (a : Nat) (w : Word) : (d.setReg a w).dupWin = d.dupWin := rfl
@[simp] theorem Dev.setReg_latWas (d : Dev) (a : Nat) (w : Word) : (d.setReg a w).latWas = d.latWas := rfl
@[simp] theorem Dev.setReg_ctxWhen (d : Dev) (a : Nat) (w : Word) : (d.setReg a w).ctxWhen = d.ctxWhen := rfl
@[simp] theorem Dev.setReg_ctxReqT (d : Dev) (a : Nat) (w : Word) : (d.setReg a w).ctxReqT = d.ctxReqT := rfl
@[simp] theorem Dev.setReg_clu (d : Dev) (a : Nat) (w : Word) : (d.setReg a w).clu = d.clu := rfl
@[simp] theorem Dev.setReg_ctx (d : Dev) (a : Nat) (w : Word) : (d.setReg a w).ctx = d.ctx := rfl
@[simp] theorem Dev.setReg_ready (d : Dev) (a : Nat) (w : Word) : (d.setReg a w).ready = d.ready := rfl
@[simp] theorem Dev.setReg_mbox (d : Dev) (a : Nat) (w : Word) : (d.setReg a w).mbox = d.mbox := rfl
@[simp] theorem Dev.setReg_stage (d : Dev) (a : Nat) (w : Word) : (d.setReg a w).stage = d.stage := rfl
@[simp] theorem Dev.setReg_slice (d : Dev) (a : Nat) (w : Word) : (d.setReg a w).slice = d.slice := rfl
@[simp] theorem Dev.setReg_runT (d : Dev) (a : Nat) (w : Word) : (d.setReg a w).runT = d.runT := rfl
@[simp] theorem Dev.setReg_promo (d : Dev) (a : Nat) (w : Word) : (d.setReg a w).promo = d.promo := rfl
@[simp] theorem Dev.setReg_rampPend (d : Dev) (a : Nat) (w : Word) : (d.setReg a w).rampPend = d.rampPend := rfl
@[simp] theorem Dev.setReg_nrg (d : Dev) (a : Nat) (w : Word) : (d.setReg a w).nrg = d.nrg := rfl
@[simp] theorem Dev.setReg_thm (d : Dev) (a : Nat) (w : Word) : (d.setReg a w).thm = d.thm := rfl
@[simp] theorem Dev.setReg_fld (d : Dev) (a : Nat) (w : Word) : (d.setReg a w).fld = d.fld := rfl
@[simp] theorem Dev.setReg_gnm (d : Dev) (a : Nat) (w : Word) : (d.setReg a w).gnm = d.gnm := rfl
@[simp] theorem Dev.setReg_clk (d : Dev) (a : Nat) (w : Word) : (d.setReg a w).clk = d.clk := rfl
@[simp] theorem Dev.setReg_pwr (d : Dev) (a : Nat) (w : Word) : (d.setReg a w).pwr = d.pwr := rfl
@[simp] theorem Dev.setReg_boot (d : Dev) (a : Nat) (w : Word) : (d.setReg a w).boot = d.boot := rfl
@[simp] theorem Dev.setReg_vlk (d : Dev) (a : Nat) (w : Word) : (d.setReg a w).vlk = d.vlk := rfl
@[simp] theorem Dev.setReg_can (d : Dev) (a : Nat) (w : Word) : (d.setReg a w).can = d.can := rfl
@[simp] theorem Dev.setReg_eth (d : Dev) (a : Nat) (w : Word) : (d.setReg a w).eth = d.eth := rfl
@[simp] theorem Dev.setReg_fl (d : Dev) (a : Nat) (w : Word) : (d.setReg a w).fl = d.fl := rfl
@[simp] theorem Dev.setReg_msix (d : Dev) (a : Nat) (w : Word) : (d.setReg a w).msix = d.msix := rfl
@[simp] theorem Dev.setReg_pba (d : Dev) (a : Nat) (w : Word) : (d.setReg a w).pba = d.pba := rfl
@[simp] theorem Dev.setReg_sliceDue (d : Dev) (a : Nat) (w : Word) : (d.setReg a w).sliceDue = d.sliceDue := rfl

@[simp] theorem Dev.setAct_regs (d : Dev) (a : Nat) (w : Word) : (d.setAct a w).regs = d.regs := rfl
@[simp] theorem Dev.setAct_newShadow (d : Dev) (a : Nat) (w : Word) : (d.setAct a w).newShadow = d.newShadow := rfl
@[simp] theorem Dev.setAct_time (d : Dev) (a : Nat) (w : Word) : (d.setAct a w).time = d.time := rfl
@[simp] theorem Dev.setAct_wall (d : Dev) (a : Nat) (w : Word) : (d.setAct a w).wall = d.wall := rfl
@[simp] theorem Dev.setAct_freeCtr (d : Dev) (a : Nat) (w : Word) : (d.setAct a w).freeCtr = d.freeCtr := rfl
@[simp] theorem Dev.setAct_reply (d : Dev) (a : Nat) (w : Word) : (d.setAct a w).reply = d.reply := rfl
@[simp] theorem Dev.setAct_poison (d : Dev) (a : Nat) (w : Word) : (d.setAct a w).poison = d.poison := rfl
@[simp] theorem Dev.setAct_adm (d : Dev) (a : Nat) (w : Word) : (d.setAct a w).adm = d.adm := rfl
@[simp] theorem Dev.setAct_almanac (d : Dev) (a : Nat) (w : Word) : (d.setAct a w).almanac = d.almanac := rfl
@[simp] theorem Dev.setAct_pos (d : Dev) (a : Nat) (w : Word) : (d.setAct a w).pos = d.pos := rfl
@[simp] theorem Dev.setAct_rsv (d : Dev) (a : Nat) (w : Word) : (d.setAct a w).rsv = d.rsv := rfl
@[simp] theorem Dev.setAct_ssi (d : Dev) (a : Nat) (w : Word) : (d.setAct a w).ssi = d.ssi := rfl
@[simp] theorem Dev.setAct_emu (d : Dev) (a : Nat) (w : Word) : (d.setAct a w).emu = d.emu := rfl
@[simp] theorem Dev.setAct_est (d : Dev) (a : Nat) (w : Word) : (d.setAct a w).est = d.est := rfl
@[simp] theorem Dev.setAct_stg (d : Dev) (a : Nat) (w : Word) : (d.setAct a w).stg = d.stg := rfl
@[simp] theorem Dev.setAct_leg (d : Dev) (a : Nat) (w : Word) : (d.setAct a w).leg = d.leg := rfl
@[simp] theorem Dev.setAct_trip (d : Dev) (a : Nat) (w : Word) : (d.setAct a w).trip = d.trip := rfl
@[simp] theorem Dev.setAct_cmp (d : Dev) (a : Nat) (w : Word) : (d.setAct a w).cmp = d.cmp := rfl
@[simp] theorem Dev.setAct_cap (d : Dev) (a : Nat) (w : Word) : (d.setAct a w).cap = d.cap := rfl
@[simp] theorem Dev.setAct_adc (d : Dev) (a : Nat) (w : Word) : (d.setAct a w).adc = d.adc := rfl
@[simp] theorem Dev.setAct_sdi (d : Dev) (a : Nat) (w : Word) : (d.setAct a w).sdi = d.sdi := rfl
@[simp] theorem Dev.setAct_legDis (d : Dev) (a : Nat) (w : Word) : (d.setAct a w).legDis = d.legDis := rfl
@[simp] theorem Dev.setAct_red (d : Dev) (a : Nat) (w : Word) : (d.setAct a w).red = d.red := rfl
@[simp] theorem Dev.setAct_gnq (d : Dev) (a : Nat) (w : Word) : (d.setAct a w).gnq = d.gnq := rfl
@[simp] theorem Dev.setAct_trigs (d : Dev) (a : Nat) (w : Word) : (d.setAct a w).trigs = d.trigs := rfl
@[simp] theorem Dev.setAct_timers (d : Dev) (a : Nat) (w : Word) : (d.setAct a w).timers = d.timers := rfl
@[simp] theorem Dev.setAct_lastTrig (d : Dev) (a : Nat) (w : Word) : (d.setAct a w).lastTrig = d.lastTrig := rfl
@[simp] theorem Dev.setAct_eph (d : Dev) (a : Nat) (w : Word) : (d.setAct a w).eph = d.eph := rfl
@[simp] theorem Dev.setAct_dupWin (d : Dev) (a : Nat) (w : Word) : (d.setAct a w).dupWin = d.dupWin := rfl
@[simp] theorem Dev.setAct_latWas (d : Dev) (a : Nat) (w : Word) : (d.setAct a w).latWas = d.latWas := rfl
@[simp] theorem Dev.setAct_ctxWhen (d : Dev) (a : Nat) (w : Word) : (d.setAct a w).ctxWhen = d.ctxWhen := rfl
@[simp] theorem Dev.setAct_ctxReqT (d : Dev) (a : Nat) (w : Word) : (d.setAct a w).ctxReqT = d.ctxReqT := rfl
@[simp] theorem Dev.setAct_clu (d : Dev) (a : Nat) (w : Word) : (d.setAct a w).clu = d.clu := rfl
@[simp] theorem Dev.setAct_ctx (d : Dev) (a : Nat) (w : Word) : (d.setAct a w).ctx = d.ctx := rfl
@[simp] theorem Dev.setAct_ready (d : Dev) (a : Nat) (w : Word) : (d.setAct a w).ready = d.ready := rfl
@[simp] theorem Dev.setAct_mbox (d : Dev) (a : Nat) (w : Word) : (d.setAct a w).mbox = d.mbox := rfl
@[simp] theorem Dev.setAct_stage (d : Dev) (a : Nat) (w : Word) : (d.setAct a w).stage = d.stage := rfl
@[simp] theorem Dev.setAct_slice (d : Dev) (a : Nat) (w : Word) : (d.setAct a w).slice = d.slice := rfl
@[simp] theorem Dev.setAct_runT (d : Dev) (a : Nat) (w : Word) : (d.setAct a w).runT = d.runT := rfl
@[simp] theorem Dev.setAct_promo (d : Dev) (a : Nat) (w : Word) : (d.setAct a w).promo = d.promo := rfl
@[simp] theorem Dev.setAct_rampPend (d : Dev) (a : Nat) (w : Word) : (d.setAct a w).rampPend = d.rampPend := rfl
@[simp] theorem Dev.setAct_nrg (d : Dev) (a : Nat) (w : Word) : (d.setAct a w).nrg = d.nrg := rfl
@[simp] theorem Dev.setAct_thm (d : Dev) (a : Nat) (w : Word) : (d.setAct a w).thm = d.thm := rfl
@[simp] theorem Dev.setAct_fld (d : Dev) (a : Nat) (w : Word) : (d.setAct a w).fld = d.fld := rfl
@[simp] theorem Dev.setAct_gnm (d : Dev) (a : Nat) (w : Word) : (d.setAct a w).gnm = d.gnm := rfl
@[simp] theorem Dev.setAct_clk (d : Dev) (a : Nat) (w : Word) : (d.setAct a w).clk = d.clk := rfl
@[simp] theorem Dev.setAct_pwr (d : Dev) (a : Nat) (w : Word) : (d.setAct a w).pwr = d.pwr := rfl
@[simp] theorem Dev.setAct_boot (d : Dev) (a : Nat) (w : Word) : (d.setAct a w).boot = d.boot := rfl
@[simp] theorem Dev.setAct_vlk (d : Dev) (a : Nat) (w : Word) : (d.setAct a w).vlk = d.vlk := rfl
@[simp] theorem Dev.setAct_can (d : Dev) (a : Nat) (w : Word) : (d.setAct a w).can = d.can := rfl
@[simp] theorem Dev.setAct_eth (d : Dev) (a : Nat) (w : Word) : (d.setAct a w).eth = d.eth := rfl
@[simp] theorem Dev.setAct_fl (d : Dev) (a : Nat) (w : Word) : (d.setAct a w).fl = d.fl := rfl
@[simp] theorem Dev.setAct_msix (d : Dev) (a : Nat) (w : Word) : (d.setAct a w).msix = d.msix := rfl
@[simp] theorem Dev.setAct_pba (d : Dev) (a : Nat) (w : Word) : (d.setAct a w).pba = d.pba := rfl
@[simp] theorem Dev.setAct_sliceDue (d : Dev) (a : Nat) (w : Word) : (d.setAct a w).sliceDue = d.sliceDue := rfl

/-! ### The hidden state of a unit -/

@[simp] theorem Dev.modLeg_reg (d : Dev) (k : Nat) (f : LegH → LegH) : (d.modLeg k f).reg = d.reg := rfl
@[simp] theorem Dev.modLeg_regs (d : Dev) (k : Nat) (f : LegH → LegH) : (d.modLeg k f).regs = d.regs := rfl
@[simp] theorem Dev.modLeg_act (d : Dev) (k : Nat) (f : LegH → LegH) : (d.modLeg k f).act = d.act := rfl
@[simp] theorem Dev.modLeg_time (d : Dev) (k : Nat) (f : LegH → LegH) : (d.modLeg k f).time = d.time := rfl
@[simp] theorem Dev.modStg_reg (d : Dev) (k : Nat) (f : StgH → StgH) : (d.modStg k f).reg = d.reg := rfl
@[simp] theorem Dev.modStg_regs (d : Dev) (k : Nat) (f : StgH → StgH) : (d.modStg k f).regs = d.regs := rfl
@[simp] theorem Dev.modStg_act (d : Dev) (k : Nat) (f : StgH → StgH) : (d.modStg k f).act = d.act := rfl
@[simp] theorem Dev.modStg_time (d : Dev) (k : Nat) (f : StgH → StgH) : (d.modStg k f).time = d.time := rfl
@[simp] theorem Dev.modEst_reg (d : Dev) (k : Nat) (f : EstH → EstH) : (d.modEst k f).reg = d.reg := rfl
@[simp] theorem Dev.modEst_regs (d : Dev) (k : Nat) (f : EstH → EstH) : (d.modEst k f).regs = d.regs := rfl
@[simp] theorem Dev.modEst_act (d : Dev) (k : Nat) (f : EstH → EstH) : (d.modEst k f).act = d.act := rfl
@[simp] theorem Dev.modEst_time (d : Dev) (k : Nat) (f : EstH → EstH) : (d.modEst k f).time = d.time := rfl
@[simp] theorem Dev.modAdc_reg (d : Dev) (k : Nat) (f : AdcH → AdcH) : (d.modAdc k f).reg = d.reg := rfl
@[simp] theorem Dev.modAdc_regs (d : Dev) (k : Nat) (f : AdcH → AdcH) : (d.modAdc k f).regs = d.regs := rfl
@[simp] theorem Dev.modAdc_act (d : Dev) (k : Nat) (f : AdcH → AdcH) : (d.modAdc k f).act = d.act := rfl
@[simp] theorem Dev.modAdc_time (d : Dev) (k : Nat) (f : AdcH → AdcH) : (d.modAdc k f).time = d.time := rfl
@[simp] theorem Dev.modSdi_reg (d : Dev) (k : Nat) (f : SdiH → SdiH) : (d.modSdi k f).reg = d.reg := rfl
@[simp] theorem Dev.modSdi_regs (d : Dev) (k : Nat) (f : SdiH → SdiH) : (d.modSdi k f).regs = d.regs := rfl
@[simp] theorem Dev.modSdi_act (d : Dev) (k : Nat) (f : SdiH → SdiH) : (d.modSdi k f).act = d.act := rfl
@[simp] theorem Dev.modSdi_time (d : Dev) (k : Nat) (f : SdiH → SdiH) : (d.modSdi k f).time = d.time := rfl
@[simp] theorem Dev.modFld_reg (d : Dev) (k : Nat) (f : FldH → FldH) : (d.modFld k f).reg = d.reg := rfl
@[simp] theorem Dev.modFld_regs (d : Dev) (k : Nat) (f : FldH → FldH) : (d.modFld k f).regs = d.regs := rfl
@[simp] theorem Dev.modFld_act (d : Dev) (k : Nat) (f : FldH → FldH) : (d.modFld k f).act = d.act := rfl
@[simp] theorem Dev.modFld_time (d : Dev) (k : Nat) (f : FldH → FldH) : (d.modFld k f).time = d.time := rfl
@[simp] theorem Dev.modCmp_reg (d : Dev) (k : Nat) (f : CmpH → CmpH) : (d.modCmp k f).reg = d.reg := rfl
@[simp] theorem Dev.modCmp_regs (d : Dev) (k : Nat) (f : CmpH → CmpH) : (d.modCmp k f).regs = d.regs := rfl
@[simp] theorem Dev.modCmp_act (d : Dev) (k : Nat) (f : CmpH → CmpH) : (d.modCmp k f).act = d.act := rfl
@[simp] theorem Dev.modCmp_time (d : Dev) (k : Nat) (f : CmpH → CmpH) : (d.modCmp k f).time = d.time := rfl
@[simp] theorem Dev.modClu_reg (d : Dev) (k : Nat) (f : CluH → CluH) : (d.modClu k f).reg = d.reg := rfl
@[simp] theorem Dev.modClu_regs (d : Dev) (k : Nat) (f : CluH → CluH) : (d.modClu k f).regs = d.regs := rfl
@[simp] theorem Dev.modClu_act (d : Dev) (k : Nat) (f : CluH → CluH) : (d.modClu k f).act = d.act := rfl
@[simp] theorem Dev.modClu_time (d : Dev) (k : Nat) (f : CluH → CluH) : (d.modClu k f).time = d.time := rfl
@[simp] theorem Dev.modPromo_reg (d : Dev) (k : Nat) (f : PromoH → PromoH) : (d.modPromo k f).reg = d.reg := rfl
@[simp] theorem Dev.modPromo_regs (d : Dev) (k : Nat) (f : PromoH → PromoH) : (d.modPromo k f).regs = d.regs := rfl
@[simp] theorem Dev.modPromo_act (d : Dev) (k : Nat) (f : PromoH → PromoH) : (d.modPromo k f).act = d.act := rfl
@[simp] theorem Dev.modPromo_time (d : Dev) (k : Nat) (f : PromoH → PromoH) : (d.modPromo k f).time = d.time := rfl
@[simp] theorem Dev.modClk_reg (d : Dev) (f : ClkH → ClkH) : (d.modClk f).reg = d.reg := rfl
@[simp] theorem Dev.modClk_regs (d : Dev) (f : ClkH → ClkH) : (d.modClk f).regs = d.regs := rfl
@[simp] theorem Dev.modClk_act (d : Dev) (f : ClkH → ClkH) : (d.modClk f).act = d.act := rfl
@[simp] theorem Dev.modClk_time (d : Dev) (f : ClkH → ClkH) : (d.modClk f).time = d.time := rfl
@[simp] theorem Dev.modClk_clk (d : Dev) (f : ClkH → ClkH) : (d.modClk f).clk = f d.clk := rfl
@[simp] theorem Dev.modPwr_reg (d : Dev) (f : PwrH → PwrH) : (d.modPwr f).reg = d.reg := rfl
@[simp] theorem Dev.modPwr_regs (d : Dev) (f : PwrH → PwrH) : (d.modPwr f).regs = d.regs := rfl
@[simp] theorem Dev.modPwr_act (d : Dev) (f : PwrH → PwrH) : (d.modPwr f).act = d.act := rfl
@[simp] theorem Dev.modPwr_time (d : Dev) (f : PwrH → PwrH) : (d.modPwr f).time = d.time := rfl
@[simp] theorem Dev.modPwr_pwr (d : Dev) (f : PwrH → PwrH) : (d.modPwr f).pwr = f d.pwr := rfl
@[simp] theorem Dev.modGnm_reg (d : Dev) (f : GnmH → GnmH) : (d.modGnm f).reg = d.reg := rfl
@[simp] theorem Dev.modGnm_regs (d : Dev) (f : GnmH → GnmH) : (d.modGnm f).regs = d.regs := rfl
@[simp] theorem Dev.modGnm_act (d : Dev) (f : GnmH → GnmH) : (d.modGnm f).act = d.act := rfl
@[simp] theorem Dev.modGnm_time (d : Dev) (f : GnmH → GnmH) : (d.modGnm f).time = d.time := rfl
@[simp] theorem Dev.modGnm_gnm (d : Dev) (f : GnmH → GnmH) : (d.modGnm f).gnm = f d.gnm := rfl
@[simp] theorem Dev.modThm_reg (d : Dev) (f : ThmH → ThmH) : (d.modThm f).reg = d.reg := rfl
@[simp] theorem Dev.modThm_regs (d : Dev) (f : ThmH → ThmH) : (d.modThm f).regs = d.regs := rfl
@[simp] theorem Dev.modThm_act (d : Dev) (f : ThmH → ThmH) : (d.modThm f).act = d.act := rfl
@[simp] theorem Dev.modThm_time (d : Dev) (f : ThmH → ThmH) : (d.modThm f).time = d.time := rfl
@[simp] theorem Dev.modThm_thm (d : Dev) (f : ThmH → ThmH) : (d.modThm f).thm = f d.thm := rfl
@[simp] theorem Dev.modBoot_reg (d : Dev) (f : BootH → BootH) : (d.modBoot f).reg = d.reg := rfl
@[simp] theorem Dev.modBoot_regs (d : Dev) (f : BootH → BootH) : (d.modBoot f).regs = d.regs := rfl
@[simp] theorem Dev.modBoot_act (d : Dev) (f : BootH → BootH) : (d.modBoot f).act = d.act := rfl
@[simp] theorem Dev.modBoot_time (d : Dev) (f : BootH → BootH) : (d.modBoot f).time = d.time := rfl
@[simp] theorem Dev.modBoot_boot (d : Dev) (f : BootH → BootH) : (d.modBoot f).boot = f d.boot := rfl
@[simp] theorem Dev.modVlk_reg (d : Dev) (f : VlkH → VlkH) : (d.modVlk f).reg = d.reg := rfl
@[simp] theorem Dev.modVlk_regs (d : Dev) (f : VlkH → VlkH) : (d.modVlk f).regs = d.regs := rfl
@[simp] theorem Dev.modVlk_act (d : Dev) (f : VlkH → VlkH) : (d.modVlk f).act = d.act := rfl
@[simp] theorem Dev.modVlk_time (d : Dev) (f : VlkH → VlkH) : (d.modVlk f).time = d.time := rfl
@[simp] theorem Dev.modVlk_vlk (d : Dev) (f : VlkH → VlkH) : (d.modVlk f).vlk = f d.vlk := rfl

/-! ### The device in the machine -/

@[simp] theorem Soc.map_dev (s : Soc) (f : Dev → Dev) : (s.map f).dev = f s.dev := rfl
@[simp] theorem Soc.map_mem (s : Soc) (f : Dev → Dev) : (s.map f).mem = s.mem := rfl
@[simp] theorem Soc.map_flash (s : Soc) (f : Dev → Dev) : (s.map f).flash = s.flash := rfl
@[simp] theorem Soc.map_ue (s : Soc) (f : Dev → Dev) : (s.map f).ue = s.ue := rfl
@[simp] theorem Soc.after_mem (dt : Nat) (s : Soc) : (s.after dt).mem = s.mem := rfl
@[simp] theorem Soc.after_flash (dt : Nat) (s : Soc) : (s.after dt).flash = s.flash := rfl
@[simp] theorem Soc.after_ue (dt : Nat) (s : Soc) : (s.after dt).ue = s.ue := rfl
@[simp] theorem Soc.on_dev (f : Dev → Dev) (s : Soc) : (Soc.on f s).dev = f s.dev := rfl
@[simp] theorem Soc.on_mem (f : Dev → Dev) (s : Soc) : (Soc.on f s).mem = s.mem := rfl
@[simp] theorem Soc.on_flash (f : Dev → Dev) (s : Soc) : (Soc.on f s).flash = s.flash := rfl
@[simp] theorem Soc.on_ue (f : Dev → Dev) (s : Soc) : (Soc.on f s).ue = s.ue := rfl
@[simp] theorem Soc.watch_mem (f : Soc → Soc) (s : Soc) : (Soc.watch f s).mem = (f s).mem := rfl
@[simp] theorem Soc.watch_flash (f : Soc → Soc) (s : Soc) : (Soc.watch f s).flash = (f s).flash := rfl
@[simp] theorem Soc.watch_dev (f : Soc → Soc) (s : Soc) : (Soc.watch f s).dev = s.dev.follow (f s).dev := rfl

end Sys2Proof.Machine
end

