-- ==== Sys2Proof/Laws/Regs.lean ====
section
/-! SUPPORT. Reading a register, a field or an interrupt word after a write of one (R11, R17, R21). -/

namespace Sys2Proof.Machine

/-! ### Fields of a word -/

/-- The number of a word after a field is put: the bits above, the new value, the bits below. -/
theorem wordPut_toNat (w : Word) (lo width v : Nat) (h : lo + width ≤ 32) :
    (wordPut w lo width v).toNat =
      (w.toNat / 2 ^ (lo + width) * 2 ^ width + v % 2 ^ width) * 2 ^ lo + w.toNat % 2 ^ lo := by
  have hw : w.toNat < 2 ^ 32 := w.isLt
  have hv : v % 2 ^ width < 2 ^ width := Nat.mod_lt _ (Nat.two_pow_pos _)
  have hl : w.toNat % 2 ^ lo < 2 ^ lo := Nat.mod_lt _ (Nat.two_pow_pos _)
  have hpow : 2 ^ (lo + width) = 2 ^ lo * 2 ^ width := Nat.pow_add 2 lo width
  have hdd : w.toNat / 2 ^ (lo + width) = w.toNat / 2 ^ lo / 2 ^ width := by
    rw [hpow, Nat.div_div_eq_div_mul]
  have h1 : w.toNat = 2 ^ lo * (w.toNat / 2 ^ lo) + w.toNat % 2 ^ lo := (Nat.div_add_mod _ _).symm
  have h2 : w.toNat / 2 ^ lo = 2 ^ width * (w.toNat / 2 ^ lo / 2 ^ width) + w.toNat / 2 ^ lo % 2 ^ width :=
    (Nat.div_add_mod _ _).symm
  have key : w.toNat - wordField w lo width * 2 ^ lo + v % 2 ^ width * 2 ^ lo =
      (w.toNat / 2 ^ (lo + width) * 2 ^ width + v % 2 ^ width) * 2 ^ lo + w.toNat % 2 ^ lo := by
    unfold wordField
    rw [hdd]
    generalize hq : w.toNat / 2 ^ lo / 2 ^ width = q at *
    generalize hf : w.toNat / 2 ^ lo % 2 ^ width = f at *
    generalize hr : w.toNat % 2 ^ lo = r at *
    rw [h2] at h1
    rw [h1]
    have e1 : 2 ^ lo * (2 ^ width * q + f) + r - f * 2 ^ lo = 2 ^ lo * (2 ^ width * q) + r := by
      rw [Nat.mul_add, Nat.mul_comm f]; omega
    rw [e1, Nat.add_mul, Nat.mul_comm (2 ^ lo), Nat.mul_comm (2 ^ width) q]; omega
  have hbound : (w.toNat / 2 ^ (lo + width) * 2 ^ width + v % 2 ^ width) * 2 ^ lo + w.toNat % 2 ^ lo < 2 ^ 32 := by
    have hq : w.toNat / 2 ^ (lo + width) < 2 ^ (32 - (lo + width)) := by
      rw [Nat.div_lt_iff_lt_mul (Nat.two_pow_pos _), ← Nat.pow_add]
      rwa [Nat.sub_add_cancel h]
    have e32 : 2 ^ 32 = 2 ^ (32 - (lo + width)) * 2 ^ width * 2 ^ lo := by
      rw [← Nat.pow_add, ← Nat.pow_add]; congr 1; omega
    rw [e32]
    have a1 : w.toNat / 2 ^ (lo + width) * 2 ^ width + v % 2 ^ width + 1 ≤ 2 ^ (32 - (lo + width)) * 2 ^ width := by
      calc _ ≤ w.toNat / 2 ^ (lo + width) * 2 ^ width + 2 ^ width := by omega
        _ = (w.toNat / 2 ^ (lo + width) + 1) * 2 ^ width := by rw [Nat.add_mul, Nat.one_mul]
        _ ≤ _ := Nat.mul_le_mul_right _ hq
    calc _ < (w.toNat / 2 ^ (lo + width) * 2 ^ width + v % 2 ^ width + 1) * 2 ^ lo := by
            rw [Nat.add_mul _ 1, Nat.one_mul]; omega
      _ ≤ _ := Nat.mul_le_mul_right _ a1
  unfold wordPut
  rw [BitVec.toNat_ofNat, key, Nat.mod_eq_of_lt hbound]

/-- A field reads as the value put into it, cut to its width. -/
theorem wordField_wordPut (w : Word) (lo width v : Nat) (h : lo + width ≤ 32) :
    wordField (wordPut w lo width v) lo width = v % 2 ^ width := by
  have hl : w.toNat % 2 ^ lo < 2 ^ lo := Nat.mod_lt _ (Nat.two_pow_pos _)
  unfold wordField
  rw [wordPut_toNat w lo width v h, Nat.mul_comm, Nat.mul_add_div (Nat.two_pow_pos _), Nat.div_eq_of_lt hl, Nat.add_zero,
    Nat.mul_comm, Nat.mul_add_mod]
  exact Nat.mod_eq_of_lt (Nat.mod_lt _ (Nat.two_pow_pos _))

/-- A field that lies apart from the one put reads as before. -/
theorem wordField_wordPut_apart (w : Word) (lo width v lo' width' : Nat) (h : lo + width ≤ 32)
    (hd : lo' + width' ≤ lo ∨ lo + width ≤ lo') :
    wordField (wordPut w lo width v) lo' width' = wordField w lo' width' := by
  have hl : w.toNat % 2 ^ lo < 2 ^ lo := Nat.mod_lt _ (Nat.two_pow_pos _)
  have hv : v % 2 ^ width < 2 ^ width := Nat.mod_lt _ (Nat.two_pow_pos _)
  unfold wordField
  rw [wordPut_toNat w lo width v h]
  rcases hd with hd | hd
  · -- below: both words agree modulo 2 ^ lo
    have cut : ∀ x : Nat, x / 2 ^ lo' % 2 ^ width' = x % 2 ^ lo / 2 ^ lo' % 2 ^ width' := by
      intro x
      apply Nat.eq_of_testBit_eq
      intro i
      simp only [Nat.testBit_mod_two_pow, Nat.testBit_div_two_pow]
      by_cases hi : i < width'
      · have h2 : i + lo' < lo := by omega
        simp [hi, h2]
      · simp [hi]
    rw [cut, cut w.toNat, Nat.mul_comm, Nat.mul_add_mod]
    congr 2
    exact Nat.mod_eq_of_lt hl
  · -- above: both words agree above lo + width
    have cut : ∀ x : Nat, x / 2 ^ lo' = x / 2 ^ (lo + width) / 2 ^ (lo' - (lo + width)) := by
      intro x
      rw [Nat.div_div_eq_div_mul, ← Nat.pow_add]
      congr 2; omega
    rw [cut, cut w.toNat]
    congr 2
    rw [Nat.pow_add, ← Nat.div_div_eq_div_mul, Nat.mul_comm _ (2 ^ lo), Nat.mul_add_div (Nat.two_pow_pos _),
      Nat.div_eq_of_lt hl, Nat.add_zero, Nat.mul_comm _ (2 ^ width), Nat.mul_add_div (Nat.two_pow_pos _),
      Nat.div_eq_of_lt hv, Nat.add_zero]

/-! ### Registers -/

/-- A register after a register write. -/
theorem Dev.reg_setReg (d : Dev) (a b : Nat) (w : Word) : (d.setReg a w).reg b = if b = a then w else d.reg b :=
  mapGet_put resetWord d.regs a b w

@[simp] theorem Dev.reg_setReg_self (d : Dev) (a : Nat) (w : Word) : (d.setReg a w).reg a = w := by
  simp [Dev.reg_setReg]

theorem Dev.reg_setReg_ne (d : Dev) {a b : Nat} (w : Word) (h : b ≠ a) : (d.setReg a w).reg b = d.reg b := by
  simp [Dev.reg_setReg, h]

/-- An active value after a load. -/
theorem Dev.actReg_setAct (d : Dev) (a b : Nat) (w : Word) :
    (d.setAct a w).actReg b = if b = a then w else d.actReg b := mapGet_put resetWord d.act a b w

@[simp] theorem Dev.actReg_setReg (d : Dev) (a b : Nat) (w : Word) : (d.setReg a w).actReg b = d.actReg b := rfl
@[simp] theorem Dev.reg_setAct (d : Dev) (a b : Nat) (w : Word) : (d.setAct a w).reg b = d.reg b := rfl

/-- The register that a put into a field changes. -/
theorem Dev.reg_putAt (d : Dev) (pg : Nat) (f : Fld) (i v b : Nat) :
    (d.putAt pg f i v).reg b =
      if b = pg + f.off + f.stride * i then wordPut (d.reg b) f.lo f.width v else d.reg b := by
  unfold Dev.putAt
  rw [Dev.reg_setReg]
  by_cases h : b = pg + f.off + f.stride * i
  · simp [h]
  · simp [h]

/-- A put leaves every other register as it was. -/
theorem Dev.reg_putAt_ne (d : Dev) (pg : Nat) (f : Fld) (i v : Nat) {b : Nat}
    (h : b ≠ pg + f.off + f.stride * i) : (d.putAt pg f i v).reg b = d.reg b := by
  simp [Dev.reg_putAt, h]

/-- A field reads as the value put into it, cut to its width. -/
theorem Dev.getAt_putAt (d : Dev) (pg : Nat) (f : Fld) (i v : Nat) (h : f.lo + f.width ≤ 32) :
    (d.putAt pg f i v).getAt pg f i = v % 2 ^ f.width := by
  unfold Dev.getAt
  rw [Dev.reg_putAt, if_pos rfl, wordField_wordPut _ _ _ _ h]

/-- A field of another register reads as before. -/
theorem Dev.getAt_putAt_ne (d : Dev) {pg pg' : Nat} {f g : Fld} {i j : Nat} (v : Nat)
    (h : pg' + g.off + g.stride * j ≠ pg + f.off + f.stride * i) :
    (d.putAt pg f i v).getAt pg' g j = d.getAt pg' g j := by
  unfold Dev.getAt
  rw [Dev.reg_putAt_ne _ _ _ _ _ h]

/-- A field that lies apart in the same register reads as before. -/
theorem Dev.getAt_putAt_apart (d : Dev) {pg pg' : Nat} {f g : Fld} {i j : Nat} (v : Nat) (h : f.lo + f.width ≤ 32)
    (hd : g.lo + g.width ≤ f.lo ∨ f.lo + f.width ≤ g.lo) :
    (d.putAt pg f i v).getAt pg' g j = d.getAt pg' g j := by
  unfold Dev.getAt
  rw [Dev.reg_putAt]
  split
  · rw [wordField_wordPut_apart _ _ _ _ _ _ h hd]
  · rfl

/-! ### Interrupts -/

/-- Setting a vector's latch writes its word of VLATCH and may set its pending bit; nothing else changes. -/
theorem Dev.setLatch_is (d : Dev) (v : Nat) :
    ∃ p, d.setLatch v = { d.putAt pgPCIE PCIE.VLATCH (v / 32)
      (d.getAt pgPCIE PCIE.VLATCH (v / 32) ||| 2 ^ (v % 32)) with pba := p } := by
  unfold Dev.setLatch
  simp only []
  split
  · exact ⟨_, rfl⟩
  · exact ⟨d.pba, rfl⟩

/-- What an interrupt changes besides IRQ_RAW: the vector latches and the pending-bit array. -/
structure LatchOnly (d e : Dev) : Prop where
  same : ∃ r p, e = { d with regs := r, pba := p }
  reg : ∀ a, a ≠ pgPCIE + PCIE.VLATCH.off → a ≠ pgPCIE + PCIE.VLATCH.off + 4 → e.reg a = d.reg a

theorem LatchOnly.refl (d : Dev) : LatchOnly d d := ⟨⟨d.regs, d.pba, rfl⟩, fun _ _ _ => rfl⟩

theorem LatchOnly.trans {a b c : Dev} (h : LatchOnly a b) (k : LatchOnly b c) : LatchOnly a c := by
  obtain ⟨r, p, rfl⟩ := h.same
  obtain ⟨r', p', rfl⟩ := k.same
  exact ⟨⟨r', p', rfl⟩, fun x h1 h2 => (k.reg x h1 h2).trans (h.reg x h1 h2)⟩

theorem setLatch_latchOnly (d : Dev) (v : Nat) (hv : v < 64) : LatchOnly d (d.setLatch v) := by
  obtain ⟨p, hp⟩ := d.setLatch_is v
  have hi : v / 32 = 0 ∨ v / 32 = 1 := by omega
  refine ⟨⟨_, p, hp⟩, fun a h0 h1 => ?_⟩
  rw [hp]
  show (d.putAt pgPCIE PCIE.VLATCH (v / 32) _).reg a = d.reg a
  apply Dev.reg_putAt_ne
  rcases hi with hi | hi <;> rw [hi] <;> simpa [PCIE.VLATCH] using (by assumption)

theorem Dev.vectorsOf_lt (d : Dev) (pg v : Nat) (h : v ∈ d.vectorsOf pg) : v < 64 := by
  have hm : (d.vecMap (pageIndex pg)).2 < 64 := by
    unfold Dev.vecMap
    exact Nat.mod_lt _ (by decide)
  unfold Dev.vectorsOf at h
  simp only [List.mem_append] at h
  rcases h with h | h <;> (split at h <;> simp_all)

theorem latchRise_latchOnly (b d : Dev) (pg : Nat) : LatchOnly d (Dev.latchRise b d pg) := by
  unfold Dev.latchRise
  split
  · exact .refl d
  · suffices ∀ (l : List Nat) (e : Dev), (∀ v ∈ l, v < 64) → LatchOnly e
        (l.foldl (fun d v => if b.vecReq v || !d.vecReq v then d else d.setLatch v) e) from
      this _ d (fun v hv => d.vectorsOf_lt pg v hv)
    intro l
    induction l with
    | nil => exact fun e _ => .refl e
    | cons v t ih =>
      intro e h
      simp only [List.foldl_cons]
      refine LatchOnly.trans ?_ (ih _ (fun x hx => h x (List.mem_cons_of_mem _ hx)))
      split
      · exact .refl e
      · exact setLatch_latchOnly e v (h v List.mem_cons_self)

/-- An interrupt event: IRQ_RAW takes the bits, and at most the latches change besides (R17, R524). -/
theorem irqBits_latchOnly (d : Dev) (pg bits : Nat) :
    LatchOnly (d.setReg (pg + 0x10) (BitVec.ofNat 32 ((d.reg (pg + 0x10)).toNat ||| bits))) (d.irqBits pg bits) := by
  unfold Dev.irqBits
  simp only []
  split
  · exact .refl _
  · exact latchRise_latchOnly _ _ _

/-- A register that is neither the page's IRQ_RAW nor a vector latch is left as it was by an interrupt event. -/
theorem Dev.reg_irqBits (d : Dev) (pg bits : Nat) {a : Nat} (h : a ≠ pg + 0x10)
    (h0 : a ≠ pgPCIE + PCIE.VLATCH.off) (h1 : a ≠ pgPCIE + PCIE.VLATCH.off + 4) :
    (d.irqBits pg bits).reg a = d.reg a := by
  rw [(irqBits_latchOnly d pg bits).reg a h0 h1, Dev.reg_setReg_ne _ _ h]

/-- IRQ_RAW after an interrupt event (R17). -/
theorem Dev.irqRaw_irqBits (d : Dev) (pg bits : Nat) (h0 : pg + 0x10 ≠ pgPCIE + PCIE.VLATCH.off)
    (h1 : pg + 0x10 ≠ pgPCIE + PCIE.VLATCH.off + 4) :
    (d.irqBits pg bits).reg (pg + 0x10) = BitVec.ofNat 32 ((d.reg (pg + 0x10)).toNat ||| bits) := by
  rw [(irqBits_latchOnly d pg bits).reg _ h0 h1, Dev.reg_setReg_self]

end Sys2Proof.Machine
end

