-- ==== Sys2Proof/Laws/Access.lean ====
section
/-! SUPPORT. What the shared shapes of a row do: an access to a register that answers, an event after its time, and the
follow-up of a change. -/

namespace Sys2Proof.Machine

/-! ### Host accesses -/

/-- An access changes nothing in a device that is awake. -/
theorem Dev.touch_awake {d : Dev} (h : d.awake = true) : d.touch = d := by
  simp only [Dev.awake, Bool.and_eq_true, beq_iff_eq, Option.isNone_iff_eq_none] at h
  simp [Dev.touch, h]

/-- A command at a register that answers has its effect on the block as it stands. -/
theorem Soc.atReg_answers {s : Soc} {a : Nat} (h : s.answers a = true) (f : Soc → Soc) : Soc.atReg a f s = f s := by
  unfold Soc.answers at h
  simp only [Bool.and_eq_true, Bool.not_eq_true'] at h
  obtain ⟨⟨⟨h0, h1⟩, h2⟩, h3⟩ := h
  have ht : s.map Dev.touch = s := by simp [Soc.map, Dev.touch_awake h0]
  unfold Soc.atReg Soc.access
  simp only [ht, h1, if_true]
  split at h3
  · cases h3
  · rename_i k inst off hp
    simp only [Bool.and_eq_true, Option.isNone_iff_eq_none, Bool.not_eq_true'] at h3
    simp only [hp, h2, h3.1, h3.2, Bool.false_and, if_false, Bool.false_eq_true]

theorem Soc.cmdReg_answers {s : Soc} {a : Nat} (h : s.answers a = true) (f : Dev → Dev) :
    Soc.cmdReg a f s = s.map f := Soc.atReg_answers h _

/-- A command at a common register of a page that answers. -/
theorem Soc.onPage_answers {s : Soc} {p : BitVec 8} {off : Nat} {k : PageKind} {i o : Nat}
    (hp : pageOf (pageAt p) = some (k, i, o)) (h : s.answers (pageAt p + off) = true) (f : PageKind → Nat → Nat → Dev → Dev) :
    Soc.onPage p off f s = s.map (f k i (pageAt p)) := by
  unfold Soc.onPage
  rw [Soc.atReg_answers h, hp]

/-! ### What a change brings at once -/

theorem foldl_id {α β : Type} (f : β → α → β) (b : β) : ∀ l : List α, (∀ x ∈ l, f b x = b) → l.foldl f b = b
  | [], _ => rfl
  | x :: t, h => by
    rw [List.foldl_cons, h x List.mem_cons_self]
    exact foldl_id f b t (fun y hy => h y (List.mem_cons_of_mem _ hy))

/-- Where no drive starts, nothing is aborted. -/
theorem Dev.fldWatch_quiet {d : Dev} (h : ∀ k < 16, d.phase k = 0 ∨ d.phase k = 4) : d.fldWatch = d := by
  unfold Dev.fldWatch
  apply foldl_id
  intro k hk
  rcases h k (by simpa using hk) with e | e <;> simp [e]

/-- A device that is awake has nothing to wake. -/
theorem Dev.wake_run {d : Dev} (h : d.awake = true) (src : Fin 5) : d.wake src = d := by
  simp only [Dev.awake, Bool.and_eq_true, beq_iff_eq, Option.isNone_iff_eq_none] at h
  simp [Dev.wake, Dev.wakeNow, h]

/-- In a quiet device a change brings nothing further. -/
theorem Dev.follow_quiet {d : Dev} (h : d.quiet) (b : Dev) : b.follow d = d := by
  unfold Dev.follow
  simp only []
  have e : (if b.startSigns = d.startSigns then d else d.fldWatch) = d := by
    split
    · rfl
    · exact Dev.fldWatch_quiet h.2
  rw [e]
  split
  · rfl
  · exact Dev.wake_run h.1 3

end Sys2Proof.Machine
end

