-- ==== Sys2Proof/Laws/Memory.lean ====
section
/-! SUPPORT. The bytes of SRAM, DRAM and flash: every operation keeps the canonical form, a read after a write gives what
was written, and every other byte reads as before. -/

namespace Sys2Proof.Machine

/-! ### One byte -/

theorem memGet_put (m : List Host.Cell) (a b : Nat) (v : Byte) :
    memGet (memPut m a v) b = if b = a then v else memGet m b := mapGet_put byteDefault m a b v

theorem memWf_put {m : List Host.Cell} (h : Memory.wf m = true) (a : Nat) (v : Byte) :
    Memory.wf (memPut m a v) = true := mapOk_put byteDefault m a v h

@[simp] theorem memWf_nil : Memory.wf [] = true := rfl

/-! ### Bytes at rising addresses -/

theorem memWf_putList {m : List Host.Cell} (h : Memory.wf m = true) (a : Nat) (l : List Byte) :
    Memory.wf (memPutList m a l) = true := by
  induction l generalizing m a with
  | nil => exact h
  | cons b t ih => exact ih (memWf_put h a b) (a + 1)

/-- What a byte reads as after a list is written: its place in the list, or as before. -/
theorem memGet_putList (m : List Host.Cell) (a : Nat) (l : List Byte) (x : Nat) :
    memGet (memPutList m a l) x = if a ≤ x then (l[x - a]?).getD (memGet m x) else memGet m x := by
  induction l generalizing m a with
  | nil => simp [memPutList]
  | cons b t ih =>
    rw [memPutList, ih, memGet_put]
    by_cases h1 : x = a
    · subst h1
      simp [show ¬ x + 1 ≤ x by omega]
    · by_cases h2 : a ≤ x
      · have h3 : a + 1 ≤ x := by omega
        have h4 : x - a = (x - (a + 1)) + 1 := by omega
        simp [h1, h2, h3, h4]
      · have h3 : ¬ a + 1 ≤ x := by omega
        simp [h1, h2, h3]

/-- A list written leaves every byte outside its own. -/
theorem memGet_putList_out (m : List Host.Cell) {a x : Nat} {l : List Byte} (h : x < a ∨ a + l.length ≤ x) :
    memGet (memPutList m a l) x = memGet m x := by
  rw [memGet_putList]
  split
  · have h2 : l.length ≤ x - a := by omega
    simp [List.getElem?_eq_none h2]
  · rfl

theorem memGetList_getElem? (m : List Host.Cell) (a n i : Nat) :
    (memGetList m a n)[i]? = if i < n then some (memGet m (a + i)) else none := by
  induction n generalizing a i with
  | zero => simp [memGetList]
  | succ n ih =>
    cases i with
    | zero => simp [memGetList]
    | succ i =>
      have e : a + 1 + i = a + (i + 1) := by omega
      simp only [memGetList, List.getElem?_cons_succ, ih, Nat.add_lt_add_iff_right, e]

@[simp] theorem memGetList_length (m : List Host.Cell) (a n : Nat) : (memGetList m a n).length = n := by
  induction n generalizing a with
  | zero => rfl
  | succ n ih => simp [memGetList, ih]

/-- Reading back what was written. -/
theorem memGetList_putList (m : List Host.Cell) (a : Nat) (l : List Byte) :
    memGetList (memPutList m a l) a l.length = l := by
  apply List.ext_getElem?
  intro i
  rw [memGetList_getElem?, memGet_putList]
  split
  · rename_i h
    simp [h]
  · rename_i h
    exact (List.getElem?_eq_none (Nat.not_lt.1 h)).symm

/-- Two memories that agree on a range give the same bytes there. -/
theorem memGetList_congr {m n : List Host.Cell} {a k : Nat} (h : ∀ x, a ≤ x → x < a + k → memGet m x = memGet n x) :
    memGetList m a k = memGetList n a k := by
  apply List.ext_getElem?
  intro i
  rw [memGetList_getElem?, memGetList_getElem?]
  split
  · rw [h (a + i) (by omega) (by omega)]
  · rfl

/-! ### Little-endian numbers -/

@[simp] theorem natBytes_length (n v : Nat) : (natBytes n v).length = n := by
  induction n generalizing v with
  | zero => rfl
  | succ n ih => simp [natBytes, ih]

theorem memWf_putNat {m : List Host.Cell} (h : Memory.wf m = true) (a n v : Nat) :
    Memory.wf (memPutNat m a n v) = true := memWf_putList h a _

theorem memGet_putNat_out (m : List Host.Cell) {a n v x : Nat} (h : x < a ∨ a + n ≤ x) :
    memGet (memPutNat m a n v) x = memGet m x := memGet_putList_out m (by simpa using h)

theorem memNat_eq (m : List Host.Cell) (a n : Nat) : memNat m a n = bytesNat (memGetList m a n) := by
  induction n generalizing a with
  | zero => rfl
  | succ n ih => simp [memNat, memGetList, bytesNat, ih]

theorem bytesNat_natBytes (n v : Nat) : bytesNat (natBytes n v) = v % 2 ^ (8 * n) := by
  induction n generalizing v with
  | zero => simp [natBytes, bytesNat, Nat.mod_one]
  | succ n ih =>
    have e : 2 ^ (8 * (n + 1)) = 256 * 2 ^ (8 * n) := by
      rw [show 8 * (n + 1) = 8 + 8 * n by omega, Nat.pow_add]
    rw [natBytes, bytesNat, ih, e, Nat.mod_mul]
    simp [BitVec.toNat_ofNat]

/-- Reading back a number of `n` bytes. -/
theorem memNat_putNat (m : List Host.Cell) (a n v : Nat) : memNat (memPutNat m a n v) a n = v % 2 ^ (8 * n) := by
  have h := memGetList_putList m a (natBytes n v)
  rw [natBytes_length] at h
  rw [memNat_eq, memPutNat, h, bytesNat_natBytes]

/-! ### The block's own stores -/

/-- A store leaves memory canonical. -/
theorem Soc.store_memOk {s : Soc} (h : s.memOk) (a : Nat) (l : List Byte) : (s.store a l).memOk :=
  ⟨memWf_putList h.1 a l, h.2⟩

/-- A store changes its own bytes alone. -/
theorem Soc.store_keeps (s : Soc) (a : Nat) (l : List Byte) : s.keepsBytes (s.store a l) a l.length :=
  fun _ hx => memGet_putList_out s.mem hx

/-- What a store leaves in its bytes. -/
theorem Soc.store_bytes (s : Soc) (a : Nat) (l : List Byte) : memGetList (s.store a l).mem a l.length = l :=
  memGetList_putList s.mem a l

theorem Soc.putWord_memOk {s : Soc} (h : s.memOk) (a v : Nat) : (s.putWord a v).memOk :=
  ⟨memWf_putNat h.1 a 4 v, h.2⟩

theorem Soc.putWord_keeps (s : Soc) (a v : Nat) : s.keepsBytes (s.putWord a v) a 4 :=
  fun _ hx => memGet_putNat_out s.mem hx

theorem Soc.word_putWord (s : Soc) (a v : Nat) : (s.putWord a v).word a = v % 2 ^ 32 :=
  memNat_putNat s.mem a 4 v

@[simp] theorem Soc.store_dev (s : Soc) (a : Nat) (l : List Byte) : (s.store a l).dev = s.dev := rfl
@[simp] theorem Soc.store_flash (s : Soc) (a : Nat) (l : List Byte) : (s.store a l).flash = s.flash := rfl
@[simp] theorem Soc.putWord_dev (s : Soc) (a v : Nat) : (s.putWord a v).dev = s.dev := rfl
@[simp] theorem Soc.putWord_flash (s : Soc) (a v : Nat) : (s.putWord a v).flash = s.flash := rfl

/-- Whatever changes the device alone leaves memory canonical. -/
theorem Soc.map_memOk {s : Soc} (h : s.memOk) (f : Dev → Dev) : (s.map f).memOk := h

/-- A store of chosen bytes keeps the canonical form. -/
theorem memWf_foldl_put {m : List Host.Cell} (h : Memory.wf m = true) (p : Nat → Bool) (a : Nat) (f : Nat → Byte)
    (l : List Nat) : Memory.wf (l.foldl (fun m i => if p i then memPut m (a + i) (f i) else m) m) = true := by
  induction l generalizing m with
  | nil => exact h
  | cons i t ih =>
    rw [List.foldl_cons]
    apply ih
    split
    · exact memWf_put h _ _
    · exact h

/-! ### The boot flash (R522) -/

/-- Programming keeps the flash canonical. -/
theorem Soc.flProgramBytes_memOk {s : Soc} (h : s.memOk) (a : Nat) (l : List Byte) : (s.flProgramBytes a l).memOk := by
  induction l generalizing s a with
  | nil => exact h
  | cons b t ih =>
    unfold Soc.flProgramBytes
    split
    · exact ih (s := { s with flash := memPut s.flash a b }) ⟨h.1, memWf_put h.2 _ _⟩ _
    · exact ih (s := { s with dev := (s.dev.free 8).2, flash := memPut s.flash a (BitVec.ofNat 8 (s.dev.free 8).1) })
        ⟨h.1, memWf_put h.2 _ _⟩ _

/-- Programming stores nothing in SRAM or DRAM. -/
theorem Soc.flProgramBytes_mem (s : Soc) (a : Nat) (l : List Byte) : (s.flProgramBytes a l).mem = s.mem := by
  induction l generalizing s a with
  | nil => rfl
  | cons b t ih =>
    unfold Soc.flProgramBytes
    split <;> exact ih _ _

/-- Programming leaves every flash byte outside its own. -/
theorem Soc.flProgramBytes_out (s : Soc) {a x : Nat} {l : List Byte} (h : x < a ∨ a + l.length ≤ x) :
    memGet (s.flProgramBytes a l).flash x = memGet s.flash x := by
  induction l generalizing s a with
  | nil => rfl
  | cons b t ih =>
    have h1 : x < a + 1 ∨ a + 1 + t.length ≤ x := by simp only [List.length_cons] at h; omega
    have h2 : x ≠ a := by simp only [List.length_cons] at h; omega
    unfold Soc.flProgramBytes
    split <;> rw [ih _ h1] <;> simp [memGet_put, h2]

end Sys2Proof.Machine
end

