-- ==== Sys2Proof/Laws/Rows.lean ====
section
/-! SUPPORT. What the two shapes of a row answer, and what the passing of time and a write of one register leave. -/

namespace Sys2Proof.Machine

/-! ### The shapes of a row -/

theorem State.event_eq (s : State) (dt : Nat) (f : Soc → Soc) :
    s.event dt f = .next { s with soc := f (s.soc.after dt) } := rfl

theorem State.host_eq (s : State) (f : Soc → Soc) : s.host f = .next { s with soc := f s.soc } := rfl

/-! ### Time -/

theorem Soc.after_memOk {s : Soc} (h : s.memOk) (dt : Nat) : (s.after dt).memOk := h

@[simp] theorem Soc.map_map (s : Soc) (f g : Dev → Dev) : (s.map f).map g = s.map (fun d => g (f d)) := rfl

/-! ### The comparison of copies -/

/-- Copies that agree pass with no note (R350). -/
theorem Dev.compare_agree (d : Dev) (c s : Nat) : d.compare c s .agree = (d, true) := by
  unfold Dev.compare
  split
  · rfl
  · dsimp only

/-! ### The register file stays canonical -/

theorem Dev.setReg_regsOk {d : Dev} (h : d.regsOk) (a : Nat) (w : Word) : (d.setReg a w).regsOk :=
  ⟨mapOk_put resetWord d.regs a w h.1, h.2⟩

theorem Dev.setAct_regsOk {d : Dev} (h : d.regsOk) (a : Nat) (w : Word) : (d.setAct a w).regsOk :=
  ⟨h.1, mapOk_put resetWord d.act a w h.2⟩

theorem Dev.putAt_regsOk {d : Dev} (h : d.regsOk) (pg : Nat) (f : Fld) (i v : Nat) : (d.putAt pg f i v).regsOk :=
  d.setReg_regsOk h _ _

theorem Dev.put_regsOk {d : Dev} (h : d.regsOk) (pg : Nat) (f : Fld) (v : Nat) : (d.put pg f v).regsOk :=
  d.setReg_regsOk h _ _

end Sys2Proof.Machine
end

