-- ==== Sys2Proof/Laws/Shared.lean ====
section
/-! SUPPORT. What operations that several meanings share can do: a commit that a service arms (R301, R326), the time of a
trip input's condition (R179), the copy of a set under admission (R54). -/

namespace Sys2Proof.Machine

/-- A commit armed by a service is pending with its WHEN. -/
theorem Dev.armStage_pending (d : Dev) (k when : Nat) :
    (d.armStage k when).flag (pgSTG k) COM.COMMIT_PENDING = true
      ∧ (d.armStage k when).get (pgSTG k) COM.COMMIT_WHEN = when % 4 := by
  unfold Dev.armStage
  constructor
  · unfold Dev.flag
    change (((d.put (pgSTG k) COM.COMMIT_WHEN when).put (pgSTG k) COM.COMMIT_PENDING 1).getAt (pgSTG k) COM.COMMIT_PENDING 0
      != 0) = true
    rw [Dev.put, Dev.getAt_putAt _ _ _ _ _ (by decide)]
    decide
  · change (((d.put (pgSTG k) COM.COMMIT_WHEN when).put (pgSTG k) COM.COMMIT_PENDING 1).getAt (pgSTG k) COM.COMMIT_WHEN 0)
      = when % 4
    rw [Dev.put, Dev.getAt_putAt_apart _ _ (by decide) (by decide), Dev.put, Dev.getAt_putAt _ _ _ _ _ (by decide)]
    rfl

/-- It changes the COMMIT register of the stage alone. -/
theorem Dev.armStage_reg (d : Dev) (k when : Nat) {a : Nat} (h : a ≠ pgSTG k + COM.COMMIT_WHEN.off) :
    (d.armStage k when).reg a = d.reg a := by
  unfold Dev.armStage
  change ((d.put (pgSTG k) COM.COMMIT_WHEN when).put (pgSTG k) COM.COMMIT_PENDING 1).reg a = d.reg a
  rw [Dev.put, Dev.reg_putAt_ne _ _ _ _ _ h, Dev.put, Dev.reg_putAt_ne _ _ _ _ _ h]

/-- The condition of a trip input is the one noted, and one that does not change keeps its time. -/
theorem Dev.noteInput_get (d : Dev) (s : Nat) (b : Bool) (t : Nat) (i : TripIn) (h : d.trip.ins[s]? = some i) :
    (d.noteInput s b t).trip.ins[s]? = some (if i.act = b then i else { i with act := b, since := t }) := by
  simp [Dev.noteInput, h]

theorem Dev.noteInput_ne (d : Dev) (s : Nat) (b : Bool) (t : Nat) {j : Nat} (h : s ≠ j) :
    (d.noteInput s b t).trip.ins[j]? = d.trip.ins[j]? := by
  simp [Dev.noteInput, h]

theorem Dev.noteInput_regs (d : Dev) (s : Nat) (b : Bool) (t : Nat) : (d.noteInput s b t).regs = d.regs := rfl

/-- The copy is made in STATE COPYING alone, and takes STATE CHECKING. -/
theorem Dev.copied_else {d : Dev} {mem : List Host.Cell} (h : d.almState ≠ 1) : d.copied mem = d := by
  simp [Dev.copied, h]

theorem Dev.copied_state {d : Dev} {mem : List Host.Cell} (h : d.almState = 1) : (d.copied mem).almState = 2 := by
  unfold Dev.copied
  rw [if_pos h]
  unfold Dev.almState Dev.get
  rw [Dev.put, Dev.getAt_putAt _ _ _ _ _ (by decide)]
  decide

end Sys2Proof.Machine
end

