-- ==== Sys2Proof/WellFormed.lean ====
section
/-! DEFINITION. Which commands are well formed: what their operand types do not already say. -/

namespace Sys2Proof

open Machine

/-- The access goes to a register page or to the MSI-X structures (R9, R506). -/
def HostAddr.isRegister (a : HostAddr) : Bool :=
  match a.target with | .page _ => true | .msix _ => true | .pba _ => true | _ => false

/-- The access goes to SRAM or DRAM (R9). -/
def HostAddr.isMemory (a : HostAddr) : Bool := match a.target with | .mem _ => true | _ => false

/-- The length of an xSPI transfer (R508). -/
def xspiLen (n : BitVec 9) : Bool := decide (1 ≤ n.toNat ∧ n.toNat ≤ 256)

/-- A command is well formed. -/
def Instr.wellFormed (i : Instr) : Bool :=
  match i with
  | .registerWrite at_ _ _ => HostAddr.isRegister at_
  | .unmappedAccess at_ _ => decide (at_.target = .unmapped)
  | .enableWrite _ => true
  | .disableWrite _ => true
  | .irqFlagClear _ _ _ => true
  | .irqForce _ _ => true
  | .irqEnWrite _ _ => true
  | .errcodeClr _ _ => true
  | .lockSet _ => true
  | .commitReq _ _ => true
  | .commitLoad _ _ => true
  | .pairingWindowClose _ => true
  | .check => true
  | .admitSet => true
  | .release => true
  | .admCmdReserved code => decide (4 ≤ code.toNat)
  | .admissionComplete _ => true
  | .sliceTime0 _ _ _ => true
  | .sliceSkip _ _ => true
  | .sliceBistEntry _ _ => true
  | .sliceEnd _ _ _ _ => true
  | .sliceHandback _ _ => true
  | .backgroundPromotion _ _ => true
  | .quadratureCount _ _ _ _ => true
  | .hallSectorChange _ _ _ _ _ => true
  | .indexEvent _ _ => true
  | .setCount _ _ => true
  | .window _ _ => true
  | .snapTake _ => true
  | .probeEdge _ _ _ => true
  | .prbCfgWrite _ _ => true
  | .prbRearm _ _ => true
  | .illCntClr _ => true
  | .idxStatClr _ => true
  | .resolverSample _ _ => true
  | .ssiRequest _ _ _ => true
  | .ssiFrame _ _ _ => true
  | .ssiTimeout _ _ => true
  | .emuStep _ _ => true
  | .entryFire _ _ => true
  | .ephLoad _ chart => decide (chart ≠ 0xFFFF)
  | .ephValidateInPlace _ _ => true
  | .loadDone _ _ => true
  | .ephWindowWrite _ _ _ => true
  | .switched _ _ => true
  | .fallback _ _ => true
  | .returnRun _ _ => true
  | .ephCntClr _ => true
  | .zeroEvent _ _ => true
  | .periodEvent _ _ => true
  | .stageCompareEvent _ _ _ => true
  | .syncStart _ _ => true
  | .legEdge _ _ => true
  | .turnOn _ _ _ => true
  | .minOExpiry _ _ => true
  | .offGapExpiry _ _ => true
  | .debugHalt _ _ _ => true
  | .freezeEnd _ => true
  | .stgCntClr _ => true
  | .legCntClr _ => true
  | .reconTrigger _ _ _ => true
  | .cmPublish _ _ => true
  | .inlinePublish _ _ => true
  | .cmCntClr _ => true
  | .injRequest _ _ _ => true
  | .conversionStart _ _ _ => true
  | .conversionResult _ _ _ _ => true
  | .calGo _ _ => true
  | .calStart _ _ => true
  | .calDone _ _ => true
  | .clamp _ _ _ => true
  | .slotWrite _ _ _ => true
  | .adcCntClr _ => true
  | .sdiWord _ _ => true
  | .oc _ _ _ _ => true
  | .stuck _ _ => true
  | .clkLoss _ _ => true
  | .sdiErrClr _ => true
  | .tripSourceActive _ _ _ _ => true
  | .tripSourceInactive _ _ _ _ => true
  | .tripRelease _ _ => true
  | .flagClear _ _ => true
  | .tripReq _ _ => true
  | .intlkClr _ => true
  | .crcCheck _ => true
  | .comparatorTestStart _ _ => true
  | .comparatorTestStep _ _ => true
  | .comparatorTestVerdict _ _ _ _ => true
  | .jobRelease _ => true
  | .dispatch _ _ _ => true
  | .nop _ _ _ _ => true
  | .ldi _ _ _ _ => true
  | .mov _ _ _ _ => true
  | .add _ _ _ _ => true
  | .sub _ _ _ _ => true
  | .neg _ _ _ _ => true
  | .abs _ _ _ _ => true
  | .min _ _ _ _ => true
  | .max _ _ _ _ => true
  | .mul _ _ _ _ => true
  | .mac _ _ _ _ => true
  | .msu _ _ _ _ => true
  | .aclr _ _ _ _ => true
  | .rnd _ _ _ _ => true
  | .ash _ _ _ _ => true
  | .ld _ _ _ _ => true
  | .st _ _ _ _ => true
  | .lda _ _ _ _ => true
  | .sta _ _ _ _ => true
  | .br _ _ _ _ => true
  | .loop _ _ _ _ => true
  | .stage _ _ _ _ => true
  | .jobEnd _ _ _ _ => true
  | .clampOp _ _ _ _ => true
  | .sat _ _ _ _ => true
  | .ramp _ _ _ _ => true
  | .integ _ _ _ _ => true
  | .clarke _ _ _ _ => true
  | .park _ _ _ _ => true
  | .ipark _ _ _ _ => true
  | .sincos _ _ _ _ => true
  | .svm _ _ _ _ => true
  | .psel _ _ _ _ => true
  | .gtl _ _ _ _ => true
  | .tl1 _ _ _ _ => true
  | .tl2 _ _ _ _ => true
  | .out _ _ _ _ => true
  | .outc _ _ _ _ => true
  | .reservedOpcode _ _ _ _ => true
  | .runWrite x _ => decide (1 ≤ x.toNat)
  | .rampRestart x => decide (1 ≤ x.toNat)
  | .contextMemoryWrite at_ _ _ => HostAddr.isMemory at_
  | .ctxCntClr _ _ => true
  | .cluCntClr _ => true
  | .start _ => true
  | .stop _ => true
  | .measureTriple _ _ => true
  | .measDone _ _ => true
  | .ipdVector _ _ => true
  | .ipdDone _ _ => true
  | .bemfSample _ _ => true
  | .tMagWrite _ _ => true
  | .stale _ _ => true
  | .newMachine _ => true
  | .clrDemag _ => true
  | .ledgerTick _ => true
  | .chopFault _ => true
  | .disLate _ => true
  | .disReq => true
  | .disAbort => true
  | .escClr => true
  | .hkRoundStart _ => true
  | .hkRoundComplete _ => true
  | .thmModelUpdate _ _ => true
  | .limitRamp _ => true
  | .mmClr _ => true
  | .recoveryEnd _ _ => true
  | .modeReq _ _ _ _ => true
  | .modeCheckDone _ _ => true
  | .modeBoundary _ _ => true
  | .modeHandover _ _ => true
  | .exchangePoint _ _ _ => true
  | .ctest _ _ _ => true
  | .subTick _ => true
  | .safetyTick _ _ => true
  | .stoChannelChange _ _ _ _ => true
  | .outputEnableRestore _ => true
  | .discFault _ => true
  | .coreFault _ => true
  | .gdenReadbackFault _ _ _ _ => true
  | .cfgCrcRecheck _ _ => true
  | .heartbeatLoss _ _ => true
  | .vddGnWindow _ _ => true
  | .debugAttach _ => true
  | .resetEdge _ => true
  | .cfgLoad => true
  | .cfgConfirm => true
  | .cfgTimeout _ => true
  | .lock => true
  | .clrSsat _ => true
  | .clrGtrip => true
  | .sreqReserved cmd => decide (cmd.toNat = 0 ∨ 6 ≤ cmd.toNat)
  | .applicationEvent _ => true
  | .torqueSample _ _ => true
  | .torqueReact _ _ => true
  | .safeCopyReceived _ _ _ => true
  | .pairingEvaluation _ => true
  | .snMissing _ => true
  | .snWatchdog _ => true
  | .statusPduTx _ => true
  | .monitorWindow _ _ _ _ => true
  | .refReady _ => true
  | .holdover _ _ => true
  | .holdoverExpiry _ => true
  | .xoRestart _ => true
  | .pll0Unlock _ => true
  | .holdExit _ => true
  | .returnWrite => true
  | .dllUnlock _ => true
  | .dllRelock _ => true
  | .dllCalGo => true
  | .tapcalDone _ _ => true
  | .ssCfgWrite _ => true
  | .opReq _ => true
  | .opChangeStart _ => true
  | .vddOk _ => true
  | .vTimeout _ => true
  | .pll1Lock _ => true
  | .relockSwitch _ => true
  | .sleepRequest => true
  | .deepSleepRequest => true
  | .wake _ _ => true
  | .wakeTimer _ => true
  | .powerOn _ => true
  | .resetPin _ => true
  | .brownOut _ supplies => decide (supplies ≠ 0)
  | .watchdog _ => true
  | .softRst _ => true
  | .perst _ _ _ => true
  | .blkRst _ _ => true
  | .partnerFlush _ _ => true
  | .clkenWrite _ _ => true
  | .bootPass _ _ => true
  | .runReq _ _ _ => true
  | .runDone _ _ _ => true
  | .retry _ => true
  | .verifyCfg => true
  | .releaseCfg => true
  | .attest => true
  | .getKeys => true
  | .svnCommit => true
  | .secCmdReserved cmd => decide (cmd.toNat = 0 ∨ 6 ≤ cmd.toNat)
  | .tokenGo => true
  | .tokenDone _ => true
  | .portLoss _ _ => true
  | .commaAlignment _ _ => true
  | .portUp _ _ => true
  | .portDegraded _ _ => true
  | .portRecovered _ _ => true
  | .enum => true
  | .enumFrame _ _ _ => true
  | .prepare _ _ => true
  | .arrayAbort => true
  | .syncSend _ => true
  | .syncReceived _ _ _ _ _ _ => true
  | .delayReqSend _ _ => true
  | .delayReq _ _ _ => true
  | .delayResp _ _ _ _ => true
  | .mailbox _ _ _ _ _ _ => true
  | .context _ _ _ => true
  | .prepareFrame _ _ _ _ _ _ _ => true
  | .commitFrame _ _ _ => true
  | .abortFrame _ _ _ => true
  | .holdFrame _ _ _ => true
  | .ready _ _ _ => true
  | .refuse _ _ _ _ => true
  | .applied _ _ _ => true
  | .notApplied _ _ _ => true
  | .nak _ _ _ => true
  | .isolated _ => true
  | .voteTimeout _ => true
  | .arrayBoundary _ => true
  | .ackTimeout _ => true
  | .holdClr => true
  | .place _ _ => true
  | .placeDone _ _ => true
  | .guestLost _ _ => true
  | .vlkCntClr _ => true
  | .hostMemoryWrite at_ _ _ => HostAddr.isMemory at_
  | .pciePoison _ => true
  | .pcieTlp => true
  | .xspiRead _ n => xspiLen n
  | .xspiReadSlow _ n => xspiLen n
  | .xspiWrite _ bytes => decide (1 ≤ bytes.length ∧ bytes.length ≤ 256)
  | .xspiReservedOpcode op => decide (op ≠ 0x11EE ∧ op ≠ 0xF30C ∧ op ≠ 0xED12)
  | .promotionCheck _ _ => true
  | .sliceCopyDone _ _ => true
  | .sramScrub _ ce ue => (ce ++ ue).all (fun a => inSram a.toNat 1)
  | .dramScrub _ ce ue => (ce ++ ue).all (fun a => inDram a.toNat 1)
  | .ethRxFrame _ _ _ _ _ _ => true
  | .txTailWrite _ _ => true
  | .ethTxDone _ _ _ => true
  | .ptpSyncLoss _ _ => true
  | .canRxFrame _ _ xtd id _ data => decide (data.length ≤ 64) && (xtd || decide (id.toNat < 2048))
  | .canTxReq _ _ => true
  | .canTxDone _ _ => true
  | .canRecover _ _ => true
  | .rxPop _ => true
  | .flRead => true
  | .flProgram => true
  | .flErase => true
  | .flDone _ => true
  | .vecmapWrite _ _ => true
  | .vlatchClear _ _ => true
  | .capArm => true
  | .capStop => true
  | .trigSw => true
  | .capRecord _ => true
  | .capDone _ => true
  | .unrolled _ => true
  | .snetCntClr => true
  | .gnomonReset _ _ _ => true
  | .frameDiscarded _ _ _ _ => true
  | .clampInactive _ _ _ => true
  | .clockLossEnd _ _ => true
  | .secDone _ => true
  | .ethLinkChange _ _ _ _ => true
  | .pcieLinkChange _ _ _ _ => true
  | .canBusError _ _ _ _ _ => true
  | .timeLoRead _ => true
  | .hostMemoryRead at_ => HostAddr.isMemory at_
  | .debugStep _ _ _ _ => true
  | .debugWrite _ _ _ _ _ => true
  | .debugDetach _ => true

end Sys2Proof
end

