-- ==== Sys2Proof/Tests/Slice0.lean ====
section
/-! SUPPORT. The model's own tests: the well-formedness checks refuse what they should, single steps on the spec's worked
examples, and for every statement a concrete state and operands that meet all its hypotheses together. -/

set_option Elab.async false

namespace Sys2Proof.Tests

open Sys2Proof Sys2Proof.Machine

/-! ### Helpers -/

/-- The state after reset with the device changed by `f` and the block by `g`. -/
def Wf (f : Dev → Dev) (g : Soc → Soc) : State := { State.reset with soc := g (State.reset.soc.map f) }

/-- The state after reset with the device changed by `f`. -/
def Wt (f : Dev → Dev) : State := Wf f (fun s => s)

/-- An instruction word from its fields (R271). -/
def iw (op acc dst sa sb sc space sh imm : Nat) : Nat :=
  op * 2 ^ 58 + acc * 2 ^ 56 + dst * 2 ^ 52 + sa * 2 ^ 48 + sb * 2 ^ 44 + sc * 2 ^ 40 + space * 2 ^ 36 + sh * 2 ^ 32 + imm

/-- A loop declaration for the tests. -/
def tLoop : LoopDecl := { id := 4, ctx := 1, cls := 0, stream := 48, cluster := 3, fmt := 0, trigger := 3, trigStage := 0, trigEvent := 0, prescale := 1, monitors := 0xFF, period := 100, deadline := 100, angleStep := 0, progAddr := 0x10000000, progLen := 4, gainPoints := 0, ins := [], outs := [], cyc := 10, lin := 0, resp := 0, rank := 0, dc := 0, tc := 0, emig := 0 }

/-- An admitted set with that loop. -/
def tSet : Admitted := ⟨1, 2, 2, false, 10, [], [tLoop], [], [1], [], []⟩

/-- A job of it. -/
def tRun : JobRun := ⟨⟨4, 1, 0, false⟩, 0, 0, [], []⟩

/-- Loop-engine registers with corner values. -/
def tDp : Dpath := { Dpath.cleared with v := #v[0x0000, 0x7000, 0x6000, 0x8000, 0x0003, 0xFFFE, 0x1234, 0x4000, 0x0100, 0x2000, 0xC000, 0, 0, 0, 0x7FFF, 0x0001] }

/-- The issue of a NOP by that job. -/
def tIss : Iss := ⟨tRun, tLoop, 0, tDp, false, false⟩

/-- The issue of word `w` by that job. -/
def tIssOf (w : Nat) (p : Dpath) (l : LoopDecl) (cls fmt : Bool) : Iss := ⟨tRun, l, w, p, cls, fmt⟩

/-- The state after reset in which stream 0 of cluster 3 is about to issue word `w`. -/
def Wi (w : Nat) (f : Dev → Dev := fun d => d) (p : Dpath := tDp) (g : Soc → Soc := fun s => s) (l : LoopDecl := tLoop) (a : Admitted := tSet) : State :=
  Wf (fun d => f (({ d with adm := some { a with loops := [l] } }).modClu 3 (fun h => { h with run := h.run.set 0 (some tRun), dp := Vector.replicate 3 p })))
    (fun s => g { s with mem := memPutNat s.mem 0x10000000 8 w })

/-- The body of a Gnomon configuration block. -/
def tBlk0 : List Byte := (List.range 132).map (fun i => BitVec.ofNat 8 (([(2, 1), (12, 100), (17, 16), (21, 16), (13, 0)].lookup i).getD
  (if 36 ≤ i ∧ i < 68 ∧ i % 2 = 0 then 100 else 0)))

/-- The block with its version and check. -/
def tBlk : List Byte := natBytes 4 0x00010000 ++ natBytes 4 (crc32c tBlk0) ++ tBlk0

/-- The body of a safety message. -/
def tPdu0 : List Byte := [0, 0, 1] ++ List.replicate 29 0

/-- The message with its check. -/
def tPdu : List Byte := tPdu0 ++ natBytes 4 (crc32c tPdu0)

/-- What a boot run observes. -/
def tObsT (te rom fl : Bool) : BootObs := { testEn := te, romOk := rom, flashOk := fl, xoReady := some 9, diode := 400, trainOk := true, storedOk := true, margin := 500, bist := 0, sigs := Vector.replicate 16 0, progOk := true, progVersion := 3, gnOk := true, patchOk := true, patchLevel := 1, almOk := true, libs := 2, linkUp := true, linkMs := 20, speed := 1, width := 1, romVersion := 4, elapsed := Vector.replicate 9 10 }

/-- What a boot run observes with TEST_EN low. -/
def tObs (rom fl : Bool) : BootObs := tObsT false rom fl

/-- The body of a set header. -/
def tHdr0 : List Byte := [2, 2, 0, 0] ++ natBytes 4 1000 ++ List.replicate 44 0

/-- The header with its check. -/
def tHdr : List Byte := natBytes 4 0x10000 ++ natBytes 4 7 ++ natBytes 4 (crc32c tHdr0) ++ tHdr0

/-- The plan that a check of the admission finds. -/
def tPlan (b : Soc) : Plan := match b.admVerify disCheck with | .ok p => p | .error _ => ⟨tSet, []⟩

/-! ### Well-formedness: what each check refuses, and what it takes -/

theorem test_wf_registerWrite : (Instr.registerWrite (.bar0 0x800000) 15 0).wellFormed = false
    ∧ (Instr.registerWrite (.bar0 0x1000) 15 0).wellFormed = true := by decide
theorem test_wf_unmappedAccess : (Instr.unmappedAccess (.bar0 0x1000) none).wellFormed = false
    ∧ (Instr.unmappedAccess (.bar0 0x110000) none).wellFormed = true := by decide
theorem test_wf_admCmdReserved : (Instr.admCmdReserved 3).wellFormed = false ∧ (Instr.admCmdReserved 4).wellFormed = true := by decide
theorem test_wf_ephLoad : (Instr.ephLoad 0 0xFFFF).wellFormed = false ∧ (Instr.ephLoad 0 0xFFFE).wellFormed = true := by decide
theorem test_wf_runWrite : (Instr.runWrite 0 true).wellFormed = false ∧ (Instr.runWrite 1 true).wellFormed = true := by decide
theorem test_wf_rampRestart : (Instr.rampRestart 0).wellFormed = false ∧ (Instr.rampRestart 63).wellFormed = true := by decide
theorem test_wf_contextMemoryWrite : (Instr.contextMemoryWrite (.bar0 0) 15 0).wellFormed = false
    ∧ (Instr.contextMemoryWrite (.bar0 0x800000) 15 0).wellFormed = true := by decide
theorem test_wf_hostMemoryWrite : (Instr.hostMemoryWrite (.bar0 0) 15 0).wellFormed = false
    ∧ (Instr.hostMemoryWrite (.bar2 0) 15 0).wellFormed = true := by decide
theorem test_wf_hostMemoryRead : (Instr.hostMemoryRead (.bar0 0)).wellFormed = false
    ∧ (Instr.hostMemoryRead (.bar2 0)).wellFormed = true := by decide
theorem test_wf_brownOut : (Instr.brownOut 0 0).wellFormed = false ∧ (Instr.brownOut 0 1).wellFormed = true := by decide
theorem test_wf_secCmdReserved : (Instr.secCmdReserved 5).wellFormed = false ∧ (Instr.secCmdReserved 6).wellFormed = true := by decide
theorem test_wf_sreqReserved : (Instr.sreqReserved 5).wellFormed = false ∧ (Instr.sreqReserved 0).wellFormed = true := by decide
theorem test_wf_xspiRead : (Instr.xspiRead 0 0).wellFormed = false ∧ (Instr.xspiRead 0 256).wellFormed = true := by decide
theorem test_wf_xspiReadSlow : (Instr.xspiReadSlow 0 257).wellFormed = false ∧ (Instr.xspiReadSlow 0 1).wellFormed = true := by decide
theorem test_wf_xspiWrite : (Instr.xspiWrite 0 []).wellFormed = false ∧ (Instr.xspiWrite 0 [7]).wellFormed = true := by decide
theorem test_wf_xspiReservedOpcode : (Instr.xspiReservedOpcode 0x11EE).wellFormed = false
    ∧ (Instr.xspiReservedOpcode 0x1234).wellFormed = true := by decide
theorem test_wf_sramScrub : (Instr.sramScrub 0 [0x80000000] []).wellFormed = false
    ∧ (Instr.sramScrub 0 [0x10000000] [0x10000004]).wellFormed = true := by decide
theorem test_wf_dramScrub : (Instr.dramScrub 0 [] [0x10000000]).wellFormed = false
    ∧ (Instr.dramScrub 0 [0x80000000] []).wellFormed = true := by decide
theorem test_wf_canRxFrame : (Instr.canRxFrame 0 0 false 2048 0 []).wellFormed = false
    ∧ (Instr.canRxFrame 0 0 true 2048 0 []).wellFormed = true
    ∧ (Instr.canRxFrame 0 0 true 0 0 (List.replicate 65 0)).wellFormed = false := by decide +kernel

/-! ### Single steps and worked examples of the spec -/

/-- Chapter 00, the example of 1,400 Hz: the speed code 5,734,400 advances 15,032.385 angle units of 1/65,536 turn of 2^16 a
TCLK. -/
theorem test_speed_advance : estInc 5734400 / 2 ^ 16 = 15032 ∧ estInc (-5734400) = -estInc 5734400 := by decide

/-- Chapter 03, windows 3 and 6 of the example of a start, a reversal and a glitch. -/
theorem test_window_speed : posWindowSpeed 20 4 4096 400000 = 80000 ∧ posWindowSpeed (-9) 4 4096 400000 = -36000 := by decide

/-- Chapter 03, the emulated encoder of 125/128: the first count leaves 125 with no step, the second 122 and one step. -/
theorem test_emulated_counts :
    let d := (Dev.powered.put (pgEMU 0) EMU.RATIO_N 125).put (pgEMU 0) EMU.RATIO_M 128
    ((d.emuCount 0 1).emu[(0 : Fin 4)]).acc = 125 ∧ (d.emuCount 0 1).getI (pgEMU 0) EMU.BACKLOG = 0
      ∧ (((d.emuCount 0 1).emuCount 0 1).emu[(0 : Fin 4)]).acc = 122
      ∧ ((d.emuCount 0 1).emuCount 0 1).getI (pgEMU 0) EMU.BACKLOG = 1 := by decide +kernel

/-- Chapter 09, the example of integrator limits: job 1 stops at INT_HI with L, job 2 leaves it with back-calculation. -/
theorem test_integrator : integ 483183821 8192 13107 16384 (-16384) 16384 0 false = (536870912, true)
    ∧ integ 536870912 8192 3277 16384 (-16384) 16384 2458 true = (523444224, false)
    ∧ integ 536870912 8192 3277 16384 (-16384) 16384 2458 false = (536870912, true) := by decide

/-- Chapter 10, the example of a healthy magnet: PSI_EST is 135,600 µV·s. -/
theorem test_magnet_flux :
    let d : Dev := { ((((Dev.powered.put pgFLD FLD.I_BASE 3200000).put pgFLD FLD.U_BASE 1000000).put
      pgFLD FLD.RES_S 8000).put pgFLD FLD.L_D 300000) with mbox := [(0, 64000), (1, 3072), (3, 7540), (4, 25)] }
    roundDiv (d.bemfPsi 0) 65536 = 135600 := by decide +kernel

/-- Chapter 12, the example of a throttle: at 152.5 °C between 150 and 175 the target is 0.9. -/
theorem test_derating_target :
    (((((Dev.powered.put pgTHM THM.DRT_G_MIN 0x4000).put pgTHM THM.MTHR_THR 150).put pgTHM THM.MTHR_SHUT 175).put
      pgTHM THM.T_NTC_LEVEL 2).put pgTHM THM.T_NTC_T 2440).gTarget 0 = 58982 := by decide +kernel

/-- Chapter 10, the table of R289: the count of R64 of the five library programs for FORMAT 0. -/
theorem test_library_counts : [0, 1, 2, 3, 4].map (fun p => worstCycles (libProgram p) 0) = [230, 1800, 1400, 160, 600] := by
  decide +kernel

/-- The front command runs, the rest waits; on an empty queue one TCLK passes (log entry 8). -/
theorem test_queue : (match step { State.reset with pending := [.escClr, .mmClr 0] } with
      | .next s => s.pending | _ => []) = [.mmClr 0]
    ∧ (match step State.reset with | .next s => s.soc.dev.wall | _ => 0) = 1 := by decide +kernel

/-- Chapter 05, the example of 16 kHz: u of the two edges, and ON at tap 5 in 14 of 16 carriers. -/
theorem test_fractional_edges :
    22938 * 25000 / 128 = 4480078 ∧ 4480078 / 512 = 8750
      ∧ ((List.range 16).map (fun c => ((Dev.powered.put pgCLK CLK.ST_DLL_LOCK 1).put (pgSTG 3) STG.CARRIER_CNT c).edgeTap 3 4480078)).count 5 = 14 := by
  decide +kernel

/-! ### What meets the hypotheses of the statements -/

theorem okOf {ε α : Type} {e : Except ε α} {a : α} (h : e.toOption = some a) : e = .ok a := by
  cases e <;> simp_all [Except.toOption]
theorem errOf {ε α : Type} {e : Except ε α} {r : ε} (h : (match e with | .error x => some x | .ok _ => none) = some r) :
    e = .error r := by cases e <;> simp_all
theorem planOk {b : Soc} (h : (b.admVerify disCheck).toOption.isSome = true) : b.admVerify disCheck = .ok (tPlan b) := by
  unfold tPlan; cases hb : b.admVerify disCheck <;> simp_all [Except.toOption]

theorem witness_StepRunsTheFrontCommand :
  (∃ (s : State) (c : Instr) (rest : List Instr), s.pending = c :: rest) ∧
  (∃ (s : State), s.pending = []) :=
  ⟨⟨(State.mk [Instr.holdClr, Instr.pcieTlp] State.reset.soc), Instr.holdClr, ([Instr.pcieTlp]), by decide +kernel⟩,
   ⟨State.reset, by decide +kernel⟩⟩

theorem witness_InterruptRegistersFollowTheirRule :
  (∃ (p : BitVec 8) (k : PageKind) (i : Nat) (o : Nat) (s : State), pageOf (pageAt p) = some (k, i, o) ∧
    s.soc.answers (pageAt p + 0x018) = true) ∧
  (∃ (p : BitVec 8) (k : PageKind) (i : Nat) (o : Nat) (s : State), pageOf (pageAt p) = some (k, i, o) ∧
    s.soc.answers (pageAt p + 0x01C) = true) :=
  ⟨⟨(0x10 : BitVec 8), PageKind.stg, (0 : Nat), (0 : Nat), (Wt fun d => d.setReg (pgSTG 0 + 0x10) 3),
     by decide +kernel⟩,
   ⟨(0x10 : BitVec 8), PageKind.stg, (0 : Nat), (0 : Nat), (Wt fun d => d.setReg (pgSTG 0 + 0x10) 2),
     by decide +kernel⟩⟩

theorem witness_EnablesLocksErrorsAndCommits :
  (∃ (p : BitVec 8) (k : PageKind) (i : Nat) (o : Nat) (s : State), pageOf (pageAt p) = some (k, i, o) ∧
    s.soc.answers (pageAt p + 0x014) = true) ∧
  (∃ (p : BitVec 8) (k : PageKind) (i : Nat) (o : Nat) (s : State), pageOf (pageAt p) = some (k, i, o) ∧
    s.soc.answers (pageAt p + 0x020) = true) ∧
  (∃ (p : BitVec 8) (k : PageKind) (i : Nat) (o : Nat) (s : State), pageOf (pageAt p) = some (k, i, o) ∧ k ≠ .gnm
    ∧ s.soc.answers (pageAt p + 0x028) = true) ∧
  (∃ (p : BitVec 8) (k : PageKind) (i : Nat) (o : Nat) (s : State) (when : BitVec 2), pageOf (pageAt p) = some (k,
    i, o) ∧ hasCommit k = true ∧ s.soc.answers (pageAt p + 0x02C) = true ∧ when.toNat ≠ 3 ∧ s.soc.dev.flag
    (pageAt p) COM.COMMIT_PENDING = false) :=
  ⟨⟨(0x10 : BitVec 8), PageKind.stg, (0 : Nat), (0 : Nat), State.reset, by decide +kernel⟩,
   ⟨(0x10 : BitVec 8), PageKind.stg, (0 : Nat), (0 : Nat), (Wt fun d => d.errBy (pgSTG 0) 0x1234 5),
     by decide +kernel⟩,
   ⟨(0x10 : BitVec 8), PageKind.stg, (0 : Nat), (0 : Nat), State.reset, by decide +kernel⟩,
   ⟨(0x10 : BitVec 8), PageKind.stg, (0 : Nat), (0 : Nat), (Wt fun d => d), (2 : BitVec 2), by decide +kernel⟩⟩

theorem witness_EnableFieldsTakeEffect :
  (∃ (p : BitVec 8) (k : PageKind) (i : Nat) (o : Nat) (s : State), pageOf (pageAt p) = some (k, i, o) ∧ k ≠ .gnm
    ∧ s.soc.answers (pageAt p + 0x008) = true ∧ s.soc.dev.flag (pageAt p) COM.ST_ENABLED = false ∧
    s.soc.dev.dupOutstanding k (pageAt p) = false) ∧
  (∃ (p : BitVec 8) (k : PageKind) (i : Nat) (o : Nat) (s : State), pageOf (pageAt p) = some (k, i, o) ∧ k ≠ .gnm
    ∧ s.soc.answers (pageAt p + 0x008) = true ∧ s.soc.dev.flag (pageAt p) COM.ST_ENABLED = true) ∧
  (∃ (k : Fin 16) (s : State), s.soc.answers (pgEPH + 0x118 + 64 * k.val) = true ∧ (s.soc.dev.est[k]).on = false ∧
    s.soc.dev.estBad k = false) ∧
  (∃ (k : Fin 16) (s : State), s.soc.answers (pgEPH + 0x118 + 64 * k.val) = true ∧ (s.soc.dev.est[k]).on = true) ∧
  (∃ (k : Fin 16) (s : State), s.soc.answers (pgFLD + 0x100 + 128 * k.val) = true ∧ s.soc.dev.flagAt pgFLD
    FLD.DSTAT_ENABLED k = false ∧ (s.soc.dev.driveStored k true).fldCfgBad k = false) ∧
  (∃ (k : Fin 16) (s : State), s.soc.answers (pgFLD + 0x100 + 128 * k.val) = true ∧ s.soc.dev.flagAt pgFLD
    FLD.DSTAT_ENABLED k = true) :=
  ⟨⟨(6 : BitVec 8), PageKind.eph, (0 : Nat), (0 : Nat), State.reset, by decide +kernel⟩,
   ⟨(6 : BitVec 8), PageKind.eph, (0 : Nat), (0 : Nat), (Wt fun d => d.put pgEPH COM.ST_ENABLED 1),
     by decide +kernel⟩,
   ⟨(15 : Fin 16),
     (Wt fun d => { (d.putAt pgEPH EPH.F_HIGH 15 10 |>.putAt pgEPH EPH.F_LOW 15 5 |>.putAt pgEPH EPH.EST_CFG_GLITCH_N 15 3 |>.putAt pgEPH EPH.REGION_LEN 15 32 |>.putAt pgEPH EPH.TIMES_COAST_MAX 15 100) with adm := some { tSet with stages := [(⟨15, 0, 2, 0, false, 0, 0, 0, 0, 0, 0, []⟩ : StageDecl)] } }),
     by decide +kernel⟩,
   ⟨(15 : Fin 16), (Wt fun d => { d with est := vmod d.est 15 (fun e => { e with on := true }) }),
     by decide +kernel⟩,
   ⟨(15 : Fin 16),
     (Wt fun d => (d.put (pgSTG 15) COM.OWNER_KIND 2).putAt pgFLD FLD.DCFG_CTX_CUR 15 5 |>.putAt pgCTX CTX.CCFG_VALID 5 1 |>.putAt pgFLD FLD.FS_TIME_SAMPLE 15 10 |>.putAt pgFLD FLD.FS_TIME_MEAS_TIME 15 100 |>.putAt pgFLD FLD.IPD_CFG_T_P 15 10 |>.putAt pgFLD FLD.BAND_B_EST_N 15 4),
     by decide +kernel⟩,
   ⟨(15 : Fin 16), (Wt fun d => d.putAt pgFLD FLD.DSTAT_ENABLED 15 1 |>.putAt pgFLD FLD.DSTAT_PHASE 15 4),
     by decide +kernel⟩⟩

theorem witness_RegisterWritesFollowTheAccessTypes :
  (∃ (at_ : HostAddr) (w : Word) (a : Nat) (k : PageKind) (i : Nat) (off : Nat) (e : Nat) (r : RegDesc) (s :
    State), at_.target = .page a ∧ a % 4 = 0 ∧ pageOf a = some (k, i, off) ∧ 0x40 ≤ off ∧ s.soc.reaches at_ =
    true ∧ s.soc.answers a = true ∧ s.soc.dev.liveRefusal k i (a - off) off = none ∧ (s.soc.action k i (a - off)
    off w).isNone = true ∧ regAt k i off = some (r, e) ∧ s.soc.dev.latentGuard k (a - off) off w = false ∧ (∀ x
    ∈ s.soc.dev.red, x.1 ≠ a - off + 0xF00)) ∧
  (∃ (at_ : HostAddr) (be : BitVec 4) (a : Nat) (k : PageKind) (i : Nat) (off : Nat) (s : State), at_.target =
    .page a ∧ pageOf a = some (k, i, off) ∧ s.soc.reaches at_ = true ∧ s.soc.answers a = true ∧ (be ≠ 15 ∨ a % 4
    ≠ 0)) ∧
  (∃ (at_ : HostAddr) (s : State), at_.target = .unmapped ∧ s.soc.reaches at_ = true) :=
  ⟨⟨(HostAddr.bar0 0x10040), (0x99 : Word), (0x40010040 : Nat), PageKind.stg, (0 : Nat), (0x40 : Nat),
     (((regAt .stg 0 0x40).getD (⟨"", 0, 0, 0, []⟩, 0)).2),
     (((regAt .stg 0 0x40).getD (⟨"", 0, 0, 0, []⟩, 0)).1), State.reset, by decide +kernel,
     Nat.eq_of_beq_eq_true (by decide +kernel), by decide +kernel, by decide +kernel, by decide +kernel,
     by decide +kernel, by decide +kernel, by decide +kernel, by decide +kernel, by decide +kernel,
     by decide +kernel⟩,
   ⟨(HostAddr.bar0 0x10000), (0 : BitVec 4), (0x40010000 : Nat), PageKind.stg, (0 : Nat), (0 : Nat), State.reset,
     by decide +kernel⟩,
   ⟨(HostAddr.bar0 0x180000), State.reset, by decide +kernel⟩⟩

theorem witness_CommitLoadsAndPairingWindows :
  (∃ (dt : Nat) (s : State) (b : Soc), b = s.soc.after dt ∧ b.dev.flag pgCTX COM.COMMIT_PENDING = true ∧
    b.dev.ctxWhen = 0) ∧
  (∃ (dt : Nat) (s : State) (k : Fin 16) (b : Soc), b = s.soc.after dt ∧ b.dev.commitDue k = true) ∧
  (∃ (dt : Nat) (s : State) (k : Fin 16) (b : Soc), b = s.soc.after dt ∧ b.dev.commitDue k = false) ∧
  (∃ (dt : Nat) (s : State) (b : Soc), b = s.soc.after dt ∧ (∀ x ∈ b.dev.dupWin, x.2 ≤ b.dev.time → ∀ k i off w,
    pageOf x.1 = some (k, i, off) → (dupWords k).find? (fun w => w.2 == off) = some w → b.dev.dupLive k (x.1 /
    0x1000 * 0x1000) w = false)) ∧
  (∃ (dt : Nat) (s : State) (a : Nat) (t : Nat) (k : PageKind) (i : Nat) (off : Nat) (w : Nat × Nat) (b : Soc), b
    = s.soc.after dt ∧ b.dev.dupWin = [(a, t)] ∧ t ≤ b.dev.time ∧ pageOf a = some (k, i, off) ∧ (dupWords
    k).find? (fun w => w.2 == off) = some w ∧ b.dev.dupLive k (a / 0x1000 * 0x1000) w = true) :=
  ⟨⟨(0 : Nat), (Wt fun d => d.put pgCTX COM.COMMIT_PENDING 1), _, rfl, by decide +kernel⟩,
   ⟨(0 : Nat), (Wt fun d => (d.put (pgSTG 15) COM.COMMIT_PENDING 1)), (15 : Fin 16), _, rfl, by decide +kernel⟩,
   ⟨(0 : Nat), State.reset, (15 : Fin 16), _, rfl, by decide +kernel⟩,
   ⟨(0 : Nat), (Wt fun d => (d.setReg (pgLEG 3 + 0x40) 7)), _, rfl,
     fun x hx => (List.eq_nil_iff_forall_not_mem.1 (by decide +kernel) x hx).elim⟩,
   ⟨(0 : Nat), (Wt fun d => { d.setReg (pgLEG 3 + 0x40) 7 with dupWin := [(pgLEG 3 + 0xF00, 0)] }),
     (pgLEG 3 + 0xF00), (0 : Nat), PageKind.leg, (3 : Nat), (0xF00 : Nat), ((0x40, 0xF00) : Nat × Nat), _, rfl,
     by decide +kernel⟩⟩

theorem witness_AlmanacCommandsBeginAndEnd_1 :
  (∃ (s : State), s.soc.answers (pgALM + 0x48) = true ∧ s.soc.dev.almBusy = false ∧ s.soc.dev.admRunning = none ∧
    s.soc.dev.almState = 0) ∧
  (∃ (s : State), s.soc.answers (pgALM + 0x48) = true ∧ s.soc.dev.almBusy = false ∧ s.soc.dev.admRunning = none ∧
    s.soc.dev.almState ≠ 0) ∧
  (∃ (s : State) (code : BitVec 3), s.soc.answers (pgALM + 0x48) = true ∧ s.soc.dev.almBusy = false ∧ 4 ≤
    code.toNat) ∧
  (∃ (s : State) (c : Instr) (code : BitVec 3), s.soc.answers (pgALM + 0x48) = true ∧ s.soc.dev.almBusy = true ∧ c
    ∈ [.check, .admitSet, .release, .admCmdReserved code] ∧ 4 ≤ code.toNat) ∧
  (∃ (dt : Nat) (s : State) (p : Plan) (b : Soc) (c : Soc), b = s.soc.after dt ∧ c = b.copied ∧ (b.dev.almState =
    1 ∨ b.dev.almState = 2) ∧ c.admVerify disCheck = .ok p ∧ b.dev.almanac.cmd = 1) ∧
  (∃ (dt : Nat) (s : State) (p : Plan) (b : Soc) (c : Soc), b = s.soc.after dt ∧ c = b.copied ∧ (b.dev.almState =
    1 ∨ b.dev.almState = 2) ∧ c.admVerify disCheck = .ok p ∧ b.dev.almanac.cmd ≠ 1 ∧ b.dev.admRunning = none ∧
    b.dev.jobRuns = true) :=
  ⟨⟨State.reset, by decide +kernel⟩,
   ⟨(Wt fun d => d.put pgALM ALM.ST_STATE 4), by decide +kernel⟩,
   ⟨State.reset, (5 : BitVec 3), by decide +kernel⟩,
   ⟨(Wt fun d => d.put pgALM ALM.ST_STATE 2), (.admCmdReserved 5 : Instr), (5 : BitVec 3), by decide +kernel⟩,
   ⟨(0 : Nat),
     (Wf (fun d => { d.put pgALM ALM.ST_STATE 2 with almanac := { d.almanac with cmd := 1, addr := 0x10000000, len := 64, copy := tHdr } }) (fun s => s)),
     (tPlan ((Wf (fun d => { d.put pgALM ALM.ST_STATE 2 with almanac := { d.almanac with cmd := 1, addr := 0x10000000, len := 64, copy := tHdr } }) (fun s => s)).soc.after (0 : Nat)).copied),
     _, _, rfl, rfl, by decide +kernel, planOk (by decide +kernel), by decide +kernel⟩,
   ⟨(0 : Nat),
     (Wf (fun d => { d.put pgALM ALM.ST_STATE 2 with clu := vmod d.clu 3 (fun h => { h with run := h.run.set 0 (some tRun) }), almanac := { d.almanac with cmd := 2, addr := 0x10000000, len := 64, copy := tHdr } }) (fun s => s)),
     (tPlan ((Wf (fun d => { d.put pgALM ALM.ST_STATE 2 with clu := vmod d.clu 3 (fun h => { h with run := h.run.set 0 (some tRun) }), almanac := { d.almanac with cmd := 2, addr := 0x10000000, len := 64, copy := tHdr } }) (fun s => s)).soc.after (0 : Nat)).copied),
     _, _, rfl, rfl, by decide +kernel, planOk (by decide +kernel), by decide +kernel, by decide +kernel,
     by decide +kernel⟩⟩

theorem witness_AlmanacCommandsBeginAndEnd_2 :
  (∃ (dt : Nat) (s : State) (p : Plan) (b : Soc) (c : Soc), b = s.soc.after dt ∧ c = b.copied ∧ (b.dev.almState =
    1 ∨ b.dev.almState = 2) ∧ c.admVerify disCheck = .ok p ∧ b.dev.almanac.cmd ≠ 1 ∧ b.dev.admRunning = none ∧
    b.dev.jobRuns = false ∧ b.dev.flag pgBIST BIST.ST_BUSY = false) ∧
  (∃ (dt : Nat) (s : State) (r : Refuse) (b : Soc) (c : Soc), b = s.soc.after dt ∧ c = b.copied ∧ (b.dev.almState
    = 1 ∨ b.dev.almState = 2) ∧ c.admVerify disCheck = .error r) ∧
  (∃ (dt : Nat) (s : State) (b : Soc), b = s.soc.after dt ∧ b.dev.almState = 3 ∧ b.dev.almanac.cmd = 3 ∧
    b.dev.almanac.next = none ∧ b.dev.jobRuns = false) :=
  ⟨⟨(0 : Nat),
     (Wf (fun d => { d.put pgALM ALM.ST_STATE 2 with almanac := { d.almanac with cmd := 2, addr := 0x10000000, len := 64, copy := tHdr } }) (fun s => s)),
     (tPlan ((Wf (fun d => { d.put pgALM ALM.ST_STATE 2 with almanac := { d.almanac with cmd := 2, addr := 0x10000000, len := 64, copy := tHdr } }) (fun s => s)).soc.after (0 : Nat)).copied),
     _, _, rfl, rfl, by decide +kernel, planOk (by decide +kernel), by decide +kernel, by decide +kernel,
     by decide +kernel, by decide +kernel⟩,
   ⟨(0 : Nat),
     (Wf (fun d => { d.put pgALM ALM.ST_STATE 2 with almanac := { d.almanac with cmd := 2, addr := 0x10000000, len := 64, copy := [0] } }) (fun s => s)),
     (match ((Wf (fun d => { d.put pgALM ALM.ST_STATE 2 with almanac := { d.almanac with cmd := 2, addr := 0x10000000, len := 64, copy := [0] } }) (fun s => s)).soc.after (0 : Nat)).copied.admVerify disCheck with | .error r => r | .ok _ => ⟨0, 0, 0, 0, 0⟩ : Refuse),
     _, _, rfl, rfl, by decide +kernel, errOf (by decide +kernel)⟩,
   ⟨(0 : Nat), (Wt fun d => { d.put pgALM ALM.ST_STATE 3 with almanac := { d.almanac with cmd := 3 } }), _, rfl,
     by decide +kernel⟩⟩

theorem witness_InOperationSlicesRun_1 :
  (∃ (dt : Nat) (c : Fin 4) (s : State) (t : _) (b : Soc), b = s.soc.after dt ∧ b.dev.sliceStart c = some t ∧
    b.dev.engineFree = true ∧ t ≤ b.dev.time ∧ b.dev.hasFinder c = true ∧ b.dev.pairIdle c = true ∧ b.dev.get
    (pgCLU c) CLU.MODE_STAT_STATE ≠ 2 ∧ b.dev.get (pgCLU c) CLU.MODE_STAT_STATE ≠ 3 ∧ b.dev.flag pgALM
    ALM.ST_SLICES_STOPPED = false ∧ (b.dev.flag (pgCLU c) CLU.MM_INFO_LATCHED = false ∨ b.dev.get (pgCLU c)
    CLU.MM_TIME ≠ b.dev.time32)) ∧
  (∃ (dt : Nat) (c : Fin 4) (s : State) (r : _) (dut : Nat) (b : Soc), b = s.soc.after dt ∧ (b.dev.clu[c]).recov =
    some r ∧ b.dev.flag (pgCLU c) CLU.MM_INFO_RECOVERING = true ∧ b.dev.engineFree = true ∧ (b.dev.hasFinder c =
    true ∧ b.dev.pairIdle c = true ∧ r.todo ≠ [] ∧ dut = b.dev.get (pgCLU c) CLU.CFG_MAIN ∨ b.dev.hasFinder c =
    false ∧ r.todo.head? = some dut)) ∧
  (∃ (dt : Nat) (c : Fin 4) (s : State) (t : _) (a : _) (b : Soc), b = s.soc.after dt ∧ b.dev.sliceStart c = some
    t ∧ b.dev.adm = some a ∧ (t + 400 * a.slicePeriod ≤ b.dev.time ∨ ∃ e ∈ b.dev.sliceDue, e.1 ≠ c.val ∧ t < e.2
    ∧ e.2 ≤ b.dev.time)) ∧
  (∃ (dt : Nat) (c : Fin 4) (s : State) (x : _) (t : _) (b : Soc), b = s.soc.after dt ∧ b.dev.sliceOn c = some x ∧
    x.t0 = some t ∧ x.bist = false ∧ x.ended = false ∧ t + 800 ≤ b.dev.time) ∧
  (∃ (dt : Nat) (c : Fin 4) (s : State) (x : _) (t : _) (b : Soc), b = s.soc.after dt ∧ b.dev.sliceOn c = some x ∧
    x.t0 = some t ∧ x.bist = true ∧ t + 20800 ≤ b.dev.time) ∧
  (∃ (dt : Nat) (c : Fin 4) (s : State) (x : _) (t : _) (b : Soc), b = s.soc.after dt ∧ b.dev.sliceOn c = some x ∧
    x.t0 = some t ∧ x.ended = true ∧ t + 21600 ≤ b.dev.time) :=
  ⟨⟨(0 : Nat), (3 : Fin 4),
     (Wt fun d => { (((d.put pgBIST BIST.ST_PROG_VALID 1).put pgBOOT BOOT.ST_STEP 8).put pgLCS LCS.ST_STATE 1) with sliceDue := [(3, 1000)], adm := some { tSet with sliceEn := true, slicePeriod := 100 }, time := 3000 }),
     (1000 : Nat), _, rfl, by decide +kernel⟩,
   ⟨(0 : Nat), (3 : Fin 4),
     (Wt fun d => { (((d.put (pgCLU 3) CLU.MM_INFO_RECOVERING 1).put pgBIST BIST.ST_PROG_VALID 1).put pgBOOT BOOT.ST_STEP 8).put pgLCS LCS.ST_STATE 1 with time := 3000, clu := vmod d.clu 3 (fun h => { h with recov := some ⟨[1], false, false, []⟩ }) }),
     (⟨[1], false, false, []⟩ : Recovery),
     ((Wt fun d => { (((d.put (pgCLU 3) CLU.MM_INFO_RECOVERING 1).put pgBIST BIST.ST_PROG_VALID 1).put pgBOOT BOOT.ST_STEP 8).put pgLCS LCS.ST_STATE 1 with time := 3000, clu := vmod d.clu 3 (fun h => { h with recov := some ⟨[1], false, false, []⟩ }) }).soc.dev.get (pgCLU 3) CLU.CFG_MAIN),
     _, rfl, by decide +kernel⟩,
   ⟨(0 : Nat), (3 : Fin 4), (Wt fun d => { d with sliceDue := [(3, 1000)], adm := some tSet, time := 9000 }),
     (1000 : Nat), tSet, _, rfl, by decide +kernel⟩,
   ⟨(0 : Nat), (3 : Fin 4),
     (Wt fun d => { d with time := 30000, slice := some ⟨3, 100, some 200, 2, false, false, false, [], 0⟩ }),
     (⟨3, 100, some 200, 2, false, false, false, [], 0⟩ : SliceH), (200 : Nat), _, rfl, by decide +kernel⟩,
   ⟨(0 : Nat), (3 : Fin 4),
     (Wt fun d => { d with time := 30000, slice := some ⟨3, 100, some 200, 2, true, false, false, [], 0⟩ }),
     (⟨3, 100, some 200, 2, true, false, false, [], 0⟩ : SliceH), (200 : Nat), _, rfl, by decide +kernel⟩,
   ⟨(0 : Nat), (3 : Fin 4),
     (Wt fun d => { d with time := 30000, slice := some ⟨3, 100, some 200, 2, false, true, false, [], 0⟩ }),
     (⟨3, 100, some 200, 2, false, true, false, [], 0⟩ : SliceH), (200 : Nat), _, rfl, by decide +kernel⟩⟩

theorem witness_InOperationSlicesRun_2 :
  (∃ (dt : Nat) (s : State) (id : BitVec 8) (r : _) (b : Soc), b = s.soc.after dt ∧ b.dev.loopDecl id.toNat = some
    r ∧ r.trigger = 3 ∧ (∃ j ∈ b.dev.ready, j.loop = id.toNat ∧ j.promoted = false ∧ j.trigT + 400 * r.period ≤
    b.dev.time)) :=
  ⟨(0 : Nat),
     (Wt fun d => { d with adm := some tSet, time := 90000, ready := [⟨4, 1, 0, false⟩, ⟨4, 1, 89000, false⟩] }),
     (4 : BitVec 8), tLoop, _, rfl, by decide +kernel⟩

theorem witness_PositionInputsMoveAndLatch_1 :
  (∃ (dt : Nat) (n : Fin 8) (x : Bool) (y : Bool) (s : State) (i : Int) (b : Soc), b = s.soc.after dt ∧
    b.dev.enabled (pgPOS n) = true ∧ b.dev.get (pgPOS n) POS.CFG_MODE = 0 ∧ b.dev.takesLevels n x y
    (b.dev.pos[n]).z ∧ (∀ e, (b.dev.pos[n]).idx = some e → e.1 ≠ b.dev.time) ∧ ((quadIndex x y + 4 - quadIndex
    (b.dev.pos[n]).a (b.dev.pos[n]).b) % 4 = 1 ∧ i = 1 ∨ (quadIndex x y + 4 - quadIndex (b.dev.pos[n]).a
    (b.dev.pos[n]).b) % 4 = 3 ∧ i = -1)) ∧
  (∃ (dt : Nat) (n : Fin 8) (x : Bool) (y : Bool) (z : Bool) (s : State) (k : Nat) (b : Soc), b = s.soc.after dt ∧
    b.dev.enabled (pgPOS n) = true ∧ b.dev.get (pgPOS n) POS.CFG_MODE = 1 ∧ b.dev.takesLevels n x y z ∧ (∀ e,
    (b.dev.pos[n]).idx = some e → e.1 ≠ b.dev.time) ∧ hallSector (b.dev.pos[n]).a (b.dev.pos[n]).b
    (b.dev.pos[n]).z = none ∧ hallSector x y z = some k) ∧
  (∃ (dt : Nat) (n : Fin 8) (s : State) (b : Soc), b = s.soc.after dt ∧ b.dev.enabled (pgPOS n) = true ∧ b.dev.get
    (pgPOS n) POS.CFG_MODE = 0 ∧ b.dev.flag (pgPOS n) POS.CFG_IDX_GATE = false ∧ b.dev.filtered
    (b.dev.pos[n]).zT (2 * max 1 (b.dev.get (pgPOS n) POS.CFG_FILT)) = true ∧ b.dev.flag (pgPOS n)
    POS.ST_REFERENCED = false ∧ (b.dev.pos[n]).illT ≠ b.dev.time + 1) ∧
  (∃ (dt : Nat) (n : Fin 8) (s : State) (b : Soc), b = s.soc.after dt ∧ b.dev.enabled (pgPOS n) = true ∧
    (b.dev.pos[n]).winStart + b.dev.get (pgPOS n) POS.SPD_WIN ≤ b.dev.time + 1) ∧
  (∃ (dt : Nat) (n : Fin 8) (s : State) (b : Soc), b = s.soc.after dt ∧ b.dev.filtered (b.dev.pos[n]).prbT
    (b.dev.get (pgPOS n) POS.PRB_CFG_FILT) = true ∧ (b.dev.get (pgPOS n) POS.PRB_CFG_EDGE = 1 ∨ b.dev.get (pgPOS
    n) POS.PRB_CFG_EDGE = 3) ∧ b.dev.flag (pgPOS n) POS.PRB_STAT_R_VALID = false) ∧
  (∃ (dt : Nat) (n : Fin 8) (s : State) (b : Soc), b = s.soc.after dt ∧ b.dev.filtered (b.dev.pos[n]).prbT
    (b.dev.get (pgPOS n) POS.PRB_CFG_FILT) = true ∧ (b.dev.get (pgPOS n) POS.PRB_CFG_EDGE = 2 ∨ b.dev.get (pgPOS
    n) POS.PRB_CFG_EDGE = 3) ∧ b.dev.flag (pgPOS n) POS.PRB_STAT_F_VALID = false) :=
  ⟨⟨(0 : Nat), (7 : Fin 8), true, false, (Wt fun d => (d.put (pgPOS 7) COM.ST_ENABLED 1)), (1 : Int), _, rfl,
     by unfold Dev.takesLevels; decide +kernel⟩,
   ⟨(0 : Nat), (7 : Fin 8), true, true, false,
     (Wt fun d => (d.put (pgPOS 7) COM.ST_ENABLED 1).put (pgPOS 7) POS.CFG_MODE 1), (1 : Nat), _, rfl,
     by unfold Dev.takesLevels; decide +kernel⟩,
   ⟨(0 : Nat), (7 : Fin 8), (Wt fun d => (d.put (pgPOS 7) COM.ST_ENABLED 1)), _, rfl, by decide +kernel⟩,
   ⟨(0 : Nat), (7 : Fin 8), (Wt fun d => { d.put (pgPOS 7) COM.ST_ENABLED 1 with time := 5000000 }), _, rfl,
     by decide +kernel⟩,
   ⟨(0 : Nat), (7 : Fin 8), (Wt fun d => d.put (pgPOS 7) POS.PRB_CFG_EDGE 3), _, rfl, by decide +kernel⟩,
   ⟨(0 : Nat), (7 : Fin 8), (Wt fun d => d.put (pgPOS 7) POS.PRB_CFG_EDGE 2), _, rfl, by decide +kernel⟩⟩

theorem witness_PositionInputsMoveAndLatch_2 :
  (∃ (dt : Nat) (m : Fin 4) (s : State) (i : Int) (b : Soc), b = s.soc.after dt ∧ b.dev.enabled (pgEMU m) = true ∧
    (b.dev.emu[m]).gapEnd ≤ b.dev.time ∧ (0 < b.dev.getI (pgEMU m) EMU.BACKLOG ∧ i = 1 ∨ b.dev.getI (pgEMU m)
    EMU.BACKLOG < 0 ∧ i = -1)) :=
  ⟨(0 : Nat), (3 : Fin 4), (Wt fun d => (d.put (pgEMU 3) COM.ST_ENABLED 1).put (pgEMU 3) EMU.BACKLOG 5),
     (1 : Int), _, rfl, by decide +kernel⟩

theorem witness_PositionHostCommands_1 :
  (∃ (n : Fin 8) (s : State), s.soc.answers (pgPOS n + 0x60) = true ∧ (s.soc.dev.pos[n]).cntT = s.soc.dev.time + 1
    ∧ (∀ e, (s.soc.dev.pos[n]).idx = some e → e.1 ≠ s.soc.dev.time)) ∧
  (∃ (n : Fin 8) (s : State), s.soc.answers (pgPOS n + 0x60) = true ∧ s.soc.dev.posAlone n) ∧
  (∃ (n : Fin 8) (s : State), s.soc.answers (pgPOS n + 0xA0) = true) ∧
  (∃ (n : Fin 8) (s : State), s.soc.answers (pgPOS n + 0x70) = true) ∧
  (∃ (n : Fin 8) (s : State), s.soc.answers (pgPOS n + 0x7C) = true) ∧
  (∃ (n : Fin 8) (s : State), s.soc.dev.hostOwnsProbe n = true ∧ s.soc.answers (pgPOS n + 0x80) = true) :=
  ⟨⟨(7 : Fin 8),
     (Wt fun d => { d with time := 1000, pos := vmod d.pos 7 (fun h => { h with cntT := 1001, last := -1 }) }),
     by decide +kernel⟩,
   ⟨(7 : Fin 8), State.reset, by unfold Dev.posAlone; decide +kernel⟩,
   ⟨(7 : Fin 8), State.reset, by decide +kernel⟩,
   ⟨(7 : Fin 8), State.reset, by decide +kernel⟩,
   ⟨(7 : Fin 8), State.reset, by decide +kernel⟩,
   ⟨(7 : Fin 8),
     (Wt fun d => { d with adm := some { tSet with stages := [(⟨0, 0, 0, 0, false, 0, 0, 0, 0, 0, 0, [9223]⟩ : StageDecl)] } }),
     by decide +kernel⟩⟩

theorem witness_PositionHostCommands_2 :
  (∃ (n : Fin 8) (s : State), s.soc.dev.hostOwnsProbe n = true ∧ s.soc.answers (pgPOS n + 0x9C) = true) :=
  ⟨(7 : Fin 8),
     (Wt fun d => { d with adm := some { tSet with stages := [(⟨0, 0, 0, 0, false, 0, 0, 0, 0, 0, 0, [9223]⟩ : StageDecl)] } }),
     by decide +kernel⟩

theorem witness_ResolverAndSsiFramesArrive :
  (∃ (dt : Nat) (n : Fin 4) (s : State) (x : Nat × Bool) (y : Nat × Bool) (b : Soc), b = s.soc.after dt ∧
    b.dev.enabled (pgRSV n) = true ∧ (b.dev.rsvEntry n 1 && b.dev.rsvEntry n 2) = true ∧ (b.dev.rsv[n]).sinC =
    some x ∧ (b.dev.rsv[n]).cosC = some y) ∧
  (∃ (dt : Nat) (n : Fin 4) (s : State) (b : Soc), b = s.soc.after dt ∧ b.dev.enabled (pgRSV n) = true ∧
    (b.dev.rsvEntry n 1 && b.dev.rsvEntry n 2) = false ∧ (b.dev.rsvInstant n b.dev.time).isSome = true) ∧
  (∃ (dt : Nat) (n : Fin 4) (s : State) (b : Soc), b = s.soc.after dt ∧ b.dev.enabled (pgSSI n) = true ∧ b.dev.get
    (pgSSI n) SSI.REQ_SRC = 0 ∧ (b.dev.ssi[n]).nextReq ≤ b.dev.time ∧ (b.dev.ssi[n]).inFrame = false ∧
    (b.dev.ssi[n]).busyUntil ≤ b.dev.time) ∧
  (∃ (dt : Nat) (n : Fin 4) (s : State) (b : Soc), b = s.soc.after dt ∧ b.dev.enabled (pgSSI n) = true ∧
    (b.dev.ssi[n]).inFrame = true ∧ b.dev.ssiEnd (pgSSI n) (b.dev.ssi[n]).start ≤ b.dev.time ∧ b.dev.ssiLast
    (pgSSI n) (b.dev.ssi[n]).start ≤ b.dev.time ∧ b.dev.time ≤ b.dev.ssiEnd (pgSSI n) (b.dev.ssi[n]).start +
    b.dev.get (pgSSI n) SSI.TM_TM_MAX ∧ (b.dev.ssi[n]).haveLast = false) ∧
  (∃ (dt : Nat) (n : Fin 4) (s : State) (b : Soc), b = s.soc.after dt ∧ b.dev.enabled (pgSSI n) = true ∧
    (b.dev.ssi[n]).inFrame = true ∧ b.dev.ssiEnd (pgSSI n) (b.dev.ssi[n]).start + b.dev.get (pgSSI n)
    SSI.TM_TM_MAX ≤ b.dev.time ∧ b.dev.get (pgSSI n) SSI.ERR_CNT_TIMEOUT_CNT < 255) :=
  ⟨⟨(0 : Nat), (3 : Fin 4),
     (Wt fun d => { (d.put (pgRSV 3) COM.ST_ENABLED 1 |>.putAt (pgADCG 2) ADCG.INJ_VALID 31 1 |>.putAt (pgADCG 2) ADCG.INJ_KIND 31 1 |>.putAt (pgADCG 2) ADCG.INJ_SRC 31 3 |>.putAt (pgADCG 3) ADCG.INJ_VALID 30 1 |>.putAt (pgADCG 3) ADCG.INJ_KIND 30 2 |>.putAt (pgADCG 3) ADCG.INJ_SRC 30 3) with rsv := vmod d.rsv 3 (fun h => { h with sinC := some (100, false), cosC := some (8000, false) }) }),
     ((100, false) : Nat × Bool), ((8000, false) : Nat × Bool), _, rfl, by decide +kernel⟩,
   ⟨(0 : Nat), (3 : Fin 4),
     (Wt fun d => { ((d.put (pgRSV 3) COM.ST_ENABLED 1).put (pgRSV 3) RSV.CFG_EXC_DIV 16 |>.put (pgRSV 3) RSV.EXC_DELAY 0) with time := 5120 }),
     _, rfl, by decide +kernel⟩,
   ⟨(0 : Nat), (3 : Fin 4), (Wt fun d => (d.put (pgSSI 3) COM.ST_ENABLED 1)), _, rfl, by decide +kernel⟩,
   ⟨(0 : Nat), (3 : Fin 4),
     (Wt fun d => { ((d.put (pgSSI 3) COM.ST_ENABLED 1).put (pgSSI 3) SSI.CFG_BITS 12 |>.put (pgSSI 3) SSI.CLK_DIV 100 |>.put (pgSSI 3) SSI.TM_TM_MAX 500) with time := 2600, ssi := vmod d.ssi 3 (fun h => { h with inFrame := true, start := 10 }) }),
     _, rfl, by decide +kernel⟩,
   ⟨(0 : Nat), (3 : Fin 4),
     (Wt fun d => { d.put (pgSSI 3) COM.ST_ENABLED 1 with time := 900000, ssi := vmod d.ssi 3 (fun h => { h with inFrame := true, start := 10 }) }),
     _, rfl, by decide +kernel⟩⟩

theorem witness_ChartsFireLoadAndSwitch_1 :
  (∃ (dt : Nat) (k : Fin 16) (s : State) (r : Nat) (i : Nat) (b : Soc), b = s.soc.after dt ∧ b.dev.firing k = true
    ∧ b.dev.crossing k = none ∧ (b.dev.est[k]).carried = [] ∧ (b.dev.est[k]).seen = none ∧ (b.dev.est[k]).fired
    = 0 ∧ b.dev.passing k (b.dev.travel k) = [(r, i)] ∧ entryAction (b.dev.entry i) = 1) ∧
  (∃ (k : Fin 16) (s : State) (c : BitVec 16) (lib : Nat) (n : Nat), s.soc.answers (pgEPH + 0x11C + 64 * k.val) =
    true ∧ s.soc.dev.loadBusy k = false ∧ lib = s.soc.dev.getAt pgEPH EPH.LIB_ADDR k ∧ n = memNat s.soc.mem (lib
    + 8 + 8 * c.toNat + 4) 2 ∧ c.toNat < memNat s.soc.mem lib 4 ∧ 0 < n ∧ n ≤ s.soc.dev.bankSize k) ∧
  (∃ (k : Fin 16) (s : State) (c : BitVec 11), s.soc.answers (pgEPH + 0x11C + 64 * k.val) = true ∧
    s.soc.dev.loadBusy k = false ∧ 0 < c.toNat ∧ c.toNat ≤ s.soc.dev.bankSize k) ∧
  (∃ (dt : Nat) (k : Fin 16) (s : State) (b : Soc) (l : List Nat), b = s.soc.after dt ∧ l = (List.range
    (b.dev.est[k]).loadCount).map (fun j => b.dev.entry (b.dev.idleBase k + j)) ∧ b.dev.flagAt pgEPH
    EPH.STATE_LOADING k = true ∧ (b.dev.est[k]).loadChart = 0xFFFF) ∧
  (∃ (w : Fin 6144) (k : Nat) (s : State), s.soc.answers pgEPH = true ∧ s.soc.dev.regionOf (w.val / 2) = some k ∧
    ¬ (s.soc.dev.activeBase k ≤ w.val / 2 ∧ w.val / 2 < s.soc.dev.activeBase k + s.soc.dev.bankSize k) ∧
    s.soc.dev.loadBusy k = false ∧ s.soc.dev.get (pgSTG k) COM.OWNER_KIND = 1) ∧
  (∃ (w : Fin 6144) (s : State), s.soc.answers pgEPH = true ∧ (∀ k, s.soc.dev.regionOf (w.val / 2) = some k →
    s.soc.dev.get (pgSTG k) COM.OWNER_KIND ≠ 1 ∨ (s.soc.dev.activeBase k ≤ w.val / 2 ∧ w.val / 2 <
    s.soc.dev.activeBase k + s.soc.dev.bankSize k))) :=
  ⟨⟨(0 : Nat), (15 : Fin 16),
     (Wt fun d => { (((d.put (pgSTG 15) STG.ST_RUNNING 1).putAt pgEPH EPH.STATE_STATE 15 2).putAt pgEPH EPH.STATE_ACTIVE_BANK 15 0 |>.putAt pgEPH EPH.F_HIGH 15 10 |>.putAt pgEPH EPH.F_LOW 15 5 |>.putAt pgEPH EPH.EST_CFG_GLITCH_N 15 3 |>.putAt pgEPH EPH.REGION_LEN 15 32 |>.putAt pgEPH EPH.TIMES_COAST_MAX 15 100) with adm := some { tSet with stages := [(⟨15, 0, 2, 0, false, 0, 0, 0, 0, 0, 0, []⟩ : StageDecl)] }, time := 1000, est := vmod d.est 15 (fun e => { e with on := true, omega := 300000000, lastUpd := 1000, step := 2000000000000, theta := 3000000000000, prev := 1000000000000, cntA := 1 }), eph := [(0, 0x10000000), (1, BitVec.ofNat 32 30517578)] }),
     (999999991808 : Nat), (0 : Nat), _, rfl, by decide +kernel⟩,
   ⟨(15 : Fin 16),
     (Wf (fun d => (d.putAt pgEPH EPH.LIB_ADDR 15 0x10000000).putAt pgEPH EPH.REGION_LEN 15 32) (fun s => { s with mem := memPutNat (memPutNat s.mem 0x10000000 4 2) 0x1000000C 2 5 })),
     (0 : BitVec 16), (0x10000000 : Nat), (5 : Nat), by decide +kernel⟩,
   ⟨(15 : Fin 16), (Wt fun d => d.putAt pgEPH EPH.REGION_LEN 15 32), (3 : BitVec 11), by decide +kernel⟩,
   ⟨(0 : Nat), (15 : Fin 16),
     (Wt fun d => { d.putAt pgEPH EPH.STATE_LOADING 15 1 with time := 90000, est := vmod d.est 15 (fun e => { e with loadChart := 0xFFFF, loadCount := 2, loadEnd := 4000 }) }),
     _, _, rfl, rfl, by decide +kernel⟩,
   ⟨(38 : Fin 6144), (15 : Nat),
     (Wt fun d => (d.putAt pgEPH EPH.REGION_LEN 15 32).put (pgSTG 15) COM.OWNER_KIND 1), by decide +kernel⟩,
   ⟨(6143 : Fin 6144), State.reset, by decide +kernel⟩⟩

theorem witness_ChartsFireLoadAndSwitch_2 :
  (∃ (dt : Nat) (k : Fin 16) (s : State) (r : _) (b : Soc), b = s.soc.after dt ∧ b.dev.firing k = true ∧
    b.dev.crossing k = some r) ∧
  (∃ (dt : Nat) (k : Fin 16) (s : State) (b : Soc), b = s.soc.after dt ∧ (b.dev.est[k]).on = true ∧ b.dev.inRun k
    = true ∧ b.dev.ephFrozen = false ∧ b.dev.flagAt pgEPH EPH.SCTRL_FORCE_FB k = true) ∧
  (∃ (dt : Nat) (k : Fin 16) (s : State) (b : Soc), b = s.soc.after dt ∧ (b.dev.est[k]).on = true ∧ b.dev.inRun k
    = true ∧ b.dev.ephFrozen = false ∧ b.dev.flagAt pgEPH EPH.SCTRL_FORCE_FB k = false ∧
    (b.dev.est[k]).omega.natAbs < b.dev.getAt pgEPH EPH.F_LOW k) ∧
  (∃ (dt : Nat) (k : Fin 16) (s : State) (b : Soc), b = s.soc.after dt ∧ b.dev.returnDue k = true ∧
    b.dev.ephFrozen = false) ∧
  (∃ (k : Fin 16) (s : State), s.soc.answers (pgEPH + 0x514 + 32 * k.val) = true) :=
  ⟨⟨(0 : Nat), (15 : Fin 16),
     (Wt fun d => { (((d.put (pgSTG 15) STG.ST_RUNNING 1).putAt pgEPH EPH.STATE_STATE 15 2).putAt pgEPH EPH.STATE_ARMED 15 1 |>.putAt pgEPH EPH.F_HIGH 15 10 |>.putAt pgEPH EPH.F_LOW 15 5 |>.putAt pgEPH EPH.EST_CFG_GLITCH_N 15 3 |>.putAt pgEPH EPH.REGION_LEN 15 32 |>.putAt pgEPH EPH.TIMES_COAST_MAX 15 100) with adm := some { tSet with stages := [(⟨15, 0, 2, 0, false, 0, 0, 0, 0, 0, 0, []⟩ : StageDecl)] }, time := 1000, est := vmod d.est 15 (fun e => { e with on := true, omega := 300000000, lastUpd := 1000, step := 2000000000000, theta := 1000000000000, prev := 2 ^ 48 - 1000000000000 }) }),
     (((((Wt fun d => { (((d.put (pgSTG 15) STG.ST_RUNNING 1).putAt pgEPH EPH.STATE_STATE 15 2).putAt pgEPH EPH.STATE_ARMED 15 1 |>.putAt pgEPH EPH.F_HIGH 15 10 |>.putAt pgEPH EPH.F_LOW 15 5 |>.putAt pgEPH EPH.EST_CFG_GLITCH_N 15 3 |>.putAt pgEPH EPH.REGION_LEN 15 32 |>.putAt pgEPH EPH.TIMES_COAST_MAX 15 100) with adm := some { tSet with stages := [(⟨15, 0, 2, 0, false, 0, 0, 0, 0, 0, 0, []⟩ : StageDecl)] }, time := 1000, est := vmod d.est 15 (fun e => { e with on := true, omega := 300000000, lastUpd := 1000, step := 2000000000000, theta := 1000000000000, prev := 2 ^ 48 - 1000000000000 }) }).soc.after (0 : Nat)).dev.crossing (15 : Fin 16)).getD 0) : Nat),
     _, rfl, by decide +kernel⟩,
   ⟨(0 : Nat), (15 : Fin 16),
     (Wt fun d => { (((d.put (pgSTG 15) STG.ST_RUNNING 1).putAt pgEPH EPH.STATE_STATE 15 2).putAt pgEPH EPH.SCTRL_FORCE_FB 15 1) with adm := some { tSet with stages := [(⟨15, 0, 2, 0, false, 0, 0, 0, 0, 0, 0, []⟩ : StageDecl)] }, time := 1000, est := vmod d.est 15 (fun e => { e with on := true, step := 0 }) }),
     _, rfl, by decide +kernel⟩,
   ⟨(0 : Nat), (15 : Fin 16),
     (Wt fun d => { (((d.put (pgSTG 15) STG.ST_RUNNING 1).putAt pgEPH EPH.STATE_STATE 15 2).putAt pgEPH EPH.F_LOW 15 100) with adm := some { tSet with stages := [(⟨15, 0, 2, 0, false, 0, 0, 0, 0, 0, 0, []⟩ : StageDecl)] }, time := 1000, est := vmod d.est 15 (fun e => { e with on := true, step := 0 }) }),
     _, rfl, by decide +kernel⟩,
   ⟨(0 : Nat), (15 : Fin 16),
     (Wt fun d => { (((((d.put (pgSTG 15) STG.ST_RUNNING 1).putAt pgEPH EPH.STATE_STATE 15 1).put (pgSTG 15) STG.ST_SET 2).putAt pgEPH EPH.STATE_CHART_VALID 15 1).putAt pgEPH EPH.TIMES_RET_TIME 15 1 |>.put (pgPOS 0) POS.ST_POS_VALID 1 |>.putAt pgEPH EPH.EST_CFG_SRC 15 0 |>.putAt pgEPH EPH.F_HIGH 15 100) with adm := some { tSet with stages := [(⟨15, 0, 2, 0, false, 0, 0, 0, 0, 0, 0, []⟩ : StageDecl)] }, time := 1000, est := vmod d.est 15 (fun e => { e with on := true, omega := -500000, okSince := some (10, false) }), stg := vmod d.stg 15 (fun h => { h with zeroT := 1001 }) }),
     _, rfl, by decide +kernel⟩,
   ⟨(15 : Fin 16), State.reset, by decide +kernel⟩⟩

theorem witness_StageEventsHaltsAndCounters_1 :
  (∃ (dt : Nat) (k : Fin 16) (s : State) (b : Soc), b = s.soc.after dt ∧ b.dev.running k = true ∧ b.dev.frozen k =
    false ∧ (b.dev.sh k).forceZero = none ∧ b.dev.stgSet k ≠ 3 ∧ (b.dev.sh k).x0 + b.dev.period k ≤ b.dev.time) ∧
  (∃ (dt : Nat) (k : Fin 16) (s : State) (t : Nat) (b : Soc), b = s.soc.after dt ∧ b.dev.running k = true ∧
    b.dev.frozen k = false ∧ (b.dev.sh k).forceZero = some t ∧ t ≤ b.dev.time) ∧
  (∃ (dt : Nat) (k : Fin 16) (s : State) (b : Soc), b = s.soc.after dt ∧ b.dev.compareCtl k = true ∧ (b.dev.sh
    k).perTaken = false ∧ periodPos (b.dev.countMode k) (b.dev.period k) ≤ b.dev.xPos k) ∧
  (∃ (dt : Nat) (k : Fin 16) (s : State) (j : Fin 4) (b : Soc), b = s.soc.after dt ∧ b.dev.compareCtl k = true ∧
    b.dev.commitDue k = false ∧ (b.dev.sh k).cmpTaken.getD j false = false ∧ b.dev.cmpPos k j ≤ b.dev.xPos k) ∧
  (∃ (dt : Nat) (k : Fin 16) (s : State) (b : Soc), b = s.soc.after dt ∧ b.dev.enabled (pgSTG k) = true ∧
    b.dev.flag (pgSTG k) STG.ST_WAIT_SYNC = true ∧ b.dev.get (pgSTG k) STG.CFG_SYNC_SRC < 16 ∧ (b.dev.sh
    (b.dev.get (pgSTG k) STG.CFG_SYNC_SRC)).zeroT = b.dev.time + 1) ∧
  (∃ (dt : Nat) (s : State) (c : Fin 4) (st : Fin 3) (b : Soc), b = s.soc.after dt ∧ b.dev.debugAllowed = true ∧
    b.dev.copies c st ≠ []) :=
  ⟨⟨(0 : Nat), (15 : Fin 16), (Wt fun d => (d.put (pgSTG 15) STG.ST_RUNNING 1)), _, rfl, by decide +kernel⟩,
   ⟨(0 : Nat), (15 : Fin 16),
     (Wt fun d => { d.put (pgSTG 15) STG.ST_RUNNING 1 with time := 1000, stg := vmod d.stg 15 (fun h => { h with forceZero := some 999 }) }),
     (999 : Nat), _, rfl, by decide +kernel⟩,
   ⟨(0 : Nat), (15 : Fin 16), (Wt fun d => (d.put (pgSTG 15) STG.ST_RUNNING 1)), _, rfl, by decide +kernel⟩,
   ⟨(0 : Nat), (15 : Fin 16), (Wt fun d => (d.put (pgSTG 15) STG.ST_RUNNING 1)), (3 : Fin 4), _, rfl,
     by decide +kernel⟩,
   ⟨(0 : Nat), (15 : Fin 16),
     (Wt fun d => { ((d.put (pgSTG 15) COM.ST_ENABLED 1).put (pgSTG 15) STG.ST_WAIT_SYNC 1).put (pgSTG 15) STG.CFG_SYNC_SRC 2 with time := 1000, stg := vmod d.stg 2 (fun h => { h with zeroT := 1001 }) }),
     _, rfl, by decide +kernel⟩,
   ⟨(0 : Nat), (Wt fun d => d.put pgLCS LCS.DEBUG 1), (3 : Fin 4), (1 : Fin 3), _, rfl, by decide +kernel⟩⟩

theorem witness_StageEventsHaltsAndCounters_2 :
  (∃ (k : Fin 16) (s : State), s.soc.answers (pgSTG k + 0x78) = true) ∧
  (∃ (n : Fin 64) (s : State), s.soc.answers (pgLEG n + 0x6C) = true) ∧
  (∃ (k : Fin 16) (s : State), s.soc.answers (pgSTG k + 0x240) = true) :=
  ⟨⟨(15 : Fin 16), State.reset, by decide +kernel⟩,
   ⟨(63 : Fin 64), State.reset, by decide +kernel⟩,
   ⟨(15 : Fin 16), State.reset, by decide +kernel⟩⟩

theorem witness_LegEdgesAndGateTimes :
  (∃ (dt : Nat) (n : Fin 64) (s : State) (k : Nat) (b : Soc), b = s.soc.after dt ∧ k = b.dev.legStage n ∧
    b.dev.bound n = true ∧ b.dev.slave n = false ∧ b.dev.running k = true ∧ b.dev.frozen k = false ∧ b.dev.force
    n = 0 ∧ b.dev.commitDue k = false ∧ b.dev.flag (pgLEG n) COM.ST_FROZEN = false ∧ b.dev.stgSet k ≠ 3 ∧
    (b.dev.sh k).edges = [] ∧ (b.dev.lh n).onTaken = false ∧ b.dev.edgeU k n true / 512 = b.dev.xPos k ∧
    ((b.dev.lh n).offTaken = true ∨ b.dev.xPos k < b.dev.edgeU k n false / 512)) ∧
  (∃ (dt : Nat) (n : Fin 64) (s : State) (k : Nat) (t : Nat) (l : Nat) (b : Soc), b = s.soc.after dt ∧ k =
    b.dev.legStage n ∧ b.dev.bound n = true ∧ b.dev.slave n = false ∧ b.dev.running k = true ∧ b.dev.frozen k =
    false ∧ b.dev.force n = 0 ∧ b.dev.commitDue k = false ∧ b.dev.flag (pgLEG n) COM.ST_FROZEN = false ∧
    b.dev.stgSet k = 3 ∧ (b.dev.sh k).edges = [(t, n.val, l)] ∧ t < b.dev.tap0 + 32) ∧
  (∃ (dt : Nat) (n : Fin 64) (s : State) (high : Bool) (hit : Bool) (due : Nat) (b : Soc), b = s.soc.after dt ∧
    (b.dev.lh n).pend.find? (fun p => p.1 == high && decide (p.2.1 < b.dev.tap0 + 32)) = some (high, due, hit) ∧
    b.dev.gate (b.dev.compLeg n) (!high) = false ∧ (b.dev.paired n = true → n.val % 2 = 0 → b.dev.gate (n.val +
    1) high = true) ∧ (∀ c, (b.dev.lh (b.dev.compLeg n)).offOf (!high) = some c → c + 32 * b.dev.getAt pgTRIP
    TRIP.FLOOR (b.dev.legStage n) ≤ due)) ∧
  (∃ (dt : Nat) (n : Fin 64) (s : State) (e : Nat) (b : Soc), b = s.soc.after dt ∧ (b.dev.lh n).minO = some e ∧ e
    < b.dev.tap0 + 32 ∧ n.val % 2 = 0 ∧ (b.dev.lh n).drive = .normal ∧ (b.dev.lh n).goal = 1 ∧ b.dev.gate (n.val
    + 1) true = true ∧ b.dev.gate (n.val + 1) false = true ∧ b.dev.gate n true = false ∧ b.dev.gate n false =
    false) ∧
  (∃ (dt : Nat) (n : Fin 64) (s : State) (e : Nat) (s2 : Bool) (b : Soc), b = s.soc.after dt ∧ (b.dev.lh n).gap =
    some (e, s2) ∧ e < b.dev.tap0 + 32 ∧ n.val % 2 = 0) :=
  ⟨⟨(0 : Nat), (63 : Fin 64),
     (Wt fun d => { (d.put (pgSTG 15) STG.ST_RUNNING 1).put (pgLEG 63) LEG.BIND_BOUND 1 |>.put (pgLEG 63) LEG.BIND_STAGE 15 with leg := vmod d.leg 63 (fun h => { h with offTaken := true }) }),
     (15 : Nat), _, rfl, by decide +kernel⟩,
   ⟨(0 : Nat), (63 : Fin 64),
     (Wt fun d => { (((d.put (pgSTG 15) STG.ST_RUNNING 1).put (pgLEG 63) LEG.BIND_BOUND 1).put (pgLEG 63) LEG.BIND_STAGE 15).put (pgSTG 15) STG.ST_SET 3 with stg := vmod d.stg 15 (fun h => { h with edges := [(5, 63, 1)] }) }),
     (15 : Nat), (5 : Nat), (1 : Nat), _, rfl, by decide +kernel⟩,
   ⟨(0 : Nat), (63 : Fin 64),
     (Wt fun d => { d with leg := vmod d.leg 63 (fun h => { h with pend := [(true, 5, false)] }) }), true,
     false, (5 : Nat), _, rfl, by decide +kernel⟩,
   ⟨(0 : Nat), (62 : Fin 64),
     (Wt fun d => { ((d.put (pgLEG 63) LEG.LEVEL_GATE_H 1).put (pgLEG 63) LEG.LEVEL_GATE_L 1) with leg := vmod d.leg 62 (fun h => { h with minO := some 5, drive := .normal, goal := 1 }) }),
     (5 : Nat), _, rfl, by decide +kernel, by decide +kernel, Nat.eq_of_beq_eq_true (by decide +kernel),
     by decide +kernel, by decide +kernel, by decide +kernel, by decide +kernel, by decide +kernel,
     by decide +kernel⟩,
   ⟨(0 : Nat), (62 : Fin 64),
     (Wt fun d => { d with leg := vmod d.leg 62 (fun h => { h with gap := some (5, true) }) }), (5 : Nat), true,
     _, rfl, by decide +kernel, by decide +kernel, Nat.eq_of_beq_eq_true (by decide +kernel)⟩⟩

theorem witness_CurrentSetsArePublished :
  (∃ (dt : Nat) (k : Fin 16) (s : State) (second : Bool) (t : Nat) (b : Soc), b = s.soc.after dt ∧ (b.dev.sh
    k).cm.act = true ∧ (if second then (b.dev.sh k).cm.e1 else (b.dev.sh k).cm.e0) = some t ∧ t ≤ b.dev.time) ∧
  (∃ (dt : Nat) (k : Fin 16) (s : State) (r0 : ShuntRes) (r1 : ShuntRes) (b : Soc), b = s.soc.after dt ∧ (b.dev.sh
    k).cm.act = true ∧ b.dev.recon k = true ∧ (b.dev.sh k).x0 + b.dev.period k / 2 + 70 ≤ b.dev.time ∧ (b.dev.sh
    k).cm.forced = false ∧ (b.dev.sh k).cm.tripped = false ∧ (b.dev.sh k).cm.nowin = false ∧ (b.dev.sh
    k).cm.sector < 6 ∧ (b.dev.sh k).cm.res0 = some r0 ∧ (b.dev.sh k).cm.res1 = some r1 ∧ r0.time ≤ (b.dev.sh
    k).x0 + b.dev.period k / 2 + 67 ∧ r1.time ≤ (b.dev.sh k).x0 + b.dev.period k / 2 + 67 ∧ r0.range = false ∧
    r1.range = false) ∧
  (∃ (dt : Nat) (k : Fin 16) (s : State) (q : InlReq) (rest : List InlReq) (ws : List SdiTaken) (b : Soc), b =
    s.soc.after dt ∧ (b.dev.sh k).cm.inl = q :: rest ∧ q.words = ws.map some ∧ (∀ w ∈ ws, w.time + 3 ≤
    b.dev.time) ∧ b.dev.phase k ≠ 2) :=
  ⟨⟨(0 : Nat), (15 : Fin 16),
     (Wt fun d => { d with time := 9000, stg := vmod d.stg 15 (fun h => { h with cm := { h.cm with act := true, e0 := some 5 } }) }),
     false, (5 : Nat), _, rfl, by decide +kernel⟩,
   ⟨(0 : Nat), (15 : Fin 16),
     (Wt fun d => { (d.put (pgSTG 15) STG.CM_MODE_RECON 1) with time := 9000, stg := vmod d.stg 15 (fun h => { h with cm := { h.cm with act := true, sector := 1, res0 := some (⟨3000, false, false, false, 20⟩ : ShuntRes), res1 := some (⟨61440, false, false, false, 20⟩ : ShuntRes) } }) }),
     (⟨3000, false, false, false, 20⟩ : ShuntRes), (⟨61440, false, false, false, 20⟩ : ShuntRes), _, rfl,
     by decide +kernel⟩,
   ⟨(0 : Nat), (15 : Fin 16),
     (Wt fun d => { d.put (pgSTG 15) STG.ST_RUNNING 1 with time := 1000, stg := vmod d.stg 15 (fun h => { h with cm := { h.cm with inl := [(⟨100, false, [some ⟨30, true, false, 120⟩, some ⟨0xFFF0, true, false, 130⟩]⟩ : InlReq)] } }) }),
     (⟨100, false, [some ⟨30, true, false, 120⟩, some ⟨0xFFF0, true, false, 130⟩]⟩ : InlReq),
     ([] : List InlReq), ([⟨30, true, false, 120⟩, ⟨0xFFF0, true, false, 130⟩] : List SdiTaken), _, rfl,
     by decide +kernel⟩⟩

theorem witness_ConversionsRunAndAnswer :
  (∃ (dt : Nat) (g : Fin 4) (s : State) (r : Fin 32) (p : Nat × Nat) (b : Soc), b = s.soc.after dt ∧ b.dev.enabled
    (pgADCG g) = true ∧ (b.dev.flagAt (pgADCG g) ADCG.INJ_VALID r && b.dev.getAt (pgADCG g) ADCG.INJ_KIND r !=
    0) = false ∧ (b.dev.ah g).arr.find? (fun p => p.1 == r.val && decide (p.2 ≤ b.dev.time)) = some p ∧ p ∉
    (b.dev.ah g).pend ∧ (∀ x ∈ (b.dev.ah g).runs, x.tR ≠ p.2) ∧ (b.dev.ah g).pend.any (fun q => q.1 == r.val) =
    false) ∧
  (∃ (dt : Nat) (g : Fin 4) (s : State) (r : Fin 32) (p : Nat × Nat) (b : Soc), b = s.soc.after dt ∧ b.dev.enabled
    (pgADCG g) = true ∧ (b.dev.flagAt (pgADCG g) ADCG.INJ_VALID r && b.dev.getAt (pgADCG g) ADCG.INJ_KIND r !=
    0) = false ∧ (b.dev.ah g).arr.find? (fun p => p.1 == r.val && decide (p.2 ≤ b.dev.time)) = some p ∧ p ∉
    (b.dev.ah g).pend ∧ (∀ x ∈ (b.dev.ah g).runs, x.tR ≠ p.2) ∧ (b.dev.ah g).pend.any (fun q => q.1 == r.val) =
    true ∧ b.dev.get (pgADCG g) ADCG.CNT_OVR_CNT < 2 ^ 16 - 1) ∧
  (∃ (dt : Nat) (g : Fin 4) (s : State) (r : Fin 32) (b : Soc), b = s.soc.after dt ∧ b.dev.enabled (pgADCG g) =
    true ∧ b.dev.flagAt (pgADCG g) ADCG.INJ_VALID r = true ∧ b.dev.getAt (pgADCG g) ADCG.INJ_KIND r ≠ 0 ∧
    (b.dev.rsvInstant (b.dev.getAt (pgADCG g) ADCG.INJ_SRC r) b.dev.time).isSome = true ∧ (b.dev.ah g).pend = []
    ∧ (b.dev.ah g).runs = []) ∧
  (∃ (dt : Nat) (g : Fin 4) (s : State) (c : Fin 3) (r : Nat) (q : Nat × Nat) (b : Soc), b = s.soc.after dt ∧
    b.dev.enabled (pgADCG g) = true ∧ (b.dev.ah g).calReq = [] ∧ b.dev.convFree g c = true ∧ b.dev.flag (pgADCG
    g) ADCG.ST_READY = true ∧ b.dev.nextInj g c = some r ∧ b.dev.flagAt (pgADCG g) ADCG.INJ_LINK r = false ∧ (0
    < r → b.dev.flagAt (pgADCG g) ADCG.INJ_LINK (r - 1) = false) ∧ (b.dev.ah g).pend.find? (fun q => q.1 == r) =
    some q) ∧
  (∃ (dt : Nat) (g : Fin 4) (s : State) (c : Fin 3) (r : ConvRun) (b : Soc), b = s.soc.after dt ∧ b.dev.enabled
    (pgADCG g) = true ∧ (b.dev.ah g).runs.find? (fun r => r.conv == c.val && decide (r.start + 52 ≤ b.dev.time))
    = some r ∧ r.kind = 0 ∧ r.idx < 32) :=
  ⟨⟨(0 : Nat), (3 : Fin 4),
     (Wt fun d => { (d.put (pgADCG 3) COM.ST_ENABLED 1) with time := 9000, adc := vmod d.adc 3 (fun h => { h with arr := [(31, 50)] }) }),
     (31 : Fin 32), ((31, 50) : Nat × Nat), _, rfl, by decide +kernel⟩,
   ⟨(0 : Nat), (3 : Fin 4),
     (Wt fun d => { (d.put (pgADCG 3) COM.ST_ENABLED 1) with time := 9000, adc := vmod d.adc 3 (fun h => { h with arr := [(31, 50)], pend := [(31, 40)] }) }),
     (31 : Fin 32), ((31, 50) : Nat × Nat), _, rfl, by decide +kernel⟩,
   ⟨(0 : Nat), (3 : Fin 4),
     (Wt fun d => { ((d.put (pgRSV 3) COM.ST_ENABLED 1).put (pgRSV 3) RSV.CFG_EXC_DIV 16 |>.put (pgRSV 3) RSV.EXC_DELAY 0 |>.put (pgADCG 3) COM.ST_ENABLED 1 |>.putAt (pgADCG 3) ADCG.INJ_VALID 31 1 |>.putAt (pgADCG 3) ADCG.INJ_KIND 31 1 |>.putAt (pgADCG 3) ADCG.INJ_SRC 31 3) with time := 5120 }),
     (31 : Fin 32), _, rfl, by decide +kernel⟩,
   ⟨(0 : Nat), (3 : Fin 4),
     (Wt fun d => { (((d.put (pgADCG 3) COM.ST_ENABLED 1).put (pgADCG 3) ADCG.ST_READY 1).putAt (pgADCG 3) ADCG.INJ_CONV 4 2) with time := 9000, adc := vmod d.adc 3 (fun h => { h with pend := [(4, 50)] }) }),
     (2 : Fin 3), (4 : Nat), ((4, 50) : Nat × Nat), _, rfl, by decide +kernel⟩,
   ⟨(0 : Nat), (3 : Fin 4),
     (Wt fun d => { (d.put (pgADCG 3) COM.ST_ENABLED 1) with time := 9000, adc := vmod d.adc 3 (fun h => { h with runs := [(⟨2, 100, 0, 31, 3, 90, false, 0⟩ : ConvRun)] }) }),
     (2 : Fin 3), (⟨2, 100, 0, 31, 3, 90, false, 0⟩ : ConvRun), _, rfl, by decide +kernel⟩⟩

theorem witness_ConvertersCalibrateAndClamp_1 :
  (∃ (g : Fin 4) (s : State) (mask : BitVec 3), s.soc.answers (pgADCG g + 0xD4) = true ∧ s.soc.dev.enabled (pgADCG
    g) = true ∧ (∀ c < 3, bitOf mask.toNat c = true → bitOf (s.soc.dev.get (pgADCG g) ADCG.ST_CAL_BUSY) c =
    false)) ∧
  (∃ (g : Fin 4) (s : State) (j : Fin 16) (w : Word), s.soc.answers (pgADCG g + 0x50 + 4 * j.val) = true ∧
    wordField w 12 4 ≤ 8 ∧ wordField w 8 4 ≤ 8) ∧
  (∃ (g : Fin 4) (s : State), s.soc.answers (pgADCG g + 0xE4) = true) ∧
  (∃ (n : Fin 24) (s : State), s.soc.answers (pgSDI n + 0x60) = true) ∧
  (∃ (dt : Nat) (g : Fin 4) (s : State) (q : Nat × Nat) (b : Soc), b = s.soc.after dt ∧ b.dev.enabled (pgADCG g) =
    true ∧ (b.dev.ah g).calReq = [q] ∧ q.1 < 8 ∧ (b.dev.ah g).pend = [] ∧ (b.dev.ah g).arr = [] ∧ (b.dev.ah
    g).runs = [] ∧ b.dev.get (pgADCG g) ADCG.ST_CAL_BUSY = 0 ∧ (∀ c < 3, (b.dev.ah g).free.getD c 0 ≤
    b.dev.time)) ∧
  (∃ (dt : Nat) (g : Fin 4) (s : State) (m : Nat) (e : Nat) (host : Bool) (b : Soc), b = s.soc.after dt ∧
    (b.dev.ah g).calRun = [(m, e, host)] ∧ e ≤ b.dev.time) :=
  ⟨⟨(3 : Fin 4), (Wt fun d => (d.put (pgADCG 3) COM.ST_ENABLED 1)), (5 : BitVec 3), by decide +kernel⟩,
   ⟨(3 : Fin 4), State.reset, (15 : Fin 16), (0 : Word), by decide +kernel⟩,
   ⟨(3 : Fin 4), State.reset, by decide +kernel⟩,
   ⟨(23 : Fin 24), State.reset, by decide +kernel⟩,
   ⟨(0 : Nat), (3 : Fin 4),
     (Wt fun d => { (d.put (pgADCG 3) COM.ST_ENABLED 1) with time := 9000, adc := vmod d.adc 3 (fun h => { h with calReq := [(5, 8000)] }) }),
     ((5, 8000) : Nat × Nat), _, rfl, by decide +kernel⟩,
   ⟨(0 : Nat), (3 : Fin 4),
     (Wt fun d => { (d.put (pgADCG 3) COM.ST_ENABLED 1).put (pgADCG 3) ADCG.ST_CAL_BUSY 5 with time := 90000, adc := vmod d.adc 3 (fun h => { h with calRun := [(5, 80000, true)] }) }),
     (5 : Nat), (80000 : Nat), true, _, rfl, by decide +kernel⟩⟩

theorem witness_ConvertersCalibrateAndClamp_2 :
  (∃ (dt : Nat) (g : Fin 4) (s : State) (p : Fin 16) (b : Soc), b = s.soc.after dt ∧ bitOf (b.dev.get (pgADCG g)
    ADCG.CLAMP_STAT) p = true) :=
  ⟨(0 : Nat), (3 : Fin 4), (Wt fun d => d.put (pgADCG 3) ADCG.CLAMP_STAT 0x8000), (15 : Fin 16), _, rfl,
     by decide +kernel⟩

theorem witness_SigmaDeltaWordsAndFaults :
  (∃ (dt : Nat) (n : Fin 24) (s : State) (e : Nat) (v : Int) (b : Soc) (fmt : Nat) (osr : Nat), b = s.soc.after dt
    ∧ fmt = b.dev.get (pgSDI n) SDI.CFG_FORMAT ∧ osr = b.dev.get (pgSDI n) SDI.OSR_OSR ∧ b.dev.enabled (pgSDI n)
    = true ∧ e + b.dev.sdiSkew n + 4 = b.dev.time ∧ (b.dev.sd n).edge = e + 1 ∧ (b.dev.sd n).wordEdge ≠ e + 1 ∧
    (fmt = 1 → (b.dev.sd n).count % osr = 0) ∧ (fmt ≠ 1 → e % (osr * b.dev.get (pgSDI n) SDI.CFG_DIV) = 0) ∧ v =
    roundDiv (32768 * firSum (sinc3 osr) (((b.dev.sd n).samples.take (3 * osr - 2)).map (sdiSample fmt))) (8 *
    osr ^ 3 : Nat)) ∧
  (∃ (dt : Nat) (n : Fin 24) (s : State) (first : BitVec 2) (second : BitVec 2) (r : Nat) (e : Nat) (b : Soc) (fmt
    : Nat) (osr : Nat) (xs : List (BitVec 4)) (num : Int) (den : Int), b = s.soc.after dt ∧ fmt = b.dev.get
    (pgSDI n) SDI.CFG_FORMAT ∧ osr = b.dev.get (pgSDI n) SDI.OSR_OSR ∧ xs = (sdiCode fmt first second ::
    (b.dev.sd n).samples).take 766 ∧ num = 32768 * firSum (sinc2 r) ((xs.take (2 * r - 1)).map (sdiSample fmt))
    ∧ den = (8 * r ^ 2 : Nat) ∧ b.dev.enabled (pgSDI n) = true ∧ e + b.dev.sdiSkew n + 3 = b.dev.time ∧
    (b.dev.sd n).enT ≤ e ∧ (b.dev.sd n).edge ≤ e ∧ (fmt = 1 ∨ e % b.dev.get (pgSDI n) SDI.CFG_DIV = 0) ∧ r =
    b.dev.get (pgSDI n) SDI.OSR_OC_OSR) ∧
  (∃ (dt : Nat) (n : Fin 24) (s : State) (b : Soc) (fmt : Nat) (osr : Nat), b = s.soc.after dt ∧ fmt = b.dev.get
    (pgSDI n) SDI.CFG_FORMAT ∧ osr = b.dev.get (pgSDI n) SDI.OSR_OSR ∧ b.dev.enabled (pgSDI n) = true ∧
    b.dev.get (pgSDI n) SDI.ERR_CFG_STUCK_N ≠ 0 ∧ b.dev.flag (pgSDI n) SDI.ST_STUCK = false ∧ b.dev.get (pgSDI
    n) SDI.ERR_CFG_STUCK_N ≤ (b.dev.sd n).same) ∧
  (∃ (dt : Nat) (n : Fin 24) (s : State) (b : Soc) (fmt : Nat) (osr : Nat), b = s.soc.after dt ∧ fmt = b.dev.get
    (pgSDI n) SDI.CFG_FORMAT ∧ osr = b.dev.get (pgSDI n) SDI.OSR_OSR ∧ b.dev.enabled (pgSDI n) = true ∧ fmt = 1
    ∧ b.dev.flag (pgSDI n) SDI.ST_CLK_LOSS = false ∧ max (b.dev.sd n).enT (max ((b.dev.sd n).edge - 1)
    ((b.dev.sd n).back - 1)) + 2 * b.dev.get (pgSDI n) SDI.CFG_DIV ≤ b.dev.time) ∧
  (∃ (dt : Nat) (n : Fin 24) (s : State) (b : Soc) (fmt : Nat) (osr : Nat), b = s.soc.after dt ∧ fmt = b.dev.get
    (pgSDI n) SDI.CFG_FORMAT ∧ osr = b.dev.get (pgSDI n) SDI.OSR_OSR ∧ b.dev.enabled (pgSDI n) = true ∧
    b.dev.flag (pgSDI n) SDI.ST_CLK_LOSS = true) :=
  ⟨⟨(0 : Nat), (23 : Fin 24),
     (Wt fun d => { (d.put (pgSDI 23) COM.ST_ENABLED 1 |>.put (pgSDI 23) SDI.CFG_FORMAT 0 |>.put (pgSDI 23) SDI.CFG_SKEW 0 |>.put (pgSDI 23) SDI.CFG_DIV 10 |>.put (pgSDI 23) SDI.OSR_OSR 32 |>.put (pgSDI 23) SDI.OSR_OC_OSR 8 |>.put (pgSDI 23) SDI.ERR_CFG_STUCK_N 64) with time := 8964, sdi := vmod d.sdi 23 (fun h => { h with samples := List.replicate 700 (1 : BitVec 4), count := 700, edge := 8961 }) }),
     (8960 : Nat),
     (roundDiv (32768 * firSum (sinc3 32) ((((List.replicate 700 (1 : BitVec 4)) : List (BitVec 4)).take (3 * 32 - 2)).map (sdiSample 0))) (8 * 32 ^ 3 : Nat)),
     _, _, _, rfl, rfl, rfl, by decide +kernel⟩,
   ⟨(0 : Nat), (23 : Fin 24),
     (Wt fun d => { (d.put (pgSDI 23) COM.ST_ENABLED 1 |>.put (pgSDI 23) SDI.CFG_FORMAT 0 |>.put (pgSDI 23) SDI.CFG_SKEW 0 |>.put (pgSDI 23) SDI.CFG_DIV 10 |>.put (pgSDI 23) SDI.OSR_OSR 32 |>.put (pgSDI 23) SDI.OSR_OC_OSR 8 |>.put (pgSDI 23) SDI.ERR_CFG_STUCK_N 64) with time := 8963, sdi := vmod d.sdi 23 (fun h => { h with samples := (List.replicate 700 (1 : BitVec 4)), count := 700 }) }),
     (1 : BitVec 2), (0 : BitVec 2), (8 : Nat), (8960 : Nat), _, _, _, _, _, _, rfl, rfl, rfl, rfl, rfl, rfl,
     by decide +kernel⟩,
   ⟨(0 : Nat), (23 : Fin 24),
     (Wt fun d => { (d.put (pgSDI 23) COM.ST_ENABLED 1 |>.put (pgSDI 23) SDI.CFG_FORMAT 0 |>.put (pgSDI 23) SDI.CFG_SKEW 0 |>.put (pgSDI 23) SDI.CFG_DIV 10 |>.put (pgSDI 23) SDI.OSR_OSR 32 |>.put (pgSDI 23) SDI.OSR_OC_OSR 8 |>.put (pgSDI 23) SDI.ERR_CFG_STUCK_N 64) with time := 8964, sdi := vmod d.sdi 23 (fun h => { h with samples := (List.replicate 700 (1 : BitVec 4)), count := 700, same := 64 }) }),
     _, _, _, rfl, rfl, rfl, by decide +kernel⟩,
   ⟨(0 : Nat), (23 : Fin 24),
     (Wt fun d => { (d.put (pgSDI 23) COM.ST_ENABLED 1 |>.put (pgSDI 23) SDI.CFG_FORMAT 1 |>.put (pgSDI 23) SDI.CFG_SKEW 0 |>.put (pgSDI 23) SDI.CFG_DIV 10 |>.put (pgSDI 23) SDI.OSR_OSR 32 |>.put (pgSDI 23) SDI.OSR_OC_OSR 8 |>.put (pgSDI 23) SDI.ERR_CFG_STUCK_N 64) with time := 8964, sdi := vmod d.sdi 23 (fun h => { h with samples := (List.replicate 700 (1 : BitVec 4)), count := 700, edge := 100 }) }),
     _, _, _, rfl, rfl, rfl, by decide +kernel⟩,
   ⟨(0 : Nat), (23 : Fin 24), (Wt fun d => (d.put (pgSDI 23) COM.ST_ENABLED 1).put (pgSDI 23) SDI.ST_CLK_LOSS 1),
     _, _, _, rfl, rfl, rfl, by decide +kernel⟩⟩

theorem witness_TripsActAndRelease :
  (∃ (dt : Nat) (s : State) (j : Fin 168) (x : Int) (held : Nat) (b : Soc), b = s.soc.after dt ∧ b.dev.srcLevel j
    = false ∧ b.dev.srcEn j = true ∧ b.dev.srcOwned j = true ∧ (b.dev.tripInput j x held).tripFiltered j true =
    true) ∧
  (∃ (dt : Nat) (s : State) (j : Fin 168) (x : Int) (held : Nat) (b : Soc), b = s.soc.after dt ∧ b.dev.srcLevel j
    = true ∧ (b.dev.tripInput j x held).tripFiltered j false = true) ∧
  (∃ (dt : Nat) (s : State) (k : Fin 16) (b : Soc), b = s.soc.after dt ∧ (b.dev.sh k).zeroT = b.dev.time + 1 ∧ (∃
    a ∈ b.dev.trip.acts, a.stage = k.val ∧ ∃ t, a.rel = some t ∧ t < b.dev.time)) ∧
  (∃ (sel : BitVec 2) (s : State), s.soc.answers (pgTRIP + 0x98) = true ∧ sel ≠ 3 ∧ s.soc.dev.srcLevel 175 =
    false) :=
  ⟨⟨(0 : Nat),
     (Wt fun d => { (d.putAt pgTRIP TRIP.SRC_CFG_EN 20 1).putAt pgTRIP TRIP.TARGET_VALID 20 1 |>.putAt pgTRIP TRIP.TARGET_IMASK 20 5 |>.putAt (pgCMPB 0) CMPB.THR_EN_HIGH 4 1 |>.putAt (pgCMPB 0) CMPB.THR_HIGH 4 500 with time := 1000 }),
     (20 : Fin 168), (1000000 : Int), (400 : Nat), _, rfl, by decide +kernel⟩,
   ⟨(0 : Nat),
     (Wt fun d => { d.putAt pgTRIP TRIP.ACTIVE 0 1 with time := 1000, trip := { d.trip with acts := [⟨0, 3, none, 0, false, none⟩] } }),
     (0 : Fin 168), (1 : Int), (400 : Nat), _, rfl, by decide +kernel⟩,
   ⟨(0 : Nat),
     (Wt fun d => { d with time := 1000, stg := vmod d.stg 15 (fun h => { h with zeroT := 1001 }), trip := { d.trip with acts := [⟨0, 15, none, 0, true, some 5⟩, ⟨0, 14, none, 0, true, some 5⟩] } }),
     (15 : Fin 16), _, rfl, by decide +kernel⟩,
   ⟨(1 : BitVec 2), State.reset, by decide +kernel⟩⟩

theorem witness_FlagsInterlocksAndComparatorTests_1 :
  (∃ (j : Fin 6) (s : State), s.soc.answers (pgTRIP + 0xC0 + 4 * j.val) = true) ∧
  (∃ (n : Fin 64) (s : State), s.soc.answers (pgTRIP + 0xEC) = true ∧ (s.soc.dev.bound n = true → s.soc.dev.flag
    (pgSTG (s.soc.dev.legStage n)) COM.CTRL_EN = false)) ∧
  (∃ (dt : Nat) (t : Nat) (s : State) (b : Soc) (c : Nat), b = s.soc.after dt ∧ c = crc32c b.dev.srcCfgBytes ∧
    b.dev.trip.nextCrc = some t ∧ t ≤ b.dev.time) ∧
  (∃ (dt : Nat) (g : Fin 4) (s : State) (b : Soc), b = s.soc.after dt ∧ b.dev.flag (pgCMPB g) COM.ST_FROZEN =
    false ∧ b.dev.flag (pgCMPB g) CMPB.TEST_CFG_TEST_EN = true ∧ b.dev.flag (pgCMPB g) CMPB.ST_TEST_STOPPED =
    false ∧ 0 < b.dev.get (pgCMPB g) CMPB.TEST_CFG_INTERVAL ∧ b.dev.get (pgCMPB g) CMPB.TEST_CFG_INTERVAL ≤ 1000
    ∧ (b.dev.cmp[g]).testing = none ∧ (b.dev.cmp[g]).nextT ≤ b.dev.time ∧ (b.dev.cmp[g]).nextI < 16 ∧
    (b.dev.flagAt (pgCMPB g) CMPB.THR_EN_HIGH (b.dev.cmp[g]).nextI || b.dev.flagAt (pgCMPB g) CMPB.THR_EN_LOW
    (b.dev.cmp[g]).nextI) = true) ∧
  (∃ (dt : Nat) (g : Fin 4) (s : State) (i : Nat) (t : Nat) (b : Soc), b = s.soc.after dt ∧ (b.dev.cmp[g]).testing
    = some i ∧ cmpSteps[(b.dev.cmp[g]).steps]? = some t ∧ (b.dev.cmp[g]).startT + t ≤ b.dev.time ∧ b.dev.flag
    (pgCMPB g) COM.ST_FROZEN = false) ∧
  (∃ (dt : Nat) (g : Fin 4) (s : State) (i : Nat) (spare : BitVec 4) (comp : BitVec 4) (b : Soc), b = s.soc.after
    dt ∧ (b.dev.cmp[g]).testing = some i ∧ i < 16 ∧ 6 ≤ (b.dev.cmp[g]).steps ∧ sideOk spare false = true ∧
    sideOk spare true = true ∧ sideOk comp false = true ∧ sideOk comp true = true ∧ b.dev.getAt (pgCMPB g)
    CMPB.RESULT_PASS_CNT i + 1 < 2 ^ CMPB.RESULT_PASS_CNT.width) :=
  ⟨⟨(5 : Fin 6), State.reset, by decide +kernel⟩,
   ⟨(63 : Fin 64), State.reset, by decide +kernel⟩,
   ⟨(0 : Nat), (0 : Nat), (Wt fun d => { d with trip := { d.trip with nextCrc := some 0 } }), _, _, rfl, rfl,
     by decide +kernel⟩,
   ⟨(0 : Nat), (3 : Fin 4),
     (Wt fun d => { (((d.put (pgCMPB 3) CMPB.TEST_CFG_TEST_EN 1).putAt (pgCMPB 3) CMPB.THR_EN_HIGH 0 1).putAt (pgCMPB 3) CMPB.THR_EN_HIGH 6 1) with time := 90000, cmp := vmod d.cmp 3 (fun h => { h with testing := none }) }),
     _, rfl, by decide +kernel⟩,
   ⟨(0 : Nat), (3 : Fin 4),
     (Wt fun d => { (((d.put (pgCMPB 3) CMPB.TEST_CFG_TEST_EN 1).putAt (pgCMPB 3) CMPB.THR_EN_HIGH 0 1).putAt (pgCMPB 3) CMPB.THR_EN_HIGH 6 1) with time := 90000, cmp := vmod d.cmp 3 (fun h => { h with testing := some 6, startT := 500, steps := 3 }) }),
     (6 : Nat), (2400 : Nat), _, rfl, by decide +kernel⟩,
   ⟨(0 : Nat), (3 : Fin 4),
     (Wt fun d => { (((d.put (pgCMPB 3) CMPB.TEST_CFG_TEST_EN 1).putAt (pgCMPB 3) CMPB.THR_EN_HIGH 0 1).putAt (pgCMPB 3) CMPB.THR_EN_HIGH 6 1) with time := 90000, cmp := vmod d.cmp 3 (fun h => { h with testing := some 6, startT := 500, steps := 6 }) }),
     (6 : Nat), (5 : BitVec 4), (5 : BitVec 4), _, rfl, by decide +kernel⟩⟩

theorem witness_FlagsInterlocksAndComparatorTests_2 :
  (∃ (dt : Nat) (g : Fin 4) (s : State) (i : Nat) (spare : BitVec 4) (comp : BitVec 4) (b : Soc), b = s.soc.after
    dt ∧ (b.dev.cmp[g]).testing = some i ∧ i < 16 ∧ 6 ≤ (b.dev.cmp[g]).steps ∧ sideOk spare false = true ∧
    sideOk spare true = true ∧ (sideOk comp false && sideOk comp true) = false) :=
  ⟨(0 : Nat), (3 : Fin 4),
     (Wt fun d => { (((d.put (pgCMPB 3) CMPB.TEST_CFG_TEST_EN 1).putAt (pgCMPB 3) CMPB.THR_EN_HIGH 0 1).putAt (pgCMPB 3) CMPB.THR_EN_HIGH 6 1) with time := 90000, cmp := vmod d.cmp 3 (fun h => { h with testing := some 6, startT := 500, steps := 6 }) }),
     (6 : Nat), (5 : BitVec 4), (1 : BitVec 4), _, rfl, by decide +kernel⟩

theorem witness_LoopArithmeticMovesAndLimits_1 :
  (∃ (dt : Nat) (c : Fin 4) (st : Fin 3) (v : Vote) (s : State) (i : Iss) (b : Soc), b = s.soc.after dt ∧ b.issues
    c st v i 0x03) ∧
  (∃ (dt : Nat) (c : Fin 4) (st : Fin 3) (v : Vote) (s : State) (i : Iss) (b : Soc), b = s.soc.after dt ∧ b.issues
    c st v i 0x04) ∧
  (∃ (dt : Nat) (c : Fin 4) (st : Fin 3) (v : Vote) (s : State) (i : Iss) (b : Soc), b = s.soc.after dt ∧ b.issues
    c st v i 0x05) ∧
  (∃ (dt : Nat) (c : Fin 4) (st : Fin 3) (v : Vote) (s : State) (i : Iss) (b : Soc), b = s.soc.after dt ∧ b.issues
    c st v i 0x06) ∧
  (∃ (dt : Nat) (c : Fin 4) (st : Fin 3) (v : Vote) (s : State) (i : Iss) (b : Soc), b = s.soc.after dt ∧ b.issues
    c st v i 0x09) ∧
  (∃ (dt : Nat) (c : Fin 4) (st : Fin 3) (v : Vote) (s : State) (i : Iss) (b : Soc), b = s.soc.after dt ∧ b.issues
    c st v i 0x0D) :=
  ⟨⟨(0 : Nat), (3 : Fin 4), (0 : Fin 3), Vote.agree, (Wi (iw 3 0 4 1 2 0 0 0 0)),
     (tIssOf (iw 3 0 4 1 2 0 0 0 0) (tDp) (tLoop) false false), _, rfl,
     ⟨by decide +kernel, by decide +kernel, by decide +kernel, by decide +kernel, Dev.compare_agree _ _ _⟩⟩,
   ⟨(0 : Nat), (3 : Fin 4), (0 : Fin 3), Vote.agree, (Wi (iw 4 0 4 1 3 0 0 0 0)),
     (tIssOf (iw 4 0 4 1 3 0 0 0 0) (tDp) (tLoop) false false), _, rfl,
     ⟨by decide +kernel, by decide +kernel, by decide +kernel, by decide +kernel, Dev.compare_agree _ _ _⟩⟩,
   ⟨(0 : Nat), (3 : Fin 4), (0 : Fin 3), Vote.agree, (Wi (iw 5 0 4 3 0 0 0 0 0)),
     (tIssOf (iw 5 0 4 3 0 0 0 0 0) (tDp) (tLoop) false false), _, rfl,
     ⟨by decide +kernel, by decide +kernel, by decide +kernel, by decide +kernel, Dev.compare_agree _ _ _⟩⟩,
   ⟨(0 : Nat), (3 : Fin 4), (0 : Fin 3), Vote.agree, (Wi (iw 6 0 4 3 0 0 0 0 0)),
     (tIssOf (iw 6 0 4 3 0 0 0 0 0) (tDp) (tLoop) false false), _, rfl,
     ⟨by decide +kernel, by decide +kernel, by decide +kernel, by decide +kernel, Dev.compare_agree _ _ _⟩⟩,
   ⟨(0 : Nat), (3 : Fin 4), (0 : Fin 3), Vote.agree, (Wi (iw 9 0 4 3 3 0 0 0 0)),
     (tIssOf (iw 9 0 4 3 3 0 0 0 0) (tDp) (tLoop) false false), _, rfl,
     ⟨by decide +kernel, by decide +kernel, by decide +kernel, by decide +kernel, Dev.compare_agree _ _ _⟩⟩,
   ⟨(0 : Nat), (3 : Fin 4), (0 : Fin 3), Vote.agree,
     (Wi (iw 13 0 4 0 0 0 0 0 0) (p := { tDp with acc := #v[0x123456789, -0x4000000000, 0x8000, 5] })),
     (tIssOf (iw 13 0 4 0 0 0 0 0 0) ({ tDp with acc := #v[0x123456789, -0x4000000000, 0x8000, 5] }) (tLoop) false false),
     _, rfl,
     ⟨by decide +kernel, by decide +kernel, by decide +kernel, by decide +kernel, Dev.compare_agree _ _ _⟩⟩⟩

theorem witness_LoopArithmeticMovesAndLimits_2 :
  (∃ (dt : Nat) (c : Fin 4) (st : Fin 3) (v : Vote) (s : State) (i : Iss) (b : Soc), b = s.soc.after dt ∧ b.issues
    c st v i 0x00) ∧
  (∃ (dt : Nat) (c : Fin 4) (st : Fin 3) (v : Vote) (s : State) (i : Iss) (b : Soc), b = s.soc.after dt ∧ b.issues
    c st v i 0x01) ∧
  (∃ (dt : Nat) (c : Fin 4) (st : Fin 3) (v : Vote) (s : State) (i : Iss) (b : Soc), b = s.soc.after dt ∧ b.issues
    c st v i 0x02) ∧
  (∃ (dt : Nat) (c : Fin 4) (st : Fin 3) (v : Vote) (s : State) (i : Iss) (b : Soc), b = s.soc.after dt ∧ b.issues
    c st v i 0x07) ∧
  (∃ (dt : Nat) (c : Fin 4) (st : Fin 3) (v : Vote) (s : State) (i : Iss) (b : Soc), b = s.soc.after dt ∧ b.issues
    c st v i 0x08) ∧
  (∃ (dt : Nat) (c : Fin 4) (st : Fin 3) (v : Vote) (s : State) (i : Iss) (b : Soc) (m : Int) (x : Int), b =
    s.soc.after dt ∧ m = (immOf i.w % 32768 : Nat) ∧ x = min (max (i.dp.r (saOf i.w)) (-m)) m ∧ b.issues c st v
    i 0x21) :=
  ⟨⟨(0 : Nat), (3 : Fin 4), (0 : Fin 3), Vote.agree, (Wi (iw 0 0 0 0 0 0 0 0 0)),
     (tIssOf (iw 0 0 0 0 0 0 0 0 0) (tDp) (tLoop) false false), _, rfl,
     ⟨by decide +kernel, by decide +kernel, by decide +kernel, by decide +kernel, Dev.compare_agree _ _ _⟩⟩,
   ⟨(0 : Nat), (3 : Fin 4), (0 : Fin 3), Vote.agree, (Wi (iw 1 0 4 0 0 0 0 0 32769)),
     (tIssOf (iw 1 0 4 0 0 0 0 0 32769) (tDp) (tLoop) false false), _, rfl,
     ⟨by decide +kernel, by decide +kernel, by decide +kernel, by decide +kernel, Dev.compare_agree _ _ _⟩⟩,
   ⟨(0 : Nat), (3 : Fin 4), (0 : Fin 3), Vote.agree, (Wi (iw 2 0 4 5 0 0 0 0 0)),
     (tIssOf (iw 2 0 4 5 0 0 0 0 0) (tDp) (tLoop) false false), _, rfl,
     ⟨by decide +kernel, by decide +kernel, by decide +kernel, by decide +kernel, Dev.compare_agree _ _ _⟩⟩,
   ⟨(0 : Nat), (3 : Fin 4), (0 : Fin 3), Vote.agree, (Wi (iw 7 0 4 3 1 0 0 0 0)),
     (tIssOf (iw 7 0 4 3 1 0 0 0 0) (tDp) (tLoop) false false), _, rfl,
     ⟨by decide +kernel, by decide +kernel, by decide +kernel, by decide +kernel, Dev.compare_agree _ _ _⟩⟩,
   ⟨(0 : Nat), (3 : Fin 4), (0 : Fin 3), Vote.agree, (Wi (iw 8 0 4 3 1 0 0 0 0)),
     (tIssOf (iw 8 0 4 3 1 0 0 0 0) (tDp) (tLoop) false false), _, rfl,
     ⟨by decide +kernel, by decide +kernel, by decide +kernel, by decide +kernel, Dev.compare_agree _ _ _⟩⟩,
   ⟨(0 : Nat), (3 : Fin 4), (0 : Fin 3), Vote.agree, (Wi (iw 33 0 4 1 0 0 0 0 256)),
     (tIssOf (iw 33 0 4 1 0 0 0 0 256) (tDp) (tLoop) false false), _, _, _, rfl, rfl, rfl,
     ⟨by decide +kernel, by decide +kernel, by decide +kernel, by decide +kernel, Dev.compare_agree _ _ _⟩⟩⟩

theorem witness_LoopArithmeticMovesAndLimits_3 :
  (∃ (dt : Nat) (c : Fin 4) (st : Fin 3) (v : Vote) (s : State) (i : Iss) (b : Soc) (x : Int), b = s.soc.after dt
    ∧ x = min (max (i.dp.r (saOf i.w)) (i.dp.r (sbOf i.w))) (i.dp.r (scOf i.w)) ∧ b.issues c st v i 0x20) :=
  ⟨(0 : Nat), (3 : Fin 4), (0 : Fin 3), Vote.agree, (Wi (iw 32 0 4 1 3 7 0 0 0)),
     (tIssOf (iw 32 0 4 1 3 7 0 0 0) (tDp) (tLoop) false false), _, _, rfl, rfl,
     ⟨by decide +kernel, by decide +kernel, by decide +kernel, by decide +kernel, Dev.compare_agree _ _ _⟩⟩

theorem witness_LoopAccumulatorsAndMemory_1 :
  (∃ (dt : Nat) (c : Fin 4) (st : Fin 3) (v : Vote) (s : State) (i : Iss) (b : Soc), b = s.soc.after dt ∧ b.issues
    c st v i 0x0A) ∧
  (∃ (dt : Nat) (c : Fin 4) (st : Fin 3) (v : Vote) (s : State) (i : Iss) (b : Soc), b = s.soc.after dt ∧ b.issues
    c st v i 0x0B) ∧
  (∃ (dt : Nat) (c : Fin 4) (st : Fin 3) (v : Vote) (s : State) (i : Iss) (b : Soc) (x : Int), b = s.soc.after dt
    ∧ x = (if bitOf (immOf i.w) 0 then i.dp.r (saOf i.w) * 32768 else 0) ∧ b.issues c st v i 0x0C) ∧
  (∃ (dt : Nat) (c : Fin 4) (st : Fin 3) (v : Vote) (s : State) (i : Iss) (b : Soc) (k : Int) (x : Int), b =
    s.soc.after dt ∧ k = signed 5 (immOf i.w) ∧ x = (if 0 ≤ k then i.dp.a (accOf i.w) * (2 ^ k.toNat : Nat) else
    roundDiv (i.dp.a (accOf i.w)) (2 ^ (-k).toNat : Nat)) ∧ b.issues c st v i 0x0E) ∧
  (∃ (dt : Nat) (c : Fin 4) (st : Fin 3) (v : Vote) (s : State) (i : Iss) (b : Soc) (n : Nat) (hi : Int) (lo :
    Int) (x : Int) (y : Int), b = s.soc.after dt ∧ n = 256 + 256 * i.run.bank + 240 + 2 * (immOf i.w % 4) ∧ hi =
    signed 16 (b.word (b.ctxAddr i n) / 65536) * 32768 ∧ lo = signed 16 (b.word (b.ctxAddr i n)) * 32768 ∧ x =
    i.dp.a (accOf i.w) + i.dp.r (saOf i.w) * i.dp.r (sbOf i.w) - (if bitOf (immOf i.w) 2 then signed 16 (b.word
    (b.ctxAddr i (n + 1))) * signed 16 (b.word (b.ctxAddr i (832 + immOf i.w % 4))) else 0) ∧ y = (if hi < lo
    then hi else min (max x lo) hi) ∧ b.bad (b.ctxAddr i n) = false ∧ (bitOf (immOf i.w) 2 = true → ∀ w ∈ [n +
    1, 832 + immOf i.w % 4], b.bad (b.ctxAddr i w) = false) ∧ b.issues c st v i 0x23) ∧
  (∃ (dt : Nat) (c : Fin 4) (st : Fin 3) (v : Vote) (s : State) (i : Iss) (a : Nat) (e : Bool) (b : Soc) (x :
    Int), b = s.soc.after dt ∧ x = (if i.fmt then toStage (if i.half then signed 16 (b.word a / 65536) else
    signed 16 (b.word a)) (if e && !i.half then signed 6 (b.word a / 65536) else 0) i.dp.e else if i.half then
    signed 16 (b.word a / 65536) else signed 16 (b.word a)) ∧ ((spaceOf i.w = 0 ∧ i.addr < 256 ∧ a = b.ctxAddr i
    i.addr ∧ e = true) ∨ (spaceOf i.w = 1 ∧ i.addr < 256 ∧ a = b.ctxAddr i (256 + 256 * i.run.bank + i.addr) ∧ e
    = true) ∨ (spaceOf i.w = 2 ∧ i.addr < 64 ∧ a = b.ctxAddr i (768 + i.addr) ∧ e = false)) ∧ b.bad a = false ∧
    b.issues c st v i 0x10) :=
  ⟨⟨(0 : Nat), (3 : Fin 4), (0 : Fin 3), Vote.agree,
     (Wi (iw 10 1 0 3 1 0 0 0 0) (p := { tDp with acc := #v[0x123456789, -0x4000000000, 0x8000, 5] })),
     (tIssOf (iw 10 1 0 3 1 0 0 0 0) ({ tDp with acc := #v[0x123456789, -0x4000000000, 0x8000, 5] }) (tLoop) false false),
     _, rfl,
     ⟨by decide +kernel, by decide +kernel, by decide +kernel, by decide +kernel, Dev.compare_agree _ _ _⟩⟩,
   ⟨(0 : Nat), (3 : Fin 4), (0 : Fin 3), Vote.agree,
     (Wi (iw 11 1 0 3 3 0 0 0 0) (p := { tDp with acc := #v[0x123456789, -0x4000000000, 0x8000, 5] })),
     (tIssOf (iw 11 1 0 3 3 0 0 0 0) ({ tDp with acc := #v[0x123456789, -0x4000000000, 0x8000, 5] }) (tLoop) false false),
     _, rfl,
     ⟨by decide +kernel, by decide +kernel, by decide +kernel, by decide +kernel, Dev.compare_agree _ _ _⟩⟩,
   ⟨(0 : Nat), (3 : Fin 4), (0 : Fin 3), Vote.agree,
     (Wi (iw 12 0 0 0 0 0 0 0 0) (p := { tDp with acc := #v[0x123456789, -0x4000000000, 0x8000, 5] })),
     (tIssOf (iw 12 0 0 0 0 0 0 0 0) ({ tDp with acc := #v[0x123456789, -0x4000000000, 0x8000, 5] }) (tLoop) false false),
     _, _, rfl, rfl,
     ⟨by decide +kernel, by decide +kernel, by decide +kernel, by decide +kernel, Dev.compare_agree _ _ _⟩⟩,
   ⟨(0 : Nat), (3 : Fin 4), (0 : Fin 3), Vote.agree,
     (Wi (iw 14 0 0 0 0 0 0 0 0) (p := { tDp with acc := #v[0x123456789, -0x4000000000, 0x8000, 5] })),
     (tIssOf (iw 14 0 0 0 0 0 0 0 0) ({ tDp with acc := #v[0x123456789, -0x4000000000, 0x8000, 5] }) (tLoop) false false),
     _, _, _, rfl, rfl, rfl,
     ⟨by decide +kernel, by decide +kernel, by decide +kernel, by decide +kernel, Dev.compare_agree _ _ _⟩⟩,
   ⟨(0 : Nat), (3 : Fin 4), (0 : Fin 3), Vote.agree,
     (Wi (iw 35 0 0 1 3 0 0 0 0) (p := { tDp with acc := #v[0x123456789, -0x4000000000, 0x8000, 5] }) (g := (fun s => { s with mem := memPutNat (memPutNat (memPutNat (s.mem) (s.dev.ctxWord 1 496) 4 1073774608) (s.dev.ctxWord 1 497) 4 28672) (s.dev.ctxWord 1 832) 4 4660 }))),
     (tIssOf (iw 35 0 0 1 3 0 0 0 0) ({ tDp with acc := #v[0x123456789, -0x4000000000, 0x8000, 5] }) (tLoop) false false),
     _, _, _, _, _, _, rfl, rfl, rfl, rfl, rfl, rfl, by decide +kernel, by decide +kernel,
     ⟨by decide +kernel, by decide +kernel, by decide +kernel, by decide +kernel, Dev.compare_agree _ _ _⟩⟩,
   ⟨(0 : Nat), (3 : Fin 4), (0 : Fin 3), Vote.agree,
     (Wi (iw 16 0 4 0 0 0 0 0 7) (g := (fun s => { s with mem := memPutNat (memPutNat (memPutNat (memPutNat (s.mem) (s.dev.ctxWord 1 7) 4 306151425) (s.dev.ctxWord 1 263) 4 2271608831) (s.dev.ctxWord 1 775) 4 2004291857) (s.dev.ctxWord 1 20) 4 5 }))),
     (tIssOf (iw 16 0 4 0 0 0 0 0 7) (tDp) (tLoop) false false),
     (((Wi (iw 16 0 4 0 0 0 0 0 7) (g := (fun s => { s with mem := memPutNat (memPutNat (memPutNat (memPutNat (s.mem) (s.dev.ctxWord 1 7) 4 306151425) (s.dev.ctxWord 1 263) 4 2271608831) (s.dev.ctxWord 1 775) 4 2004291857) (s.dev.ctxWord 1 20) 4 5 }))).soc.after (0 : Nat)).dev.ctxWord 1 (0 + 7)),
     true, _, _, rfl, rfl, by decide +kernel, by decide +kernel,
     ⟨by decide +kernel, by decide +kernel, by decide +kernel, by decide +kernel, Dev.compare_agree _ _ _⟩⟩⟩

theorem witness_LoopAccumulatorsAndMemory_2 :
  (∃ (dt : Nat) (c : Fin 4) (st : Fin 3) (v : Vote) (s : State) (i : Iss) (t : Nat × Nat) (b : Soc) (m : Int), b =
    s.soc.after dt ∧ m = (if i.half then signed 16 (b.word (t.1 + 4 * i.addr) / 65536) else signed 16 (b.word
    (t.1 + 4 * i.addr))) ∧ spaceOf i.w = 4 ∧ b.dev.loopTable i.loop (immOf i.w / 2 ^ 24) = some t ∧ i.addr < t.2
    ∧ i.fmt = false ∧ b.issues c st v i 0x10) ∧
  (∃ (dt : Nat) (c : Fin 4) (st : Fin 3) (v : Vote) (s : State) (i : Iss) (b : Soc) (a : Nat), b = s.soc.after dt
    ∧ a = b.ctxAddr i i.addr ∧ spaceOf i.w = 0 ∧ i.addr < 256 ∧ i.fmt = false ∧ b.bad a = false ∧ b.issues c st
    v i 0x11) ∧
  (∃ (dt : Nat) (c : Fin 4) (st : Fin 3) (v : Vote) (s : State) (i : Iss) (b : Soc) (x : Int), b = s.soc.after dt
    ∧ x = signed 40 (b.word (b.ctxAddr i i.addr) + b.word (b.ctxAddr i (i.addr + 1)) % 256 * 2 ^ 32) ∧ spaceOf
    i.w = 0 ∧ i.addr + 1 < 256 ∧ b.bad (b.ctxAddr i i.addr) = false ∧ b.bad (b.ctxAddr i (i.addr + 1)) = false ∧
    b.issues c st v i 0x12) ∧
  (∃ (dt : Nat) (c : Fin 4) (st : Fin 3) (v : Vote) (s : State) (i : Iss) (b : Soc) (a : Nat), b = s.soc.after dt
    ∧ a = b.ctxAddr i i.addr ∧ spaceOf i.w = 0 ∧ i.addr + 1 < 256 ∧ b.bad a = false ∧ b.bad (a + 4) = false ∧
    b.issues c st v i 0x13) :=
  ⟨⟨(0 : Nat), (3 : Fin 4), (0 : Fin 3), Vote.agree,
     (Wi (iw 16 0 4 0 0 0 4 0 3) (g := (fun s => { s with mem := memPutNat (s.mem) (0x10002000 + 4 * 3) 4 2147581951 })) (l := { tLoop with ins := [0x0B * 1024], outs := [0x0C * 1024 + 4, 0x01 * 1024 + 3] }) (a := { tSet with tables := [⟨0, 0, 0, 64, 0, 0, 4, 0x10002000, 0⟩] })),
     (tIssOf (iw 16 0 4 0 0 0 4 0 3) (tDp) ({ tLoop with ins := [0x0B * 1024], outs := [0x0C * 1024 + 4, 0x01 * 1024 + 3] }) false false),
     ((0x10002000, 16) : Nat × Nat), _, _, rfl, rfl, by decide +kernel, by decide +kernel, by decide +kernel,
     by decide +kernel,
     ⟨by decide +kernel, by decide +kernel, by decide +kernel, by decide +kernel, Dev.compare_agree _ _ _⟩⟩,
   ⟨(0 : Nat), (3 : Fin 4), (0 : Fin 3), Vote.agree,
     (Wi (iw 17 0 0 3 0 0 0 0 7) (g := (fun s => { s with mem := memPutNat (memPutNat (memPutNat (memPutNat (s.mem) (s.dev.ctxWord 1 7) 4 306151425) (s.dev.ctxWord 1 263) 4 2271608831) (s.dev.ctxWord 1 775) 4 2004291857) (s.dev.ctxWord 1 20) 4 5 }))),
     (tIssOf (iw 17 0 0 3 0 0 0 0 7) (tDp) (tLoop) false false), _, _, rfl, rfl, by decide +kernel,
     by decide +kernel, by decide +kernel, by decide +kernel,
     ⟨by decide +kernel, by decide +kernel, by decide +kernel, by decide +kernel, Dev.compare_agree _ _ _⟩⟩,
   ⟨(0 : Nat), (3 : Fin 4), (0 : Fin 3), Vote.agree,
     (Wi (iw 18 2 0 0 0 0 0 0 7) (g := (fun s => { s with mem := memPutNat (memPutNat (memPutNat (s.mem) (s.dev.ctxWord 1 7) 4 2147483649) (s.dev.ctxWord 1 8) 4 4294967169) (s.dev.ctxWord 1 254) 4 9 }))),
     (tIssOf (iw 18 2 0 0 0 0 0 0 7) (tDp) (tLoop) false false), _, _, rfl, rfl, by decide +kernel,
     by decide +kernel, by decide +kernel, by decide +kernel,
     ⟨by decide +kernel, by decide +kernel, by decide +kernel, by decide +kernel, Dev.compare_agree _ _ _⟩⟩,
   ⟨(0 : Nat), (3 : Fin 4), (0 : Fin 3), Vote.agree,
     (Wi (iw 19 0 0 0 0 0 0 0 7) (p := { tDp with acc := #v[0x123456789, -0x4000000000, 0x8000, 5] })),
     (tIssOf (iw 19 0 0 0 0 0 0 0 7) ({ tDp with acc := #v[0x123456789, -0x4000000000, 0x8000, 5] }) (tLoop) false false),
     _, _, rfl, rfl, by decide +kernel, by decide +kernel, by decide +kernel, by decide +kernel,
     ⟨by decide +kernel, by decide +kernel, by decide +kernel, by decide +kernel, Dev.compare_agree _ _ _⟩⟩⟩

theorem witness_LoopControl_1 :
  (∃ (dt : Nat) (c : Fin 4) (st : Fin 3) (v : Vote) (s : State) (i : Iss) (b : Soc), b = s.soc.after dt ∧ brCond
    i.dp i.w = false ∧ b.issues c st v i 0x18) ∧
  (∃ (dt : Nat) (c : Fin 4) (st : Fin 3) (v : Vote) (s : State) (i : Iss) (t : Nat) (b : Soc), b = s.soc.after dt
    ∧ brCond i.dp i.w = true ∧ (t : Int) = (i.dp.pc : Int) + 1 + signed 16 (immOf i.w) ∧ t < i.loop.progLen ∧
    b.issues c st v i 0x18) ∧
  (∃ (dt : Nat) (c : Fin 4) (st : Fin 3) (v : Vote) (s : State) (i : Iss) (b : Soc) (n : Nat) (m : Nat), b =
    s.soc.after dt ∧ n = immOf i.w / 65536 ∧ m = immOf i.w % 65536 ∧ i.dp.pc + m < i.loop.progLen ∧ m = 0 ∧
    i.dp.stack.length < 4 ∧ b.issues c st v i 0x19) ∧
  (∃ (dt : Nat) (c : Fin 4) (st : Fin 3) (v : Vote) (s : State) (i : Iss) (b : Soc) (n : Nat) (m : Nat), b =
    s.soc.after dt ∧ n = immOf i.w / 65536 ∧ m = immOf i.w % 65536 ∧ i.dp.pc + m < i.loop.progLen ∧ 4 ≤
    i.dp.stack.length ∧ b.issues c st v i 0x19) ∧
  (∃ (dt : Nat) (c : Fin 4) (st : Fin 3) (v : Vote) (s : State) (i : Iss) (b : Soc) (n : Nat) (m : Nat), b =
    s.soc.after dt ∧ n = immOf i.w / 65536 ∧ m = immOf i.w % 65536 ∧ i.dp.pc + m < i.loop.progLen ∧ m ≠ 0 ∧
    i.dp.stack.length < 4 ∧ b.issues c st v i 0x19) ∧
  (∃ (dt : Nat) (c : Fin 4) (st : Fin 3) (v : Vote) (s : State) (i : Iss) (b : Soc), b = s.soc.after dt ∧ i.fmt =
    false ∧ b.issues c st v i 0x1A) :=
  ⟨⟨(0 : Nat), (3 : Fin 4), (0 : Fin 3), Vote.agree, (Wi (iw 24 0 0 0 0 1 0 0 2)),
     (tIssOf (iw 24 0 0 0 0 1 0 0 2) (tDp) (tLoop) false false), _, rfl, by decide +kernel,
     ⟨by decide +kernel, by decide +kernel, by decide +kernel, by decide +kernel, Dev.compare_agree _ _ _⟩⟩,
   ⟨(0 : Nat), (3 : Fin 4), (0 : Fin 3), Vote.agree, (Wi (iw 24 0 0 0 0 2 0 0 2)),
     (tIssOf (iw 24 0 0 0 0 2 0 0 2) (tDp) (tLoop) false false), (3 : Nat), _, rfl, by decide +kernel,
     by decide +kernel, by decide +kernel,
     ⟨by decide +kernel, by decide +kernel, by decide +kernel, by decide +kernel, Dev.compare_agree _ _ _⟩⟩,
   ⟨(0 : Nat), (3 : Fin 4), (0 : Fin 3), Vote.agree, (Wi (iw 25 0 0 0 0 0 0 0 327680)),
     (tIssOf (iw 25 0 0 0 0 0 0 0 327680) (tDp) (tLoop) false false), _, _, _, rfl, rfl, rfl, by decide +kernel,
     by decide +kernel, by decide +kernel,
     ⟨by decide +kernel, by decide +kernel, by decide +kernel, by decide +kernel, Dev.compare_agree _ _ _⟩⟩,
   ⟨(0 : Nat), (3 : Fin 4), (0 : Fin 3), Vote.agree,
     (Wi (iw 25 0 0 0 0 0 0 0 327680) (p := { tDp with stack := List.replicate 4 ⟨1, 2, 3⟩ })),
     (tIssOf (iw 25 0 0 0 0 0 0 0 327680) ({ tDp with stack := List.replicate 4 ⟨1, 2, 3⟩ }) (tLoop) false false),
     _, _, _, rfl, rfl, rfl, by decide +kernel, by decide +kernel,
     ⟨by decide +kernel, by decide +kernel, by decide +kernel, by decide +kernel, Dev.compare_agree _ _ _⟩⟩,
   ⟨(0 : Nat), (3 : Fin 4), (0 : Fin 3), Vote.agree, (Wi (iw 25 0 0 0 0 0 0 0 327682)),
     (tIssOf (iw 25 0 0 0 0 0 0 0 327682) (tDp) (tLoop) false false), _, _, _, rfl, rfl, rfl, by decide +kernel,
     by decide +kernel, by decide +kernel,
     ⟨by decide +kernel, by decide +kernel, by decide +kernel, by decide +kernel, Dev.compare_agree _ _ _⟩⟩,
   ⟨(0 : Nat), (3 : Fin 4), (0 : Fin 3), Vote.agree, (Wi (iw 26 0 0 0 0 0 0 0 0)),
     (tIssOf (iw 26 0 0 0 0 0 0 0 0) (tDp) (tLoop) false false), _, rfl, by decide +kernel,
     ⟨by decide +kernel, by decide +kernel, by decide +kernel, by decide +kernel, Dev.compare_agree _ _ _⟩⟩⟩

theorem witness_LoopControl_2 :
  (∃ (dt : Nat) (c : Fin 4) (st : Fin 3) (v : Vote) (s : State) (i : Iss) (b : Soc) (x : Nat) (cyc : Nat), b =
    s.soc.after dt ∧ x = i.run.job.ctx ∧ cyc = i.run.drained + 1 + (if i.fmt then 8 else 0) ∧ b.issues c st v i
    0x1B) ∧
  (∃ (dt : Nat) (c : Fin 4) (st : Fin 3) (v : Vote) (s : State) (i : Iss) (b : Soc), b = s.soc.after dt ∧ b.issue
    c st = some i ∧ i.run.job.ctx < 64 ∧ insnReserved i.w = true ∧ b.dev.compare c st v = (b.dev, true)) :=
  ⟨⟨(0 : Nat), (3 : Fin 4), (0 : Fin 3), Vote.agree,
     (Wi (iw 27 0 0 0 0 0 0 0 0) (l := { tLoop with ins := [0x0B * 1024], outs := [0x0C * 1024 + 4, 0x01 * 1024 + 3] })),
     (tIssOf (iw 27 0 0 0 0 0 0 0 0) (tDp) ({ tLoop with ins := [0x0B * 1024], outs := [0x0C * 1024 + 4, 0x01 * 1024 + 3] }) false false),
     _, _, _, rfl, rfl, rfl,
     ⟨by decide +kernel, by decide +kernel, by decide +kernel, by decide +kernel, Dev.compare_agree _ _ _⟩⟩,
   ⟨(0 : Nat), (3 : Fin 4), (0 : Fin 3), Vote.agree, (Wi (iw 63 0 0 0 0 0 0 0 0)),
     (tIssOf (iw 63 0 0 0 0 0 0 0 0) (tDp) (tLoop) false false), _, rfl, by decide +kernel⟩⟩

theorem witness_LoopTransforms_1 :
  (∃ (dt : Nat) (c : Fin 4) (st : Fin 3) (v : Vote) (s : State) (i : Iss) (b : Soc) (va : Int) (vb : Int) (vc :
    Int) (vd : Int), b = s.soc.after dt ∧ va = q24 (i.dp.r (saOf i.w)) ∧ vb = q24 (i.dp.r (sbOf i.w)) ∧ vc = q24
    (i.dp.r (scOf i.w)) ∧ vd = q24 (i.dp.r (scOf i.w + 1)) ∧ bitOf (immOf i.w) 0 = false ∧ b.issues c st v i
    0x28) ∧
  (∃ (dt : Nat) (c : Fin 4) (st : Fin 3) (v : Vote) (s : State) (i : Iss) (b : Soc) (va : Int) (vb : Int) (vc :
    Int) (vd : Int), b = s.soc.after dt ∧ va = q24 (i.dp.r (saOf i.w)) ∧ vb = q24 (i.dp.r (sbOf i.w)) ∧ vc = q24
    (i.dp.r (scOf i.w)) ∧ vd = q24 (i.dp.r (scOf i.w + 1)) ∧ bitOf (immOf i.w) 0 = true ∧ b.issues c st v i
    0x28) ∧
  (∃ (dt : Nat) (c : Fin 4) (st : Fin 3) (v : Vote) (s : State) (i : Iss) (b : Soc) (va : Int) (vb : Int) (vc :
    Int) (vd : Int), b = s.soc.after dt ∧ va = q24 (i.dp.r (saOf i.w)) ∧ vb = q24 (i.dp.r (sbOf i.w)) ∧ vc = q24
    (i.dp.r (scOf i.w)) ∧ vd = q24 (i.dp.r (scOf i.w + 1)) ∧ b.issues c st v i 0x29) ∧
  (∃ (dt : Nat) (c : Fin 4) (st : Fin 3) (v : Vote) (s : State) (i : Iss) (b : Soc) (va : Int) (vb : Int) (vc :
    Int) (vd : Int), b = s.soc.after dt ∧ va = q24 (i.dp.r (saOf i.w)) ∧ vb = q24 (i.dp.r (sbOf i.w)) ∧ vc = q24
    (i.dp.r (scOf i.w)) ∧ vd = q24 (i.dp.r (scOf i.w + 1)) ∧ b.issues c st v i 0x2A) ∧
  (∃ (dt : Nat) (c : Fin 4) (st : Fin 3) (v : Vote) (s : State) (i : Iss) (b : Soc) (co : Int) (si : Int), b =
    s.soc.after dt ∧ co = satInt 16 (roundDiv (sincos24 (i.dp.ru (saOf i.w))).1 512) ∧ si = satInt 16 (roundDiv
    (sincos24 (i.dp.ru (saOf i.w))).2 512) ∧ b.issues c st v i 0x2B) ∧
  (∃ (dt : Nat) (c : Fin 4) (st : Fin 3) (v : Vote) (s : State) (i : Iss) (b : Soc), b = s.soc.after dt ∧ b.issues
    c st v i 0x2C) :=
  ⟨⟨(0 : Nat), (3 : Fin 4), (0 : Fin 3), Vote.agree, (Wi (iw 40 0 12 1 3 0 0 0 0)),
     (tIssOf (iw 40 0 12 1 3 0 0 0 0) (tDp) (tLoop) false false), _, _, _, _, _, rfl, rfl, rfl, rfl, rfl,
     by decide +kernel,
     ⟨by decide +kernel, by decide +kernel, by decide +kernel, by decide +kernel, Dev.compare_agree _ _ _⟩⟩,
   ⟨(0 : Nat), (3 : Fin 4), (0 : Fin 3), Vote.agree, (Wi (iw 40 0 12 1 3 5 0 0 1)),
     (tIssOf (iw 40 0 12 1 3 5 0 0 1) (tDp) (tLoop) false false), _, _, _, _, _, rfl, rfl, rfl, rfl, rfl,
     by decide +kernel,
     ⟨by decide +kernel, by decide +kernel, by decide +kernel, by decide +kernel, Dev.compare_agree _ _ _⟩⟩,
   ⟨(0 : Nat), (3 : Fin 4), (0 : Fin 3), Vote.agree, (Wi (iw 41 0 12 1 3 7 0 0 0)),
     (tIssOf (iw 41 0 12 1 3 7 0 0 0) (tDp) (tLoop) false false), _, _, _, _, _, rfl, rfl, rfl, rfl, rfl,
     ⟨by decide +kernel, by decide +kernel, by decide +kernel, by decide +kernel, Dev.compare_agree _ _ _⟩⟩,
   ⟨(0 : Nat), (3 : Fin 4), (0 : Fin 3), Vote.agree, (Wi (iw 42 0 12 1 3 7 0 0 0)),
     (tIssOf (iw 42 0 12 1 3 7 0 0 0) (tDp) (tLoop) false false), _, _, _, _, _, rfl, rfl, rfl, rfl, rfl,
     ⟨by decide +kernel, by decide +kernel, by decide +kernel, by decide +kernel, Dev.compare_agree _ _ _⟩⟩,
   ⟨(0 : Nat), (3 : Fin 4), (0 : Fin 3), Vote.agree, (Wi (iw 43 0 12 9 0 0 0 0 0)),
     (tIssOf (iw 43 0 12 9 0 0 0 0 0) (tDp) (tLoop) false false), _, _, _, rfl, rfl, rfl,
     ⟨by decide +kernel, by decide +kernel, by decide +kernel, by decide +kernel, Dev.compare_agree _ _ _⟩⟩,
   ⟨(0 : Nat), (3 : Fin 4), (0 : Fin 3), Vote.agree, (Wi (iw 44 0 10 4 8 0 0 0 0)),
     (tIssOf (iw 44 0 10 4 8 0 0 0 0) (tDp) (tLoop) false false), _, rfl,
     ⟨by decide +kernel, by decide +kernel, by decide +kernel, by decide +kernel, Dev.compare_agree _ _ _⟩⟩⟩

theorem witness_LoopTransforms_2 :
  (∃ (dt : Nat) (c : Fin 4) (st : Fin 3) (v : Vote) (s : State) (i : Iss) (b : Soc) (j : Nat) (a : Nat) (y : Nat)
    (rate : Int) (t : Int) (z : Int), b = s.soc.after dt ∧ j = immOf i.w % 4 ∧ a = b.ctxAddr i (836 + j) ∧ y =
    b.word a ∧ rate = signed 16 (b.word (b.ctxAddr i (256 + 256 * i.run.bank + 248 + j))) ∧ t = i.dp.r (saOf
    i.w) - signed 16 y ∧ z = signed 16 y + min (max t (-rate.natAbs)) rate.natAbs ∧ (∀ w ∈ [840, 836 + j, 256 +
    256 * i.run.bank + 248 + j], b.bad (b.ctxAddr i w) = false) ∧ bitOf (b.word (b.ctxAddr i 840)) j = false ∧
    b.issues c st v i 0x22) :=
  ⟨(0 : Nat), (3 : Fin 4), (0 : Fin 3), Vote.agree,
     (Wi (iw 34 0 4 1 2 0 0 0 0) (g := (fun s => { s with mem := memPutNat (memPutNat (s.mem) (s.dev.ctxWord 1 836) 4 4096) (s.dev.ctxWord 1 504) 4 512 }))),
     (tIssOf (iw 34 0 4 1 2 0 0 0 0) (tDp) (tLoop) false false), _, _, _, _, _, _, _, rfl, rfl, rfl, rfl, rfl,
     rfl, rfl, by decide +kernel, by decide +kernel,
     ⟨by decide +kernel, by decide +kernel, by decide +kernel, by decide +kernel, Dev.compare_agree _ _ _⟩⟩

theorem witness_LoopLookupsAndOutputs_1 :
  (∃ (dt : Nat) (c : Fin 4) (st : Fin 3) (v : Vote) (s : State) (i : Iss) (n : Nat) (g : Nat) (b : Soc) (y : Int),
    b = s.soc.after dt ∧ y = gainAt ((List.range n).map (fun p => signed 16 (b.word (g + 4 * p)))) (i.dp.r (saOf
    i.w)) ∧ n = b.dev.getAt pgCTX CTX.CCFG_GT_N i.run.job.ctx ∧ 0 < n ∧ g = b.dev.get pgCTX CTX.POOL_ADDR + 4 *
    b.dev.getAt pgCTX CTX.CCFG_GT_BASE i.run.job.ctx ∧ (∀ p ∈ gainPoints n (i.dp.r (saOf i.w)), b.bad (g + 4 *
    p) = false) ∧ b.issues c st v i 0x30) ∧
  (∃ (dt : Nat) (c : Fin 4) (st : Fin 3) (v : Vote) (s : State) (i : Iss) (t : List Nat) (y : Int) (l : Bool) (b :
    Soc), b = s.soc.after dt ∧ b.tableWords i = .ok t ∧ tl1 t (i.dp.r (saOf i.w)) = some (y, l) ∧ b.issues c st
    v i 0x31) ∧
  (∃ (dt : Nat) (c : Fin 4) (st : Fin 3) (v : Vote) (s : State) (i : Iss) (t : List Nat) (y : Int) (l : Bool) (b :
    Soc), b = s.soc.after dt ∧ b.tableWords i = .ok t ∧ tl2 t (i.dp.r (saOf i.w)) (i.dp.r (sbOf i.w)) = some (y,
    l) ∧ b.issues c st v i 0x32) ∧
  (∃ (dt : Nat) (c : Fin 4) (st : Fin 3) (v : Vote) (s : State) (i : Iss) (t : List Nat) (ch : Nat) (cx : Nat) (b
    : Soc), b = s.soc.after dt ∧ b.tableWords i = .ok t ∧ psel t (i.dp.ru (saOf i.w)) (i.dp.ru (sbOf i.w))
    (immOf i.w % 65536) = some (ch, cx, false) ∧ b.issues c st v i 0x2D) ∧
  (∃ (dt : Nat) (c : Fin 4) (st : Fin 3) (v : Vote) (s : State) (i : Iss) (o : Nat) (b : Soc) (k : Nat) (x : Nat),
    b = s.soc.after dt ∧ k = immOf i.w % 256 ∧ x = (if bitOf (immOf i.w) 13 then i.dp.ru (saOf i.w) * 65536 +
    i.dp.ru (sbOf i.w) else i.dp.ru (saOf i.w)) ∧ i.loop.outs[immOf i.w / 256 % 16]? = some o ∧ o / 1024 = 0x0C
    ∧ spaceOf i.w = 3 ∧ i.fmt = false ∧ bitOf (immOf i.w) 12 = false ∧ k < 8 ∧ b.issues c st v i 0x38) ∧
  (∃ (dt : Nat) (c : Fin 4) (st : Fin 3) (v : Vote) (s : State) (i : Iss) (o : Nat) (t : PageKind × Nat × Nat) (b
    : Soc) (sel : Nat) (x : Nat), b = s.soc.after dt ∧ sel = immOf i.w % 256 ∧ x = (if bitOf (immOf i.w) 13 then
    i.dp.ru (saOf i.w) * 65536 + i.dp.ru (sbOf i.w) else if outHigh sel then i.dp.ru (saOf i.w) * 65536 else
    i.dp.ru (saOf i.w)) ∧ i.loop.outs[immOf i.w / 256 % 16]? = some o ∧ o / 1024 = 0x01 ∧ spaceOf i.w = 3 ∧
    i.fmt = false ∧ bitOf (immOf i.w) 12 = false ∧ b.dev.outReg (o % 16) sel = some t ∧ b.issues c st v i 0x38) :=
  ⟨⟨(0 : Nat), (3 : Fin 4), (0 : Fin 3), Vote.agree,
     (Wi (iw 48 0 4 1 0 0 0 0 0) (f := (fun d => ((d.put pgCTX CTX.POOL_ADDR 0x10002000).putAt pgCTX CTX.CCFG_GT_BASE 1 0).putAt pgCTX CTX.CCFG_GT_N 1 3)) (g := (fun s => { s with mem := memPutNat (memPutNat (memPutNat (s.mem) (0x10002000 + 4 * 0) 4 256) (0x10002000 + 4 * 1) 4 16384) (0x10002000 + 4 * 2) 4 32767 }))),
     (tIssOf (iw 48 0 4 1 0 0 0 0 0) (tDp) (tLoop) false false), (3 : Nat), (0x10002000 : Nat), _, _, rfl, rfl,
     by decide +kernel, by decide +kernel, by decide +kernel, by decide +kernel,
     ⟨by decide +kernel, by decide +kernel, by decide +kernel, by decide +kernel, Dev.compare_agree _ _ _⟩⟩,
   ⟨(0 : Nat), (3 : Fin 4), (0 : Fin 3), Vote.agree,
     (Wi (iw 49 0 4 1 0 0 4 0 0) (g := (fun s => { s with mem := memPutNat (memPutNat (memPutNat (memPutNat (s.mem) (0x10002000 + 4 * 0) 4 3) (0x10002000 + 4 * 1) 4 16) (0x10002000 + 4 * 2) 4 256) (0x10002000 + 4 * 3) 4 512 })) (l := { tLoop with ins := [0x0B * 1024], outs := [0x0C * 1024 + 4, 0x01 * 1024 + 3] }) (a := { tSet with tables := [⟨0, 0, 0, 64, 0, 0, 4, 0x10002000, 0⟩] })),
     (tIssOf (iw 49 0 4 1 0 0 4 0 0) (tDp) ({ tLoop with ins := [0x0B * 1024], outs := [0x0C * 1024 + 4, 0x01 * 1024 + 3] }) false false),
     ([3, 0x10, 0x100, 0x200] ++ List.replicate 12 0), (0 : Int), true, _, rfl, okOf (by decide +kernel),
     by decide +kernel,
     ⟨by decide +kernel, by decide +kernel, by decide +kernel, by decide +kernel, Dev.compare_agree _ _ _⟩⟩,
   ⟨(0 : Nat), (3 : Fin 4), (0 : Fin 3), Vote.agree,
     (Wi (iw 50 0 4 1 1 0 4 0 0) (g := (fun s => { s with mem := memPutNat (memPutNat (memPutNat (memPutNat (memPutNat (memPutNat (s.mem) (0x10002000 + 4 * 0) 4 196610) (0x10002000 + 4 * 1) 4 16) (0x10002000 + 4 * 2) 4 256) (0x10002000 + 4 * 3) 4 512) (0x10002000 + 4 * 4) 4 32768) (0x10002000 + 4 * 8) 4 28672 })) (l := { tLoop with ins := [0x0B * 1024], outs := [0x0C * 1024 + 4, 0x01 * 1024 + 3] }) (a := { tSet with tables := [⟨0, 0, 0, 64, 0, 0, 4, 0x10002000, 0⟩] })),
     (tIssOf (iw 50 0 4 1 1 0 4 0 0) (tDp) ({ tLoop with ins := [0x0B * 1024], outs := [0x0C * 1024 + 4, 0x01 * 1024 + 3] }) false false),
     ([0x30002, 0x10, 0x100, 0x200, 0x8000, 0, 0, 0, 0x7000] ++ List.replicate 7 0), (28672 : Int), true, _,
     rfl, okOf (by decide +kernel), by decide +kernel,
     ⟨by decide +kernel, by decide +kernel, by decide +kernel, by decide +kernel, Dev.compare_agree _ _ _⟩⟩,
   ⟨(0 : Nat), (3 : Fin 4), (0 : Fin 3), Vote.agree,
     (Wi (iw 45 0 4 4 5 0 4 0 4) (g := (fun s => { s with mem := memPutNat (memPutNat (memPutNat (memPutNat (memPutNat (s.mem) (0x10002000 + 4 * 0) 4 2) (0x10002000 + 4 * 1) 4 458755) (0x10002000 + 4 * 2) 4 65552) (0x10002000 + 4 * 3) 4 2147418121) (0x10002000 + 4 * 4) 4 1077248 })) (l := { tLoop with ins := [0x0B * 1024], outs := [0x0C * 1024 + 4, 0x01 * 1024 + 3] }) (a := { tSet with tables := [⟨0, 0, 0, 64, 0, 0, 4, 0x10002000, 0⟩] })),
     (tIssOf (iw 45 0 4 4 5 0 4 0 4) (tDp) ({ tLoop with ins := [0x0B * 1024], outs := [0x0C * 1024 + 4, 0x01 * 1024 + 3] }) false false),
     ([2, 0x00070003, 0x00010010, 0x7FFF0009, 0x00107000] ++ List.replicate 11 0), (7 : Nat), (3 : Nat), _, rfl,
     okOf (by decide +kernel), by decide +kernel,
     ⟨by decide +kernel, by decide +kernel, by decide +kernel, by decide +kernel, Dev.compare_agree _ _ _⟩⟩,
   ⟨(0 : Nat), (3 : Fin 4), (0 : Fin 3), Vote.agree,
     (Wi (iw 56 0 0 3 0 0 3 0 3) (l := { tLoop with ins := [0x0B * 1024], outs := [0x0C * 1024 + 4, 0x01 * 1024 + 3] })),
     (tIssOf (iw 56 0 0 3 0 0 3 0 3) (tDp) ({ tLoop with ins := [0x0B * 1024], outs := [0x0C * 1024 + 4, 0x01 * 1024 + 3] }) false false),
     (0x0C * 1024 + 4 : Nat), _, _, _, rfl, rfl, rfl, by decide +kernel, by decide +kernel, by decide +kernel,
     by decide +kernel, by decide +kernel, by decide +kernel,
     ⟨by decide +kernel, by decide +kernel, by decide +kernel, by decide +kernel, Dev.compare_agree _ _ _⟩⟩,
   ⟨(0 : Nat), (3 : Fin 4), (0 : Fin 3), Vote.agree,
     (Wi (iw 56 0 0 3 0 0 3 0 256) (f := (fun d => ((d.put (pgLEG 6) LEG.BIND_BOUND 1).put (pgLEG 6) LEG.BIND_STAGE 3).put (pgLEG 7) LEG.BIND_STAGE 3 |>.put (pgLEG 7) LEG.BIND_BOUND 1)) (l := { tLoop with ins := [0x0B * 1024], outs := [0x0C * 1024 + 4, 0x01 * 1024 + 3] })),
     (tIssOf (iw 56 0 0 3 0 0 3 0 256) (tDp) ({ tLoop with ins := [0x0B * 1024], outs := [0x0C * 1024 + 4, 0x01 * 1024 + 3] }) false false),
     (0x01 * 1024 + 3 : Nat),
     ((((Wi (iw 56 0 0 3 0 0 3 0 256) (f := (fun d => ((d.put (pgLEG 6) LEG.BIND_BOUND 1).put (pgLEG 6) LEG.BIND_STAGE 3).put (pgLEG 7) LEG.BIND_STAGE 3 |>.put (pgLEG 7) LEG.BIND_BOUND 1)) (l := { tLoop with ins := [0x0B * 1024], outs := [0x0C * 1024 + 4, 0x01 * 1024 + 3] })).soc.after (0 : Nat)).dev.outReg 3 (immOf (tIssOf (iw 56 0 0 3 0 0 3 0 256) (tDp) ({ tLoop with ins := [0x0B * 1024], outs := [0x0C * 1024 + 4, 0x01 * 1024 + 3] }) false false).w % 256)).getD (PageKind.clk,0,0)),
     _, _, _, rfl, rfl, rfl, by decide +kernel, by decide +kernel, by decide +kernel, by decide +kernel,
     by decide +kernel, by decide +kernel,
     ⟨by decide +kernel, by decide +kernel, by decide +kernel, by decide +kernel, Dev.compare_agree _ _ _⟩⟩⟩

theorem witness_LoopLookupsAndOutputs_2 :
  (∃ (dt : Nat) (c : Fin 4) (st : Fin 3) (v : Vote) (s : State) (i : Iss) (o : Nat) (b : Soc), b = s.soc.after dt
    ∧ i.loop.outs[immOf i.w / 256 % 16]? = some o ∧ o / 1024 = 0x01 ∧ immOf i.w % 4 ≠ 3 ∧ b.dev.flag (pgSTG (o %
    16)) COM.COMMIT_PENDING = false ∧ b.issues c st v i 0x39) :=
  ⟨(0 : Nat), (3 : Fin 4), (0 : Fin 3), Vote.agree,
     (Wi (iw 57 0 0 0 0 0 0 0 256) (f := (fun d => ((d.put (pgLEG 6) LEG.BIND_BOUND 1).put (pgLEG 6) LEG.BIND_STAGE 3).put (pgLEG 7) LEG.BIND_STAGE 3 |>.put (pgLEG 7) LEG.BIND_BOUND 1)) (l := { tLoop with ins := [0x0B * 1024], outs := [0x0C * 1024 + 4, 0x01 * 1024 + 3] })),
     (tIssOf (iw 57 0 0 0 0 0 0 0 256) (tDp) ({ tLoop with ins := [0x0B * 1024], outs := [0x0C * 1024 + 4, 0x01 * 1024 + 3] }) false false),
     (0x01 * 1024 + 3 : Nat), _, rfl, by decide +kernel, by decide +kernel, by decide +kernel,
     by decide +kernel,
     ⟨by decide +kernel, by decide +kernel, by decide +kernel, by decide +kernel, Dev.compare_agree _ _ _⟩⟩

theorem witness_JobsReleaseAndDispatch :
  (∃ (dt : Nat) (s : State) (id : Nat) (t : Nat) (r : LoopDecl) (b : Soc), b = s.soc.after dt ∧ b.dev.flag pgCTX
    COM.ST_FROZEN = false ∧ b.dev.trigs = [(id, t)] ∧ b.dev.loopDecl id = some r ∧ t + r.lin ≤ b.dev.time ∧ (∀ x
    ∈ b.dev.timers, b.dev.halfNs < x.2) ∧ b.dev.streamLatched r.ctx = false ∧ b.dev.flagAt pgCTX CTX.CCTL_RUN
    r.ctx = true ∧ b.dev.ctxStream r.ctx / 16 ≠ 15) ∧
  (∃ (dt : Nat) (s : State) (c : Fin 4) (st : Fin 3) (j : Job) (r : LoopDecl) (b : Soc), b = s.soc.after dt ∧
    b.dev.canDispatch c st = true ∧ b.dev.bestJob (b.dev.streamCode c st) = some j ∧ b.dev.loopDecl j.loop =
    some r ∧ 0 < r.progLen ∧ j.ctx < 64) ∧
  (∃ (x : BitVec 6) (s : State), s.soc.answers (pgCTX + 0x104 + 32 * x.toNat) = true ∧ s.soc.dev.flagAt pgCTX
    CTX.CCFG_VALID x.toNat = true) :=
  ⟨⟨(0 : Nat),
     (Wt fun d => { (d.putAt pgCTX CTX.CCTL_RUN 1 1) with adm := some tSet, time := 90000, trigs := [(4, 100)] }),
     (4 : Nat), (100 : Nat), tLoop, _, rfl, by decide +kernel⟩,
   ⟨(0 : Nat),
     (Wt fun d => { (d.putAt pgCTX CTX.CCFG_STREAM 1 48) with adm := some tSet, time := 90000, ready := [⟨4, 1, 100, false⟩] }),
     (3 : Fin 4), (0 : Fin 3), (⟨4, 1, 100, false⟩ : Job), tLoop, _, rfl, by decide +kernel⟩,
   ⟨(5 : BitVec 6), (Wt fun d => { d.putAt pgCTX CTX.CCFG_VALID 5 1 with adm := some tSet }), by decide +kernel⟩⟩

theorem witness_ContextMemoryAndLoopCounters :
  (∃ (at_ : HostAddr) (a : Nat) (s : State), at_.target = .mem a ∧ a % 4 = 0 ∧ s.soc.reaches at_ = true ∧
    s.soc.dev.memOn a = true ∧ s.soc.dev.limitWord a = false ∧ s.soc.dev.memRefusal a = none) ∧
  (∃ (at_ : HostAddr) (a : Nat) (s : State) (pg : Nat) (c : Nat), at_.target = .mem a ∧ a % 4 = 0 ∧ s.soc.reaches
    at_ = true ∧ s.soc.dev.memOn a = true ∧ s.soc.dev.limitWord a = false ∧ s.soc.dev.memRefusal a = some (pg,
    c)) ∧
  (∃ (x : BitVec 6) (s : State), s.soc.answers (pgCTX + 0x58) = true ∧ x ≠ 0) ∧
  (∃ (c : Fin 4) (s : State), s.soc.answers (pgCLU c + 0x70) = true) ∧
  (∃ (dt : Nat) (c : Fin 4) (st : Fin 3) (v : Vote) (s : State) (i : Iss) (b : Soc), b = s.soc.after dt ∧ b.issues
    c st v i 0x03 ∧ (i.dp.r (saOf i.w) + i.dp.r (sbOf i.w) < -32768 ∨ 32767 < i.dp.r (saOf i.w) + i.dp.r (sbOf
    i.w))) :=
  ⟨⟨(HostAddr.bar0 0x800010), (0x10000010 : Nat), State.reset, by decide +kernel,
     Nat.eq_of_beq_eq_true (by decide +kernel), by decide +kernel, by decide +kernel, by decide +kernel,
     by decide +kernel⟩,
   ⟨(HostAddr.bar0 0xF00000), (0x10700000 : Nat), State.reset,
     ((State.reset.soc.dev.memRefusal 0x10700000).getD (0,0)).1,
     ((State.reset.soc.dev.memRefusal 0x10700000).getD (0,0)).2, by decide +kernel,
     Nat.eq_of_beq_eq_true (by decide +kernel), by decide +kernel, by decide +kernel, by decide +kernel,
     by decide +kernel⟩,
   ⟨(9 : BitVec 6), (Wt fun d => (d.putAt pgCTX CTX.JOBS 9 5).putAt pgCTX CTX.JOBS 8 5), by decide +kernel⟩,
   ⟨(3 : Fin 4), State.reset, by decide +kernel⟩,
   ⟨(0 : Nat), (3 : Fin 4), (0 : Fin 3), Vote.agree,
     (Wi (iw 3 0 4 1 2 0 0 0 0) (f := (fun d => d.putAt pgCTX CTX.CCFG_CLASS 1 1))),
     (tIssOf (iw 3 0 4 1 2 0 0 0 0) (tDp) (tLoop) true false), _, rfl,
     ⟨by decide +kernel, by decide +kernel, by decide +kernel, by decide +kernel, Dev.compare_agree _ _ _⟩,
     by decide +kernel⟩⟩

theorem witness_DrivesStartAndStop :
  (∃ (k : Fin 16) (s : State), s.soc.answers (pgFLD + 0x150 + 128 * k.val) = true ∧ s.soc.dev.phase k = 0 ∧
    s.soc.dev.flagAt pgFLD FLD.DSTAT_ENABLED k = true ∧ s.soc.dev.running k = true ∧ (∀ n ∈ s.soc.dev.stageLegs
    k, s.soc.dev.tripped n = false) ∧ s.soc.dev.stoCondition = false ∧ (∀ x ∈ s.soc.dev.driveCtx k,
    s.soc.dev.flagAt pgCTX CTX.CCTL_RUN x = false ∧ s.soc.dev.flagAt pgCTX CTX.CCFG_VALID x = true) ∧
    s.soc.dev.flagAt pgFLD FLD.DSTAT_WRONG_MACHINE k = false ∧ s.soc.dev.flagAt pgFLD FLD.DCFG_FS_EN k = true) ∧
  (∃ (k : Fin 16) (s : State), s.soc.answers (pgFLD + 0x150 + 128 * k.val) = true ∧ s.soc.dev.phase k = 0 ∧
    s.soc.dev.flagAt pgFLD FLD.DSTAT_ENABLED k = true ∧ s.soc.dev.running k = true ∧ (∀ n ∈ s.soc.dev.stageLegs
    k, s.soc.dev.tripped n = false) ∧ s.soc.dev.stoCondition = false ∧ (∀ x ∈ s.soc.dev.driveCtx k,
    s.soc.dev.flagAt pgCTX CTX.CCTL_RUN x = false ∧ s.soc.dev.flagAt pgCTX CTX.CCFG_VALID x = true) ∧
    s.soc.dev.flagAt pgFLD FLD.DSTAT_WRONG_MACHINE k = false ∧ s.soc.dev.flagAt pgFLD FLD.DCFG_FS_EN k = false ∧
    0 < s.soc.dev.getAt pgFLD FLD.EMF_MIN k ∧ s.soc.dev.srcAbsolute (s.soc.dev.getAt pgFLD FLD.DLINK_SRC k) =
    true) ∧
  (∃ (k : Fin 16) (s : State), s.soc.answers (pgFLD + 0x150 + 128 * k.val) = true ∧ (s.soc.dev.phase k ≠ 0 ∨
    s.soc.dev.flagAt pgFLD FLD.DSTAT_ENABLED k = false)) :=
  ⟨⟨(15 : Fin 16),
     (Wt fun d => (((d.putAt pgFLD FLD.DSTAT_ENABLED 15 1).put (pgSTG 15) STG.ST_RUNNING 1).put pgGNM GNM.ST_LOCKOUT 0).putAt pgFLD FLD.DCFG_FS_EN 15 1),
     by decide +kernel⟩,
   ⟨(15 : Fin 16),
     (Wt fun d => (((((d.putAt pgFLD FLD.DSTAT_ENABLED 15 1).put (pgSTG 15) STG.ST_RUNNING 1).put pgGNM GNM.ST_LOCKOUT 0).putAt pgFLD FLD.EMF_MIN 15 5).putAt pgFLD FLD.DLINK_SRC 15 3).put (pgPOS 3) POS.ST_REFERENCED 1),
     by decide +kernel⟩,
   ⟨(15 : Fin 16), State.reset, by decide +kernel⟩⟩

theorem witness_MeasurementsDecideTheStart :
  (∃ (dt : Nat) (k : Fin 16) (s : State) (b : Soc) (i : Nat) (g : Nat), b = s.soc.after dt ∧ i = (b.dev.time -
    (b.dev.fh k).t0) / (400 * max 1 (b.dev.getAt pgFLD FLD.FS_TIME_SAMPLE k)) ∧ g = b.dev.getAt pgFLD
    FLD.VSENSE_GROUP k ∧ b.dev.phase k = 1 ∧ b.dev.flag pgFLD COM.ST_FROZEN = false ∧ (b.dev.fh k).asked ≤ i ∧
    b.dev.time < (b.dev.fh k).t0 + 4000 * b.dev.getAt pgFLD FLD.FS_TIME_MEAS_TIME k) ∧
  (∃ (dt : Nat) (k : Fin 16) (s : State) (g : Fin 4) (cv : Fin 3) (r : ConvRun) (u : Nat × Nat) (v : Nat × Nat) (b
    : Soc), b = s.soc.after dt ∧ b.dev.phase k = 1 ∧ b.dev.flag pgFLD COM.ST_FROZEN = false ∧ (b.dev.ah
    g).runs.find? (fun r => r.conv == cv.val && decide (r.start + 52 ≤ b.dev.time)) = some r ∧ r.kind = 1 ∧
    r.idx = 66 + 4 * k.val ∧ (b.dev.fh k).t0 ≤ r.start ∧ (b.dev.fh k).cur = [u, v]) ∧
  (∃ (dt : Nat) (k : Fin 16) (s : State) (t0 : Nat) (emf : Nat) (phi : Nat) (f : Int) (bad : Bool) (b : Soc), b =
    s.soc.after dt ∧ b.dev.phase k = 1 ∧ b.dev.flag pgFLD COM.ST_FROZEN = false ∧ t0 = (b.dev.fh k).t0 + 4000 *
    b.dev.getAt pgFLD FLD.FS_TIME_MEAS_TIME k ∧ t0 ≤ b.dev.time ∧ (∀ n ∈ b.dev.stageLegs k, b.dev.tripped n =
    false) ∧ fitWindow (b.dev.fh k).triples t0 = (emf, f, phi, bad) ∧ -(2 ^ 31) ≤ f ∧ f < 2 ^ 31) :=
  ⟨⟨(0 : Nat), (15 : Fin 16),
     (Wt fun d => { d.putAt pgFLD FLD.DSTAT_PHASE 15 1 |>.putAt pgFLD FLD.FS_TIME_SAMPLE 15 10 |>.putAt pgFLD FLD.FS_TIME_MEAS_TIME 15 100 |>.putAt pgFLD FLD.VSENSE_GROUP 15 2 with time := 9000 }),
     _, _, _, rfl, rfl, rfl, by decide +kernel⟩,
   ⟨(0 : Nat), (15 : Fin 16),
     (Wt fun d => { d.putAt pgFLD FLD.DSTAT_PHASE 15 1 with time := 9000, adc := vmod d.adc 3 (fun h => { h with runs := [(⟨2, 8900, 1, 126, 3, 90, false, 0⟩ : ConvRun)] }), fld := vmod d.fld 15 (fun h => { h with cur := [(8700, 8000), (8800, 9000)] }) }),
     (3 : Fin 4), (2 : Fin 3), (⟨2, 8900, 1, 126, 3, 90, false, 0⟩ : ConvRun), ((8700, 8000) : Nat × Nat),
     ((8800, 9000) : Nat × Nat), _, rfl, by decide +kernel⟩,
   ⟨(0 : Nat), (15 : Fin 16),
     (Wt fun d => { (d.putAt pgFLD FLD.DSTAT_PHASE 15 1) with time := 90000000, fld := vmod d.fld 15 (fun h => { h with t0 := 0, triples := [⟨100, 5000000, 0⟩, ⟨2100, 4900000, 900000⟩, ⟨4100, 4600000, 1800000⟩] }) }),
     (4000 * (Wt fun d => { (d.putAt pgFLD FLD.DSTAT_PHASE 15 1) with time := 90000000, fld := vmod d.fld 15 (fun h => { h with t0 := 0, triples := [⟨100, 5000000, 0⟩, ⟨2100, 4900000, 900000⟩, ⟨4100, 4600000, 1800000⟩] }) }).soc.dev.getAt pgFLD FLD.FS_TIME_MEAS_TIME 15 : Nat),
     (fitWindow ([⟨100, 5000000, 0⟩, ⟨2100, 4900000, 900000⟩, ⟨4100, 4600000, 1800000⟩] : List Triple) (4000 * (Wt fun d => { (d.putAt pgFLD FLD.DSTAT_PHASE 15 1) with time := 90000000, fld := vmod d.fld 15 (fun h => { h with t0 := 0, triples := [⟨100, 5000000, 0⟩, ⟨2100, 4900000, 900000⟩, ⟨4100, 4600000, 1800000⟩] }) }).soc.dev.getAt pgFLD FLD.FS_TIME_MEAS_TIME 15 : Nat)).1,
     (fitWindow ([⟨100, 5000000, 0⟩, ⟨2100, 4900000, 900000⟩, ⟨4100, 4600000, 1800000⟩] : List Triple) (4000 * (Wt fun d => { (d.putAt pgFLD FLD.DSTAT_PHASE 15 1) with time := 90000000, fld := vmod d.fld 15 (fun h => { h with t0 := 0, triples := [⟨100, 5000000, 0⟩, ⟨2100, 4900000, 900000⟩, ⟨4100, 4600000, 1800000⟩] }) }).soc.dev.getAt pgFLD FLD.FS_TIME_MEAS_TIME 15 : Nat)).2.2.1,
     (fitWindow ([⟨100, 5000000, 0⟩, ⟨2100, 4900000, 900000⟩, ⟨4100, 4600000, 1800000⟩] : List Triple) (4000 * (Wt fun d => { (d.putAt pgFLD FLD.DSTAT_PHASE 15 1) with time := 90000000, fld := vmod d.fld 15 (fun h => { h with t0 := 0, triples := [⟨100, 5000000, 0⟩, ⟨2100, 4900000, 900000⟩, ⟨4100, 4600000, 1800000⟩] }) }).soc.dev.getAt pgFLD FLD.FS_TIME_MEAS_TIME 15 : Nat)).2.1,
     (fitWindow ([⟨100, 5000000, 0⟩, ⟨2100, 4900000, 900000⟩, ⟨4100, 4600000, 1800000⟩] : List Triple) (4000 * (Wt fun d => { (d.putAt pgFLD FLD.DSTAT_PHASE 15 1) with time := 90000000, fld := vmod d.fld 15 (fun h => { h with t0 := 0, triples := [⟨100, 5000000, 0⟩, ⟨2100, 4900000, 900000⟩, ⟨4100, 4600000, 1800000⟩] }) }).soc.dev.getAt pgFLD FLD.FS_TIME_MEAS_TIME 15 : Nat)).2.2.2,
     _, rfl, by decide +kernel⟩⟩

theorem witness_InitialPositionAndMagnetFlux_1 :
  (∃ (dt : Nat) (k : Fin 16) (s : State) (b : Soc), b = s.soc.after dt ∧ b.dev.phase k = 2 ∧ b.dev.flag pgFLD
    COM.ST_FROZEN = false ∧ b.dev.ipdStepDue k = true ∧ b.dev.fldClean k = true) ∧
  (∃ (dt : Nat) (k : Fin 16) (s : State) (b : Soc), b = s.soc.after dt ∧ b.dev.phase k = 2 ∧ b.dev.flag pgFLD
    COM.ST_FROZEN = false ∧ b.dev.ipdOver k = true) ∧
  (∃ (dt : Nat) (k : Fin 16) (s : State) (b : Soc), b = s.soc.after dt ∧ b.dev.phase k = 2 ∧ b.dev.flag pgFLD
    COM.ST_FROZEN = false ∧ b.dev.ipdOver k = false ∧ (b.dev.fh k).resp.length < 6 ∧ (3 * (b.dev.fh
    k).resp.length + 2 < (b.dev.fh k).step ∨ ((b.dev.fh k).step = 3 * (b.dev.fh k).resp.length + 2 ∧ b.dev.flag
    (pgSTG k) COM.COMMIT_PENDING = false))) ∧
  (∃ (dt : Nat) (k : Fin 16) (s : State) (td : Nat) (tp : Nat) (m2 : Nat) (m1 : Nat) (sum : Int) (b : Soc), b =
    s.soc.after dt ∧ b.dev.phase k = 2 ∧ b.dev.flag pgFLD COM.ST_FROZEN = false ∧ b.dev.ipdGapOver k = true ∧
    (b.dev.fh k).step = 18 ∧ (b.dev.fh k).resp.length = 6 ∧ ipdSums (b.dev.fh k).resp = (td, tp, m2, m1, sum) ∧
    sum ≤ 0) ∧
  (∃ (dt : Nat) (k : Fin 16) (s : State) (td : Nat) (tp : Nat) (m2 : Nat) (m1 : Nat) (sum : Int) (b : Soc), b =
    s.soc.after dt ∧ b.dev.phase k = 2 ∧ b.dev.flag pgFLD COM.ST_FROZEN = false ∧ b.dev.ipdGapOver k = true ∧
    (b.dev.fh k).step = 18 ∧ (b.dev.fh k).resp.length = 6 ∧ ipdSums (b.dev.fh k).resp = (td, tp, m2, m1, sum) ∧
    0 < sum ∧ b.dev.getAt pgFLD FLD.IPD_LIM_SAL_MIN k * sum.toNat * 65536 ≤ m2 * 256 ∧ b.dev.getAt pgFLD
    FLD.IPD_LIM_POL_MIN k * sum.toNat * 65536 ≤ m1 * 256 ∧ (td + 2 ^ 48 - tp) % 2 ^ 48 ≤ 2 ^ 46) ∧
  (∃ (dt : Nat) (k : Fin 16) (s : State) (r1 : Int) (r2 : Int) (b : Soc), b = s.soc.after dt ∧ b.dev.phase k = 2 ∧
    b.dev.flag pgFLD COM.ST_FROZEN = false ∧ b.dev.ipdGapOver k = true ∧ (b.dev.fh k).step = 24 ∧ (b.dev.fh
    k).pol = [r1, r2] ∧ b.dev.getAt pgFLD FLD.IPD_LIM_POL_MIN k * (r1 + r2) ≤ 512 * ((r1 - r2).natAbs : Int)) :=
  ⟨⟨(0 : Nat), (15 : Fin 16),
     (Wt fun d => { (d.putAt pgFLD FLD.DSTAT_PHASE 15 2 |>.putAt pgFLD FLD.IPD_LIM_IMAX 15 100) with time := 900000, fld := vmod d.fld 15 (fun h => { h with step := 5 }) }),
     _, rfl, by decide +kernel⟩,
   ⟨(0 : Nat), (15 : Fin 16),
     (Wt fun d => { (d.putAt pgFLD FLD.DSTAT_PHASE 15 2 |>.putAt pgFLD FLD.IPD_LIM_IMAX 15 100 |>.putAt (pgSTG 15) STG.CM_I 1 200) with time := 900000 }),
     _, rfl, by decide +kernel⟩,
   ⟨(0 : Nat), (15 : Fin 16),
     (Wt fun d => { (d.putAt pgFLD FLD.DSTAT_PHASE 15 2 |>.putAt pgFLD FLD.IPD_LIM_IMAX 15 100 |>.putAt (pgSTG 15) STG.CM_I 1 20 |>.putIAt (pgSTG 15) STG.CM_I 2 (-20)) with time := 900000, fld := vmod d.fld 15 (fun h => { h with step := 6, resp := [5] }) }),
     _, rfl, by decide +kernel⟩,
   ⟨(0 : Nat), (15 : Fin 16),
     (Wt fun d => { (d.putAt pgFLD FLD.DSTAT_PHASE 15 2 |>.putAt pgFLD FLD.IPD_LIM_IMAX 15 100) with time := 900000, fld := vmod d.fld 15 (fun h => { h with step := 18, resp := ([0, 0, 0, 0, 0, 0] : List Int) }) }),
     (ipdSums ([0, 0, 0, 0, 0, 0] : List Int)).1, (ipdSums ([0, 0, 0, 0, 0, 0] : List Int)).2.1,
     (ipdSums ([0, 0, 0, 0, 0, 0] : List Int)).2.2.1, (ipdSums ([0, 0, 0, 0, 0, 0] : List Int)).2.2.2.1,
     (ipdSums ([0, 0, 0, 0, 0, 0] : List Int)).2.2.2.2, _, rfl, by decide +kernel⟩,
   ⟨(0 : Nat), (15 : Fin 16),
     (Wt fun d => { (d.putAt pgFLD FLD.DSTAT_PHASE 15 2) with time := 900000, fld := vmod d.fld 15 (fun h => { h with step := 18, resp := [1600, 900, 900, 1400, 900, 900] }) }),
     (ipdSums ([1600, 900, 900, 1400, 900, 900] : List Int)).1,
     (ipdSums ([1600, 900, 900, 1400, 900, 900] : List Int)).2.1,
     (ipdSums ([1600, 900, 900, 1400, 900, 900] : List Int)).2.2.1,
     (ipdSums ([1600, 900, 900, 1400, 900, 900] : List Int)).2.2.2.1,
     (ipdSums ([1600, 900, 900, 1400, 900, 900] : List Int)).2.2.2.2, _, rfl, by decide +kernel⟩,
   ⟨(0 : Nat), (15 : Fin 16),
     (Wt fun d => { (d.putAt pgFLD FLD.DSTAT_PHASE 15 2) with time := 900000, fld := vmod d.fld 15 (fun h => { h with step := 24, pol := [1000, 500] }) }),
     (1000 : Int), (500 : Int), _, rfl, by decide +kernel⟩⟩

theorem witness_InitialPositionAndMagnetFlux_2 :
  (∃ (dt : Nat) (k : Fin 16) (s : State) (b : Soc) (l : Nat), b = s.soc.after dt ∧ l = b.dev.getAt pgFLD
    FLD.DLINK_MB_LOOP k ∧ b.dev.flag pgFLD COM.ST_FROZEN = false ∧ b.dev.flagAt pgFLD FLD.DCFG_MON_EN k = true ∧
    b.dev.getAt pgFLD FLD.DCFG_MTYPE k = 0 ∧ b.dev.phase k = 4 ∧ b.dev.time / 400000 ≠ (b.dev.fh k).tick ∧
    b.dev.mailbox l 7 ≠ (b.dev.fh k).mbSeq ∧ bitOf (b.dev.mailbox l 5) 15 = true ∧ b.dev.mailI l 4 ≠ 0 ∧
    b.dev.getAt pgFLD FLD.F_BASE k ≤ 10 * (b.dev.mailI l 4).natAbs * 65536 ∧ b.dev.flagAt pgFLD FLD.DSTAT_STALE
    k = false) ∧
  (∃ (k : Fin 16) (s : State), s.soc.answers (pgFLD + 0x128 + 128 * k.val) = true) ∧
  (∃ (dt : Nat) (k : Fin 16) (s : State) (b : Soc), b = s.soc.after dt ∧ b.dev.flag pgFLD COM.ST_FROZEN = false ∧
    b.dev.getAt pgFLD FLD.TSRC_SRC k = 0 ∧ (b.dev.fh k).magT + 40000000 * b.dev.getAt pgFLD FLD.TSRC_AGE k ≤
    b.dev.time) ∧
  (∃ (k : Fin 16) (s : State), s.soc.answers (pgFLD + 0x17C + 128 * k.val) = true) :=
  ⟨⟨(0 : Nat), (15 : Fin 16),
     (Wt fun d => { (d.putAt pgFLD FLD.DSTAT_PHASE 15 4).putAt pgFLD FLD.DCFG_MON_EN 15 1 |>.putAt pgFLD FLD.DLINK_MB_LOOP 15 4 with mbox := [(36, 3000), (37, 0x8100), (38, 0x55), (39, 2)], time := 900000, fld := vmod d.fld 15 (fun h => { h with mbSeq := 1 }) }),
     _, _, rfl, rfl, by decide +kernel⟩,
   ⟨(15 : Fin 16), State.reset, by decide +kernel⟩,
   ⟨(0 : Nat), (15 : Fin 16), (Wt fun d => { (d.putAt pgFLD FLD.DSTAT_ENABLED 15 1) with time := 40000000000 }), _,
     rfl, by decide +kernel⟩,
   ⟨(15 : Fin 16), State.reset, by decide +kernel⟩⟩

theorem witness_LedgerAndDischarge_1 :
  (∃ (dt : Nat) (s : State) (b : Soc), b = s.soc.after dt ∧ b.dev.enabled pgNRG = true ∧ b.dev.time / 40000 ≠
    b.dev.nrg.tick ∧ -(2 ^ 31) ≤ b.dev.linkU ∧ b.dev.linkU < 2 ^ 31) ∧
  (∃ (dt : Nat) (s : State) (b : Soc), b = s.soc.after dt ∧ b.dev.enabled pgNRG = true ∧ b.dev.flag pgNRG
    NRG.ST_CHOP_FAULT = false ∧ b.dev.get pgNRG NRG.CHOP_CFG_CHOP_T ≤ b.dev.nrg.rising) ∧
  (∃ (s : State), s.soc.answers (pgNRG + 0xC4) = true ∧ s.soc.dev.linkGood = true ∧ s.soc.dev.linkU <
    s.soc.dev.get pgNRG NRG.OV_CFG_U_REARM * 1000 ∧ s.soc.dev.flag pgNRG NRG.ST_RES_HOT = false) ∧
  (∃ (s : State), s.soc.answers (pgNRG + 0xC4) = true ∧ (s.soc.dev.linkGood = false ∨ (s.soc.dev.get pgNRG
    NRG.OV_CFG_U_REARM * 1000 : Int) ≤ s.soc.dev.linkU ∨ s.soc.dev.flag pgNRG NRG.ST_RES_HOT = true)) ∧
  (∃ (s : State), s.soc.answers (pgNRG + 0xC0) = true ∧ s.soc.dev.disRunning = false ∧ s.soc.dev.enabled pgNRG =
    true ∧ s.soc.dev.flag pgNRG NRG.DIS_CFG_DIS_EN = true ∧ s.soc.dev.enabled (pgSTG (s.soc.dev.get pgNRG
    NRG.DIS_CFG_STAGE)) = true) ∧
  (∃ (s : State), s.soc.answers (pgNRG + 0xC0) = true ∧ s.soc.dev.disRunning = false ∧ (s.soc.dev.enabled pgNRG =
    false ∨ s.soc.dev.flag pgNRG NRG.DIS_CFG_DIS_EN = false ∨ s.soc.dev.enabled (pgSTG (s.soc.dev.get pgNRG
    NRG.DIS_CFG_STAGE)) = false)) :=
  ⟨⟨(0 : Nat), (Wt fun d => { (d.put pgNRG COM.ST_ENABLED 1) with time := 90000 }), _, rfl, by decide +kernel⟩,
   ⟨(0 : Nat), (Wt fun d => { (d.put pgNRG COM.ST_ENABLED 1) with nrg := { d.nrg with rising := 70000 } }), _, rfl,
     by decide +kernel⟩,
   ⟨(Wt fun d => ((d.put pgNRG COM.ST_ENABLED 1).put pgNRG NRG.ST_U_VALID 1).put pgNRG NRG.OV_CFG_U_REARM 5 |>.put (pgSDI (d.get pgNRG NRG.LINK_CFG)) SDI.DATA_VALID 1),
     by decide +kernel⟩,
   ⟨State.reset, by decide +kernel⟩,
   ⟨(Wt fun d => (((d.put pgNRG COM.ST_ENABLED 1).put pgNRG NRG.DIS_CFG_DIS_EN 1).put pgNRG NRG.DIS_CFG_STAGE 5).put (pgSTG 5) COM.ST_ENABLED 1),
     by decide +kernel⟩,
   ⟨State.reset, by decide +kernel⟩⟩

theorem witness_LedgerAndDischarge_2 :
  (∃ (s : State), s.soc.answers (pgNRG + 0xC0) = true ∧ s.soc.dev.disRunning = true) ∧
  (∃ (dt : Nat) (s : State) (b : Soc), b = s.soc.after dt ∧ b.dev.enabled pgNRG = true ∧ b.dev.disRunning = true ∧
    b.dev.nrg.disLate = false ∧ b.dev.nrg.disStart + 4000000 * b.dev.get pgNRG NRG.DIS_CFG_T_DIS ≤ b.dev.time) :=
  ⟨⟨(Wt fun d => ((d.put pgNRG COM.ST_ENABLED 1).put pgNRG NRG.ST_DIS 1).put pgNRG NRG.DIS_CFG_STAGE 5),
     by decide +kernel⟩,
   ⟨(0 : Nat), (Wt fun d => { ((d.put pgNRG COM.ST_ENABLED 1).put pgNRG NRG.ST_DIS 1) with time := 40000000000 }),
     _, rfl, by decide +kernel⟩⟩

theorem witness_HousekeepingAndThermalModels :
  (∃ (dt : Nat) (s : State) (b : Soc), b = s.soc.after dt ∧ b.dev.enabled pgTHM = true ∧ b.dev.fwRuns = true ∧
    b.dev.roundNumber ≠ b.dev.thm.round) ∧
  (∃ (dt : Nat) (s : State) (b : Soc), b = s.soc.after dt ∧ b.dev.enabled pgTHM = true ∧ b.dev.fwRuns = true ∧
    b.dev.thm.missing = some 0) ∧
  (∃ (dt : Nat) (s : State) (b : Soc), b = s.soc.after dt ∧ b.dev.enabled pgTHM = true ∧ b.dev.fwRuns = true ∧
    b.dev.time / 40000 ≠ b.dev.thm.upd) ∧
  (∃ (dt : Nat) (s : State) (b : Soc), b = s.soc.after dt ∧ b.dev.enabled pgTHM = true ∧ b.dev.fwRuns = true ∧
    b.dev.thm.mods = true ∧ b.dev.time / 400000 ≠ b.dev.thm.ramp) :=
  ⟨⟨(0 : Nat), (Wt fun d => { ((d.put pgTHM COM.ST_ENABLED 1).put pgBOOT BOOT.ST_STEP 8) with time := 90000000 }),
     _, rfl, by decide +kernel⟩,
   ⟨(0 : Nat),
     (Wt fun d => { ((d.put pgTHM COM.ST_ENABLED 1).put pgBOOT BOOT.ST_STEP 8) with time := 90000000, thm := { d.thm with missing := some 0 } }),
     _, rfl, by decide +kernel⟩,
   ⟨(0 : Nat), (Wt fun d => { ((d.put pgTHM COM.ST_ENABLED 1).put pgBOOT BOOT.ST_STEP 8) with time := 90000000 }),
     _, rfl, by decide +kernel⟩,
   ⟨(0 : Nat),
     (Wt fun d => { ((d.put pgTHM COM.ST_ENABLED 1).put pgBOOT BOOT.ST_STEP 8) with time := 90000000, thm := { d.thm with mods := true } }),
     _, rfl, by decide +kernel⟩⟩

theorem witness_MismatchesRecoverAndCopiesExchange_1 :
  (∃ (dt : Nat) (c : Fin 4) (s : State) (i : Iss) (b : Soc), b = s.soc.after dt ∧ b.issue c 0 = some i ∧ opOf i.w
    = 0 ∧ insnReserved i.w = false ∧ b.dev.protectedStream c 0 = true ∧ b.dev.mode c = 0 ∧ b.dev.flag (pgCLU c)
    CLU.MM_INFO_LATCHED = false) ∧
  (∃ (c : Fin 4) (s : State), s.soc.answers (pgCLU c + 0x94) = true ∧ s.soc.dev.flag (pgCLU c) CLU.MM_INFO_LATCHED
    = true ∧ s.soc.dev.flag (pgCLU c) CLU.MM_INFO_RECOVERING = false ∧ (∀ k < 16, bitOf (s.soc.dev.get (pgCLU c)
    CLU.SERVED_PAIR) k = true → s.soc.dev.flag (pgSTG k) COM.CTRL_EN = false)) ∧
  (∃ (dt : Nat) (c : Fin 4) (s : State) (r : Recovery) (b : Soc), b = s.soc.after dt ∧ (b.dev.clu[c]).recov = some
    r ∧ b.dev.flag (pgCLU c) CLU.MM_INFO_RECOVERING = true ∧ r.todo = [] ∧ b.dev.sliceOn c = none ∧ r.failed =
    []) ∧
  (∃ (dt : Nat) (c : Fin 4) (s : State) (r : Recovery) (b : Soc), b = s.soc.after dt ∧ (b.dev.clu[c]).recov = some
    r ∧ b.dev.flag (pgCLU c) CLU.MM_INFO_RECOVERING = true ∧ r.todo = [] ∧ b.dev.sliceOn c = none ∧ r.failed ≠
    [] ∧ b.dev.liveCount c ≠ 2) ∧
  (∃ (dt : Nat) (c : Fin 4) (s : State) (bad : List (BitVec 16)) (b : Soc), b = s.soc.after dt ∧ b.dev.time % 16 =
    0 ∧ (∀ e ∈ (b.dev.clu[c]).agr, ∀ x ∈ bad, x.toNat ≠ e.1)) ∧
  (∃ (dt : Nat) (c : Fin 4) (s : State) (bad : List (BitVec 16)) (b : Soc), b = s.soc.after dt ∧ b.dev.time % 16 =
    0 ∧ (∃ e ∈ (b.dev.clu[c]).agr, ∃ x ∈ bad, x.toNat = e.1) ∧ b.dev.mode c < 2) :=
  ⟨⟨(0 : Nat), (3 : Fin 4), (Wi (iw 0 0 0 0 0 0 0 0 0)), (tIssOf (iw 0 0 0 0 0 0 0 0 0) (tDp) (tLoop) false false),
     _, rfl, by decide +kernel⟩,
   ⟨(3 : Fin 4), (Wt fun d => d.put (pgCLU 3) CLU.MM_INFO_LATCHED 1), by decide +kernel⟩,
   ⟨(0 : Nat), (3 : Fin 4),
     (Wt fun d => { ((d.put (pgCLU 3) CLU.MM_INFO_RECOVERING 1).put (pgCLU 3) CLU.MM_INFO_LATCHED 1) with time := 90000, clu := vmod d.clu 3 (fun h => { h with recov := some (⟨[], false, true, []⟩ : Recovery) }) }),
     (⟨[], false, true, []⟩ : Recovery), _, rfl, by decide +kernel⟩,
   ⟨(0 : Nat), (3 : Fin 4),
     (Wt fun d => { ((d.put (pgCLU 3) CLU.MM_INFO_RECOVERING 1).put (pgCLU 3) CLU.MM_INFO_LATCHED 1) with time := 90000, clu := vmod d.clu 3 (fun h => { h with recov := some (⟨[], false, true, [1]⟩ : Recovery) }) }),
     (⟨[], false, true, [1]⟩ : Recovery), _, rfl, by decide +kernel⟩,
   ⟨(0 : Nat), (3 : Fin 4),
     (Wt fun d => { d with time := 32, clu := vmod d.clu 3 (fun h => { h with agr := [(3, [1, 2])] }) }),
     ([] : List (BitVec 16)), _, rfl, Nat.eq_of_beq_eq_true (by decide +kernel), fun _ _ _ hx => nomatch hx⟩,
   ⟨(0 : Nat), (3 : Fin 4),
     (Wt fun d => { d with time := 32, clu := vmod d.clu 3 (fun h => { h with agr := [(3, [1, 2])] }) }),
     ([(3 : BitVec 16)]), _, rfl, Nat.eq_of_beq_eq_true (by decide +kernel),
     ⟨(3, [1, 2]), by decide +kernel, 3, by decide, rfl⟩, by decide +kernel⟩⟩

theorem witness_MismatchesRecoverAndCopiesExchange_2 :
  (∃ (dt : Nat) (c : Fin 4) (s : State) (b : Soc), b = s.soc.after dt ∧ b.dev.mode c < 2 ∧ (b.dev.clu[c]).testT ≤
    b.dev.time) :=
  ⟨(0 : Nat), (3 : Fin 4),
     (Wt fun d => { d with time := 90000, clu := vmod d.clu 3 (fun h => { h with testT := 500 }) }), _, rfl,
     by decide +kernel⟩

theorem witness_ClustersChangeMode_1 :
  (∃ (c : Fin 4) (to_ : BitVec 2) (when : BitVec 2) (s : State), s.soc.answers (pgCLU c + 0x80) = true ∧ (to_ = 3
    ∨ when = 3)) ∧
  (∃ (c : Fin 4) (to_ : BitVec 2) (when : BitVec 2) (s : State), s.soc.answers (pgCLU c + 0x80) = true ∧ to_ ≠ 3 ∧
    when ≠ 3 ∧ ¬ (1 ≤ s.soc.dev.get (pgCLU c) CLU.MODE_STAT_STATE ∧ s.soc.dev.get (pgCLU c) CLU.MODE_STAT_STATE
    ≤ 3) ∧ s.soc.dev.flag (pgCLU c) CLU.MM_INFO_LATCHED = false ∧ s.soc.dev.almBusy = false ∧
    s.soc.dev.dupLatentDiff .clu (pgCLU c) = false ∧ (∀ w ∈ dupWords .clu, (pgCLU c + w.2, s.soc.dev.time) ∉
    s.soc.dev.latWas) ∧ (to_ = 1 → 3 ≤ s.soc.dev.liveCount c) ∧ s.soc.dev.almState = 0) ∧
  (∃ (c : Fin 4) (to_ : BitVec 2) (when : BitVec 2) (s : State), s.soc.answers (pgCLU c + 0x80) = true ∧ to_ ≠ 3 ∧
    when ≠ 3 ∧ ¬ (1 ≤ s.soc.dev.get (pgCLU c) CLU.MODE_STAT_STATE ∧ s.soc.dev.get (pgCLU c) CLU.MODE_STAT_STATE
    ≤ 3) ∧ s.soc.dev.flag (pgCLU c) CLU.MM_INFO_LATCHED = false ∧ s.soc.dev.almBusy = false ∧
    s.soc.dev.dupLatentDiff .clu (pgCLU c) = false ∧ (∀ w ∈ dupWords .clu, (pgCLU c + w.2, s.soc.dev.time) ∉
    s.soc.dev.latWas) ∧ (to_ = 1 → 3 ≤ s.soc.dev.liveCount c) ∧ s.soc.dev.almState ≠ 0) ∧
  (∃ (dt : Nat) (c : Fin 4) (s : State) (b : Soc), b = s.soc.after dt ∧ b.dev.get (pgCLU c) CLU.MODE_STAT_STATE =
    1 ∧ b.dev.adm = none) ∧
  (∃ (dt : Nat) (c : Fin 4) (s : State) (a : _) (p : _) (b : Soc), b = s.soc.after dt ∧ b.dev.get (pgCLU c)
    CLU.MODE_STAT_STATE = 1 ∧ b.dev.adm = some a ∧ b.dev.modePlan a c (b.dev.get (pgCLU c) CLU.MODE_STAT_TARGET)
    = .ok p) ∧
  (∃ (dt : Nat) (c : Fin 4) (s : State) (a : _) (r : _) (b : Soc), b = s.soc.after dt ∧ b.dev.get (pgCLU c)
    CLU.MODE_STAT_STATE = 1 ∧ b.dev.adm = some a ∧ b.dev.modePlan a c (b.dev.get (pgCLU c) CLU.MODE_STAT_TARGET)
    = .error r) :=
  ⟨⟨(3 : Fin 4), (3 : BitVec 2), (0 : BitVec 2), State.reset, by decide +kernel⟩,
   ⟨(3 : Fin 4), (0 : BitVec 2), (0 : BitVec 2), State.reset, by decide +kernel⟩,
   ⟨(3 : Fin 4), (2 : BitVec 2), (0 : BitVec 2),
     (Wt fun d => { d.put pgALM ALM.ST_STATE 4 with adm := some tSet }), by decide +kernel⟩,
   ⟨(0 : Nat), (3 : Fin 4), (Wt fun d => (d.put (pgCLU 3) CLU.MODE_STAT_STATE 1)), _, rfl, by decide +kernel⟩,
   ⟨(0 : Nat), (3 : Fin 4),
     (Wt fun d => { (d.put (pgCLU 3) CLU.MODE_STAT_STATE 1).put (pgCLU 3) CLU.MODE_STAT_TARGET 2 with adm := some { tSet with loops := [] , order := [] } }),
     ({ tSet with loops := [], order := [] } : Admitted),
     (match ((Wt fun d => { (d.put (pgCLU 3) CLU.MODE_STAT_STATE 1).put (pgCLU 3) CLU.MODE_STAT_TARGET 2 with adm := some { tSet with loops := [] , order := [] } }).soc.after (0 : Nat)).dev.modePlan ({ tSet with loops := [], order := [] } : Admitted) 3 (((Wt fun d => { (d.put (pgCLU 3) CLU.MODE_STAT_STATE 1).put (pgCLU 3) CLU.MODE_STAT_TARGET 2 with adm := some { tSet with loops := [] , order := [] } }).soc.after (0 : Nat)).dev.get (pgCLU 3) CLU.MODE_STAT_TARGET) with | .ok p => p | .error _ => (tSet, [])),
     _, rfl, by decide +kernel, by decide +kernel, okOf (by decide +kernel)⟩,
   ⟨(0 : Nat), (3 : Fin 4),
     (Wt fun d => { (d.put (pgCLU 3) CLU.MODE_STAT_STATE 1).put (pgCLU 3) CLU.MODE_STAT_TARGET 2 with adm := some { tSet with loops := [{ tLoop with cyc := 1000000000 }] } }),
     ({ tSet with loops := [{ tLoop with cyc := 1000000000 }] } : Admitted),
     (match ((Wt fun d => { (d.put (pgCLU 3) CLU.MODE_STAT_STATE 1).put (pgCLU 3) CLU.MODE_STAT_TARGET 2 with adm := some { tSet with loops := [{ tLoop with cyc := 1000000000 }] } }).soc.after (0 : Nat)).dev.modePlan ({ tSet with loops := [{ tLoop with cyc := 1000000000 }] } : Admitted) 3 (((Wt fun d => { (d.put (pgCLU 3) CLU.MODE_STAT_STATE 1).put (pgCLU 3) CLU.MODE_STAT_TARGET 2 with adm := some { tSet with loops := [{ tLoop with cyc := 1000000000 }] } }).soc.after (0 : Nat)).dev.get (pgCLU 3) CLU.MODE_STAT_TARGET) with | .ok _ => (⟨0, 0, 0, 0, 0⟩ : Refuse) | .error r => r),
     _, rfl, by decide +kernel, by decide +kernel, errOf (by decide +kernel)⟩⟩

theorem witness_ClustersChangeMode_2 :
  (∃ (dt : Nat) (c : Fin 4) (s : State) (b : Soc), b = s.soc.after dt ∧ b.dev.get (pgCLU c) CLU.MODE_STAT_STATE =
    2 ∧ ((b.dev.clu[c]).modeWhen = 0 ∨ (b.dev.clu[c]).modeWhen = 1 ∧ (b.dev.sh (b.dev.clu[c]).modeStage).zeroT =
    b.dev.time + 1)) ∧
  (∃ (dt : Nat) (c : Fin 4) (s : State) (b : Soc), b = s.soc.after dt ∧ b.dev.get (pgCLU c) CLU.MODE_STAT_STATE =
    2 ∧ (b.dev.clu[c]).bound = true ∧ b.dev.clusterIdle c = true ∧ b.dev.sliceOn c = none) ∧
  (∃ (dt : Nat) (c : Fin 4) (s : State) (b : Soc), b = s.soc.after dt ∧ b.dev.get (pgCLU c) CLU.MODE_STAT_STATE =
    3) :=
  ⟨⟨(0 : Nat), (3 : Fin 4),
     (Wt fun d => { (d.put (pgCLU 3) CLU.MODE_STAT_STATE 2) with time := 90000, clu := vmod d.clu 3 (fun h => { h with modeWhen := 0 }) }),
     _, rfl, by decide +kernel⟩,
   ⟨(0 : Nat), (3 : Fin 4),
     (Wt fun d => { ((d.put (pgCLU 3) CLU.MODE_STAT_STATE 2).put (pgCLU 3) CLU.MODE_STAT_TARGET 2) with time := 90000, clu := vmod d.clu 3 (fun h => { h with bound := true }) }),
     _, rfl, by decide +kernel⟩,
   ⟨(0 : Nat), (3 : Fin 4), (Wt fun d => d.put (pgCLU 3) CLU.MODE_STAT_STATE 3), _, rfl, by decide +kernel⟩⟩

theorem witness_DebuggerStepsAndWrites :
  (∃ (dt : Nat) (s : State) (c : Fin 4) (st : Fin 3) (v : Vote) (i : Iss) (b : Soc) (g : Soc), b = s.soc.after dt
    ∧ g = b.map (fun d => (d.modClu c (fun h => { h with halt := h.halt.set st false })).put (pgCLU c)
    COM.ST_FROZEN 0) ∧ (b.dev.clu[c]).halt[st] = true ∧ b.dev.debugAllowed = true ∧ g.issues c st v i 0) ∧
  (∃ (dt : Nat) (s : State) (b : Soc), b = s.soc.after dt ∧ b.dev.analysis = true ∧ b.dev.gnm.running = true) :=
  ⟨⟨(0 : Nat),
     (Wi (iw 0 0 0 0 0 0 0 0 0) (f := (fun d => (d.put pgLCS LCS.DEBUG 1).put pgLCS LCS.ST_STATE 3 |>.modClu 3 (fun h => { h with halt := h.halt.set 0 true })))),
     (3 : Fin 4), (0 : Fin 3), Vote.agree, (tIssOf (iw 0 0 0 0 0 0 0 0 0) (tDp) (tLoop) false false), _, _, rfl,
     rfl, by decide +kernel, by decide +kernel,
     ⟨by decide +kernel, by decide +kernel, by decide +kernel, by decide +kernel, Dev.compare_agree _ _ _⟩⟩,
   ⟨(0 : Nat), (Wt fun d => d.put pgLCS LCS.ST_STATE 3), _, rfl, by decide +kernel⟩⟩

theorem witness_SafeTorqueOffActs :
  (∃ (dt : Nat) (s : State) (held : Nat) (b : Soc), b = s.soc.after dt ∧ b.dev.gnm.running = true ∧ held + 1 < 32
    * b.dev.gnCfg 8 2) ∧
  (∃ (dt : Nat) (s : State) (chB : Bool) (held : Nat) (b : Soc), b = s.soc.after dt ∧ b.dev.gnm.running = true ∧
    32 * b.dev.gnCfg 8 2 ≤ held + 1 ∧ b.dev.flag pgGNM (if chB then GNM.ST_CH_A else GNM.ST_CH_B) = false ∧
    b.dev.flag pgGNM GNM.ST_SN_DEMAND = false) ∧
  (∃ (dt : Nat) (s : State) (b : Soc), b = s.soc.after dt ∧ b.dev.gnm.running = true ∧ (b.dev.flag pgGNM
    GNM.ST_STO = true ∨ b.dev.lockedOut = true) ∧ b.dev.gnm.req = none) ∧
  (∃ (dt : Nat) (s : State) (b : Soc), b = s.soc.after dt ∧ b.dev.gnm.running = true ∧ b.dev.flag pgGNM GNM.ST_STO
    = false ∧ b.dev.lockedOut = false ∧ b.dev.gnm.gdenCmd = false ∧ b.dev.gnm.req = none) ∧
  (∃ (dt : Nat) (s : State) (t : _) (b : Soc), b = s.soc.after dt ∧ b.dev.gnm.running = true ∧ b.dev.gnm.settle =
    some t ∧ t ≤ b.dev.wall ∧ b.dev.flag pgGNM GNM.ST_STO = false ∧ b.dev.lockedOut = false) ∧
  (∃ (dt : Nat) (s : State) (b : Soc), b = s.soc.after dt ∧ b.dev.gnm.running = true ∧ b.dev.gnm.active.isSome =
    true ∧ b.dev.gnm.discFault = false ∧ b.dev.gnCfg 10 2 * 10 < b.dev.gnm.disc) :=
  ⟨⟨(0 : Nat), (Wt fun d => { d with time := 90000, gnm := { d.gnm with active := some (tBlk.set 8 5) } }),
     (20 : Nat), _, rfl, by decide +kernel⟩,
   ⟨(0 : Nat), State.reset, true, (0 : Nat), _, rfl, by decide +kernel⟩,
   ⟨(0 : Nat), (Wt fun d => d), _, rfl, by decide +kernel⟩,
   ⟨(0 : Nat), (Wt fun d => ((d.put pgGNM GNM.ST_STO 0).put pgGNM GNM.ST_LOCKOUT 0).put pgGNM GNM.ST_GDEN_A 0), _,
     rfl, by decide +kernel⟩,
   ⟨(0 : Nat),
     (Wt fun d => { ((d.put pgGNM GNM.ST_STO 0).put pgGNM GNM.ST_LOCKOUT 0) with wall := 5000000000, time := 90000, gnm := { d.gnm with settle := some 50 } }),
     (50 : Nat), _, rfl, by decide +kernel⟩,
   ⟨(0 : Nat),
     (Wt fun d => { d with wall := 5000000000, time := 90000, gnm := { d.gnm with active := some ((List.range 140).map (fun j => BitVec.ofNat 8 ([(10, 5), (78, 2), (82, 3)].lookup j |>.getD 0))), disc := 51 } }),
     _, rfl, by decide +kernel⟩⟩

theorem witness_LockOutsAndGnomonReset_1 :
  (∃ (dt : Nat) (s : State) (p : Bool) (q : Bool) (held : Nat) (b : Soc), b = s.soc.after dt ∧ b.dev.gnm.running =
    true ∧ (p ≠ b.dev.gnm.gdenCmd ∨ q ≠ b.dev.gnm.gdenCmd) ∧ 3200 < held) ∧
  (∃ (dt : Nat) (s : State) (b : Soc), b = s.soc.after dt ∧ b.dev.gnm.running = true ∧ b.dev.gnm.active.isSome =
    true) ∧
  (∃ (dt : Nat) (s : State) (b : Soc), b = s.soc.after dt ∧ b.dev.gnm.running = true ∧ b.dev.pwrMode = 0 ∧
    b.dev.justWoken = false) ∧
  (∃ (dt : Nat) (s : State) (x : Nat) (a : Nat) (b : Soc), b = s.soc.after dt ∧ b.dev.gnm.running = true ∧
    b.dev.gnm.req = some (3, x, a)) ∧
  (∃ (s : State), s.soc.answers (pgSNET + 0x40) = true ∧ s.soc.dev.flag pgSNET SNET.SREQ_STAT_BUSY = false) ∧
  (∃ (dt : Nat) (s : State) (n : Nat) (t : Nat) (b : Soc), b = s.soc.after dt ∧ b.dev.gnm.running = true ∧
    b.dev.gnm.edge = some (n, t) ∧ 500 ≤ n ∧ n ≤ 20000 ∧ b.dev.lockedOut = true ∧ b.dev.gnm.lockAt < t ∧
    b.dev.flag pgGNM GNM.ST_STO = false ∧ (∀ c < 13, bitOf (b.dev.get pgGNM GNM.LOCK_CAUSE_CAUSE) c = true →
    b.dev.causeGone c = true)) :=
  ⟨⟨(0 : Nat), State.reset, true, false, (4000 : Nat), _, rfl, by decide +kernel⟩,
   ⟨(0 : Nat),
     (Wt fun d => { d with wall := 5000000000, time := 90000, gnm := { d.gnm with active := some ((List.range 140).map (fun j => BitVec.ofNat 8 ([(10, 5), (78, 2), (82, 3)].lookup j |>.getD 0))) } }),
     _, rfl, by decide +kernel⟩,
   ⟨(0 : Nat), State.reset, _, rfl, by decide +kernel⟩,
   ⟨(0 : Nat), (Wt fun d => { d with gnm := { d.gnm with req := some (3, 7, 9) } }), (7 : Nat), (9 : Nat), _, rfl,
     by decide +kernel⟩,
   ⟨State.reset, by decide +kernel⟩,
   ⟨(0 : Nat),
     (Wt fun d => { ((d.put pgGNM GNM.ST_STO 0).put pgGNM GNM.LOCK_CAUSE_CAUSE 1) with wall := 5000000000, time := 90000, gnm := { d.gnm with active := some ((List.range 140).map (fun j => BitVec.ofNat 8 ([(10, 5), (78, 2), (82, 3)].lookup j |>.getD 0))), edge := some (600, 900), lockAt := 3 } }),
     (600 : Nat), (900 : Nat), _, rfl, by decide +kernel⟩⟩

theorem witness_LockOutsAndGnomonReset_2 :
  (∃ (dt : Nat) (s : State) (n : Nat) (t : Nat) (b : Soc), b = s.soc.after dt ∧ b.dev.gnm.running = true ∧
    b.dev.gnm.edge = some (n, t) ∧ (n < 500 ∨ 20000 < n)) :=
  ⟨(0 : Nat),
     (Wt fun d => { d with wall := 5000000000, time := 90000, gnm := { d.gnm with edge := some (60, 900) } }),
     (60 : Nat), (900 : Nat), _, rfl, by decide +kernel⟩

theorem witness_SafetyConfigurationChanges :
  (∃ (s : State), s.soc.answers (pgSNET + 0x40) = true ∧ s.soc.dev.flag pgSNET SNET.SREQ_STAT_BUSY = false) ∧
  (∃ (dt : Nat) (s : State) (x : Nat) (a : Nat) (b : Soc) (blk : List Byte), b = s.soc.after dt ∧ blk = memGetList
    b.mem a 140 ∧ b.dev.gnm.running = true ∧ b.dev.gnm.req = some (1, x, a) ∧ b.dev.lockedOut = true ∧
    b.dev.gnm.loaded = none ∧ 0x10000000 ≤ a ∧ a + 140 ≤ 0x10800000 ∧ gnBlockOk blk = true ∧ b.dev.deployed =
    false) ∧
  (∃ (dt : Nat) (s : State) (x : Nat) (a : Nat) (b : Soc), b = s.soc.after dt ∧ b.dev.gnm.running = true ∧
    b.dev.gnm.req = some (1, x, a) ∧ b.dev.lockedOut = false ∧ b.dev.resetNow = false) ∧
  (∃ (dt : Nat) (s : State) (x : Nat) (a : Nat) (blk : List Byte) (b : Soc), b = s.soc.after dt ∧
    b.dev.gnm.running = true ∧ b.dev.gnm.req = some (2, x, a) ∧ b.dev.gnm.loaded = some blk ∧ b.dev.wall <
    b.dev.gnm.loadT + wallMs 10000 ∧ a = b.dev.get pgGNM GNM.CFG_CRC) ∧
  (∃ (dt : Nat) (s : State) (x : Nat) (a : Nat) (blk : List Byte) (b : Soc), b = s.soc.after dt ∧
    b.dev.gnm.running = true ∧ b.dev.gnm.req = some (2, x, a) ∧ b.dev.gnm.loaded = some blk ∧ b.dev.wall <
    b.dev.gnm.loadT + wallMs 10000 ∧ a ≠ b.dev.get pgGNM GNM.CFG_CRC) ∧
  (∃ (dt : Nat) (s : State) (b : Soc), b = s.soc.after dt ∧ b.dev.gnm.loaded.isSome = true ∧ b.dev.gnm.loadT +
    wallMs 10000 ≤ b.dev.wall) :=
  ⟨⟨(Wt fun d => d.put pgGNM GNM.ST_LOCKOUT 0), by decide +kernel⟩,
   ⟨(0 : Nat),
     (Wf (fun d => { (d.put pgGNM GNM.ST_LOCKOUT 1) with gnm := { d.gnm with req := some (1, 0, 0x10000000) } }) (fun s => { s with mem := memPutList s.mem 0x10000000 tBlk })),
     (0 : Nat), (0x10000000 : Nat), _, _, rfl, rfl, by decide +kernel⟩,
   ⟨(0 : Nat),
     (Wt fun d => { d.put pgGNM GNM.ST_LOCKOUT 0 with gnm := { d.gnm with req := some (1, 0, 0x10000000) } }),
     (0 : Nat), (0x10000000 : Nat), _, rfl, by decide +kernel⟩,
   ⟨(0 : Nat),
     (Wt fun d => { (d.put pgGNM GNM.ST_LOCKOUT 1).put pgGNM GNM.CFG_CRC 77 with wall := 5000000000, gnm := { d.gnm with req := some (2, 0, 77), loaded := some tBlk, loadT := 4999999999 } }),
     (0 : Nat), (77 : Nat), tBlk, _, rfl, by decide +kernel⟩,
   ⟨(0 : Nat),
     (Wt fun d => { (d.put pgGNM GNM.ST_LOCKOUT 1).put pgGNM GNM.CFG_CRC 77 with wall := 5000000000, gnm := { d.gnm with req := some (2, 0, 78), loaded := some tBlk, loadT := 4999999999 } }),
     (0 : Nat), (78 : Nat), tBlk, _, rfl, by decide +kernel⟩,
   ⟨(0 : Nat),
     (Wt fun d => { d with wall := 5000000000, time := 90000, gnm := { d.gnm with loaded := some tBlk, loadT := 5 } }),
     _, rfl, by decide +kernel⟩⟩

theorem witness_EventsAndTorqueAreHandled_1 :
  (∃ (dt : Nat) (s : State) (e : GnEvent) (rest : List GnEvent) (b : Soc) (r : Nat), b = s.soc.after dt ∧ r =
    b.dev.gnCfg 13 1 / 4 ^ (e.kind - 1) % 4 ∧ b.dev.gnm.running = true ∧ b.dev.gnq = e :: rest ∧ 1 ≤ e.kind ∧
    e.kind ≤ 4) ∧
  (∃ (dt : Nat) (s : State) (n : Fin 8) (b : Soc), b = s.soc.after dt ∧ b.dev.gnm.running = true ∧ b.dev.gnCfg (78
    + 8 * n) 1 ≠ 0) ∧
  (∃ (dt : Nat) (s : State) (n : Fin 8) (b : Soc) (react : Nat), b = s.soc.after dt ∧ react = b.dev.gnCfg (78 + 8
    * n) 1 ∧ b.dev.gnm.running = true ∧ react ≠ 0 ∧ b.dev.flagAt pgGNM GNM.TQ_STAT_REACTED n = false ∧ 10 *
    b.dev.gnCfg (82 + 8 * n) 2 ≤ b.dev.getAt pgGNM GNM.TQ_STAT_RUN n) ∧
  (∃ (s : State) (cmd : BitVec 4), s.soc.answers (pgSNET + 0x40) = true ∧ s.soc.dev.flag pgSNET
    SNET.SREQ_STAT_BUSY = false ∧ 6 ≤ cmd.toNat) ∧
  (∃ (dt : Nat) (s : State) (x : Nat) (a : Nat) (b : Soc), b = s.soc.after dt ∧ b.dev.gnm.running = true ∧
    b.dev.gnm.req = some (4, x, a) ∧ x < 64 ∧ b.dev.classS x = true ∧ mapGet (fun _ => 0) b.dev.ctx.satT x ≠
    b.dev.time + 1) ∧
  (∃ (dt : Nat) (s : State) (x : Nat) (a : Nat) (b : Soc), b = s.soc.after dt ∧ b.dev.gnm.running = true ∧
    b.dev.gnm.req = some (4, x, a) ∧ x < 64 ∧ b.dev.classS x = false) :=
  ⟨⟨(0 : Nat),
     (Wt fun d => { d with wall := 5000000000, time := 90000, gnq := [(⟨1, 5, 2, 0x51, 0, 0x8001⟩ : GnEvent)], gnm := { d.gnm with active := some ((List.range 140).map (fun j => BitVec.ofNat 8 ([(13, 0), (134, 2), (138, 3)].lookup j |>.getD 0))) } }),
     (⟨1, 5, 2, 0x51, 0, 0x8001⟩ : GnEvent), ([]), _, _, rfl, rfl, by decide +kernel⟩,
   ⟨(0 : Nat),
     (Wt fun d => { d with wall := 5000000000, time := 90000, gnm := { d.gnm with active := some ((List.range 140).map (fun j => BitVec.ofNat 8 ([(134, 1), (138, 3)].lookup j |>.getD 0))) } }),
     (7 : Fin 8), _, rfl, by decide +kernel⟩,
   ⟨(0 : Nat),
     (Wt fun d => { d.putAt pgGNM GNM.TQ_STAT_RUN 7 40 with wall := 5000000000, time := 90000, gnm := { d.gnm with active := some ((List.range 140).map (fun j => BitVec.ofNat 8 ([(134, 1), (138, 3)].lookup j |>.getD 0))) } }),
     (7 : Fin 8), _, _, rfl, rfl, by decide +kernel⟩,
   ⟨State.reset, (9 : BitVec 4), by decide +kernel⟩,
   ⟨(0 : Nat),
     (Wt fun d => { (d.putAt pgCTX CTX.CCFG_CLASS 5 1 |>.putAt pgCTX CTX.STICKY_S_SAT 5 1) with time := 1000, gnm := { d.gnm with req := some (4, 5, 0) } }),
     (5 : Nat), (0 : Nat), _, rfl, by decide +kernel⟩,
   ⟨(0 : Nat), (Wt fun d => { (d) with time := 1000, gnm := { d.gnm with req := some (4, 5, 0) } }), (5 : Nat),
     (0 : Nat), _, rfl, by decide +kernel⟩⟩

theorem witness_EventsAndTorqueAreHandled_2 :
  (∃ (dt : Nat) (s : State) (x : Nat) (a : Nat) (b : Soc), b = s.soc.after dt ∧ b.dev.gnm.running = true ∧
    b.dev.gnm.req = some (5, x, a) ∧ b.dev.getAt pgTRIP TRIP.TARGET_IMASK 172 = 0) ∧
  (∃ (dt : Nat) (s : State) (x : Nat) (a : Nat) (b : Soc), b = s.soc.after dt ∧ b.dev.gnm.running = true ∧
    b.dev.gnm.req = some (5, x, a) ∧ b.dev.getAt pgTRIP TRIP.TARGET_IMASK 172 ≠ 0) ∧
  (∃ (dt : Nat) (s : State) (x : Nat) (a : Nat) (cmd : _) (b : Soc), b = s.soc.after dt ∧ b.dev.gnm.running = true
    ∧ b.dev.gnm.req = some (cmd, x, a) ∧ 6 ≤ cmd ∧ cmd < 16) :=
  ⟨⟨(0 : Nat),
     (Wt fun d => { (d.putAt pgTRIP TRIP.FLAG 5 4096) with time := 1000, gnm := { d.gnm with req := some (5, 0, 0) } }),
     (0 : Nat), (0 : Nat), _, rfl, by decide +kernel⟩,
   ⟨(0 : Nat),
     (Wt fun d => { (d.putAt pgTRIP TRIP.TARGET_IMASK 172 4) with time := 1000, gnm := { d.gnm with req := some (5, 0, 0) } }),
     (0 : Nat), (0 : Nat), _, rfl, by decide +kernel⟩,
   ⟨(0 : Nat), (Wt fun d => { (d) with time := 1000, gnm := { d.gnm with req := some (9, 0, 0) } }), (0 : Nat),
     (0 : Nat), (9 : Nat), _, rfl, by decide +kernel⟩⟩

theorem witness_SafeChannelPairsCopies_1 :
  (∃ (dt : Nat) (s : State) (bytes : List Byte) (b : Soc), b = s.soc.after dt ∧ b.dev.snOn = true ∧ listNat bytes
    32 4 ≠ crc32c (bytes.take 32)) ∧
  (∃ (dt : Nat) (s : State) (pathB : Bool) (bytes : List Byte) (b : Soc), b = s.soc.after dt ∧ b.dev.snOn = true ∧
    bytes.length = 36 ∧ listNat bytes 32 4 = crc32c (bytes.take 32) ∧ listNat bytes 2 1 = 1 ∧ listNat bytes 0 2
    = b.dev.get pgSNET SNET.SN_ID_CONN_RX ∧ listNat bytes 3 1 = 0 ∧ listNat bytes 16 1 < 4 ∧ b.dev.gnm.hasLast =
    false ∧ (if pathB then b.dev.gnm.qB else b.dev.gnm.qA).length < 4) ∧
  (∃ (dt : Nat) (s : State) (pathB : Bool) (bytes : List Byte) (b : Soc), b = s.soc.after dt ∧ b.dev.snOn = true ∧
    bytes.length = 36 ∧ listNat bytes 32 4 = crc32c (bytes.take 32) ∧ listNat bytes 2 1 = 1 ∧ listNat bytes 0 2
    = b.dev.get pgSNET SNET.SN_ID_CONN_RX ∧ listNat bytes 3 1 = 0 ∧ listNat bytes 16 1 < 4 ∧ b.dev.gnm.hasLast =
    false ∧ 4 ≤ (if pathB then b.dev.gnm.qB else b.dev.gnm.qA).length) ∧
  (∃ (dt : Nat) (s : State) (x : SafeCopy) (y : SafeCopy) (b : Soc), b = s.soc.after dt ∧ b.dev.snOn = true ∧
    b.dev.gnm.qA = [x] ∧ b.dev.gnm.qB = [y] ∧ x.bytes = y.bytes ∧ b.dev.flag pgSNET SNET.ST_BASE_WAIT = true) ∧
  (∃ (dt : Nat) (s : State) (x : SafeCopy) (y : SafeCopy) (b : Soc), b = s.soc.after dt ∧ b.dev.snOn = true ∧
    b.dev.gnm.qA = [x] ∧ b.dev.gnm.qB = [y] ∧ x.bytes ≠ y.bytes ∧ x.t ≤ y.t) ∧
  (∃ (dt : Nat) (s : State) (x : SafeCopy) (b : Soc), b = s.soc.after dt ∧ b.dev.snOn = true ∧ b.dev.gnm.qA = [x]
    ∧ b.dev.gnm.qB = [] ∧ x.t + wallUs (b.dev.get pgSNET SNET.W_P) < b.dev.wall) :=
  ⟨⟨(0 : Nat), (Wt fun d => (d.put pgSNET SNET.ST_SN_EN 1)), (List.replicate 36 (1 : Byte)), _, rfl,
     by decide +kernel⟩,
   ⟨(0 : Nat),
     (Wt fun d => { (d.put pgSNET SNET.ST_SN_EN 1) with wall := 5000000000, time := 90000, gnm := { d.gnm with hasLast := false } }),
     true, tPdu, _, rfl, by decide +kernel⟩,
   ⟨(0 : Nat),
     (Wt fun d => { (d.put pgSNET SNET.ST_SN_EN 1) with wall := 5000000000, time := 90000, gnm := { d.gnm with hasLast := false, qA := List.replicate 4 ⟨tPdu, 7⟩, qB := List.replicate 4 ⟨tPdu, 7⟩ } }),
     true, tPdu, _, rfl, by decide +kernel⟩,
   ⟨(0 : Nat),
     (Wt fun d => { (d.put pgSNET SNET.ST_SN_EN 1).put pgSNET SNET.ST_BASE_WAIT 1 with wall := 5000000000, time := 90000, gnm := { d.gnm with qA := [(⟨tPdu, 7⟩ : SafeCopy)], qB := [(⟨tPdu, 9⟩ : SafeCopy)] } }),
     (⟨tPdu, 7⟩ : SafeCopy), (⟨tPdu, 9⟩ : SafeCopy), _, rfl, by decide +kernel⟩,
   ⟨(0 : Nat),
     (Wt fun d => { (d.put pgSNET SNET.ST_SN_EN 1) with wall := 5000000000, time := 90000, gnm := { d.gnm with qA := [(⟨tPdu, 7⟩ : SafeCopy)], qB := [(⟨[], 9⟩ : SafeCopy)] } }),
     (⟨tPdu, 7⟩ : SafeCopy), (⟨[], 9⟩ : SafeCopy), _, rfl, by decide +kernel⟩,
   ⟨(0 : Nat),
     (Wt fun d => { (d.put pgSNET SNET.ST_SN_EN 1) with wall := 5000000000, time := 90000, gnm := { d.gnm with qA := [(⟨tPdu, 7⟩ : SafeCopy)], qB := [] } }),
     (⟨tPdu, 7⟩ : SafeCopy), _, rfl, by decide +kernel⟩⟩

theorem witness_SafeChannelPairsCopies_2 :
  (∃ (dt : Nat) (s : State) (b : Soc), b = s.soc.after dt ∧ b.dev.snOn = true ∧ b.dev.gnm.wd + wallUs (b.dev.get
    pgSNET SNET.WD) ≤ b.dev.wall) ∧
  (∃ (dt : Nat) (s : State) (b : Soc), b = s.soc.after dt ∧ b.dev.snOn = true ∧ b.dev.gnm.txT + wallUs
    (b.dev.gnCfg 28 4) ≤ b.dev.wall) ∧
  (∃ (s : State), s.soc.answers (pgSNET + 0x9C) = true) :=
  ⟨⟨(0 : Nat),
     (Wt fun d => { (d.put pgSNET SNET.ST_SN_EN 1) with wall := 5000000000, time := 90000, gnm := { d.gnm with wd := 5 } }),
     _, rfl, by decide +kernel⟩,
   ⟨(0 : Nat),
     (Wt fun d => { (d.put pgSNET SNET.ST_SN_EN 1) with wall := 5000000000, time := 90000, gnm := { d.gnm with txT := 5 } }),
     _, rfl, by decide +kernel⟩,
   ⟨State.reset, by decide +kernel⟩⟩

theorem witness_ClocksAreMonitoredAndHeld_1 :
  (∃ (dt : Nat) (s : State) (m : Fin 3) (count : BitVec 24) (late : Bool) (pass : Bool) (b : Soc) (run : Nat), b =
    s.soc.after dt ∧ run = (if pass then 0 else min 127 (b.dev.getAt pgCLK CLK.MON_RUN m + 1)) ∧ ¬ (m = 0 ∧
    b.dev.pwrMode = 2 ∧ b.dev.clk.xoOn = false) ∧ pass = (!late && decide ((monBand m).1 ≤ count.toNat ∧
    count.toNat ≤ (monBand m).2.1))) ∧
  (∃ (dt : Nat) (s : State) (b : Soc), b = s.soc.after dt ∧ b.dev.clk.xoOn = true ∧ b.dev.flag pgCLK
    CLK.ST_REF_READY = false ∧ b.dev.flag pgCLK CLK.ST_IRC_FAIL = false ∧ 16 ≤ b.dev.clk.pass.getD 0 0 ∧
    b.dev.clk.xoStart + 40000 * b.dev.get pgCLK CLK.REF_CFG_XO_DELAY ≤ b.dev.wall) ∧
  (∃ (dt : Nat) (s : State) (b : Soc), b = s.soc.after dt ∧ b.dev.flag pgCLK CLK.ST_PLL0_LOCK = true ∧
    b.dev.clockHeld = false) ∧
  (∃ (dt : Nat) (s : State) (t : _) (b : Soc), b = s.soc.after dt ∧ b.dev.clk.holdover = some t ∧ t + 400000 ≤
    b.dev.wall ∧ b.dev.clockHeld = false) ∧
  (∃ (dt : Nat) (s : State) (t : _) (b : Soc), b = s.soc.after dt ∧ b.dev.clk.restartAt = some t ∧ t ≤ b.dev.wall) ∧
  (∃ (dt : Nat) (s : State) (b : Soc) (ready : Bool), b = s.soc.after dt ∧ ready = b.dev.flag pgCLK
    CLK.ST_REF_READY ∧ b.dev.clockHeld = true ∧ (ready = true ∨ b.dev.flag pgCLK CLK.ST_IRC_FAIL = false)) :=
  ⟨⟨(0 : Nat), (Wt fun d => d), (0 : Fin 3), (0 : BitVec 24), true,
     (!true && decide ((monBand (0 : Fin 3)).1 ≤ (0 : BitVec 24).toNat ∧ (0 : BitVec 24).toNat ≤ (monBand (0 : Fin 3)).2.1)),
     _, _, rfl, rfl, by decide +kernel⟩,
   ⟨(0 : Nat),
     (Wt fun d => { (d.put pgCLK CLK.ST_REF_READY 0) with wall := 900000000, time := 90000, clk := { d.clk with pass := [16, 0, 0], xoOn := true, xoStart := 0 } }),
     _, rfl, by decide +kernel⟩,
   ⟨(0 : Nat), (Wt fun d => (d.put pgCLK CLK.ST_PLL0_LOCK 1)), _, rfl, by decide +kernel⟩,
   ⟨(0 : Nat),
     (Wt fun d => { (d.put pgCLK CLK.ST_PLL0_LOCK 1) with wall := 900000000, time := 90000, clk := { d.clk with holdover := some 5 } }),
     (5 : Nat), _, rfl, by decide +kernel⟩,
   ⟨(0 : Nat),
     (Wt fun d => { d with wall := 900000000, time := 90000, clk := { d.clk with restartAt := some 5 } }),
     (5 : Nat), _, rfl, by decide +kernel⟩,
   ⟨(0 : Nat), (Wt fun d => d.put pgCLK CLK.ST_HOLD 1), _, _, rfl, rfl, by decide +kernel⟩⟩

theorem witness_ClocksAreMonitoredAndHeld_2 :
  (∃ (s : State), s.soc.answers (pgCLK + 0x40) = true ∧ s.soc.dev.flag pgCLK CLK.ST_REF_READY = true ∧
    s.soc.dev.flag pgCLK CLK.ST_ON_FALLBACK = true ∧ s.soc.dev.clk.ircT ≠ some s.soc.dev.wall) ∧
  (∃ (s : State), s.soc.answers (pgCLK + 0x40) = true ∧ s.soc.dev.flag pgCLK CLK.ST_REF_READY = false) :=
  ⟨⟨(Wt fun d => (d.put pgCLK CLK.ST_REF_READY 1).put pgCLK CLK.ST_ON_FALLBACK 1), by decide +kernel⟩,
   ⟨State.reset, by decide +kernel⟩⟩

theorem witness_DelayLineAndOperatingPointChange_1 :
  (∃ (dt : Nat) (s : State) (b : Soc), b = s.soc.after dt ∧ b.dev.flag pgCLK CLK.ST_DLL_LOCK = true) ∧
  (∃ (dt : Nat) (s : State) (b : Soc), b = s.soc.after dt ∧ b.dev.tclkRuns = true ∧ b.dev.pwrMode ≠ 2) ∧
  (∃ (dt : Nat) (s : State) (t : Nat) (b : Soc), b = s.soc.after dt ∧ b.dev.clk.calEnd = some t ∧ t ≤ b.dev.time) ∧
  (∃ (dt : Nat) (s : State) (b : Soc) (goal : Nat) (act : Nat), b = s.soc.after dt ∧ goal = b.dev.get pgPWR
    PWR.OP_STAT_TARGET ∧ act = b.dev.get pgPWR PWR.ST_OP_ACT ∧ goal ≠ act ∧ b.dev.flag pgPWR PWR.ST_SEQ_BUSY =
    false ∧ b.dev.flag pgCLK CLK.ST_IRC_FAIL = false ∧ b.dev.opSpaced = true ∧ b.dev.pwrMode = 0 ∧
    b.dev.tclkRuns = true) ∧
  (∃ (dt : Nat) (s : State) (b : Soc), b = s.soc.after dt ∧ b.dev.pwr.step = 1 ∧ b.dev.pwr.vStart + 400 *
    b.dev.get pgPWR PWR.V_CFG ≤ b.dev.time) ∧
  (∃ (dt : Nat) (s : State) (b : Soc), b = s.soc.after dt ∧ b.dev.pwr.step = 2 ∧ b.dev.clockHeld = false) :=
  ⟨⟨(0 : Nat), (Wt fun d => d.put pgCLK CLK.ST_DLL_LOCK 1), _, rfl, by decide +kernel⟩,
   ⟨(0 : Nat), (Wt fun d => (d.put pgCLK CLK.ST_PLL0_LOCK 1)), _, rfl, by decide +kernel⟩,
   ⟨(0 : Nat), (Wt fun d => { d with wall := 900000000, time := 90000, clk := { d.clk with calEnd := some 5 } }),
     (5 : Nat), _, rfl, by decide +kernel⟩,
   ⟨(0 : Nat),
     (Wt fun d => (d.put pgCLK CLK.ST_PLL0_LOCK 1).put pgPWR PWR.OP_STAT_TARGET 0 |>.put pgPWR PWR.ST_OP_ACT 2),
     _, _, _, rfl, rfl, rfl, by decide +kernel⟩,
   ⟨(0 : Nat),
     (Wt fun d => { (d.put pgCLK CLK.ST_PLL0_LOCK 1) with time := 90000000, pwr := { d.pwr with step := 1, goal := 1 } }),
     _, rfl, by decide +kernel⟩,
   ⟨(0 : Nat),
     (Wt fun d => { (d.put pgCLK CLK.ST_PLL0_LOCK 1) with time := 90000000, pwr := { d.pwr with step := 2, goal := 1 } }),
     _, rfl, by decide +kernel⟩⟩

theorem witness_DelayLineAndOperatingPointChange_2 :
  (∃ (dt : Nat) (s : State) (b : Soc), b = s.soc.after dt ∧ b.dev.pwr.step = 3 ∧ b.dev.clockHeld = false ∧
    b.dev.pwr.lockT + 400 ≤ b.dev.time ∧ b.dev.pwr.goal < 3) ∧
  (∃ (s : State), s.soc.answers (pgCLK + 0x64) = true ∧ s.soc.dev.flag pgCLK CLK.DLL_CAL_BUSY = false) ∧
  (∃ (w : Word) (s : State), s.soc.answers (pgCLK + 0x58) = true ∧ wordField w 29 2 ≠ 3 ∧ wordField w 0 16 ≠ 0 ∧
    s.soc.dev.almState = 0) ∧
  (∃ (w : Word) (s : State), s.soc.answers (pgCLK + 0x58) = true ∧ wordField w 29 2 ≠ 3 ∧ wordField w 0 16 ≠ 0 ∧
    s.soc.dev.almState ≠ 0) ∧
  (∃ (op : BitVec 2) (s : State), s.soc.answers (pgPWR + 0x40) = true ∧ op ≠ 3 ∧ s.soc.dev.adm = none ∧
    s.soc.dev.flag pgCLK CLK.ST_IRC_FAIL = false) ∧
  (∃ (op : BitVec 2) (s : State), s.soc.answers (pgPWR + 0x40) = true ∧ op = 3) :=
  ⟨⟨(0 : Nat),
     (Wt fun d => { (d.put pgCLK CLK.ST_PLL0_LOCK 1) with time := 90000000, pwr := { d.pwr with step := 3, goal := 1, lockT := 7 } }),
     _, rfl, by decide +kernel⟩,
   ⟨State.reset, by decide +kernel⟩,
   ⟨(0x20000012 : Word), State.reset, by decide +kernel⟩,
   ⟨(0x20000012 : Word), (Wt fun d => d.put pgALM ALM.ST_STATE 4), by decide +kernel⟩,
   ⟨(1 : BitVec 2), State.reset, by decide +kernel⟩,
   ⟨(3 : BitVec 2), State.reset, by decide +kernel⟩⟩

theorem witness_PowerModesAndWakes_1 :
  (∃ (s : State), s.soc.answers (pgPWR + 0x4C) = true ∧ s.soc.dev.modeBusy = false ∧ s.soc.dev.pwr.attrT ≠ some
    s.soc.dev.wall ∧ s.soc.dev.wokenNow = false ∧ s.soc.dev.flag pgCLK CLK.ST_IRC_FAIL = false) ∧
  (∃ (s : State), s.soc.answers (pgPWR + 0x4C) = true ∧ s.soc.dev.modeBusy = true) ∧
  (∃ (dt : Nat) (s : State) (src : Fin 5) (b : Soc), b = s.soc.after dt ∧ b.dev.pwr.enter.isSome = true ∧ bitOf
    (b.dev.get pgPWR PWR.WAKE_EN) src = true) ∧
  (∃ (dt : Nat) (s : State) (src : Fin 5) (b : Soc), b = s.soc.after dt ∧ b.dev.pwrMode = 1 ∧ b.dev.pwr.waking =
    false ∧ b.dev.pwr.enter = none ∧ bitOf (b.dev.get pgPWR PWR.WAKE_EN) src = true) ∧
  (∃ (dt : Nat) (s : State) (t : _) (b : Soc), b = s.soc.after dt ∧ b.dev.pwrMode = 1 ∧ b.dev.pwr.waking = false ∧
    b.dev.pwr.enter = none ∧ b.dev.pwr.wakeAt = some t ∧ t ≤ b.dev.time ∧ bitOf (b.dev.get pgPWR PWR.WAKE_EN) 4
    = true) ∧
  (∃ (s : State), s.soc.answers (pgPWR + 0x58) = true) :=
  ⟨⟨State.reset, by decide +kernel⟩,
   ⟨(Wt fun d => d.put pgPWR PWR.ST_SEQ_BUSY 1), by decide +kernel⟩,
   ⟨(0 : Nat), (Wt fun d => { d.put pgPWR PWR.WAKE_EN 31 with pwr := { d.pwr with enter := some 1 } }),
     (0 : Fin 5), _, rfl, by decide +kernel⟩,
   ⟨(0 : Nat), (Wt fun d => (d.put pgPWR PWR.ST_MODE 1).put pgPWR PWR.WAKE_EN 31), (0 : Fin 5), _, rfl,
     by decide +kernel⟩,
   ⟨(0 : Nat),
     (Wt fun d => { ((d.put pgPWR PWR.ST_MODE 1).put pgPWR PWR.WAKE_EN 31) with time := 90000000, pwr := { d.pwr with wakeAt := some 50 } }),
     (50 : Nat), _, rfl, by decide +kernel⟩,
   ⟨State.reset, by decide +kernel⟩⟩

theorem witness_PowerModesAndWakes_2 :
  (∃ (s : State), s.soc.answers (pgPWR + 0x5C) = true) ∧
  (∃ (s : State), s.soc.answers (pgPWR + 0x60) = true) :=
  ⟨⟨State.reset, by decide +kernel⟩,
   ⟨State.reset, by decide +kernel⟩⟩

theorem witness_ResetsHaveTheirScope_1 :
  (∃ (dt : Nat) (s : State) (supplies : BitVec 5) (b : Soc), b = s.soc.after dt ∧ supplies ≠ 0) ∧
  (∃ (dt : Nat) (s : State) (b : Soc), b = s.soc.after dt ∧ b.dev.pwrMode = 0 ∧ b.dev.justWoken = false) ∧
  (∃ (dt : Nat) (s : State) (b : Soc), b = s.soc.after dt ∧ b.dev.inReset 11 = false) ∧
  (∃ (dt : Nat) (s : State) (j : Fin 8) (b : Soc), b = s.soc.after dt ∧ b.dev.partnerRuns j = true) ∧
  (∃ (key : BitVec 16) (s : State), s.soc.answers (pgPWR + 0x6C) = true ∧ key = 0x52A7) ∧
  (∃ (key : BitVec 16) (s : State), s.soc.answers (pgPWR + 0x6C) = true ∧ key ≠ 0x52A7) :=
  ⟨⟨(0 : Nat), State.reset, (1 : BitVec 5), _, rfl, by decide +kernel⟩,
   ⟨(0 : Nat), State.reset, _, rfl, by decide +kernel⟩,
   ⟨(0 : Nat), State.reset, _, rfl, by decide +kernel⟩,
   ⟨(0 : Nat), State.reset, (0 : Fin 8), _, rfl, by decide +kernel⟩,
   ⟨(0x52A7 : BitVec 16), State.reset, by decide +kernel⟩,
   ⟨(1 : BitVec 16), State.reset, by decide +kernel⟩⟩

theorem witness_ResetsHaveTheirScope_2 :
  (∃ (s : State), s.soc.answers (pgPWR + 0x64) = true) :=
  ⟨State.reset, by decide +kernel⟩

theorem witness_BootPassesRun :
  (∃ (dt : Nat) (o : BootObs) (s : State) (b : Soc), b = s.soc.after dt ∧ b.dev.boot.due = true ∧ b.dev.boot.retOk
    = true ∧ o.testEn = true) ∧
  (∃ (dt : Nat) (o : BootObs) (s : State) (b : Soc), b = s.soc.after dt ∧ b.dev.boot.due = true ∧ b.dev.boot.retOk
    = true ∧ o.testEn = false ∧ o.romOk = false) ∧
  (∃ (dt : Nat) (o : BootObs) (s : State) (b : Soc), b = s.soc.after dt ∧ b.dev.boot.due = true ∧ b.dev.boot.retOk
    = true ∧ o.testEn = false ∧ o.romOk = true ∧ b.dev.boot.retry = 0 ∧ b.dev.get pgBOOT BOOT.RETRY = 0 ∧
    b.dev.get pgBOOT BOOT.ALT_FLAGS = 0 ∧ lcState b.dev.boot.trans ≠ 4 ∧ o.flashOk = false) ∧
  (∃ (dt : Nat) (o : BootObs) (s : State) (t : BitVec 16) (b : Soc) (h : List Byte) (body : List Byte), b =
    s.soc.after dt ∧ h = memGetList b.flash 0x100000 4096 ∧ body = memGetList b.flash 0x101000 (imgLen h) ∧
    b.dev.boot.due = true ∧ b.dev.boot.retOk = true ∧ o.testEn = false ∧ o.romOk = true ∧ b.dev.boot.retry = 0 ∧
    b.dev.get pgBOOT BOOT.RETRY = 0 ∧ b.dev.get pgBOOT BOOT.ALT_FLAGS = 0 ∧ lcState b.dev.boot.trans ≠ 4 ∧ hdr h
    0 4 = magic ∧ imgKind h = 1 ∧ b.dev.boot.fwSvn ≤ imgSvn h ∧ o.flashOk = true ∧ o.xoReady = some t ∧ t.toNat
    ≤ 20 ∧ o.trainOk = true ∧ o.bist = 0 ∧ o.progOk = true ∧ o.gnOk = true ∧ o.patchOk = true ∧ o.almOk = true ∧
    o.linkUp = true) ∧
  (∃ (s : State), s.soc.answers (pgBOOT + 0x50) = true) :=
  ⟨⟨(0 : Nat), (tObsT true true true), (Wt fun d => ({ d with boot := { d.boot with retOk := true } })), _, rfl,
     by decide +kernel⟩,
   ⟨(0 : Nat), (tObs false true), (Wt fun d => ({ d with boot := { d.boot with retOk := true } })), _, rfl,
     by decide +kernel⟩,
   ⟨(0 : Nat), (tObs true false), (Wt fun d => ({ d with boot := { d.boot with retOk := true } })), _, rfl,
     by decide +kernel⟩,
   ⟨(0 : Nat), (tObs true true),
     (Wf (fun d => ({ d with boot := { d.boot with retOk := true } })) (fun s => { s with flash := memPutNat (memPutNat (memPutNat s.flash 0x100000 4 magic) 0x100004 4 1) 0x100008 4 5 })),
     (9 : BitVec 16), _, _, _, rfl, rfl, rfl, by decide +kernel⟩,
   ⟨State.reset, by decide +kernel⟩⟩

theorem witness_SecurityCommandsAndTokens_1 :
  (∃ (s : State), s.soc.answers (pgSEC + 0x40) = true ∧ s.soc.dev.flag pgSEC SEC.ST_BUSY = false ∧
    s.soc.dev.cfgInUse = false) ∧
  (∃ (s : State), s.soc.answers (pgSEC + 0x40) = true ∧ s.soc.dev.flag pgSEC SEC.ST_BUSY = false ∧
    s.soc.dev.boot.nextQ < 2 ^ 20) ∧
  (∃ (s : State), s.soc.answers (pgSEC + 0x40) = true ∧ s.soc.dev.flag pgSEC SEC.ST_BUSY = false ∧ s.soc.dev.flag
    pgBOOT BOOT.ST_DONE = true ∧ s.soc.dev.boot.fwSvn ≤ s.soc.dev.get pgBOOT BOOT.FW_SVN_IMAGE) ∧
  (∃ (s : State) (cmd : BitVec 3), s.soc.answers (pgSEC + 0x40) = true ∧ s.soc.dev.flag pgSEC SEC.ST_BUSY = false
    ∧ (cmd = 0 ∨ 6 ≤ cmd.toNat)) ∧
  (∃ (dt : Nat) (s : State) (b : Soc) (a : Nat), b = s.soc.after dt ∧ a = b.dev.get pgSEC SEC.ARG0 ∧ b.dev.flag
    pgSEC SEC.ST_BUSY = true ∧ b.dev.boot.secCmd = 4) ∧
  (∃ (dt : Nat) (s : State) (b : Soc) (a : Nat) (h : List Byte), b = s.soc.after dt ∧ a = b.dev.get pgSEC SEC.ARG0
    ∧ h = memGetList b.mem a 4096 ∧ b.dev.flag pgSEC SEC.ST_BUSY = true ∧ b.dev.boot.secCmd = 1 ∧ b.dev.imgCheck
    h (memGetList b.mem (a + 4096) (imgLen h)) 2 (fun k => k == 1) ≠ 0) :=
  ⟨⟨State.reset, by decide +kernel⟩,
   ⟨State.reset, by decide +kernel⟩,
   ⟨(Wt fun d => (d.put pgBOOT BOOT.ST_DONE 1).put pgBOOT BOOT.FW_SVN_IMAGE 7), by decide +kernel⟩,
   ⟨State.reset, (7 : BitVec 3), by decide +kernel⟩,
   ⟨(0 : Nat),
     (Wt fun d => { ((d.put pgSEC SEC.ST_BUSY 1).put pgSEC SEC.ARG0 0x10000000) with boot := { d.boot with secCmd := 4 } }),
     _, _, rfl, rfl, by decide +kernel⟩,
   ⟨(0 : Nat),
     (Wt fun d => { ((d.put pgSEC SEC.ST_BUSY 1).put pgSEC SEC.ARG0 0x10000000) with boot := { d.boot with secCmd := 1 } }),
     _, _, _, rfl, rfl, rfl, by decide +kernel⟩⟩

theorem witness_SecurityCommandsAndTokens_2 :
  (∃ (dt : Nat) (s : State) (b : Soc) (a : Nat) (h : List Byte), b = s.soc.after dt ∧ a = b.dev.get pgSEC SEC.ARG0
    ∧ h = memGetList b.mem a 4096 ∧ b.dev.flag pgSEC SEC.ST_BUSY = true ∧ b.dev.boot.secCmd = 1 ∧ inSram a (4096
    + imgLen h) = true ∧ b.dev.get pgSEC SEC.ARG1 = 4096 + imgLen h) ∧
  (∃ (s : State), s.soc.answers (pgLCS + 0x44) = true ∧ (s.soc.dev.flag pgLCS LCS.ST_PENDING = true ∨
    s.soc.dev.boot.burn.isSome = true)) ∧
  (∃ (s : State) (a : Nat) (h : List Byte) (tok : List Byte) (t : Nat), a = s.soc.dev.get pgLCS LCS.TOKEN_ADDR ∧ h
    = memGetList s.soc.mem a 4096 ∧ tok = memGetList s.soc.mem (a + 4096) 128 ∧ t = listNat tok 1 1 ∧
    s.soc.answers (pgLCS + 0x44) = true ∧ s.soc.dev.flag pgLCS LCS.ST_PENDING = false ∧ s.soc.dev.boot.burn =
    none ∧ s.soc.dev.flag pgSEC SEC.ST_BUSY = false ∧ inSram a 4224 = true ∧ imgLen h = 128 ∧ listNat tok 0 1 =
    lcState s.soc.dev.boot.trans ∧ tokenRow (listNat tok 0 1) t (imgKeyset h) = some false) ∧
  (∃ (dt : Nat) (s : State) (x : Burn) (b : Soc), b = s.soc.after dt ∧ b.dev.boot.burn = some x ∧ x.target < 5) ∧
  (∃ (dt : Nat) (s : State) (b : Soc) (t : Nat), b = s.soc.after dt ∧ t = b.dev.get pgBIST BIST.ST_TARGET ∧
    b.dev.flag pgBIST BIST.ST_BUSY = true ∧ b.dev.runT + 400 * (if b.dev.get pgBIST BIST.RUN_REQ_PROG = 0 then
    runUs t else 0) ≤ b.dev.time) ∧
  (∃ (t : BitVec 4) (s : State), s.soc.answers (pgBIST + 0x40) = true ∧ s.soc.dev.almState = 0 ∧ s.soc.dev.flag
    pgBIST BIST.ST_BUSY = false ∧ s.soc.dev.slice = none ∧ t ≠ 12 ∧ s.soc.dev.get pgLCS LCS.ST_STATE ≠ 4 ∧
    s.soc.dev.flag pgBIST BIST.ST_PROG_VALID = true) :=
  ⟨⟨(0 : Nat),
     (Wf (fun d => { (((d.put pgSEC SEC.ST_BUSY 1).put pgSEC SEC.ARG0 0x10000000).put pgSEC SEC.ARG1 4224) with boot := { d.boot with secCmd := 1 } }) (fun s => { s with mem := memPutNat s.mem 0x10000010 4 128 })),
     _, _, _, rfl, rfl, rfl, by decide +kernel⟩,
   ⟨(Wt fun d => d.put pgLCS LCS.ST_PENDING 1), by decide +kernel⟩,
   ⟨(Wf (fun d => d.put pgLCS LCS.TOKEN_ADDR 0x10000000) (fun s => { s with mem := memPutNat (memPutNat s.mem 0x10000010 4 128) 0x10001001 1 1 })),
     _, _, _, _, rfl, rfl, rfl, rfl, by decide +kernel⟩,
   ⟨(0 : Nat), (Wt fun d => { d with boot := { d.boot with burn := some (⟨3, 0, [], []⟩ : Burn) } }),
     (⟨3, 0, [], []⟩ : Burn), _, rfl, by decide +kernel⟩,
   ⟨(0 : Nat), (Wt fun d => { (d.put pgBIST BIST.ST_BUSY 1).put pgBIST BIST.ST_TARGET 3 with time := 900000 }), _,
     _, rfl, rfl, by decide +kernel⟩,
   ⟨(3 : BitVec 4), (Wt fun d => d.put pgBIST BIST.ST_PROG_VALID 1), by decide +kernel⟩⟩

theorem witness_SecurityCommandsAndTokens_3 :
  (∃ (s : State), s.soc.answers (pgBIST + 0x40) = true ∧ s.soc.dev.almState ≠ 0) :=
  ⟨(Wt fun d => d.put pgALM ALM.ST_STATE 4), by decide +kernel⟩

theorem witness_PortsAndRingFollowTheLink_1 :
  (∃ (dt : Nat) (s : State) (p : Fin 2) (b : Soc), b = s.soc.after dt ∧ b.dev.vPort p = 0 ∧ b.dev.enabled (pgVLK
    p) = true) ∧
  (∃ (dt : Nat) (s : State) (p : Fin 2) (b : Soc), b = s.soc.after dt ∧ b.dev.vPort p = 1) ∧
  (∃ (dt : Nat) (s : State) (p : Fin 2) (b : Soc), b = s.soc.after dt ∧ b.dev.vPort p = 2) ∧
  (∃ (dt : Nat) (s : State) (p : Fin 2) (b : Soc), b = s.soc.after dt ∧ b.dev.vPort p = 3) ∧
  (∃ (dt : Nat) (s : State) (h : VHdr) (ids : List (BitVec 5)) (b : Soc) (m : Nat), b = s.soc.after dt ∧ m =
    ids.foldl (fun (m : Nat) i => m ||| 2 ^ i.toNat) 1 ∧ b.dev.vUp h.port = true ∧ h.src.toNat = 0 ∧ b.dev.vId =
    0) ∧
  (∃ (dt : Nat) (s : State) (h : VHdr) (ids : List (BitVec 5)) (b : Soc) (m : Nat), b = s.soc.after dt ∧ m =
    ids.foldl (fun (m : Nat) i => m ||| 2 ^ i.toNat) 1 ∧ b.dev.vUp h.port = true ∧ h.src.toNat ≠ b.dev.vId ∧
    b.dev.seqAhead h 5 = true ∧ 2 ≤ h.hops.toNat ∧ b.dev.vUp h.onward = true ∧ (∀ i ∈ ids, i.toNat ≠ b.dev.vId)) :=
  ⟨⟨(0 : Nat), (Wt fun d => d.put (pgVLK 1) COM.ST_ENABLED 1), (1 : Fin 2), _, rfl, by decide +kernel⟩,
   ⟨(0 : Nat), (Wt fun d => d.put (pgVLK 1) VLK.PSTAT_STATE 1), (1 : Fin 2), _, rfl, by decide +kernel⟩,
   ⟨(0 : Nat), (Wt fun d => d.put (pgVLK 1) VLK.PSTAT_STATE 2), (1 : Fin 2), _, rfl, by decide +kernel⟩,
   ⟨(0 : Nat), (Wt fun d => d.put (pgVLK 1) VLK.PSTAT_STATE 3), (1 : Fin 2), _, rfl, by decide +kernel⟩,
   ⟨(0 : Nat), (Wt fun d => d |>.put (pgVLK 0) VLK.PSTAT_STATE 2 |>.put (pgVLK 1) VLK.PSTAT_STATE 2),
     (⟨1, 0, 0, false, true, 5, 9⟩ : VHdr), ([(1 : BitVec 5), 3, 4]), _, _, rfl, rfl, by decide +kernel⟩,
   ⟨(0 : Nat),
     (Wt fun d => d |>.put (pgVLK 0) VLK.PSTAT_STATE 2 |>.put (pgVLK 1) VLK.PSTAT_STATE 2 |>.put (pgVLK 0) VLK.ARRAY_CFG_ID 3),
     (⟨1, 0, 0, false, false, 5, 9⟩ : VHdr), ([(1 : BitVec 5), 2]), _, _, rfl, rfl, by decide +kernel⟩⟩

theorem witness_PortsAndRingFollowTheLink_2 :
  (∃ (dt : Nat) (s : State) (h : VHdr) (b : Soc), b = s.soc.after dt ∧ b.dev.frameFor h 4) ∧
  (∃ (dt : Nat) (s : State) (h : VHdr) (b : Soc), b = s.soc.after dt ∧ b.dev.vPort h.port ≠ 0) ∧
  (∃ (s : State), s.soc.answers (pgVLK 0 + 0x120) = true ∧ s.soc.dev.vId = 0 ∧ s.soc.dev.vlk.txn.isOpen = false ∧
    s.soc.dev.vUp 0 = true) ∧
  (∃ (s : State), s.soc.answers (pgVLK 0 + 0x120) = true ∧ s.soc.dev.vId ≠ 0) ∧
  (∃ (p : Fin 2) (s : State), s.soc.answers (pgVLK p + 0x50) = true) :=
  ⟨⟨(0 : Nat), (Wt fun d => d |>.put (pgVLK 1) VLK.PSTAT_STATE 2), (⟨1, 5, 0, false, false, 5, 9⟩ : VHdr), _, rfl,
     by unfold Dev.frameFor; decide +kernel⟩,
   ⟨(0 : Nat), (Wt fun d => d |>.put (pgVLK 1) VLK.PSTAT_STATE 2), (⟨1, 5, 0, false, false, 5, 9⟩ : VHdr), _, rfl,
     by decide +kernel⟩,
   ⟨(Wt fun d => d |>.put (pgVLK 0) VLK.PSTAT_STATE 2), by decide +kernel⟩,
   ⟨(Wt fun d => d |>.put (pgVLK 0) VLK.ARRAY_CFG_ID 3), by decide +kernel⟩,
   ⟨(1 : Fin 2), State.reset, by decide +kernel⟩⟩

theorem witness_ArrayTimeIsTaken_1 :
  (∃ (dt : Nat) (s : State) (b : Soc), b = s.soc.after dt ∧ b.dev.vId = 0 ∧ b.dev.vUp 0 = true ∧ b.dev.vUp 1 =
    true ∧ b.dev.vOn = true ∧ b.dev.vlk.syncT + 40000 ≤ b.dev.time) ∧
  (∃ (dt : Nat) (s : State) (h : VHdr) (tM : BitVec 64) (corr : Word) (frac : BitVec 12) (b : Soc) (x : Int), b =
    s.soc.after dt ∧ x = (tM.toNat * 2500 + corr.toNat + b.dev.get (pgVLK h.port) VLK.LINK_DLY : Int) -
    (b.dev.time * 2500 + frac.toNat : Nat) ∧ b.dev.vUp h.port = true ∧ b.dev.vUp h.onward = false ∧ b.dev.flag
    (pgVLK h.onward) VLK.PSTAT_TIMING = false ∧ b.dev.vId ≠ 0 ∧ h.src.toNat ≠ b.dev.vId ∧ b.dev.seqAhead h 1 =
    true ∧ h.hops.toNat ≤ 32) ∧
  (∃ (dt : Nat) (s : State) (b : Soc), b = s.soc.after dt ∧ b.dev.vlk.dlyT + 4000000 ≤ b.dev.time ∧
    b.dev.vlk.t1.length = 2) ∧
  (∃ (dt : Nat) (s : State) (h : VHdr) (turnaround : Word) (frac : BitVec 5) (t1 : Nat) (b : Soc) (x : Int) (l :
    List Int) (n : Int), b = s.soc.after dt ∧ x = ((32 * b.dev.time + frac.toNat : Nat) - (t1 : Int)) * 2500 -
    32 * (turnaround.toNat : Int) ∧ l = (x :: b.dev.vlk.dly.getD h.port []).take 16 ∧ n = l.foldl (fun a c => a
    + c) 0 ∧ b.dev.vUp h.port = true ∧ h.src.toNat ≠ b.dev.vId ∧ b.dev.seqAhead h 5 = true ∧ b.dev.vlk.t1.getD
    h.port none = some t1 ∧ 0 ≤ n ∧ n < 64 * (l.length : Int) * 2 ^ 31) ∧
  (∃ (dt : Nat) (s : State) (b : Soc), b = s.soc.after dt ∧ b.dev.vId ≠ 0 ∧ b.dev.vOn = true ∧ b.dev.flag (pgVLK
    0) VLK.ST_ISOLATED = false ∧ b.dev.vlk.lastSync + 40000 * b.dev.get (pgVLK 0) VLK.ARRAY_CFG_ISO_TIME ≤
    b.dev.wall) ∧
  (∃ (s : State), s.soc.answers (pgVLK 0 + 0x144) = true ∧ s.soc.dev.flag (pgVLK 0) VLK.ST_ISOLATED = false) :=
  ⟨⟨(0 : Nat),
     (Wt fun d => { (d |>.put (pgVLK 0) VLK.PSTAT_STATE 2 |>.put (pgVLK 1) VLK.PSTAT_STATE 2 |>.put (pgVLK 0) COM.ST_ENABLED 1) with time := 90000000, wall := 90000000, vlk := { d.vlk with syncT := 5 } }),
     _, rfl, by decide +kernel⟩,
   ⟨(0 : Nat),
     (Wt fun d => { (d |>.put (pgVLK 1) VLK.PSTAT_STATE 2 |>.put (pgVLK 0) VLK.ARRAY_CFG_ID 3 |>.put (pgVLK 1) VLK.LINK_DLY 99) with time := 90000000, wall := 90000000, vlk := { d.vlk with good := 3 } }),
     (⟨1, 0, 0, false, false, 5, 9⟩ : VHdr), (0 : BitVec 64), (77 : Word), (5 : BitVec 12), _, _, rfl, rfl,
     by decide +kernel⟩,
   ⟨(0 : Nat),
     (Wt fun d => { (d |>.put (pgVLK 0) VLK.PSTAT_STATE 2 |>.put (pgVLK 1) VLK.PSTAT_STATE 2) with time := 90000000, wall := 90000000, vlk := { d.vlk with dlyT := 5 } }),
     _, rfl, by decide +kernel⟩,
   ⟨(0 : Nat),
     (Wt fun d => { (d |>.put (pgVLK 1) VLK.PSTAT_STATE 2) with time := 90000000, wall := 90000000, vlk := { d.vlk with t1 := [none, some 2879999900], dly := [[], []] } }),
     (⟨1, 5, 0, false, false, 5, 9⟩ : VHdr), (9 : Word), (3 : BitVec 5), (2879999900 : Nat), _, _, _, _, rfl,
     rfl, rfl, rfl, by decide +kernel⟩,
   ⟨(0 : Nat),
     (Wt fun d => { (d |>.put (pgVLK 0) VLK.ARRAY_CFG_ID 3 |>.put (pgVLK 0) COM.ST_ENABLED 1) with time := 90000000, wall := 90000000, vlk := { d.vlk with lastSync := 5 } }),
     _, rfl, by decide +kernel⟩,
   ⟨State.reset, by decide +kernel⟩⟩

theorem witness_ArrayTimeIsTaken_2 :
  (∃ (s : State), s.soc.answers (pgVLK 0 + 0x144) = true ∧ s.soc.dev.flag (pgVLK 0) VLK.ST_ISOLATED = true) :=
  ⟨(Wt fun d => d.put (pgVLK 0) VLK.ST_ISOLATED 1), by decide +kernel⟩

theorem witness_ParticipantsVoteAndHold :
  (∃ (dt : Nat) (s : State) (h : VHdr) (btype : Bool) (stage : BitVec 4) (bound : BitVec 64) (parts : Word) (b :
    Soc), b = s.soc.after dt ∧ b.dev.frameFor h 3 ∧ h.src = 0 ∧ b.dev.vlk.txn.isOpen = false ∧ bitOf parts.toNat
    b.dev.vId = true ∧ b.dev.prepareCheck btype stage.toNat bound.toNat = none) ∧
  (∃ (dt : Nat) (s : State) (h : VHdr) (btype : Bool) (stage : BitVec 4) (bound : BitVec 64) (parts : Word) (c :
    _) (b : Soc), b = s.soc.after dt ∧ b.dev.frameFor h 3 ∧ h.src = 0 ∧ b.dev.vlk.txn.isOpen = false ∧ bitOf
    parts.toNat b.dev.vId = true ∧ b.dev.prepareCheck btype stage.toNat bound.toNat = some c) ∧
  (∃ (dt : Nat) (s : State) (h : VHdr) (txn : Byte) (b : Soc), b = s.soc.after dt ∧ b.dev.frameOfTxn h txn ∧
    b.dev.vlk.txn.isOpen = true ∧ b.dev.vlk.txn.commitT = none) ∧
  (∃ (dt : Nat) (s : State) (h : VHdr) (txn : Byte) (b : Soc), b = s.soc.after dt ∧ b.dev.frameFor h 3 ∧ h.src = 0
    ∧ b.dev.vlk.txn.num ≠ txn.toNat) ∧
  (∃ (dt : Nat) (s : State) (c : _) (b : Soc), b = s.soc.after dt ∧ b.dev.vId ≠ 0 ∧ b.dev.vlk.txn.isOpen = true ∧
    b.dev.vlk.txn.boundT = none ∧ b.dev.vlk.txn.joined = true ∧ b.dev.boundaryNow = (true, false) ∧
    b.dev.vlk.txn.commitT = some c ∧ c < b.dev.time ∧ b.dev.clockHeld = false) ∧
  (∃ (dt : Nat) (s : State) (b : Soc), b = s.soc.after dt ∧ b.dev.vId ≠ 0 ∧ b.dev.vlk.txn.isOpen = true ∧
    b.dev.vlk.txn.boundT = none ∧ b.dev.vlk.txn.joined = true ∧ (b.dev.boundaryNow.2 = true ∨
    (b.dev.boundaryNow.1 = true ∧ b.dev.vlk.txn.commitT = none))) :=
  ⟨⟨(0 : Nat),
     (Wt fun d => { (d |>.put (pgVLK 1) VLK.PSTAT_STATE 2 |>.put (pgVLK 0) VLK.ARRAY_CFG_ID 3 |>.put (pgVLK 0) VLK.ST_ALIGNED 1) with time := 90000000, wall := 90000000, vlk := { d.vlk with good := 0 } }),
     (⟨1, 0, 3, false, false, 5, 9⟩ : VHdr), false, (2 : BitVec 4), (95000000 : BitVec 64), (0xF : Word), _,
     rfl, by unfold Dev.frameFor; decide +kernel⟩,
   ⟨(0 : Nat),
     (Wt fun d => { (d |>.put (pgVLK 1) VLK.PSTAT_STATE 2 |>.put (pgVLK 0) VLK.ARRAY_CFG_ID 3 |>.put (pgVLK 0) VLK.ST_ALIGNED 1) with time := 90000000, wall := 90000000, vlk := { d.vlk with good := 0 } }),
     (⟨1, 0, 3, false, false, 5, 9⟩ : VHdr), false, (2 : BitVec 4), (5 : BitVec 64), (0xF : Word), Err.VLK_LATE,
     _, rfl, by unfold Dev.frameFor; decide +kernel⟩,
   ⟨(0 : Nat),
     (Wt fun d => { (d |>.put (pgVLK 1) VLK.PSTAT_STATE 2 |>.put (pgVLK 0) VLK.ARRAY_CFG_ID 3 |>.put (pgVLK 0) VLK.ST_ALIGNED 1) with time := 90000000, wall := 90000000, vlk := { d.vlk with txn := { d.vlk.txn with num := 7, joined := true, isOpen := true } } }),
     (⟨1, 0, 3, false, false, 5, 9⟩ : VHdr), (7 : Byte), _, rfl,
     by unfold Dev.frameOfTxn Dev.frameFor; decide +kernel⟩,
   ⟨(0 : Nat),
     (Wt fun d => { (d |>.put (pgVLK 1) VLK.PSTAT_STATE 2 |>.put (pgVLK 0) VLK.ARRAY_CFG_ID 3 |>.put (pgVLK 0) VLK.ST_ALIGNED 1) with time := 90000000, wall := 90000000, vlk := { d.vlk with txn := { d.vlk.txn with num := 7, joined := true, isOpen := true } } }),
     (⟨1, 0, 3, false, false, 5, 9⟩ : VHdr), (8 : Byte), _, rfl, by unfold Dev.frameFor; decide +kernel⟩,
   ⟨(0 : Nat),
     (Wt fun d => { (d |>.put (pgVLK 1) VLK.PSTAT_STATE 2 |>.put (pgVLK 0) VLK.ARRAY_CFG_ID 3 |>.put (pgVLK 0) VLK.ST_ALIGNED 1) with time := 90000000, wall := 90000000, vlk := { d.vlk with txn := { d.vlk.txn with num := 7, joined := true, isOpen := true, commitT := some 5, bound := 90000000 } } }),
     (5 : Nat), _, rfl, by decide +kernel⟩,
   ⟨(0 : Nat),
     (Wt fun d => { (d |>.put (pgVLK 1) VLK.PSTAT_STATE 2 |>.put (pgVLK 0) VLK.ARRAY_CFG_ID 3 |>.put (pgVLK 0) VLK.ST_ALIGNED 1) with time := 90000000, wall := 90000000, vlk := { d.vlk with txn := { d.vlk.txn with num := 7, joined := true, isOpen := true, bound := 90000000 } } }),
     _, rfl, by decide +kernel⟩⟩

theorem witness_TheManagerDecides_1 :
  (∃ (btype : Bool) (stage : BitVec 4) (s : State) (parts : Nat) (bound : Nat), parts = s.soc.dev.get (pgVLK 0)
    VLK.PARTS ∧ bound = (if btype then s.soc.dev.get (pgVLK 0) VLK.BOUND_LO else s.soc.dev.get (pgVLK 0)
    VLK.BOUND_LO + 2 ^ 32 * s.soc.dev.get (pgVLK 0) VLK.BOUND_HI) ∧ s.soc.answers (pgVLK 0 + 0x120) = true ∧
    s.soc.dev.vId = 0 ∧ s.soc.dev.prepareCheck btype stage.toNat bound = none ∧ bitOf parts 0 = true ∧ parts &&&
    s.soc.dev.get (pgVLK 0) VLK.MEMBERS = parts) ∧
  (∃ (btype : Bool) (s : State) (parts : Nat) (bound : Nat), parts = s.soc.dev.get (pgVLK 0) VLK.PARTS ∧ bound =
    (if btype then s.soc.dev.get (pgVLK 0) VLK.BOUND_LO else s.soc.dev.get (pgVLK 0) VLK.BOUND_LO + 2 ^ 32 *
    s.soc.dev.get (pgVLK 0) VLK.BOUND_HI) ∧ s.soc.answers (pgVLK 0 + 0x120) = true ∧ s.soc.dev.vId = 0 ∧
    s.soc.dev.vlk.txn.isOpen = false ∧ parts &&& s.soc.dev.get (pgVLK 0) VLK.MEMBERS ≠ parts) ∧
  (∃ (btype : Bool) (s : State) (parts : Nat) (bound : Nat), parts = s.soc.dev.get (pgVLK 0) VLK.PARTS ∧ bound =
    (if btype then s.soc.dev.get (pgVLK 0) VLK.BOUND_LO else s.soc.dev.get (pgVLK 0) VLK.BOUND_LO + 2 ^ 32 *
    s.soc.dev.get (pgVLK 0) VLK.BOUND_HI) ∧ s.soc.answers (pgVLK 0 + 0x120) = true ∧ s.soc.dev.vId ≠ 0) ∧
  (∃ (btype : Bool) (s : State) (parts : Nat) (bound : Nat), parts = s.soc.dev.get (pgVLK 0) VLK.PARTS ∧ bound =
    (if btype then s.soc.dev.get (pgVLK 0) VLK.BOUND_LO else s.soc.dev.get (pgVLK 0) VLK.BOUND_LO + 2 ^ 32 *
    s.soc.dev.get (pgVLK 0) VLK.BOUND_HI) ∧ s.soc.answers (pgVLK 0 + 0x120) = true ∧ s.soc.dev.vId = 0 ∧
    s.soc.dev.vlk.txn.isOpen = true) ∧
  (∃ (dt : Nat) (s : State) (h : VHdr) (txn : Byte) (b : Soc) (r : Nat) (late : Bool), b = s.soc.after dt ∧ r =
    b.dev.get (pgVLK 0) VLK.READY_MAP ||| 2 ^ h.src.toNat ∧ late = (!b.dev.vlk.txn.angle && decide
    (b.dev.vlk.txn.bound < b.dev.time + 19624)) ∧ b.dev.ackOfTxn h txn ∧ b.dev.get (pgVLK 0) VLK.TXN_STAT_STATE
    = 1 ∧ r &&& b.dev.vlk.txn.parts ≠ b.dev.vlk.txn.parts) ∧
  (∃ (dt : Nat) (s : State) (h : VHdr) (txn : Byte) (late : Bool) (b : Soc) (r : Nat), b = s.soc.after dt ∧ r =
    b.dev.get (pgVLK 0) VLK.READY_MAP ||| 2 ^ h.src.toNat ∧ b.dev.ackOfTxn h txn ∧ b.dev.get (pgVLK 0)
    VLK.TXN_STAT_STATE = 1 ∧ late = (!b.dev.vlk.txn.angle && decide (b.dev.vlk.txn.bound < b.dev.time + 19624))
    ∧ r &&& b.dev.vlk.txn.parts = b.dev.vlk.txn.parts ∧ late = false) :=
  ⟨⟨false, (2 : BitVec 4),
     (Wt fun d => { (d |>.put (pgVLK 0) VLK.PSTAT_STATE 2 |>.put (pgVLK 1) VLK.PSTAT_STATE 2 |>.put (pgVLK 0) VLK.PARTS 7 |>.put (pgVLK 0) VLK.BOUND_LO 95000000 |>.put (pgVLK 0) VLK.MEMBERS 15) with time := 90000000, wall := 90000000, vlk := { d.vlk with good := 0 } }),
     _, _, rfl, rfl, by decide +kernel⟩,
   ⟨false, (Wt fun d => d.put (pgVLK 0) VLK.PARTS 7 |>.put (pgVLK 0) VLK.MEMBERS 1), _, _, rfl, rfl,
     by decide +kernel⟩,
   ⟨true, (Wt fun d => d |>.put (pgVLK 0) VLK.ARRAY_CFG_ID 3), _, _, rfl, rfl, by decide +kernel⟩,
   ⟨true,
     (Wt fun d => { (d |>.put (pgVLK 0) VLK.PSTAT_STATE 2 |>.put (pgVLK 1) VLK.PSTAT_STATE 2 |>.put (pgVLK 0) VLK.PARTS 7 |>.put (pgVLK 0) VLK.BOUND_LO 95000000 |>.put (pgVLK 0) VLK.MEMBERS 15) |>.put (pgSTG 2) COM.COMMIT_PENDING 1 |>.put (pgVLK 0) VLK.TXN_STAT_STATE 1 with time := 90000000, wall := 90000000, vlk := { d.vlk with txn := { d.vlk.txn with num := 7, joined := true, isOpen := true, parts := 7, armed := [pgSTG 2] } } }),
     _, _, rfl, rfl, by decide +kernel⟩,
   ⟨(0 : Nat),
     (Wt fun d => { (d |>.put (pgVLK 0) VLK.PSTAT_STATE 2 |>.put (pgVLK 1) VLK.PSTAT_STATE 2 |>.put (pgVLK 0) VLK.PARTS 7 |>.put (pgVLK 0) VLK.BOUND_LO 95000000 |>.put (pgVLK 0) VLK.MEMBERS 15) |>.put (pgVLK 0) VLK.TXN_STAT_STATE 1 with time := 90000000, wall := 90000000, vlk := { d.vlk with txn := { d.vlk.txn with num := 7, joined := true, isOpen := true, parts := 7, bound := 95000000 } } }),
     (⟨1, 2, 0, false, false, 5, 9⟩ : VHdr), (7 : Byte), _, _, _, rfl, rfl, rfl,
     by unfold Dev.ackOfTxn Dev.frameFor; decide +kernel⟩,
   ⟨(0 : Nat),
     (Wt fun d => { (d |>.put (pgVLK 0) VLK.PSTAT_STATE 2 |>.put (pgVLK 1) VLK.PSTAT_STATE 2 |>.put (pgVLK 0) VLK.PARTS 7 |>.put (pgVLK 0) VLK.BOUND_LO 95000000 |>.put (pgVLK 0) VLK.MEMBERS 15) |>.put (pgVLK 0) VLK.TXN_STAT_STATE 1 |>.put (pgVLK 0) VLK.READY_MAP 3 with time := 90000000, wall := 90000000, vlk := { d.vlk with txn := { d.vlk.txn with num := 7, joined := true, isOpen := true, parts := 7, bound := 95000000 } } }),
     (⟨1, 2, 0, false, false, 5, 9⟩ : VHdr), (7 : Byte), false, _, _, rfl, rfl,
     by unfold Dev.ackOfTxn Dev.frameFor; decide +kernel⟩⟩

theorem witness_TheManagerDecides_2 :
  (∃ (dt : Nat) (s : State) (h : VHdr) (txn : Byte) (b : Soc) (r : Nat) (late : Bool), b = s.soc.after dt ∧ r =
    b.dev.get (pgVLK 0) VLK.READY_MAP ||| 2 ^ h.src.toNat ∧ late = (!b.dev.vlk.txn.angle && decide
    (b.dev.vlk.txn.bound < b.dev.time + 19624)) ∧ b.dev.ackOfTxn h txn ∧ b.dev.get (pgVLK 0) VLK.TXN_STAT_STATE
    = 1 ∧ r &&& b.dev.vlk.txn.parts = b.dev.vlk.txn.parts ∧ late = true) ∧
  (∃ (dt : Nat) (s : State) (h : VHdr) (txn : Byte) (b : Soc) (r : Nat) (late : Bool), b = s.soc.after dt ∧ r =
    b.dev.get (pgVLK 0) VLK.READY_MAP ||| 2 ^ h.src.toNat ∧ late = (!b.dev.vlk.txn.angle && decide
    (b.dev.vlk.txn.bound < b.dev.time + 19624)) ∧ b.dev.ackOfTxn h txn ∧ b.dev.get (pgVLK 0) VLK.TXN_STAT_STATE
    = 1 ∧ (∀ p ∈ b.dev.vlk.txn.armed, p % 4096 = 0)) ∧
  (∃ (dt : Nat) (s : State) (b : Soc), b = s.soc.after dt ∧ b.dev.vId = 0 ∧ b.dev.vlk.txn.isOpen = true ∧
    b.dev.get (pgVLK 0) VLK.TXN_STAT_STATE = 1 ∧ b.dev.vlk.txn.voteT + 400 * b.dev.get (pgVLK 0)
    VLK.TIMERS_T_VOTE ≤ b.dev.time) ∧
  (∃ (dt : Nat) (s : State) (t : _) (b : Soc), b = s.soc.after dt ∧ b.dev.vId = 0 ∧ b.dev.vlk.txn.isOpen = true ∧
    b.dev.get (pgVLK 0) VLK.TXN_STAT_STATE = 2 ∧ b.dev.vlk.txn.boundT = some t ∧ t + 400 * b.dev.get (pgVLK 0)
    VLK.TIMERS_T_ACK ≤ b.dev.time ∧ b.dev.vlk.txn.applied < 2 ^ 32) :=
  ⟨⟨(0 : Nat),
     (Wt fun d => { (d |>.put (pgVLK 0) VLK.PSTAT_STATE 2 |>.put (pgVLK 1) VLK.PSTAT_STATE 2 |>.put (pgVLK 0) VLK.PARTS 7 |>.put (pgVLK 0) VLK.BOUND_LO 95000000 |>.put (pgVLK 0) VLK.MEMBERS 15) |>.put (pgVLK 0) VLK.TXN_STAT_STATE 1 |>.put (pgVLK 0) VLK.READY_MAP 3 with time := 90000000, wall := 90000000, vlk := { d.vlk with txn := { d.vlk.txn with num := 7, joined := true, isOpen := true, parts := 7, bound := 90000005 } } }),
     (⟨1, 2, 0, false, false, 5, 9⟩ : VHdr), (7 : Byte), _, _, _, rfl, rfl, rfl,
     by unfold Dev.ackOfTxn Dev.frameFor; decide +kernel⟩,
   ⟨(0 : Nat),
     (Wt fun d => { (d |>.put (pgVLK 0) VLK.PSTAT_STATE 2 |>.put (pgVLK 1) VLK.PSTAT_STATE 2 |>.put (pgVLK 0) VLK.PARTS 7 |>.put (pgVLK 0) VLK.BOUND_LO 95000000 |>.put (pgVLK 0) VLK.MEMBERS 15) |>.put (pgVLK 0) VLK.TXN_STAT_STATE 1 |>.put (pgSTG 2) COM.COMMIT_PENDING 1 with time := 90000000, wall := 90000000, vlk := { d.vlk with txn := { d.vlk.txn with num := 7, joined := true, isOpen := true, parts := 7, bound := 95000000, armed := [pgSTG 2] } } }),
     (⟨1, 2, 0, false, false, 5, 9⟩ : VHdr), (7 : Byte), _, _, _, rfl, rfl, rfl,
     by unfold Dev.ackOfTxn Dev.frameFor; decide +kernel⟩,
   ⟨(0 : Nat),
     (Wt fun d => { (d |>.put (pgVLK 0) VLK.PSTAT_STATE 2 |>.put (pgVLK 1) VLK.PSTAT_STATE 2 |>.put (pgVLK 0) VLK.PARTS 7 |>.put (pgVLK 0) VLK.BOUND_LO 95000000 |>.put (pgVLK 0) VLK.MEMBERS 15) |>.put (pgVLK 0) VLK.TXN_STAT_STATE 1 |>.put (pgSTG 2) COM.COMMIT_PENDING 1 with time := 90000000, wall := 90000000, vlk := { d.vlk with txn := { d.vlk.txn with num := 7, joined := true, isOpen := true, parts := 7, voteT := 5, armed := [pgSTG 2] } } }),
     _, rfl, by decide +kernel⟩,
   ⟨(0 : Nat),
     (Wt fun d => { (d |>.put (pgVLK 0) VLK.PSTAT_STATE 2 |>.put (pgVLK 1) VLK.PSTAT_STATE 2 |>.put (pgVLK 0) VLK.PARTS 7 |>.put (pgVLK 0) VLK.BOUND_LO 95000000 |>.put (pgVLK 0) VLK.MEMBERS 15) |>.put (pgVLK 0) VLK.TXN_STAT_STATE 2 with time := 90000000, wall := 90000000, vlk := { d.vlk with txn := { d.vlk.txn with num := 7, joined := true, isOpen := true, parts := 7, boundT := some 5, applied := 3 } } }),
     (5 : Nat), _, rfl, by decide +kernel⟩⟩

theorem witness_ContextsMoveOverTheLink_1 :
  (∃ (ctx : BitVec 6) (target : BitVec 5) (s : State), s.soc.answers (pgVLK 0 + 0x148) = true ∧
    s.soc.dev.vlk.txn.isOpen = false ∧ s.soc.dev.flag (pgVLK 0) VLK.PLACE_STAT_BUSY = false ∧ target.toNat ≠
    s.soc.dev.vId ∧ s.soc.dev.placeable ctx.toNat = true ∧ bitOf (s.soc.dev.get (pgVLK 0) VLK.MEMBERS)
    target.toNat = true) ∧
  (∃ (s : State), s.soc.answers (pgVLK 0 + 0x148) = true ∧ (s.soc.dev.vlk.txn.isOpen = true ∨ s.soc.dev.flag
    (pgVLK 0) VLK.PLACE_STAT_BUSY = true)) ∧
  (∃ (dt : Nat) (s : State) (x : _) (t : _) (b : Soc), b = s.soc.after dt ∧ b.dev.vlk.place = some (x, t) ∧ t ≠
    b.dev.vId ∧ x < 64 ∧ b.dev.flagAt pgCTX CTX.CSTAT_RUNNING x = false ∧ b.dev.vUp 0 = true) ∧
  (∃ (dt : Nat) (s : State) (ctx : BitVec 6) (a : AwayCtx) (b : Soc), b = s.soc.after dt ∧ b.dev.awayAt ctx.toNat
    = some a ∧ a.lost = false) ∧
  (∃ (dt : Nat) (s : State) (h : VHdr) (home : Byte) (ctx : Byte) (b : Soc), b = s.soc.after dt ∧ b.dev.frameFor h
    2 ∧ home.toNat = b.dev.vId ∧ (b.dev.awayAt ctx.toNat).isSome = true) ∧
  (∃ (dt : Nat) (s : State) (h : VHdr) (home : Byte) (b : Soc), b = s.soc.after dt ∧ b.dev.frameFor h 2 ∧
    home.toNat ≠ b.dev.vId) :=
  ⟨⟨(1 : BitVec 6), (2 : BitVec 5),
     (Wt fun d => { (d |>.put (pgVLK 0) VLK.PSTAT_STATE 2 |>.put (pgVLK 1) VLK.PSTAT_STATE 2 |>.put (pgVLK 0) VLK.PARTS 7 |>.put (pgVLK 0) VLK.BOUND_LO 95000000 |>.put (pgVLK 0) VLK.MEMBERS 15) with adm := some { tSet with loops := [{ tLoop with outs := [0x0C * 1024 + 4] }] } }),
     by decide +kernel⟩,
   ⟨(Wt fun d => d.put (pgVLK 0) VLK.PLACE_STAT_BUSY 1), by decide +kernel⟩,
   ⟨(0 : Nat),
     (Wt fun d => { { (d |>.put (pgVLK 0) VLK.PSTAT_STATE 2 |>.put (pgVLK 1) VLK.PSTAT_STATE 2 |>.put (pgVLK 0) VLK.PARTS 7 |>.put (pgVLK 0) VLK.BOUND_LO 95000000 |>.put (pgVLK 0) VLK.MEMBERS 15) with adm := some { tSet with loops := [{ tLoop with outs := [0x0C * 1024 + 4] }] } } with time := 90000000, wall := 90000000, vlk := { d.vlk with place := some (1, 2) } }),
     (1 : Nat), (2 : Nat), _, rfl, by decide +kernel⟩,
   ⟨(0 : Nat),
     (Wt fun d => { { (d |>.put (pgVLK 0) VLK.PSTAT_STATE 2 |>.put (pgVLK 1) VLK.PSTAT_STATE 2 |>.put (pgVLK 0) VLK.PARTS 7 |>.put (pgVLK 0) VLK.BOUND_LO 95000000 |>.put (pgVLK 0) VLK.MEMBERS 15) with adm := some { tSet with loops := [{ tLoop with outs := [0x0C * 1024 + 4] }] } } with time := 90000000, wall := 90000000, vlk := { d.vlk with away := [(⟨1, 2, false⟩ : AwayCtx)] } }),
     (1 : BitVec 6), (⟨1, 2, false⟩ : AwayCtx), _, rfl, by decide +kernel⟩,
   ⟨(0 : Nat),
     (Wt fun d => { { (d |>.put (pgVLK 0) VLK.PSTAT_STATE 2 |>.put (pgVLK 1) VLK.PSTAT_STATE 2 |>.put (pgVLK 0) VLK.PARTS 7 |>.put (pgVLK 0) VLK.BOUND_LO 95000000 |>.put (pgVLK 0) VLK.MEMBERS 15) with adm := some { tSet with loops := [{ tLoop with outs := [0x0C * 1024 + 4] }] } } with time := 90000000, wall := 90000000, vlk := { d.vlk with away := [(⟨1, 2, false⟩ : AwayCtx)] } }),
     (⟨1, 2, 0, false, false, 5, 9⟩ : VHdr), (0 : Byte), (1 : Byte), _, rfl,
     by unfold Dev.frameFor; decide +kernel⟩,
   ⟨(0 : Nat), (Wt fun d => d |>.put (pgVLK 1) VLK.PSTAT_STATE 2), (⟨1, 2, 0, false, false, 5, 9⟩ : VHdr),
     (9 : Byte), _, rfl, by unfold Dev.frameFor; decide +kernel⟩⟩

theorem witness_ContextsMoveOverTheLink_2 :
  (∃ (dt : Nat) (s : State) (h : VHdr) (old : List Byte) (b : Soc), b = s.soc.after dt ∧ b.dev.frameFor h 2 ∧
    (h.src.toNat, old) ∈ b.dev.vlk.guest.take 1 ∧ old.length < 4096) :=
  ⟨(0 : Nat),
     (Wt fun d => { (d |>.put (pgVLK 1) VLK.PSTAT_STATE 2) with time := 90000000, wall := 90000000, vlk := { d.vlk with guest := [(2, [3])] } }),
     (⟨1, 2, 0, false, false, 5, 9⟩ : VHdr), ([(3 : Byte)]), _, rfl, by unfold Dev.frameFor; decide +kernel⟩

theorem witness_HostAccessesActAndAnswer_1 :
  (∃ (s : State), s.soc.reaches (.bar0 0) = true) ∧
  (∃ (s : State), s.soc.reaches (.xspi 0) = true) ∧
  (∃ (s : State) (a : Word) (n : BitVec 9) (k : Nat), s.soc.reaches (.xspi a) = true ∧ n.toNat = 4 * k ∧ a.toNat %
    4 = 0 ∧ s.soc.dev.memOn a.toNat = true ∧ (∀ i < k, s.soc.bad (a.toNat + 4 * i) = false) ∧ inMemory a.toNat
    (4 * k) = true) ∧
  (∃ (s : State) (a : Word) (n : BitVec 9) (k : Nat), s.soc.reaches (.xspi a) = true ∧ n.toNat = 4 * k ∧ a.toNat %
    4 = 0 ∧ s.soc.dev.memOn a.toNat = true ∧ (∀ i < k, s.soc.bad (a.toNat + 4 * i) = false) ∧ inSram a.toNat (4
    * k) = true) ∧
  (∃ (s : State) (a : Word), s.soc.reaches (.xspi a) = true ∧ inDram a.toNat 1 = true) ∧
  (∃ (s : State) (a : Word) (n : BitVec 9), s.soc.reaches (.xspi a) = true ∧ n.toNat % 4 ≠ 0) :=
  ⟨⟨State.reset, by decide +kernel⟩,
   ⟨(Wt fun d => d.put pgLCS LCS.BOARD 0x100000), by decide +kernel⟩,
   ⟨(Wf (fun d => d.put pgLCS LCS.BOARD 0x100000) (fun s => { s with mem := memPutNat s.mem 0x10000020 8 0x1122334455667788 })),
     (0x1000001C : Word), (12 : BitVec 9), (3 : Nat), by decide +kernel, by decide +kernel,
     Nat.eq_of_beq_eq_true (by decide +kernel), by decide +kernel, by decide +kernel, by decide +kernel⟩,
   ⟨(Wf (fun d => d.put pgLCS LCS.BOARD 0x100000) (fun s => { s with mem := memPutNat s.mem 0x10000020 8 0x1122334455667788 })),
     (0x1000001C : Word), (12 : BitVec 9), (3 : Nat), by decide +kernel, by decide +kernel,
     Nat.eq_of_beq_eq_true (by decide +kernel), by decide +kernel, by decide +kernel, by decide +kernel⟩,
   ⟨(Wt fun d => d.put pgLCS LCS.BOARD 0x100000), (0x80000000 : Word), by decide +kernel⟩,
   ⟨(Wt fun d => d.put pgLCS LCS.BOARD 0x100000), (0x10000000 : Word), (13 : BitVec 9), by decide +kernel⟩⟩

theorem witness_HostAccessesActAndAnswer_2 :
  (∃ (s : State) (a : Word) (bytes : List Byte) (k : Nat), s.soc.reaches (.xspi a) = true ∧ bytes.length = 4 * k ∧
    a.toNat % 4 = 0 ∧ inMemory a.toNat (4 * k) = true ∧ s.soc.dev.memOn a.toNat = true ∧ (∀ i < k,
    s.soc.dev.memRefusal (a.toNat + 4 * i) = none ∧ s.soc.dev.limitWord (a.toNat + 4 * i) = false)) ∧
  (∃ (s : State) (a : Word) (bytes : List Byte) (k : Nat) (pg : _) (c : _), s.soc.reaches (.xspi a) = true ∧
    bytes.length = 4 * k ∧ a.toNat % 4 = 0 ∧ inMemory a.toNat (4 * k) = true ∧ s.soc.dev.memOn a.toNat = true ∧
    k = 1 ∧ s.soc.dev.limitWord a.toNat = false ∧ s.soc.dev.memRefusal a.toNat = some (pg, c)) ∧
  (∃ (s : State) (at_ : HostAddr) (a : Nat), s.soc.reaches at_ = true ∧ at_.target = .mem a ∧ s.soc.dev.memOn (a /
    4 * 4) = true ∧ s.soc.bad (a / 4 * 4) = false) ∧
  (∃ (s : State) (at_ : HostAddr) (a : Nat), s.soc.reaches at_ = true ∧ at_.target = .mem a ∧ s.soc.dev.memOn (a /
    4 * 4) = true ∧ s.soc.bad (a / 4 * 4) = true) ∧
  (∃ (s : State), s.soc.answers TimeReg.counter.address = true) ∧
  (∃ (s : State) (p : Fin 2), s.soc.answers (TimeReg.gptp p).address = true) :=
  ⟨⟨(Wf (fun d => d.put pgLCS LCS.BOARD 0x100000) (fun s => { s with mem := memPutNat s.mem 0x10000020 8 0x1122334455667788 })),
     (0x1000001C : Word), ([(1 : Byte), 2, 3, 4, 5, 6, 7, 8]), (2 : Nat), by decide +kernel, by decide +kernel,
     Nat.eq_of_beq_eq_true (by decide +kernel), by decide +kernel, by decide +kernel, by decide +kernel⟩,
   ⟨(Wf (fun d => d.put pgLCS LCS.BOARD 0x100000) (fun s => { s with mem := memPutNat s.mem 0x10000020 8 0x1122334455667788 })),
     (0x10700000 : Word), ([(1 : Byte), 2, 3, 4]), (1 : Nat),
     (((Wf (fun d => d.put pgLCS LCS.BOARD 0x100000) (fun s => { s with mem := memPutNat s.mem 0x10000020 8 0x1122334455667788 })).soc.dev.memRefusal 0x10700000).getD (0,0)).1,
     (((Wf (fun d => d.put pgLCS LCS.BOARD 0x100000) (fun s => { s with mem := memPutNat s.mem 0x10000020 8 0x1122334455667788 })).soc.dev.memRefusal 0x10700000).getD (0,0)).2,
     by decide +kernel, by decide +kernel, Nat.eq_of_beq_eq_true (by decide +kernel), by decide +kernel,
     by decide +kernel, by decide +kernel, by decide +kernel, by decide +kernel⟩,
   ⟨(Wf (fun d => d) (fun s => { s with mem := memPutNat s.mem 0x10000020 8 0x1122334455667788, ue := [] })),
     (HostAddr.bar0 0x800022), (0x10000022 : Nat), by decide +kernel⟩,
   ⟨(Wf (fun d => d) (fun s => { s with mem := memPutNat s.mem 0x10000020 8 0x1122334455667788, ue := [0x10000020] })),
     (HostAddr.bar0 0x800022), (0x10000022 : Nat), by decide +kernel⟩,
   ⟨State.reset, by decide +kernel⟩,
   ⟨State.reset, (1 : Fin 2), by decide +kernel⟩⟩

theorem witness_HostAccessesActAndAnswer_3 :
  (∃ (j : Fin 64) (w : Word) (s : State), s.soc.answers (pgPCIE + 0x100 + 4 * j.val) = true ∧ (∀ k < 4, bitOf
    w.toNat (8 * k + 7) = true → wordField w (8 * k) 6 = 0 → j.val = 0 ∧ k = 0)) ∧
  (∃ (j : Fin 64) (w : Word) (s : State) (k : Nat), s.soc.answers (pgPCIE + 0x100 + 4 * j.val) = true ∧ k < 4 ∧
    bitOf w.toNat (8 * k + 7) = true ∧ wordField w (8 * k) 6 = 0 ∧ ¬ (j.val = 0 ∧ k = 0)) ∧
  (∃ (j : Fin 2) (s : State), s.soc.answers (pgPCIE + 0x40 + 4 * j.val) = true) ∧
  (∃ (dt : Nat) (s : State) (b : Soc), b = s.soc.after dt ∧ b.dev.hostXspi = false ∧ b.dev.inReset 11 = false ∧
    b.dev.gated .pcie 0 = false) ∧
  (∃ (dt : Nat) (s : State) (b : Soc), b = s.soc.after dt ∧ b.dev.fwRuns = true ∧ b.dev.flag pgBOOT
    BOOT.ST_NO_DRAM = false) :=
  ⟨⟨(63 : Fin 64), (0x8181C3FF : Word), State.reset, by decide +kernel⟩,
   ⟨(63 : Fin 64), (0x80000000 : Word), State.reset, (3 : Nat), by decide +kernel⟩,
   ⟨(1 : Fin 2), (Wt fun d => (d.putAt pgPCIE PCIE.VLATCH 1 15)), by decide +kernel⟩,
   ⟨(0 : Nat), State.reset, _, rfl, by decide +kernel⟩,
   ⟨(0 : Nat), (Wt fun d => d.put pgBOOT BOOT.ST_STEP 8), _, rfl, by decide +kernel⟩⟩

theorem witness_FramesAndFlashAreServed_1 :
  (∃ (dt : Nat) (s : State) (p : Fin 2) (f : List Byte) (fcsOk : Bool) (b : Soc), b = s.soc.after dt ∧
    b.dev.enabled (pgETH p) = true ∧ b.dev.gated .eth p = false ∧ b.dev.inReset 13 = false ∧ (fcsOk = false ∨
    f.length < 60 ∨ 1518 < f.length)) ∧
  (∃ (dt : Nat) (s : State) (p : Fin 2) (f : List Byte) (fcsOk : Bool) (sync : Option (BitVec 64 × Word)) (o : _)
    (r : _) (b : Soc), b = s.soc.after dt ∧ b.dev.enabled (pgETH p) = true ∧ b.dev.gated .eth p = false ∧
    b.dev.inReset 13 = false ∧ fcsOk = true ∧ 60 ≤ f.length ∧ f.length ≤ 1518 ∧ b.dev.ethSafe p = false ∧
    (etherType f).1 = 0x88F7 ∧ sync = some (o, r) ∧ b.dev.fwRuns = true) ∧
  (∃ (dt : Nat) (s : State) (p : Fin 2) (f : List Byte) (fcsOk : Bool) (b : Soc) (hd : _) (a : _) (buf : _) (own :
    _), b = s.soc.after dt ∧ hd = b.dev.get (pgETH p) ETH.RX_HEAD ∧ a = b.dev.get (pgETH p) ETH.RX_RING + 16 *
    hd ∧ buf = b.word a ∧ own = (inRing a 16 && bitOf (memGet b.mem (a + 6)).toNat 7 && inRing buf 1536) ∧
    b.dev.enabled (pgETH p) = true ∧ b.dev.gated .eth p = false ∧ b.dev.inReset 13 = false ∧ fcsOk = true ∧ 60 ≤
    f.length ∧ f.length ≤ 1518 ∧ b.dev.ethSafe p = false ∧ (etherType f).1 ≠ 0x88F7 ∧ (etherType f).1 ≠ 0x8808 ∧
    b.dev.pwrMode ≠ 2 ∧ f.take 6 = b.dev.mac (pgETH p) ∧ own = true ∧ b.dev.flag pgSEC SEC.ST_CFG_VERIFIED =
    false ∧ (buf + f.length ≤ a ∨ a + 16 ≤ buf)) ∧
  (∃ (dt : Nat) (s : State) (p : Fin 2) (f : List Byte) (fcsOk : Bool) (b : Soc) (hd : _) (a : _) (buf : _) (own :
    _), b = s.soc.after dt ∧ hd = b.dev.get (pgETH p) ETH.RX_HEAD ∧ a = b.dev.get (pgETH p) ETH.RX_RING + 16 *
    hd ∧ buf = b.word a ∧ own = (inRing a 16 && bitOf (memGet b.mem (a + 6)).toNat 7 && inRing buf 1536) ∧
    b.dev.enabled (pgETH p) = true ∧ b.dev.gated .eth p = false ∧ b.dev.inReset 13 = false ∧ fcsOk = true ∧ 60 ≤
    f.length ∧ f.length ≤ 1518 ∧ b.dev.ethSafe p = false ∧ (etherType f).1 ≠ 0x88F7 ∧ (etherType f).1 ≠ 0x8808 ∧
    b.dev.pwrMode ≠ 2 ∧ f.take 6 = b.dev.mac (pgETH p) ∧ own = false) ∧
  (∃ (dt : Nat) (s : State) (p : Fin 2) (b : Soc) (n : Nat) (a : Nat), b = s.soc.after dt ∧ n =
    (b.dev.eth[p]).txNext ∧ a = b.dev.get (pgETH p) ETH.TX_RING + 16 * n ∧ b.dev.enabled (pgETH p) = true ∧
    b.dev.gated .eth p = false ∧ b.dev.inReset 13 = false ∧ n ≠ b.dev.get (pgETH p) ETH.TX_TAIL ∧ inRing a 16 =
    true ∧ b.dev.flag pgSEC SEC.ST_CFG_VERIFIED = false ∧ bitOf (memGet b.mem (a + 6)).toNat 7 = true) ∧
  (∃ (dt : Nat) (s : State) (p : Fin 2) (b : Soc), b = s.soc.after dt ∧ b.dev.flag (pgETH p) ETH.ST_PTP_LOCKED =
    true ∧ b.dev.fwRuns = true) :=
  ⟨⟨(0 : Nat), (Wt fun d => (d.put (pgETH 1) COM.ST_ENABLED 1)), (1 : Fin 2), (List.replicate 30 (0 : Byte)), true,
     _, rfl, by decide +kernel⟩,
   ⟨(0 : Nat), (Wt fun d => (d.put (pgETH 1) COM.ST_ENABLED 1) |>.put pgBOOT BOOT.ST_STEP 8), (1 : Fin 2),
     (List.replicate 12 (0 : Byte) ++ [0x88, 0xF7] ++ List.replicate 60 0), true,
     (some (5, 7) : Option (BitVec 64 × Word)), (5 : BitVec 64), (7 : Word), _, rfl, by decide +kernel⟩,
   ⟨(0 : Nat),
     (Wf (fun d => (d.put (pgETH 1) COM.ST_ENABLED 1) |>.put (pgETH 1) ETH.RX_RING 0x10002000) (fun s => { s with mem := memPutNat (memPutNat s.mem 0x10002000 4 0x10003000) 0x10002006 1 128 })),
     (1 : Fin 2),
     ((((Wf (fun d => (d.put (pgETH 1) COM.ST_ENABLED 1) |>.put (pgETH 1) ETH.RX_RING 0x10002000) (fun s => { s with mem := memPutNat (memPutNat s.mem 0x10002000 4 0x10003000) 0x10002006 1 128 })).soc.after (0 : Nat)).dev.mac (pgETH 1)) ++ List.replicate 60 (3 : Byte)),
     true, _, _, _, _, _, rfl, rfl, rfl, rfl, rfl, by decide +kernel⟩,
   ⟨(0 : Nat),
     (Wf (fun d => (d.put (pgETH 1) COM.ST_ENABLED 1) |>.put (pgETH 1) ETH.RX_RING 0x10002000) (fun s => { s with mem := memPutNat (memPutNat s.mem 0x10002000 4 0x10003000) 0x10002006 1 0 })),
     (1 : Fin 2),
     ((((Wf (fun d => (d.put (pgETH 1) COM.ST_ENABLED 1) |>.put (pgETH 1) ETH.RX_RING 0x10002000) (fun s => { s with mem := memPutNat (memPutNat s.mem 0x10002000 4 0x10003000) 0x10002006 1 0 })).soc.after (0 : Nat)).dev.mac (pgETH 1)) ++ List.replicate 60 (3 : Byte)),
     true, _, _, _, _, _, rfl, rfl, rfl, rfl, rfl, by decide +kernel⟩,
   ⟨(0 : Nat),
     (Wf (fun d => ((d.put (pgETH 1) COM.ST_ENABLED 1) |>.put (pgETH 1) ETH.TX_RING 0x10002000) |>.put (pgETH 1) ETH.TX_TAIL 3) (fun s => { s with mem := memPutNat s.mem 0x10002006 1 0x80 })),
     (1 : Fin 2), _, _, _, rfl, rfl, rfl, by decide +kernel⟩,
   ⟨(0 : Nat), (Wt fun d => (d.put (pgETH 1) ETH.ST_PTP_LOCKED 1) |>.put pgBOOT BOOT.ST_STEP 8), (1 : Fin 2), _,
     rfl, by decide +kernel⟩⟩

theorem witness_FramesAndFlashAreServed_2 :
  (∃ (p : Fin 2) (s : State), s.soc.answers (pgETH p + 0x60) = true) ∧
  (∃ (dt : Nat) (s : State) (c : Fin 4) (xtd : Bool) (id : BitVec 29) (b : Soc), b = s.soc.after dt ∧
    b.dev.canIdle c = false ∧ b.dev.canSafe c = false ∧ b.dev.pwrMode ≠ 2 ∧ (∃ i < 16, b.dev.canFilter (pgCAN c)
    i (b2n xtd * 2 ^ 31 + id.toNat) = true) ∧ (b.dev.can[c]).length < 32) ∧
  (∃ (dt : Nat) (s : State) (c : Fin 4) (xtd : Bool) (id : BitVec 29) (b : Soc), b = s.soc.after dt ∧
    b.dev.canIdle c = false ∧ b.dev.canSafe c = false ∧ b.dev.pwrMode ≠ 2 ∧ (∃ i < 16, b.dev.canFilter (pgCAN c)
    i (b2n xtd * 2 ^ 31 + id.toNat) = true) ∧ 32 ≤ (b.dev.can[c]).length) ∧
  (∃ (dt : Nat) (s : State) (c : Fin 4) (j : _) (b : Soc), b = s.soc.after dt ∧ b.dev.canIdle c = false ∧
    b.dev.canNext (pgCAN c) = some j) ∧
  (∃ (dt : Nat) (s : State) (c : Fin 4) (b : Soc), b = s.soc.after dt ∧ b.dev.get (pgCAN c) CAN.ST_STATE = 2 ∧
    b.dev.flag (pgCAN c) CAN.CFG_AUTO_RECOVER = true ∧ b.dev.enabled (pgCAN c) = true ∧ b.dev.gated .can c =
    false ∧ b.dev.inReset 14 = false) ∧
  (∃ (c : Fin 4) (s : State), s.soc.answers (pgCAN c + 0x58) = true) :=
  ⟨⟨(1 : Fin 2), State.reset, by decide +kernel⟩,
   ⟨(0 : Nat), (Wt fun d => (d.put (pgCAN 3) COM.ST_ENABLED 1 |>.putAt (pgCAN 3) CAN.MASK 2 0)), (3 : Fin 4), true,
     (0x123 : BitVec 29), _, rfl, by decide +kernel⟩,
   ⟨(0 : Nat),
     (Wt fun d => { (d.put (pgCAN 3) COM.ST_ENABLED 1 |>.putAt (pgCAN 3) CAN.MASK 2 0) with can := d.can.set 3 (List.replicate 32 [1, 2]) }),
     (3 : Fin 4), true, (0x123 : BitVec 29), _, rfl, by decide +kernel⟩,
   ⟨(0 : Nat),
     (Wt fun d => (d.put (pgCAN 3) COM.ST_ENABLED 1 |>.putAt (pgCAN 3) CAN.MASK 2 0) |>.put (pgCAN 3) CAN.TX_REQ 0x14),
     (3 : Fin 4),
     ((((Wt fun d => (d.put (pgCAN 3) COM.ST_ENABLED 1 |>.putAt (pgCAN 3) CAN.MASK 2 0) |>.put (pgCAN 3) CAN.TX_REQ 0x14).soc.after (0 : Nat)).dev.canNext (pgCAN (3 : Fin 4))).getD 0),
     _, rfl, by decide +kernel⟩,
   ⟨(0 : Nat),
     (Wt fun d => (d.put (pgCAN 3) COM.ST_ENABLED 1 |>.putAt (pgCAN 3) CAN.MASK 2 0) |>.put (pgCAN 3) CAN.ST_STATE 2 |>.put (pgCAN 3) CAN.CFG_AUTO_RECOVER 1),
     (3 : Fin 4), _, rfl, by decide +kernel⟩,
   ⟨(3 : Fin 4), (Wt fun d => d.put (pgCAN 3) CAN.TX_REQ 3), by decide +kernel⟩⟩

theorem witness_FramesAndFlashAreServed_3 :
  (∃ (c : Fin 4) (s : State), s.soc.answers (pgCAN c + 0x54) = true ∧ (s.soc.dev.can[c]).length ≤ 32) ∧
  (∃ (s : State) (ofs : Nat) (addr : Nat) (len : Nat), ofs = s.soc.dev.get pgXSPI XSPI.FL_OFS ∧ addr =
    s.soc.dev.get pgXSPI XSPI.FL_ADDR ∧ len = s.soc.dev.get pgXSPI XSPI.FL_LEN ∧ s.soc.answers (pgXSPI + 0x40) =
    true ∧ s.soc.dev.flag pgXSPI XSPI.ST_FL_BUSY = false ∧ s.soc.dev.flag pgBOOT BOOT.ST_DONE = true ∧ 0x100000
    ≤ ofs ∧ ofs + len ≤ 0x1100000 ∧ len % 256 = 0 ∧ inHostArea addr len = true) ∧
  (∃ (s : State) (ofs : Nat) (addr : Nat) (len : Nat), ofs = s.soc.dev.get pgXSPI XSPI.FL_OFS ∧ addr =
    s.soc.dev.get pgXSPI XSPI.FL_ADDR ∧ len = s.soc.dev.get pgXSPI XSPI.FL_LEN ∧ s.soc.answers (pgXSPI + 0x40) =
    true ∧ s.soc.dev.flag pgXSPI XSPI.ST_FL_BUSY = false ∧ s.soc.dev.flag pgBOOT BOOT.ST_DONE = true ∧ 0x100000
    ≤ ofs ∧ ofs < 0x1100000) ∧
  (∃ (s : State) (ofs : Nat) (addr : Nat) (len : Nat), ofs = s.soc.dev.get pgXSPI XSPI.FL_OFS ∧ addr =
    s.soc.dev.get pgXSPI XSPI.FL_ADDR ∧ len = s.soc.dev.get pgXSPI XSPI.FL_LEN ∧ s.soc.answers (pgXSPI + 0x40) =
    true ∧ s.soc.dev.flag pgXSPI XSPI.ST_FL_BUSY = true) ∧
  (∃ (dt : Nat) (s : State) (j : FlashJob) (b : Soc), b = s.soc.after dt ∧ b.dev.fl = some j) :=
  ⟨⟨(3 : Fin 4), (Wt fun d => { d with can := d.can.set 3 [[1, 2], [5, 6]] }), by decide +kernel⟩,
   ⟨(Wt fun d => d.put pgBOOT BOOT.ST_DONE 1 |>.put pgXSPI XSPI.FL_OFS 0x200000 |>.put pgXSPI XSPI.FL_ADDR 0x10001000 |>.put pgXSPI XSPI.FL_LEN 512),
     _, _, _, rfl, rfl, rfl, by decide +kernel, by decide +kernel, by decide +kernel, by decide +kernel,
     by decide +kernel, Nat.eq_of_beq_eq_true (by decide +kernel), by decide +kernel⟩,
   ⟨(Wt fun d => d.put pgBOOT BOOT.ST_DONE 1 |>.put pgXSPI XSPI.FL_OFS 0x200000 |>.put pgXSPI XSPI.FL_ADDR 0x10001000 |>.put pgXSPI XSPI.FL_LEN 512),
     _, _, _, rfl, rfl, rfl, by decide +kernel⟩,
   ⟨(Wt fun d => d.put pgXSPI XSPI.ST_FL_BUSY 1), _, _, _, rfl, rfl, rfl, by decide +kernel⟩,
   ⟨(0 : Nat),
     (Wf (fun d => { d.put pgXSPI XSPI.ST_FL_BUSY 1 with fl := some (⟨1, 2097152, 268439552, 256⟩ : FlashJob) }) (fun s => { s with mem := memPutNat s.mem 0x10001004 4 77, flash := memPutNat s.flash 0x200008 4 99 })),
     (⟨1, 2097152, 268439552, 256⟩ : FlashJob), _, rfl, by decide +kernel⟩⟩

theorem witness_PromotionAndTheRecorderRun_1 :
  (∃ (dt : Nat) (s : State) (r : Fin 32) (t : TableDecl) (k : Nat) (x : StageDecl) (b : Soc) (n : Nat) (sl : Nat)
    (same : Nat), b = s.soc.after dt ∧ n = t.size / t.slice ∧ sl = (if x.fMax = 0 then n - 1 else min (n - 1)
    ((b.dev.est[fin16 k]).omega.natAbs * n / x.fMax)) ∧ same = (if (b.dev.promo[r]).lastS = sl then min 10
    ((b.dev.promo[r]).same + 1) else 1) ∧ b.dev.tableAt r = some t ∧ b.dev.promoStage r = some k ∧
    b.dev.stageDecl k = some x ∧ b.dev.flagAt pgDBG DBG.PROMO_MODE r = false ∧ t.slice ≠ 0 ∧
    (b.dev.promo[r]).checkT ≤ b.dev.time ∧ n ≤ 256) ∧
  (∃ (dt : Nat) (s : State) (r : Fin 32) (t : TableDecl) (sl : _) (t1 : _) (w : _) (b : Soc) (a : _), b =
    s.soc.after dt ∧ a = t.slotAddr (1 - (b.dev.promo[r]).slot) ∧ b.dev.tableAt r = some t ∧
    (b.dev.promo[r]).copy = some (sl, t1) ∧ t1 ≤ b.dev.time ∧ (b.dev.promo[r]).wait = some w) ∧
  (∃ (dt : Nat) (s : State) (r : Fin 32) (t : TableDecl) (sl : _) (t1 : _) (b : Soc) (a : _), b = s.soc.after dt ∧
    a = t.slotAddr (1 - (b.dev.promo[r]).slot) ∧ b.dev.tableAt r = some t ∧ (b.dev.promo[r]).copy = some (sl,
    t1) ∧ t1 ≤ b.dev.time ∧ (b.dev.promo[r]).wait = none ∧ t.kind ≠ 2) ∧
  (∃ (s : State), s.soc.answers (pgCAP + 0x58) = true ∧ s.soc.dev.capBusy = false ∧ s.soc.dev.tables.any (fun t =>
    t.kind == 4) = true ∧ s.soc.dev.flag pgBOOT BOOT.ST_NO_DRAM = false ∧ s.soc.dev.capCfgBad = false) ∧
  (∃ (s : State), s.soc.answers (pgCAP + 0x58) = true ∧ s.soc.dev.capBusy = true) ∧
  (∃ (s : State), s.soc.answers (pgCAP + 0x58) = true ∧ bitOf (s.soc.dev.get pgCAP CAP.TRIG_TRIG_EN) 0 = true ∧
    s.soc.dev.get pgCAP CAP.ST_STATE = 1 ∧ s.soc.dev.cap.armT < s.soc.dev.time) :=
  ⟨⟨(0 : Nat),
     (Wt fun d => { d with time := 90000000, adm := some { tSet with stages := [(⟨3, 0, 2, 0, false, 0, 0, 0, 1000000, 0, 0, []⟩ : StageDecl)], loops := [{ tLoop with trigStage := 3 }], tables := [(⟨0, 0, 1, 1024, 256, 0, 4, 0x80001000, 0x10100000⟩ : TableDecl)] }, est := vmod d.est 3 (fun h => { h with omega := 600000 }), promo := vmod d.promo 0 (fun p => { p with same := 0 }) }),
     (0 : Fin 32), (⟨0, 0, 1, 1024, 256, 0, 4, 0x80001000, 0x10100000⟩ : TableDecl), (3 : Nat),
     (⟨3, 0, 2, 0, false, 0, 0, 0, 1000000, 0, 0, []⟩ : StageDecl), _, _, _, _, rfl, rfl, rfl, rfl,
     by decide +kernel⟩,
   ⟨(0 : Nat),
     (Wt fun d => { d with time := 90000000, adm := some { tSet with stages := [(⟨3, 0, 2, 0, false, 0, 0, 0, 1000000, 0, 0, []⟩ : StageDecl)], loops := [{ tLoop with trigStage := 3 }], tables := [(⟨0, 0, 1, 1024, 256, 0, 4, 0x80001000, 0x10100000⟩ : TableDecl)] }, est := vmod d.est 3 (fun h => { h with omega := 600000 }), promo := vmod d.promo 0 (fun p => { p with copy := some (2, 5), wait := some 1 }) }),
     (0 : Fin 32), (⟨0, 0, 1, 1024, 256, 0, 4, 0x80001000, 0x10100000⟩ : TableDecl), (2 : Nat), (5 : Nat),
     (1 : Nat), _, _, rfl, rfl, by decide +kernel⟩,
   ⟨(0 : Nat),
     (Wt fun d => { d with time := 90000000, adm := some { tSet with stages := [(⟨3, 0, 2, 0, false, 0, 0, 0, 1000000, 0, 0, []⟩ : StageDecl)], loops := [{ tLoop with trigStage := 3 }], tables := [(⟨0, 0, 1, 1024, 256, 0, 4, 0x80001000, 0x10100000⟩ : TableDecl)] }, est := vmod d.est 3 (fun h => { h with omega := 600000 }), promo := vmod d.promo 0 (fun p => { p with copy := some (2, 5) }) }),
     (0 : Fin 32), (⟨0, 0, 1, 1024, 256, 0, 4, 0x80001000, 0x10100000⟩ : TableDecl), (2 : Nat), (5 : Nat), _, _,
     rfl, rfl, by decide +kernel⟩,
   ⟨(Wt fun d => { (d.put pgCAP CAP.CFG_MODE 1 |>.put pgCAP CAP.DEC_N_DEC 1 |>.put pgCAP CAP.DEC_DEC_PER 100 |>.putAt pgCAP CAP.DEC_ADDR 0 0x4001000C |>.putAt pgCAP CAP.DEC_ADDR 1 0x4002000C |>.put pgCAP CAP.BUF_SIZE 120 |>.put pgCAP CAP.BUF_ADDR 0x80002000 |>.put pgCAP CAP.PRE_REC 3 |>.put pgCAP CAP.POST_REC 4) with time := 90000000, adm := some { tSet with tables := [(⟨0, 4, 0, 1024, 0, 0, 0, 0x80002000, 0⟩ : TableDecl)] }, cap := { d.cap with armT := 0 } }),
     by decide +kernel⟩,
   ⟨(Wt fun d => d.put pgCAP CAP.ST_STATE 1), by decide +kernel⟩,
   ⟨(Wt fun d => { (d.put pgCAP CAP.CFG_MODE 1 |>.put pgCAP CAP.DEC_N_DEC 1 |>.put pgCAP CAP.DEC_DEC_PER 100 |>.putAt pgCAP CAP.DEC_ADDR 0 0x4001000C |>.putAt pgCAP CAP.DEC_ADDR 1 0x4002000C |>.put pgCAP CAP.BUF_SIZE 120 |>.put pgCAP CAP.BUF_ADDR 0x80002000 |>.put pgCAP CAP.PRE_REC 3 |>.put pgCAP CAP.POST_REC 4 |>.put pgCAP CAP.ST_STATE 1 |>.put pgCAP CAP.TRIG_TRIG_EN 1) with time := 90000000, adm := some { tSet with tables := [(⟨0, 4, 0, 1024, 0, 0, 0, 0x80002000, 0⟩ : TableDecl)] }, cap := { d.cap with armT := 5 } }),
     by decide +kernel⟩⟩

theorem witness_PromotionAndTheRecorderRun_2 :
  (∃ (dt : Nat) (s : State) (b : Soc) (raw : Bool) (e : Nat) (w : List Nat) (ofs : Nat) (a : Nat), b = s.soc.after
    dt ∧ raw = decide (b.dev.get pgCAP CAP.CFG_MODE = 0) ∧ e = (if raw then b.dev.capEdge else b.dev.time) ∧ w =
    (if raw then b.dev.rawWords else b.dev.decWords) ∧ ofs = b.dev.cap.count % b.dev.capSlots * b.dev.capRec ∧ a
    = b.dev.get pgCAP CAP.BUF_ADDR + ofs ∧ b.dev.flag pgCAP COM.ST_FROZEN = false ∧ b.dev.capBusy = true ∧
    b.dev.cap.armT < e ∧ b.dev.cap.last ≠ some e ∧ (raw = true ∨ e % b.dev.get pgCAP CAP.DEC_DEC_PER = 0) ∧
    b.dev.clockHeld = false ∧ b.dev.capFull = false ∧ b.dev.gated .cap 0 = false ∧ b.dev.inReset 17 = false ∧
    b.dev.capSlots ≠ 0) ∧
  (∃ (dt : Nat) (s : State) (t : _) (b : Soc), b = s.soc.after dt ∧ b.dev.flag pgCAP COM.ST_FROZEN = false ∧
    b.dev.cap.trigRec = some t ∧ b.dev.get pgCAP CAP.ST_STATE = 2 ∧ b.dev.capFull = true) ∧
  (∃ (dt : Nat) (s : State) (b : Soc) (a : _) (n : _) (st : _), b = s.soc.after dt ∧ a = b.dev.get pgCAP
    CAP.BUF_ADDR ∧ n = b.dev.capSlots * b.dev.capRec ∧ st = b.dev.get pgCAP CAP.START_OFS ∧ b.dev.cap.toUnroll =
    true ∧ b.dev.get pgCAP CAP.ST_STATE = 3 ∧ b.dev.fwRuns = true) :=
  ⟨⟨(0 : Nat),
     (Wt fun d => { (d.put pgCAP CAP.CFG_MODE 1 |>.put pgCAP CAP.DEC_N_DEC 1 |>.put pgCAP CAP.DEC_DEC_PER 100 |>.putAt pgCAP CAP.DEC_ADDR 0 0x4001000C |>.putAt pgCAP CAP.DEC_ADDR 1 0x4002000C |>.put pgCAP CAP.BUF_SIZE 120 |>.put pgCAP CAP.BUF_ADDR 0x80002000 |>.put pgCAP CAP.PRE_REC 3 |>.put pgCAP CAP.POST_REC 4 |>.put pgCAP CAP.ST_STATE 1) with time := 90000000, adm := some { tSet with tables := [(⟨0, 4, 0, 1024, 0, 0, 0, 0x80002000, 0⟩ : TableDecl)] }, cap := { d.cap with armT := 5, count := 0 } }),
     _, _, _, _, _, _, rfl, rfl, rfl, rfl, rfl, rfl, by decide +kernel⟩,
   ⟨(0 : Nat),
     (Wt fun d => { (d.put pgCAP CAP.CFG_MODE 1 |>.put pgCAP CAP.DEC_N_DEC 1 |>.put pgCAP CAP.DEC_DEC_PER 100 |>.putAt pgCAP CAP.DEC_ADDR 0 0x4001000C |>.putAt pgCAP CAP.DEC_ADDR 1 0x4002000C |>.put pgCAP CAP.BUF_SIZE 120 |>.put pgCAP CAP.BUF_ADDR 0x80002000 |>.put pgCAP CAP.PRE_REC 3 |>.put pgCAP CAP.POST_REC 4 |>.put pgCAP CAP.ST_STATE 2) with time := 90000000, adm := some { tSet with tables := [(⟨0, 4, 0, 1024, 0, 0, 0, 0x80002000, 0⟩ : TableDecl)] }, cap := { d.cap with trigRec := some 5, count := 9 } }),
     (5 : Nat), _, rfl, by decide +kernel⟩,
   ⟨(0 : Nat),
     (Wf (fun d => { (d.put pgCAP CAP.CFG_MODE 1 |>.put pgCAP CAP.DEC_N_DEC 1 |>.put pgCAP CAP.DEC_DEC_PER 100 |>.putAt pgCAP CAP.DEC_ADDR 0 0x4001000C |>.putAt pgCAP CAP.DEC_ADDR 1 0x4002000C |>.put pgCAP CAP.BUF_SIZE 120 |>.put pgCAP CAP.BUF_ADDR 0x80002000 |>.put pgCAP CAP.PRE_REC 3 |>.put pgCAP CAP.POST_REC 4 |>.put pgCAP CAP.ST_STATE 3 |>.put pgBOOT BOOT.ST_STEP 8 |>.put pgCAP CAP.START_OFS 36) with time := 90000000, adm := some { tSet with tables := [(⟨0, 4, 0, 1024, 0, 0, 0, 0x80002000, 0⟩ : TableDecl)] }, cap := { d.cap with toUnroll := true, count := 13 } }) (fun s => { s with mem := memPutNat (memPutNat s.mem 0x80002000 8 0x1122334455667788) 0x80002024 8 0x99AABBCCDDEEFF })),
     _, _, _, _, rfl, rfl, rfl, rfl, by decide +kernel⟩⟩

theorem witness_SetCountLoadsCountAndTurnPos :
  (∃ (n : Fin 8) (s : State) (m : Nat), m = s.soc.dev.get (pgPOS n) POS.COUNT_MOD ∧ s.soc.answers (pgPOS n + 0x60)
    = true ∧ s.soc.dev.posAlone n) :=
  ⟨(7 : Fin 8), State.reset, _, rfl, by unfold Dev.posAlone; decide +kernel⟩

theorem witness_ReturnSwitchesBackToTheReference :
  (∃ (s : State), s.soc.answers (pgCLK + 0x40) = true ∧ s.soc.dev.clk.ircT ≠ some s.soc.dev.wall) :=
  ⟨State.reset, by decide +kernel⟩

theorem witness_ResetIsThePowerOnState :
  (∃ (a : _), a ≠ pgPWR + PWR.RST_CAUSE.off) :=
  ⟨pgCLK, by decide +kernel⟩

theorem witness_MemoryStaysCanonical :
  (∃ (s : State) (t : State), s.soc.memOk ∧ step s = .next t) :=
  ⟨(State.mk [Instr.holdClr] State.reset.soc),
     (match step ((State.mk [Instr.holdClr] State.reset.soc)) with | .next t => t | _ => (State.mk [Instr.holdClr] State.reset.soc)),
     by unfold Soc.memOk; decide +kernel, rfl⟩

theorem witness_OnlyStoringRowsChangeMemory :
  (∃ (c : Instr) (s : State) (t : State), mayStore c = false ∧ exec c s = .next t) :=
  ⟨Instr.holdClr, State.reset, (match exec Instr.holdClr (State.reset) with | .next t => t | _ => State.reset),
     by decide +kernel, rfl⟩

theorem witness_FramesOfNamedRows_1 :
  (∃ (s : State) (p : Fin 2), s.soc.answers (pgETH p + 0x60) = true) ∧
  (∃ (s : State) (c : Fin 4), s.soc.answers (pgCAN c + 0x58) = true) ∧
  (∃ (s : State) (c : Fin 4), s.soc.answers (pgCAN c + 0x54) = true) ∧
  (∃ (s : State) (p : Fin 2), s.soc.answers (pgVLK p + 0x50) = true) ∧
  (∃ (s : State), s.soc.answers (pgSNET + 0x9C) = true) ∧
  (∃ (s : State), s.soc.answers (pgCAP + 0x58) = true) :=
  ⟨⟨State.reset, (1 : Fin 2), by decide +kernel⟩,
   ⟨State.reset, (3 : Fin 4), by decide +kernel⟩,
   ⟨State.reset, (3 : Fin 4), by decide +kernel⟩,
   ⟨State.reset, (1 : Fin 2), by decide +kernel⟩,
   ⟨State.reset, by decide +kernel⟩,
   ⟨State.reset, by decide +kernel⟩⟩

theorem witness_FramesOfNamedRows_2 :
  (∃ (s : State) (j : Fin 64), s.soc.answers (pgPCIE + 0x100 + 4 * j.val) = true) ∧
  (∃ (s : State) (h : Fin 2), s.soc.answers (pgPCIE + 0x40 + 4 * h.val) = true) ∧
  (∃ (s : State), s.soc.answers (pgXSPI + 0x40) = true) ∧
  (∃ (dt : Nat) (c : Fin 4) (st : Fin 3) (v : Vote) (s : State) (i : Iss) (op : Nat) (b : Soc), b = s.soc.after dt
    ∧ b.issues c st v i op ∧ (closeLoops i.dp.stack (i.dp.pc + 1)).1 < i.loop.progLen) :=
  ⟨⟨State.reset, (63 : Fin 64), by decide +kernel⟩,
   ⟨State.reset, (1 : Fin 2), by decide +kernel⟩,
   ⟨State.reset, by decide +kernel⟩,
   ⟨(0 : Nat), (3 : Fin 4), (0 : Fin 3), Vote.agree, (Wi (iw 0 0 0 0 0 0 0 0 0)),
     (tIssOf (iw 0 0 0 0 0 0 0 0 0) (tDp) (tLoop) false false), (0 : Nat), _, rfl,
     ⟨by decide +kernel, by decide +kernel, by decide +kernel, by decide +kernel, Dev.compare_agree _ _ _⟩,
     by decide +kernel⟩⟩

end Sys2Proof.Tests
end

/-! Rules of single operations: folds, puts, interrupt events and stored error codes (R17, R21). -/

namespace Sys2Proof.Machine

/-! ### Folds -/

/-- What every step of a fold leaves alone, the fold leaves alone. -/
theorem foldl_keeps {σ α β : Type} (π : σ → β) {f : σ → α → σ} :
    ∀ (l : List α) (s : σ), (∀ s, ∀ x ∈ l, π (f s x) = π s) → π (l.foldl f s) = π s
  | [], _, _ => rfl
  | x :: t, s, h =>
    (foldl_keeps π t (f s x) fun s y hy => h s y (List.mem_cons_of_mem x hy)).trans (h s x List.mem_cons_self)

/-! ### Puts, interrupts and errors

A put leaves `adm` by the projection of a constructor (`cases d`), so that `simp` uses it as a step of its own: unfolding the
register map of a long chain of puts is what the kernel must not be led to. -/

@[simp] theorem Dev.putAt_adm (d : Dev) (pg : Nat) (f : Fld) (i v : Nat) : (d.putAt pg f i v).adm = d.adm := by cases d; rfl
@[simp] theorem Dev.put_adm (d : Dev) (pg : Nat) (f : Fld) (v : Nat) : (d.put pg f v).adm = d.adm := by cases d; rfl
@[simp] theorem Dev.putB_adm (d : Dev) (pg : Nat) (f : Fld) (b : Bool) : (d.putB pg f b).adm = d.adm := by cases d; rfl
@[simp] theorem Dev.put_almanac (d : Dev) (pg : Nat) (f : Fld) (v : Nat) : (d.put pg f v).almanac = d.almanac := rfl
@[simp] theorem Dev.putAt_almanac (d : Dev) (pg : Nat) (f : Fld) (i v : Nat) : (d.putAt pg f i v).almanac = d.almanac := rfl

@[simp] theorem Dev.incWrap_adm (d : Dev) (pg : Nat) (f : Fld) : (d.incWrap pg f).adm = d.adm := d.putAt_adm pg f 0 _

@[simp] theorem Dev.incSatAt_adm (d : Dev) (pg : Nat) (f : Fld) (i : Nat) : (d.incSatAt pg f i).adm = d.adm := by
  unfold Dev.incSatAt
  dsimp only
  split
  · rw [Dev.putAt_adm]
  · rfl

@[simp] theorem Dev.incSat_adm (d : Dev) (pg : Nat) (f : Fld) : (d.incSat pg f).adm = d.adm := d.incSatAt_adm pg f 0

@[simp] theorem Dev.irqBits_adm (d : Dev) (pg bits : Nat) : (d.irqBits pg bits).adm = d.adm := by
  obtain ⟨r, p, h⟩ := (irqBits_latchOnly d pg bits).same
  rw [h]
  rfl

@[simp] theorem Dev.irq_adm (d : Dev) (pg : Nat) (f : Fld) : (d.irq pg f).adm = d.adm := d.irqBits_adm pg _

/-- A field reads as the value put into it, cut to its width. -/
theorem Dev.get_put (d : Dev) (pg : Nat) {f : Fld} (v : Nat) (h : f.lo + f.width ≤ 32) :
    (d.put pg f v).get pg f = v % 2 ^ f.width := d.getAt_putAt pg f 0 v h

/-- A field of another register reads as before a put. -/
theorem Dev.get_putAt_ne (d : Dev) {pg pg' : Nat} {f g : Fld} {i : Nat} (v : Nat)
    (h : pg' + g.off + g.stride * 0 ≠ pg + f.off + f.stride * i) : (d.putAt pg f i v).get pg' g = d.get pg' g :=
  d.getAt_putAt_ne v h

theorem Dev.get_put_ne (d : Dev) {pg pg' : Nat} {f g : Fld} (v : Nat)
    (h : pg' + g.off + g.stride * 0 ≠ pg + f.off + f.stride * 0) : (d.put pg f v).get pg' g = d.get pg' g :=
  d.getAt_putAt_ne v h

/-- A field that lies apart in the same register reads as before a put. -/
theorem Dev.get_put_apart (d : Dev) {pg pg' : Nat} {f g : Fld} (v : Nat) (h : f.lo + f.width ≤ 32)
    (hd : g.lo + g.width ≤ f.lo ∨ f.lo + f.width ≤ g.lo) : (d.put pg f v).get pg' g = d.get pg' g :=
  d.getAt_putAt_apart v h hd

/-- A field outside IRQ_RAW and the vector latches reads as before an interrupt event (R17). -/
theorem Dev.getAt_irq (d : Dev) (pg : Nat) (f : Fld) {pg' : Nat} {g : Fld} {i : Nat}
    (h : pg' + g.off + g.stride * i ≠ pg + 0x10) (h0 : pg' + g.off + g.stride * i ≠ pgPCIE + PCIE.VLATCH.off)
    (h1 : pg' + g.off + g.stride * i ≠ pgPCIE + PCIE.VLATCH.off + 4) :
    (d.irq pg f).getAt pg' g i = d.getAt pg' g i := by
  unfold Dev.getAt Dev.irq
  rw [Dev.reg_irqBits _ _ _ h h0 h1]

theorem Dev.get_irq (d : Dev) (pg : Nat) (f : Fld) {pg' : Nat} {g : Fld}
    (h : pg' + g.off + g.stride * 0 ≠ pg + 0x10) (h0 : pg' + g.off + g.stride * 0 ≠ pgPCIE + PCIE.VLATCH.off)
    (h1 : pg' + g.off + g.stride * 0 ≠ pgPCIE + PCIE.VLATCH.off + 4) : (d.irq pg f).get pg' g = d.get pg' g :=
  d.getAt_irq pg f h h0 h1

/-- The bit of an interrupt event reads 1 after it (R17). -/
theorem Dev.flag_irq (d : Dev) (pg : Nat) {f : Fld} (hoff : f.off = 0x10) (hwidth : f.width = 1) (hlo : f.lo < 32)
    (h0 : pg + 0x10 ≠ pgPCIE + PCIE.VLATCH.off) (h1 : pg + 0x10 ≠ pgPCIE + PCIE.VLATCH.off + 4) :
    (d.irq pg f).flag pg f = true := by
  have hbit : (((d.reg (pg + 0x10)).toNat ||| 2 ^ f.lo) % 2 ^ 32).testBit f.lo = true := by
    rw [Nat.testBit_mod_two_pow, Nat.testBit_or, Nat.testBit_two_pow_self, Bool.or_true, Bool.and_true, decide_eq_true hlo]
  unfold Dev.flag Dev.getAt Dev.irq
  rw [hoff, Nat.mul_zero, Nat.add_zero, Dev.irqRaw_irqBits _ _ _ h0 h1, wordField, hwidth, BitVec.toNat_ofNat]
  rw [Nat.testBit_eq_decide_div_mod_eq, decide_eq_true_eq] at hbit
  rw [Nat.pow_one, hbit]
  rfl

@[simp] theorem Dev.errStore_adm (d : Dev) (pg code o : Nat) : (d.errStore pg code o).adm = d.adm := by
  unfold Dev.errStore
  split
  · rw [Dev.put_adm, Dev.put_adm]
  · rw [Dev.incSat_adm]

@[simp] theorem Dev.errStore_almanac (d : Dev) (pg code o : Nat) : (d.errStore pg code o).almanac = d.almanac := by
  unfold Dev.errStore Dev.incSat Dev.incSatAt
  dsimp only
  split
  · rw [Dev.put_almanac, Dev.put_almanac]
  · split
    · rw [Dev.putAt_almanac]
    · rfl

/-- A new code changes ERRCODE alone (R21). -/
theorem Dev.reg_errStore (d : Dev) (pg code o : Nat) {a : Nat} (h : a ≠ pg + COM.ERRCODE.off) :
    (d.errStore pg code o).reg a = d.reg a := by
  unfold Dev.errStore Dev.incSat Dev.incSatAt
  dsimp only
  split
  · rw [Dev.put, Dev.reg_putAt_ne _ _ _ _ _ h, Dev.put, Dev.reg_putAt_ne _ _ _ _ _ h]
  · split
    · exact Dev.reg_putAt_ne _ _ _ _ _ h
    · rfl

theorem Dev.getAt_errStore (d : Dev) (pg code o : Nat) {pg' : Nat} {g : Fld} {i : Nat}
    (h : pg' + g.off + g.stride * i ≠ pg + COM.ERRCODE.off) : (d.errStore pg code o).getAt pg' g i = d.getAt pg' g i := by
  unfold Dev.getAt
  rw [Dev.reg_errStore _ _ _ _ h]

theorem Dev.get_errStore (d : Dev) (pg code o : Nat) {pg' : Nat} {g : Fld}
    (h : pg' + g.off + g.stride * 0 ≠ pg + COM.ERRCODE.off) : (d.errStore pg code o).get pg' g = d.get pg' g :=
  d.getAt_errStore pg code o h

/-- With no code stored, ERRCODE takes the new one (R21). -/
theorem Dev.errStore_first {d : Dev} {pg : Nat} (h : d.get pg COM.ERRCODE_CODE = 0) (code o : Nat) :
    (d.errStore pg code o).get pg COM.ERRCODE_CODE = code % 2 ^ 16 := by
  unfold Dev.errStore
  rw [if_pos h, Dev.get_put_apart _ _ (by decide) (by decide), Dev.get_put _ _ _ (by decide)]
  rfl

/-- A code that answers no partner is stored with no journal entry (R500). -/
theorem Dev.err_own {code : Nat} (h : partnerKind code = none) (d : Dev) (pg : Nat) :
    d.err pg code = d.errStore pg code 0 := by
  simp only [Dev.err, Dev.errBy, h]

@[simp] theorem Dev.journalAdd_adm (d : Dev) (kind partner code answer : Nat) (bytes : List Byte) :
    (d.journalAdd kind partner code answer bytes).adm = d.adm := by
  unfold Dev.journalAdd
  rw [Dev.irq_adm, Dev.incWrap_adm]

@[simp] theorem Dev.errBy_adm (d : Dev) (pg code o : Nat) : (d.errBy pg code o).adm = d.adm := by
  unfold Dev.errBy
  dsimp only
  split
  · rw [Dev.journalAdd_adm, Dev.errStore_adm]
  · exact d.errStore_adm pg code o

@[simp] theorem Dev.err_adm (d : Dev) (pg code : Nat) : (d.err pg code).adm = d.adm := d.errBy_adm pg code 0

end Sys2Proof.Machine

/-! The set in force: what keeps it, what an apply and a release make of it and of SETUP_ID (R80, R81). -/

namespace Sys2Proof.Machine

/-! ### The set in force while trips act (R181 to R190): no trip changes it -/

@[simp] theorem Dev.modLeg_adm (d : Dev) (n : Nat) (f : LegH → LegH) : (d.modLeg n f).adm = d.adm := by cases d; rfl
@[simp] theorem Dev.modStg_adm (d : Dev) (k : Nat) (f : StgH → StgH) : (d.modStg k f).adm = d.adm := by cases d; rfl
@[simp] theorem Dev.pendOn_adm (d : Dev) (n : Nat) (high : Bool) (due : Nat) : (d.pendOn n high due).adm = d.adm := by
  cases d; rfl

@[simp] theorem Dev.setGate_adm (d : Dev) (n : Nat) (high on : Bool) : (d.setGate n high on).adm = d.adm := by
  unfold Dev.setGate
  dsimp only
  split
  · rw [Dev.modLeg_adm, Dev.putB_adm]
  · rw [Dev.putB_adm]

@[simp] theorem Dev.turnOff_adm (d : Dev) (n : Nat) (high : Bool) (t : Nat) : (d.turnOff n high t).adm = d.adm := by
  unfold Dev.turnOff
  split
  · rw [Dev.modLeg_adm, Dev.setGate_adm]
  · rfl

@[simp] theorem Dev.cancel_adm (d : Dev) (n : Nat) (keep : Bool → Bool) : (d.cancel n keep).adm = d.adm := by
  unfold Dev.cancel
  dsimp only
  split
  · rfl
  · rw [Dev.irq_adm, foldl_keeps Dev.adm _ _ fun e _ _ => e.incSat_adm _ _, Dev.modLeg_adm]

@[simp] theorem Dev.moveLeg_adm (d : Dev) (n : Nat) (dr : Drive) (goal t : Nat) : (d.moveLeg n dr goal t).adm = d.adm := by
  simp [Dev.moveLeg, apply_ite Dev.adm]

@[simp] theorem Dev.movePair_adm (d : Dev) (m : Nat) (dr : Drive) (goal t : Nat) : (d.movePair m dr goal t).adm = d.adm := by
  simp [Dev.movePair, apply_ite Dev.adm]

@[simp] theorem Dev.cutUnit_adm (d : Dev) (n t : Nat) : (d.cutUnit n t).adm = d.adm := by
  simp [Dev.cutUnit, apply_ite Dev.adm]

@[simp] theorem Dev.refresh_adm (d : Dev) (n t : Nat) : (d.refresh n t).adm = d.adm := by
  simp [Dev.refresh, apply_ite Dev.adm]

@[simp] theorem Dev.refreshAll_adm (d : Dev) (t : Nat) : (d.refreshAll t).adm = d.adm :=
  foldl_keeps Dev.adm _ d fun e n _ => e.refresh_adm n t

@[simp] theorem Dev.cmTrip_adm (d : Dev) : d.cmTrip.adm = d.adm := by
  refine foldl_keeps Dev.adm _ d fun e k _ => ?_
  dsimp only
  split
  · rw [Dev.modStg_adm]
  · rfl

@[simp] theorem Dev.tripDrive_adm (d : Dev) : d.tripDrive.adm = d.adm := by
  rw [Dev.tripDrive, Dev.refreshAll_adm, Dev.cmTrip_adm]

@[simp] theorem Dev.takeBack_adm (d : Dev) (a : ActTrip) : (d.takeBack a).adm = d.adm := by
  unfold Dev.takeBack
  split
  · rfl
  · dsimp only
    split
    · rfl
    · rw [foldl_keeps Dev.adm _ _ fun e l _ => by rw [Dev.modLeg_adm, Dev.put_adm, Dev.setReg_adm], Dev.setReg_adm]

@[simp] theorem Dev.addAct_adm (d : Dev) (a : ActTrip) : (d.addAct a).adm = d.adm := by
  rw [← d.takeBack_adm a]
  rfl

@[simp] theorem Dev.capTrigger_adm (d : Dev) (n : Nat) : (d.capTrigger n).adm = d.adm := by
  rw [Dev.capTrigger, Dev.putB_adm, Dev.put_adm]

@[simp] theorem Dev.capFire_adm (d : Dev) (bit : Nat) : (d.capFire bit).adm = d.adm := by
  unfold Dev.capFire
  split
  · rfl
  · split
    · simp only [apply_ite Dev.adm, Dev.capTrigger_adm, Dev.irq_adm, Dev.put_adm, ite_self]
    · split
      · rw [Dev.put_adm]
      · rfl

@[simp] theorem Dev.tripMark_adm (d : Dev) (s : Nat) : (d.tripMark s).adm = d.adm := by
  simp [Dev.tripMark, apply_ite Dev.adm]

@[simp] theorem Dev.tripFire_adm (d : Dev) (s : Nat) : (d.tripFire s).adm = d.adm := by
  unfold Dev.tripFire
  split
  · rfl
  · have hstages : ∀ (st sel : Nat) (latch : Bool) (e : Dev), ((List.range 16).foldl
        (fun d k => if bitOf st k then d.addAct ⟨s, k, none, sel, latch, none⟩ else d) e).adm = e.adm := by
      intro st sel latch e
      refine foldl_keeps Dev.adm _ e fun e k _ => ?_
      split
      · exact e.addAct_adm _
      · rfl
    simp [apply_ite Dev.adm, hstages]

/-! ### A set in force (R80, R81): release and apply -/

@[simp] theorem Dev.applySources_adm (d : Dev) : d.applySources.adm = d.adm := by
  refine foldl_keeps Dev.adm _ d fun e s _ => ?_
  split
  · exact e.tripFire_adm s
  · rfl

@[simp] theorem Dev.applyAge_adm (d : Dev) (a : Admitted) : (d.applyAge a).adm = d.adm :=
  foldl_keeps Dev.adm _ d fun e _ _ => e.putAt_adm _ _ _ _

@[simp] theorem Dev.redEnd_adm (d : Dev) (cause : Nat) : (d.redEnd cause).adm = d.adm := by
  unfold Dev.redEnd Dev.tripConditionEnd Dev.setLevel
  dsimp only
  split
  · rw [Dev.putAt_adm, Dev.putAt_adm]
  · rw [Dev.putAt_adm]

@[simp] theorem Dev.modClu_adm (d : Dev) (c : Nat) (f : CluH → CluH) : (d.modClu c f).adm = d.adm := by cases d; rfl

@[simp] theorem Dev.clearLatches_adm (d : Dev) : d.clearLatches.adm = d.adm := by
  refine foldl_keeps Dev.adm _ d fun e c _ => ?_
  dsimp only
  split
  · rw [Dev.redEnd_adm, Dev.modClu_adm, Dev.put_adm, Dev.put_adm]
  · rw [Dev.modClu_adm, Dev.put_adm, Dev.put_adm]

@[simp] theorem Dev.applyFloor_adm (d : Dev) (a : Admitted) : (d.applyFloor a).adm = d.adm := by
  simp only [Dev.applyFloor, apply_ite Dev.adm, Dev.put_adm, ite_self]

@[simp] theorem Dev.opTarget_adm (d : Dev) : d.opTarget.adm = d.adm := by
  unfold Dev.opTarget
  rw [Dev.putB_adm, Dev.putB_adm, Dev.put_adm]

@[simp] theorem Dev.applySlices_adm (d : Dev) (a : Admitted) : (d.applySlices a).adm = d.adm := by cases d; rfl

/-- The applied set is the one in force (R80). -/
theorem Dev.applySet_adm (d : Dev) (p : Plan) : (d.applySet p).adm = some p.set := by
  unfold Dev.applySet
  simp only [Dev.applySlices_adm, Dev.opTarget_adm, Dev.put_adm, Dev.applyFloor_adm, Dev.clearLatches_adm,
    Dev.applyAge_adm, Dev.applySources_adm]

/-! #### The steps of a release -/

/-- Trips, pages and banks of the set that leaves (R81). -/
def Dev.releasePages (d : Dev) : Dev :=
  let d := d.dropActs (fun a => decide (a.src < 168))
  let d := (pageMap.flatMap (fun p => (List.range p.count).map (fun i => (p.kind, p.base + 0x1000 * i)))).foldl
    (fun (d : Dev) p => d.rwaReset p.1 p.2) d
  (List.range 16).foldl (fun (d : Dev) k => d.bankReset k) d

/-- What the device holds of a set besides registers is empty (R81). -/
def Dev.forgetSet (d : Dev) : Dev :=
  { d with
    adm := none, trigs := [], timers := [], ready := [], mbox := [], stage := [], rampPend := [], lastTrig := []
    sliceDue := []
    slice := d.slice.map (fun (s : SliceH) => { s with moved := [] })
    clu := d.clu.map (fun (c : CluH) => { c with agr := [], rel := [] })
    promo := Vector.replicate 32 PromoH.initial
    ctx := { d.ctx with moves := [] }
    thm := { d.thm with mods := false } }

/-- RUN of every context and the enables of the drives are 0, and the legs follow (R81, R262). -/
def Dev.releaseRuns (d : Dev) : Dev :=
  let d := (List.range 63).foldl (fun (d : Dev) i => d.putAt pgCTX CTX.CCTL_RUN (i + 1) 0) d
  let d := d.tripCfgChanged
  (List.range 16).foldl (fun (d : Dev) k => d.putAt pgFLD FLD.DSTAT_ENABLED k 0) d

/-- The Almanac's registers of the set read 0 (R81, R89). -/
def Dev.releaseAlm (d : Dev) : Dev :=
  let d := (((d.put pgALM ALM.SETUP_ID 0).put pgALM ALM.PLACE_ADDR 0).put pgALM ALM.PLACE_LEN 0).put pgALM ALM.REPLACE_CNT 0
  (List.range 16).foldl (fun (d : Dev) n =>
    ((d.putAt pgALM ALM.AGE_BOUND n 0).putAt pgALM ALM.AGE_PROM n 0).putAt pgALM ALM.AGE_MAX n 0) d

theorem Dev.releaseSet_eq (d : Dev) :
    d.releaseSet = ((d.releasePages.forgetSet.releaseRuns.put pgNRG COM.ST_ENABLED 0).put pgCAP CAP.ST_STATE 0).releaseAlm := rfl

@[simp] theorem Dev.forgetSet_adm (d : Dev) : d.forgetSet.adm = none := rfl

@[simp] theorem Dev.releaseRuns_adm (d : Dev) : d.releaseRuns.adm = d.adm := by
  unfold Dev.releaseRuns Dev.tripCfgChanged
  rw [foldl_keeps Dev.adm _ _ fun e k _ => e.putAt_adm _ _ _ _, Dev.refreshAll_adm,
    foldl_keeps Dev.adm _ _ fun e i _ => e.putAt_adm _ _ _ _]

@[simp] theorem Dev.releaseAlm_adm (d : Dev) : d.releaseAlm.adm = d.adm := by
  unfold Dev.releaseAlm
  rw [foldl_keeps Dev.adm _ _ fun e n _ => by rw [Dev.putAt_adm, Dev.putAt_adm, Dev.putAt_adm]]
  simp only [Dev.put_adm]

/-- After a release no set is in force (R81). -/
theorem Dev.releaseSet_adm (d : Dev) : d.releaseSet.adm = none := by
  rw [Dev.releaseSet_eq, Dev.releaseAlm_adm, Dev.put_adm, Dev.put_adm, Dev.releaseRuns_adm, Dev.forgetSet_adm]

/-- After a release SETUP_ID reads 0 (R89). -/
theorem Dev.releaseSet_setupId (d : Dev) : d.releaseSet.get pgALM ALM.SETUP_ID = 0 := by
  rw [Dev.releaseSet_eq]
  generalize (d.releasePages.forgetSet.releaseRuns.put pgNRG COM.ST_ENABLED 0).put pgCAP CAP.ST_STATE 0 = e
  unfold Dev.releaseAlm
  have hage : ∀ (f : Fld) (n : Nat), 0x80 ≤ f.off →
      pgALM + ALM.SETUP_ID.off + ALM.SETUP_ID.stride * 0 ≠ pgALM + f.off + f.stride * n := by
    intro f n h
    simp only [ALM.SETUP_ID]
    omega
  rw [foldl_keeps (Dev.get · pgALM ALM.SETUP_ID) _ _ fun e n _ => by
    rw [Dev.get_putAt_ne _ _ (hage _ n (by decide)), Dev.get_putAt_ne _ _ (hage _ n (by decide)),
      Dev.get_putAt_ne _ _ (hage _ n (by decide))]]
  rw [Dev.get_put_ne _ _ (by decide), Dev.get_put_ne _ _ (by decide), Dev.get_put_ne _ _ (by decide),
    Dev.get_put _ _ _ (by decide)]
  rfl

/-! #### SETUP_ID through the steps of an apply that follow it -/

/-- A put outside the ALM page leaves every field of the page as it was. -/
theorem Dev.get_alm_putAt (d : Dev) {pg : Nat} {f : Fld} {i : Nat} (v : Nat) {g : Fld} (hg : g.off < 0x1000 ∧ g.stride = 0)
    (h : pg + f.off + f.stride * i < pgALM ∨ pgEPH ≤ pg + f.off + f.stride * i) :
    (d.putAt pg f i v).get pgALM g = d.get pgALM g := by
  refine Dev.getAt_putAt_ne _ _ ?_
  rw [hg.2]
  simp only [pgALM, pgEPH] at h ⊢
  omega

theorem Dev.get_alm_put (d : Dev) {pg : Nat} {f : Fld} (v : Nat) {g : Fld} (hg : g.off < 0x1000 ∧ g.stride = 0)
    (h : pg + f.off + f.stride * 0 < pgALM ∨ pgEPH ≤ pg + f.off + f.stride * 0) :
    (d.put pg f v).get pgALM g = d.get pgALM g := d.get_alm_putAt v hg h

theorem Dev.redEnd_setupId (d : Dev) (cause : Nat) :
    (d.redEnd cause).get pgALM ALM.SETUP_ID = d.get pgALM ALM.SETUP_ID := by
  unfold Dev.redEnd Dev.tripConditionEnd Dev.setLevel
  dsimp only
  split
  · rw [Dev.get_alm_putAt _ _ (by decide) (by decide), Dev.get_alm_putAt _ _ (by decide) (by decide)]
    rfl
  · rw [Dev.get_alm_putAt _ _ (by decide) (by decide)]
    rfl

theorem Dev.clearLatches_setupId (d : Dev) : d.clearLatches.get pgALM ALM.SETUP_ID = d.get pgALM ALM.SETUP_ID := by
  have hclu : ∀ (f : Fld) (c : Nat), pgEPH ≤ pgCLU c + f.off + f.stride * 0 := by
    intro f c
    simp only [pgEPH, pgCLU]
    omega
  have hmod : ∀ (e : Dev) (c : Nat) (f : CluH → CluH),
      (e.modClu c f).get pgALM ALM.SETUP_ID = e.get pgALM ALM.SETUP_ID := fun _ _ _ => rfl
  refine foldl_keeps (Dev.get · pgALM ALM.SETUP_ID) _ d fun e c _ => ?_
  have hput : ∀ (e : Dev) (f : Fld) (v : Nat), (e.put (pgCLU c) f v).get pgALM ALM.SETUP_ID = e.get pgALM ALM.SETUP_ID :=
    fun e f v => e.get_alm_putAt v (by decide) (.inr (hclu f c))
  dsimp only
  split
  · rw [Dev.redEnd_setupId, hmod, hput, hput]
  · rw [hmod, hput, hput]

/-- What the floor of a set leaves of a limit of THM (R346). -/
def Dev.floorLimit (d : Dev) (a : Admitted) : Dev :=
  d.put pgPWR PWR.OP_STAT_THM
    (if a.floorOp < d.get pgPWR PWR.ST_OP_ACT then a.runOp else min (d.get pgPWR PWR.OP_STAT_THM) a.floorOp)

/-- The device with another state of the operating-point sequencer (R425). -/
def Dev.withPwr (d : Dev) (x : PwrH) : Dev := { d with pwr := x }

theorem Dev.withPwr_getAt (d : Dev) (x : PwrH) (pg : Nat) (g : Fld) (i : Nat) :
    (d.withPwr x).getAt pg g i = d.getAt pg g i := rfl

/-- A change under way to a slower point than the floor locks at the present one (R46). -/
theorem Dev.applyFloor_eq (d : Dev) (a : Admitted) :
    d.applyFloor a = if (d.floorLimit a).flag pgPWR PWR.ST_SEQ_BUSY ∧ a.floorOp < (d.floorLimit a).pwr.goal then
        ((d.floorLimit a).put pgCLK CLK.ST_PLL1_LOCK 0).withPwr
          { (d.floorLimit a).pwr with goal := d.get pgPWR PWR.ST_OP_ACT, step := 2 }
      else d.floorLimit a := rfl

theorem Dev.applyFloor_setupId (d : Dev) (a : Admitted) :
    (d.applyFloor a).get pgALM ALM.SETUP_ID = d.get pgALM ALM.SETUP_ID := by
  have hlimit : (d.floorLimit a).get pgALM ALM.SETUP_ID = d.get pgALM ALM.SETUP_ID :=
    d.get_alm_putAt _ (by decide) (by decide)
  rw [Dev.applyFloor_eq]
  split
  · rw [Dev.get, Dev.withPwr_getAt, ← Dev.get, Dev.get_alm_put _ _ (by decide) (by decide), hlimit]
  · exact hlimit

theorem Dev.opTarget_setupId (d : Dev) : d.opTarget.get pgALM ALM.SETUP_ID = d.get pgALM ALM.SETUP_ID := by
  unfold Dev.opTarget Dev.putB
  rw [Dev.get_alm_putAt _ _ (by decide) (by decide), Dev.get_alm_putAt _ _ (by decide) (by decide),
    Dev.get_alm_put _ _ (by decide) (by decide)]

/-- The last steps of an apply: the registers of the Almanac, the floor and the slices (R80, R78). -/
def Dev.applyRegs (d : Dev) (a : Admitted) : Dev :=
  let d := (d.applyAge a).put pgALM ALM.SETUP_ID a.setupId
  let d := d.put pgALM ALM.FLOOR (a.floorOp * 2 ^ 30 + a.runOp * 2 ^ 28 + d.floorHz a / 400000)
  let d := (d.put pgALM ALM.REPLACE_CNT 0).put pgALM ALM.ST_SLICES_STOPPED 0
  let d := (d.put pgBIST BIST.ST_SLICES_STOPPED 0).clearLatches
  let d := d.applyFloor a
  let d := (d.put pgPWR PWR.OP_STAT_HOST a.runOp).opTarget
  d.applySlices a

theorem Dev.applySet_eq (d : Dev) (p : Plan) : ∃ e : Dev, d.applySet p = e.applyRegs p.set := ⟨_, rfl⟩

@[simp] theorem Dev.applySlices_setupId (d : Dev) (a : Admitted) :
    (d.applySlices a).get pgALM ALM.SETUP_ID = d.get pgALM ALM.SETUP_ID := by cases d; rfl

/-- SETUP_ID reads the applied set's (R89). -/
theorem Dev.applySet_setupId (d : Dev) (p : Plan) :
    (d.applySet p).get pgALM ALM.SETUP_ID = p.set.setupId % 2 ^ 32 := by
  obtain ⟨e, he⟩ := d.applySet_eq p
  rw [he]
  unfold Dev.applyRegs
  rw [Dev.applySlices_setupId, Dev.opTarget_setupId, Dev.get_alm_put _ _ (by decide) (by decide),
    Dev.applyFloor_setupId, Dev.clearLatches_setupId, Dev.get_alm_put _ _ (by decide) (by decide)]
  rw [Dev.get_put_ne _ _ (by decide), Dev.get_put_ne _ _ (by decide), Dev.get_put_ne _ _ (by decide),
    Dev.get_put _ _ _ (by decide)]
  rfl

end Sys2Proof.Machine

/-! The Almanac's commands and their ends (R54, R80 to R89). -/

namespace Sys2Proof.Machine

/-! ### STATE of the Almanac (R89) -/

theorem Dev.almState_put (d : Dev) (v : Nat) : (d.put pgALM ALM.ST_STATE v).almState = v % 8 :=
  d.get_put pgALM v (by decide)

/-- A put into another register leaves STATE. -/
theorem Dev.almState_putAt (d : Dev) {pg : Nat} {f : Fld} {i : Nat} (v : Nat)
    (h : pgALM + ALM.ST_STATE.off + ALM.ST_STATE.stride * 0 ≠ pg + f.off + f.stride * i) :
    (d.putAt pg f i v).almState = d.almState := d.get_putAt_ne v h

theorem Dev.almState_put_ne (d : Dev) {pg : Nat} {f : Fld} (v : Nat)
    (h : pgALM + ALM.ST_STATE.off + ALM.ST_STATE.stride * 0 ≠ pg + f.off + f.stride * 0) :
    (d.put pg f v).almState = d.almState := d.get_put_ne v h

theorem Dev.almState_irq (d : Dev) (f : Fld) : (d.irq pgALM f).almState = d.almState :=
  d.getAt_irq pgALM f (by decide) (by decide) (by decide)

/-! ### Stopping the contexts (R81) -/

@[simp] theorem Dev.dropWaiting_reg (d : Dev) (c a : Nat) : (d.dropWaiting c).reg a = d.reg a := rfl

@[simp] theorem Dev.dropWaiting_getAt (d : Dev) (c pg : Nat) (f : Fld) (i : Nat) :
    (d.dropWaiting c).getAt pg f i = d.getAt pg f i := rfl

@[simp] theorem Dev.stopContexts_almanac (d : Dev) : d.stopContexts.almanac = d.almanac :=
  foldl_keeps Dev.almanac _ d fun e i _ => by
    rw [show ∀ (e : Dev) (c : Nat), (e.dropWaiting c).almanac = e.almanac from fun _ _ => rfl, Dev.putAt_almanac]

@[simp] theorem Dev.stopContexts_clu (d : Dev) : d.stopContexts.clu = d.clu :=
  foldl_keeps Dev.clu _ d fun e i _ => by
    rw [show ∀ (e : Dev) (c : Nat), (e.dropWaiting c).clu = e.clu from fun _ _ => rfl,
      show ∀ (e : Dev) (pg : Nat) (f : Fld) (i v : Nat), (e.putAt pg f i v).clu = e.clu from fun _ _ _ _ _ => rfl]

/-- Of the registers it changes CCTL of the contexts alone. -/
theorem Dev.stopContexts_reg (d : Dev) {a : Nat}
    (h : ∀ i < 63, a ≠ pgCTX + CTX.CCTL_RUN.off + CTX.CCTL_RUN.stride * (i + 1)) :
    d.stopContexts.reg a = d.reg a :=
  foldl_keeps (Dev.reg · a) _ d fun e i hi => by
    rw [Dev.dropWaiting_reg, Dev.reg_putAt_ne _ _ _ _ _ (h i (List.mem_range.1 hi))]

theorem Dev.stopContexts_getAt (d : Dev) {pg i : Nat} {f : Fld}
    (h : pg + f.off + f.stride * i < pgCTX ∨ pgFLD ≤ pg + f.off + f.stride * i) :
    d.stopContexts.getAt pg f i = d.getAt pg f i := by
  unfold Dev.getAt
  rw [Dev.stopContexts_reg]
  intro j hj
  simp only [pgCTX, pgFLD, CTX.CCTL_RUN] at h ⊢
  omega

/-- RUN of every context reads 0 (R81). -/
theorem Dev.stopContexts_run (d : Dev) {x : Nat} (h1 : 1 ≤ x) (h64 : x < 64) :
    d.stopContexts.flagAt pgCTX CTX.CCTL_RUN x = false := by
  have hstop : ∀ n, x ≤ n → ((List.range n).foldl (fun (d : Dev) i =>
      (d.putAt pgCTX CTX.CCTL_RUN (i + 1) 0).dropWaiting (i + 1)) d).getAt pgCTX CTX.CCTL_RUN x = 0 := by
    intro n
    induction n with
    | zero => omega
    | succ n ih =>
      intro hx
      rw [List.range_succ, List.foldl_append, List.foldl_cons, List.foldl_nil]
      rw [Dev.dropWaiting_getAt]
      rcases Nat.lt_or_ge n x with hlt | hge
      · rw [show x = n + 1 by omega, Dev.getAt_putAt _ _ _ _ _ (by decide), Nat.zero_mod]
      · rw [Dev.getAt_putAt_ne, ih hge]
        simp only [CTX.CCTL_RUN]
        omega
  rw [Dev.flagAt, Dev.stopContexts, hstop 63 (by omega)]
  rfl

theorem Dev.stopContexts_almState (d : Dev) : d.stopContexts.almState = d.almState :=
  d.stopContexts_getAt (.inl (by decide))

/-- Which jobs run is a matter of the clusters alone. -/
theorem Dev.jobRuns_congr {d e : Dev} (h : d.clu = e.clu) : d.jobRuns = e.jobRuns := by
  unfold Dev.jobRuns
  rw [h]

/-! ### Refusals (R54, R82, R88) -/

@[simp] theorem Dev.admRefuse_adm (d : Dev) (r : Refuse) : (d.admRefuse r).adm = d.adm := by
  simp only [Dev.admRefuse, Dev.irq_adm, Dev.putAt_adm, Dev.put_adm]

theorem Dev.admRefuse_almState (d : Dev) (r : Refuse) : (d.admRefuse r).almState = d.almState := by
  unfold Dev.admRefuse
  rw [Dev.almState_irq, Dev.almState_putAt _ _ (by decide), Dev.almState_putAt _ _ (by decide),
    Dev.almState_put_ne _ _ (by decide), Dev.almState_put_ne _ _ (by decide)]

theorem Dev.admRefuse_code (d : Dev) (r : Refuse) : (d.admRefuse r).get pgALM ALM.REFUSE_CODE = r.code % 2 ^ 16 := by
  unfold Dev.admRefuse
  rw [Dev.get_irq _ _ _ (by decide) (by decide) (by decide), Dev.get_putAt_ne _ _ (by decide),
    Dev.get_putAt_ne _ _ (by decide), Dev.get_put_ne _ _ (by decide), Dev.get_put _ _ _ (by decide)]
  rfl

theorem Dev.admRefuse_irq (d : Dev) (r : Refuse) : (d.admRefuse r).flag pgALM ALM.IRQ_REFUSED = true :=
  Dev.flag_irq _ _ rfl rfl (by decide) (by decide) (by decide)

/-- A code that is no refusal of a set goes to ERRCODE and to the REFUSE registers with its DETAIL0; STATE and the command
that runs stay (R82, R88). -/
theorem Dev.admStore_spec {d : Dev} {code : Nat} (hcode : partnerKind code = none) (d0 : Nat) :
    (d.admStore code d0).almState = d.almState ∧ (d.admStore code d0).almanac = d.almanac ∧
      (d.admStore code d0).get pgALM ALM.REFUSE_CODE = code % 2 ^ 16 ∧
      (d.admStore code d0).getAt pgALM ALM.REFUSE_DETAIL 0 = d0 % 2 ^ 32 ∧
      (d.get pgALM COM.ERRCODE_CODE = 0 → (d.admStore code d0).get pgALM COM.ERRCODE_CODE = code % 2 ^ 16) := by
  unfold Dev.admStore
  rw [Dev.err_own hcode]
  refine ⟨?_, ?_, ?_, ?_, fun hfirst => ?_⟩
  · rw [Dev.almState_putAt _ _ (by decide), Dev.almState_putAt _ _ (by decide), Dev.almState_put_ne _ _ (by decide),
      Dev.almState_put_ne _ _ (by decide)]
    exact Dev.get_errStore _ _ _ _ (by decide)
  · rw [Dev.putAt_almanac, Dev.putAt_almanac, Dev.put_almanac, Dev.put_almanac, Dev.errStore_almanac]
  · rw [Dev.get_putAt_ne _ _ (by decide), Dev.get_putAt_ne _ _ (by decide), Dev.get_put_ne _ _ (by decide),
      Dev.get_put _ _ _ (by decide)]
    rfl
  · rw [Dev.getAt_putAt_ne _ _ (by decide), Dev.getAt_putAt _ _ _ _ _ (by decide)]
    rfl
  · rw [Dev.get_putAt_ne _ _ (by decide), Dev.get_putAt_ne _ _ (by decide), Dev.get_put_ne _ _ (by decide),
      Dev.get_put_ne _ _ (by decide), Dev.errStore_first hfirst]

/-! ### Commands (R80 to R82, R89) -/

/-- The Almanac notes a command, the STATE before it and where the set stands (R80). -/
def Dev.admNoted (d : Dev) (cmd : Nat) : Dev :=
  { d with almanac := ⟨cmd, d.almState, d.get pgALM ALM.DECL_ADDR * 4, d.get pgALM ALM.DECL_LEN, [], none, false⟩ }

@[simp] theorem Dev.admNoted_almState (d : Dev) (cmd : Nat) : (d.admNoted cmd).almState = d.almState := rfl
@[simp] theorem Dev.admNoted_cmd (d : Dev) (cmd : Nat) : (d.admNoted cmd).almanac.cmd = cmd := rfl
@[simp] theorem Dev.admNoted_prev (d : Dev) (cmd : Nat) : (d.admNoted cmd).almanac.prev = d.almState := rfl

theorem Dev.admCommand_busy {d : Dev} (h : d.almBusy = true) (cmd : Nat) : d.admCommand cmd = d.admBusyErr := by
  rw [Dev.admCommand, if_pos h]

theorem Dev.admReserved_busy {d : Dev} (h : d.almBusy = true) (cmd : Nat) : d.admReserved cmd = d.admBusyErr := by
  rw [Dev.admReserved, if_pos h]

theorem Dev.admReserved_idle {d : Dev} (h : d.almBusy = false) (cmd : Nat) :
    d.admReserved cmd = d.admStore Err.ADM_CMD_CODE cmd := by
  rw [Dev.admReserved, h, if_neg Bool.false_ne_true]

/-- A command that the idle Almanac takes (R80, R81). -/
theorem Dev.admCommand_taken {d : Dev} (h : d.almBusy = false) {cmd : Nat} (hrun : cmd = 1 ∨ d.admRunning = none) :
    d.admCommand cmd =
      if cmd = 3 then
        if d.almState = 0 then (d.admNoted cmd).irq pgALM ALM.IRQ_DONE
        else ((d.admNoted cmd).put pgALM ALM.ST_STATE 3).stopContexts
      else (d.admNoted cmd).put pgALM ALM.ST_STATE 1 := by
  have hnone : (if cmd = 1 then none else d.admRunning) = none := by
    rcases hrun with hcmd | hrun
    · rw [if_pos hcmd]
    · rw [hrun, ite_self]
  rw [Dev.admCommand, h, if_neg Bool.false_ne_true, hnone]
  rfl

/-! ### The end of a check and of an application (R54, R80 to R84) -/

@[simp] theorem Soc.putWords_dev (s : Soc) (a : Nat) (l : List Nat) : (s.putWords a l).dev = s.dev := by
  induction l generalizing s a with
  | nil => rfl
  | cons v t ih => rw [Soc.putWords, ih, Soc.putWord_dev]

/-- Of the device, the placement record changes PLACE_ADDR and PLACE_LEN (R84). -/
theorem Soc.writeRecord_dev (s : Soc) (p : Plan) : ∃ n,
    (s.writeRecord p).dev = (s.dev.put pgALM ALM.PLACE_ADDR placeRecord).put pgALM ALM.PLACE_LEN n := by
  refine ⟨4 * (s.dev.recordWords p).length, ?_⟩
  unfold Soc.writeRecord
  rw [Soc.map_dev, Soc.putWords_dev]

/-- The device with another command timeline of the Almanac. -/
def Dev.withAlmanac (d : Dev) (m : AdmH) : Dev := { d with almanac := m }

@[simp] theorem Dev.withAlmanac_almanac (d : Dev) (m : AdmH) : (d.withAlmanac m).almanac = m := rfl
@[simp] theorem Dev.withAlmanac_adm (d : Dev) (m : AdmH) : (d.withAlmanac m).adm = d.adm := rfl
@[simp] theorem Dev.withAlmanac_clu (d : Dev) (m : AdmH) : (d.withAlmanac m).clu = d.clu := rfl
@[simp] theorem Dev.withAlmanac_reg (d : Dev) (m : AdmH) (a : Nat) : (d.withAlmanac m).reg a = d.reg a := rfl

@[simp] theorem Dev.put_clu (d : Dev) (pg : Nat) (f : Fld) (v : Nat) : (d.put pg f v).clu = d.clu := by cases d; rfl

theorem Dev.reg_put_ne (d : Dev) (pg : Nat) (f : Fld) (v : Nat) {a : Nat} (h : a ≠ pg + f.off + f.stride * 0) :
    (d.put pg f v).reg a = d.reg a := d.reg_putAt_ne pg f 0 v h

/-! #### The copy -/

theorem Dev.copied_eq (d : Dev) (mem : List Host.Cell) : d.copied mem =
    if d.almState = 1 then
      (d.withAlmanac { d.almanac with copy := memGetList mem d.almanac.addr d.almanac.len }).put pgALM ALM.ST_STATE 2
    else d := rfl

/-- The copy changes STATUS and the copied bytes alone. -/
theorem Dev.copied_keeps (d : Dev) (mem : List Host.Cell) :
    (d.copied mem).adm = d.adm ∧ (d.copied mem).clu = d.clu ∧
      (d.copied mem).almanac = { d.almanac with copy := (d.copied mem).almanac.copy } ∧
      ∀ a, a ≠ pgALM + ALM.ST_STATE.off + ALM.ST_STATE.stride * 0 → (d.copied mem).reg a = d.reg a := by
  rw [Dev.copied_eq]
  split
  · refine ⟨?_, ?_, ?_, fun a ha => ?_⟩
    · rw [Dev.put_adm, Dev.withAlmanac_adm]
    · rw [Dev.put_clu, Dev.withAlmanac_clu]
    · rw [Dev.put_almanac, Dev.withAlmanac_almanac]
    · rw [Dev.reg_put_ne _ _ _ _ ha, Dev.withAlmanac_reg]
  · exact ⟨rfl, rfl, rfl, fun _ _ => rfl⟩

/-- Whether a stage of the set is enabled is a matter of the set and of the stages' CTRL (R80). -/
theorem Dev.admRunning_congr {d e : Dev} (hadm : d.adm = e.adm) (hreg : ∀ a, pgEPH ≤ a → d.reg a = e.reg a) :
    d.admRunning = e.admRunning := by
  have hen : ∀ k, d.flag (pgSTG k) COM.CTRL_EN = e.flag (pgSTG k) COM.CTRL_EN := by
    intro k
    unfold Dev.flag Dev.getAt
    rw [hreg _ (by simp only [pgSTG, pgEPH]; omega)]
  simp only [Dev.admRunning, hadm, hen]

/-! #### The three ends of a check -/

theorem Soc.admChecked_refused {s : Soc} {dis : Dev → Admitted → Check Unit} {r : Refuse}
    (h : s.admVerify dis = .error r) :
    s.admChecked dis = s.map (fun d => (d.almBack.put pgALM ALM.ST_LAST_REFUSED 1).admRefuse r) := by
  simp only [Soc.admChecked, h]

theorem Soc.admChecked_check {s : Soc} {dis : Dev → Admitted → Check Unit} {p : Plan} (h : s.admVerify dis = .ok p)
    (hcmd : s.dev.almanac.cmd = 1) :
    s.admChecked dis = ((s.map (fun d => d.put pgALM ALM.ST_LAST_REFUSED 0)).writeRecord p).map
      (fun d => d.almBack.irq pgALM ALM.IRQ_DONE) := by
  simp only [Soc.admChecked, h, hcmd, if_true]

/-- An ADMIT that passed, noted in `m`, goes to APPLYING with its plan, and every context stops (R80, R81). -/
def Dev.admApplying (m : AdmH) (p : Plan) (d : Dev) : Dev :=
  ((d.withAlmanac { m with next := some p }).put pgALM ALM.ST_STATE 3).stopContexts

theorem Soc.admChecked_admit {s : Soc} {dis : Dev → Admitted → Check Unit} {p : Plan} (h : s.admVerify dis = .ok p)
    (hcmd : s.dev.almanac.cmd ≠ 1) (hrun : s.dev.admRunning = none) :
    s.admChecked dis = ((s.map (fun d => d.put pgALM ALM.ST_LAST_REFUSED 0)).map
      (Dev.admApplying s.dev.almanac p)).admTryFinish := by
  unfold Soc.admChecked
  rw [h]
  dsimp only
  rw [if_neg hcmd, hrun]
  dsimp only
  rw [if_neg hcmd]
  rfl

theorem Dev.admApplying_almState (m : AdmH) (p : Plan) (d : Dev) : (d.admApplying m p).almState = 3 := by
  rw [Dev.admApplying, Dev.stopContexts_almState, Dev.almState_put]

theorem Dev.admApplying_almanac (m : AdmH) (p : Plan) (d : Dev) :
    (d.admApplying m p).almanac = { m with next := some p } := by
  rw [Dev.admApplying, Dev.stopContexts_almanac, Dev.put_almanac, Dev.withAlmanac_almanac]

theorem Dev.admApplying_clu (m : AdmH) (p : Plan) (d : Dev) : (d.admApplying m p).clu = d.clu := by
  rw [Dev.admApplying, Dev.stopContexts_clu, Dev.put_clu, Dev.withAlmanac_clu]

theorem Dev.admApplying_run (m : AdmH) (p : Plan) (d : Dev) {x : Nat} (h1 : 1 ≤ x) (h64 : x < 64) :
    (d.admApplying m p).flagAt pgCTX CTX.CCTL_RUN x = false := Dev.stopContexts_run _ h1 h64

/-- Going to APPLYING leaves a host run of the self-test as it is. -/
theorem Dev.admApplying_bistBusy (m : AdmH) (p : Plan) (d : Dev) :
    (d.admApplying m p).flag pgBIST BIST.ST_BUSY = d.flag pgBIST BIST.ST_BUSY := by
  unfold Dev.flag Dev.admApplying
  rw [Dev.stopContexts_getAt _ (.inr (by decide))]
  unfold Dev.getAt
  rw [Dev.reg_put_ne _ _ _ _ (by decide), Dev.withAlmanac_reg]

/-! #### STATE after a command that left the set in place -/

theorem Dev.almBack_almState (d : Dev) :
    d.almBack.almState = if d.almanac.reduced && d.almanac.prev != 0 then 5 else d.almanac.prev % 8 := by
  rw [Dev.almBack, Dev.almState_put]
  split <;> rfl

@[simp] theorem Dev.almBack_adm (d : Dev) : d.almBack.adm = d.adm := d.put_adm _ _ _

theorem Dev.almBack_get (d : Dev) {f : Fld} (h : pgALM + f.off + f.stride * 0 ≠ pgALM + ALM.ST_STATE.off) :
    d.almBack.get pgALM f = d.get pgALM f := d.get_put_ne _ h

/-! #### Release and application -/

theorem Soc.admTryFinish_waits {s : Soc} (h : s.dev.jobRuns = true) : s.admTryFinish = s := by
  rw [Soc.admTryFinish, h, Bool.true_or, if_pos rfl]

theorem Soc.admTryFinish_finishes {s : Soc} (hjobs : s.dev.jobRuns = false)
    (hbist : s.dev.almanac.cmd ≠ 2 ∨ s.dev.flag pgBIST BIST.ST_BUSY = false) :
    s.admTryFinish = s.admFinish s.dev.almanac.next := by
  have hwait : (s.dev.almanac.cmd == 2 && s.dev.flag pgBIST BIST.ST_BUSY) = false := by
    rcases hbist with hcmd | hbusy
    · rw [beq_false_of_ne hcmd, Bool.false_and]
    · rw [hbusy, Bool.and_false]
  rw [Soc.admTryFinish, hjobs, hwait, Bool.false_or, if_neg Bool.false_ne_true]

/-- A set that has been applied is in force, with STATE, SETUP_ID and DONE (R80, R89). -/
theorem Soc.admFinish_applied (s : Soc) (p : Plan) :
    (s.admFinish (some p)).dev.almState = (if s.dev.almanac.reduced then 5 else 4) ∧
      (s.admFinish (some p)).dev.adm = some p.set ∧
      (s.admFinish (some p)).dev.get pgALM ALM.SETUP_ID = p.set.setupId % 2 ^ 32 ∧
      (s.admFinish (some p)).dev.flag pgALM ALM.IRQ_DONE = true := by
  have hdev : ∃ e : Dev, (s.admFinish (some p)).dev =
      ((e.applySet p).put pgALM ALM.ST_STATE (if s.dev.almanac.reduced then 5 else 4)).irq pgALM ALM.IRQ_DONE :=
    ⟨((s.map Dev.releaseSet).writeRecord p).dev, by rw [Soc.admFinish, Soc.map_dev]⟩
  obtain ⟨e, he⟩ := hdev
  rw [he]
  refine ⟨?_, ?_, ?_, Dev.flag_irq _ _ rfl rfl (by decide) (by decide) (by decide)⟩
  · rw [Dev.almState_irq, Dev.almState_put]
    split <;> rfl
  · rw [Dev.irq_adm, Dev.put_adm, Dev.applySet_adm]
  · rw [Dev.get_irq _ _ _ (by decide) (by decide) (by decide), Dev.get_put_ne _ _ (by decide), Dev.applySet_setupId]

/-- After a release no set is in force and STATE is EMPTY (R81, R89). -/
theorem Soc.admFinish_released (s : Soc) :
    (s.admFinish none).dev.almState = 0 ∧ (s.admFinish none).dev.adm = none ∧
      (s.admFinish none).dev.get pgALM ALM.SETUP_ID = 0 ∧ (s.admFinish none).dev.flag pgALM ALM.IRQ_DONE = true ∧
      (s.admFinish none).mem = s.mem := by
  have hdev : (s.admFinish none).dev = (s.dev.releaseSet.put pgALM ALM.ST_STATE 0).irq pgALM ALM.IRQ_DONE := by
    rw [Soc.admFinish, Soc.map_dev, Soc.map_dev]
  have hmem : (s.admFinish none).mem = s.mem := by rw [Soc.admFinish, Soc.map_mem, Soc.map_mem]
  rw [hdev]
  refine ⟨?_, ?_, ?_, Dev.flag_irq _ _ rfl rfl (by decide) (by decide) (by decide), hmem⟩
  · rw [Dev.almState_irq, Dev.almState_put]
  · rw [Dev.irq_adm, Dev.put_adm, Dev.releaseSet_adm]
  · rw [Dev.get_irq _ _ _ (by decide) (by decide) (by decide), Dev.get_put_ne _ _ (by decide), Dev.releaseSet_setupId]

/-! #### ADMISSION_COMPLETE -/

theorem Soc.copied_else {s : Soc} (h : s.dev.almState ≠ 1) : s.copied = s := by
  rw [Soc.copied, Soc.map, Dev.copied_else h]

theorem Soc.admissionComplete_checks {s : Soc} (h : s.dev.almState = 1 ∨ s.dev.almState = 2)
    (dis : Dev → Admitted → Check Unit) : s.admissionComplete dis = s.copied.admChecked dis := by
  rcases h with h | h
  · simp only [Soc.admissionComplete, h]
  · rw [Soc.copied_else (by rw [h]; decide)]
    simp only [Soc.admissionComplete, h]

theorem Soc.admissionComplete_applying {s : Soc} (h : s.dev.almState = 3) (dis : Dev → Admitted → Check Unit) :
    s.admissionComplete dis = s.admTryFinish := by
  simp only [Soc.admissionComplete, h]

end Sys2Proof.Machine

/-! The rows of the Almanac. -/

namespace Sys2Proof.Machine

/-! ### The rows -/

theorem exec_check {s : State} (h : s.soc.answers (pgALM + 0x48) = true) :
    exec .check s = .next { s with soc := s.soc.map Dev.admCheck } := by
  rw [← Soc.cmdReg_answers h]
  rfl

theorem exec_admitSet {s : State} (h : s.soc.answers (pgALM + 0x48) = true) :
    exec .admitSet s = .next { s with soc := s.soc.map Dev.admAdmit } := by
  rw [← Soc.cmdReg_answers h]
  rfl

theorem exec_release {s : State} (h : s.soc.answers (pgALM + 0x48) = true) :
    exec .release s = .next { s with soc := s.soc.map Dev.admRelease } := by
  rw [← Soc.cmdReg_answers h]
  rfl

theorem exec_admCmdReserved {s : State} (h : s.soc.answers (pgALM + 0x48) = true) {code : BitVec 3} (hcode : 4 ≤ code.toNat) :
    exec (.admCmdReserved code) s = .next { s with soc := s.soc.map (Dev.admReserved code.toNat) } := by
  have hrow : exec (.admCmdReserved code) s
      = s.host (Soc.cmdReg (pgALM + 0x48) (fun d => if code.toNat < 4 then d else d.admReserved code.toNat)) := rfl
  have heffect : (fun d : Dev => if code.toNat < 4 then d else d.admReserved code.toNat) = Dev.admReserved code.toNat :=
    funext fun d => if_neg (by omega)
  rw [hrow, State.host_eq, Soc.cmdReg_answers h, heffect]

theorem exec_admissionComplete (dt : Nat) (s : State) :
    exec (.admissionComplete dt) s = .next { s with soc :=
      ((s.soc.after dt).admissionComplete disCheck).map (fun d => (s.soc.after dt).dev.follow d) } := rfl

/-! ### Commands -/

/-- CHECK and ADMIT that the idle Almanac takes: it begins COPYING and notes the command. -/
theorem Dev.admCommand_copying {d : Dev} (hidle : d.almBusy = false) {cmd : Nat} (hrun : cmd = 1 ∨ d.admRunning = none)
    (hcmd : cmd ≠ 3) :
    (d.admCommand cmd).almState = 1 ∧ (d.admCommand cmd).almanac.cmd = cmd ∧
      (d.admCommand cmd).almanac.prev = d.almState := by
  rw [Dev.admCommand_taken hidle hrun, if_neg hcmd]
  refine ⟨?_, ?_, ?_⟩
  · rw [Dev.almState_put]
  · rw [Dev.put_almanac, Dev.admNoted_cmd]
  · rw [Dev.put_almanac, Dev.admNoted_prev]

/-- A RELEASE of the EMPTY Almanac is done at once. -/
theorem Dev.admRelease_empty {d : Dev} (hidle : d.almBusy = false) (hrun : d.admRunning = none) (hempty : d.almState = 0) :
    d.admRelease.flag pgALM ALM.IRQ_DONE = true ∧ d.admRelease.almState = 0 := by
  rw [Dev.admRelease, Dev.admCommand_taken hidle (.inr hrun), if_pos rfl, if_pos hempty]
  exact ⟨Dev.flag_irq _ _ rfl rfl (by decide) (by decide) (by decide),
    by rw [Dev.almState_irq, Dev.admNoted_almState, hempty]⟩

/-- A RELEASE of a set goes to APPLYING and stops every context. -/
theorem Dev.admRelease_applying {d : Dev} (hidle : d.almBusy = false) (hrun : d.admRunning = none) (hset : d.almState ≠ 0) :
    d.admRelease.almState = 3 ∧ d.admRelease.almanac.cmd = 3 ∧
      ∀ x : Nat, 1 ≤ x → x < 64 → d.admRelease.flagAt pgCTX CTX.CCTL_RUN x = false := by
  rw [Dev.admRelease, Dev.admCommand_taken hidle (.inr hrun), if_pos rfl, if_neg hset]
  refine ⟨?_, ?_, fun x h1 h64 => Dev.stopContexts_run _ h1 h64⟩
  · rw [Dev.stopContexts_almState, Dev.almState_put]
  · rw [Dev.stopContexts_almanac, Dev.put_almanac, Dev.admNoted_cmd]

/-- STATE is a field of three bits. -/
theorem Dev.almState_lt (d : Dev) : d.almState < 8 := Nat.mod_lt _ (by decide)

/-- What every command stores while the Almanac is busy (R82). -/
theorem Dev.admBusyErr_spec (d : Dev) :
    d.admBusyErr.almState = d.almState ∧ d.admBusyErr.get pgALM ALM.REFUSE_CODE = Err.ADM_BUSY ∧
      d.admBusyErr.getAt pgALM ALM.REFUSE_DETAIL 0 = d.almState ∧ d.admBusyErr.almanac = d.almanac := by
  obtain ⟨hstate, halm, hcode, hdetail, -⟩ := d.admStore_spec (code := Err.ADM_BUSY) rfl d.almState
  have hlt := d.almState_lt
  exact ⟨hstate, hcode, hdetail.trans (Nat.mod_eq_of_lt (by omega)), halm⟩

/-- What a reserved command stores in the idle Almanac (R89). -/
theorem Dev.admReserved_spec {d : Dev} (hidle : d.almBusy = false) (code : BitVec 3) :
    (d.admReserved code.toNat).almState = d.almState ∧
      (d.admReserved code.toNat).get pgALM ALM.REFUSE_CODE = Err.ADM_CMD_CODE ∧
      (d.admReserved code.toNat).getAt pgALM ALM.REFUSE_DETAIL 0 = code.toNat ∧
      (d.get pgALM COM.ERRCODE_CODE = 0 →
        (d.admReserved code.toNat).get pgALM COM.ERRCODE_CODE = Err.ADM_CMD_CODE) := by
  obtain ⟨hstate, -, hrefuse, hdetail, herr⟩ := d.admStore_spec (code := Err.ADM_CMD_CODE) rfl code.toNat
  rw [Dev.admReserved_idle hidle]
  exact ⟨hstate, hrefuse, hdetail.trans (Nat.mod_eq_of_lt (by omega)), herr⟩

/-- Each of the Almanac's commands stores ADM_BUSY while it is busy. -/
theorem exec_almanacCommand_busy {s : State} (h : s.soc.answers (pgALM + 0x48) = true) (hbusy : s.soc.dev.almBusy = true)
    {c : Instr} {code : BitVec 3} (hc : c ∈ [.check, .admitSet, .release, .admCmdReserved code]) (hcode : 4 ≤ code.toNat) :
    exec c s = .next { s with soc := s.soc.map Dev.admBusyErr } := by
  simp only [List.mem_cons, List.not_mem_nil, or_false] at hc
  rcases hc with rfl | rfl | rfl | rfl
  · rw [exec_check h, Soc.map, Dev.admCheck, Dev.admCommand_busy hbusy]
    rfl
  · rw [exec_admitSet h, Soc.map, Dev.admAdmit, Dev.admCommand_busy hbusy]
    rfl
  · rw [exec_release h, Soc.map, Dev.admRelease, Dev.admCommand_busy hbusy]
    rfl
  · rw [exec_admCmdReserved h hcode, Soc.map, Dev.admReserved_busy hbusy]
    rfl

/-! ### ADMISSION_COMPLETE -/

/-- What an observer sees of a CHECK that passed (R80, R84). -/
theorem Soc.admChecked_check_spec {s : Soc} {dis : Dev → Admitted → Check Unit} {p : Plan} (h : s.admVerify dis = .ok p)
    (hcmd : s.dev.almanac.cmd = 1) :
    (s.admChecked dis).dev.almState
        = (if s.dev.almanac.reduced && s.dev.almanac.prev != 0 then 5 else s.dev.almanac.prev % 8) ∧
      (s.admChecked dis).dev.get pgALM ALM.PLACE_ADDR = placeRecord ∧
      (s.admChecked dis).dev.flag pgALM ALM.IRQ_DONE = true ∧
      (s.admChecked dis).dev.flag pgALM ALM.ST_LAST_REFUSED = false ∧ (s.admChecked dis).dev.adm = s.dev.adm := by
  obtain ⟨n, hrec⟩ := (s.map (fun d => d.put pgALM ALM.ST_LAST_REFUSED 0)).writeRecord_dev p
  rw [Soc.admChecked_check h hcmd, Soc.map_dev, hrec, Soc.map_dev]
  refine ⟨?_, ?_, Dev.flag_irq _ _ rfl rfl (by decide) (by decide) (by decide), ?_, ?_⟩
  · rw [Dev.almState_irq, Dev.almBack_almState, Dev.put_almanac, Dev.put_almanac, Dev.put_almanac]
  · rw [Dev.get_irq _ _ _ (by decide) (by decide) (by decide), Dev.almBack_get _ (by decide),
      Dev.get_put_ne _ _ (by decide), Dev.get_put _ _ _ (by decide)]
    rfl
  · change (Dev.get _ pgALM ALM.ST_LAST_REFUSED != 0) = false
    rw [Dev.get_irq _ _ _ (by decide) (by decide) (by decide), Dev.almBack, Dev.get_put_apart _ _ (by decide) (by decide),
      Dev.get_put_ne _ _ (by decide), Dev.get_put_ne _ _ (by decide), Dev.get_put _ _ _ (by decide)]
    rfl
  · rw [Dev.irq_adm, Dev.almBack_adm, Dev.put_adm, Dev.put_adm, Dev.put_adm]

/-- What an observer sees of a set that failed (R54, R88). -/
theorem Soc.admChecked_refused_spec {s : Soc} {dis : Dev → Admitted → Check Unit} {r : Refuse}
    (h : s.admVerify dis = .error r) :
    (s.admChecked dis).dev.almState
        = (if s.dev.almanac.reduced && s.dev.almanac.prev != 0 then 5 else s.dev.almanac.prev % 8) ∧
      (s.admChecked dis).dev.get pgALM ALM.REFUSE_CODE = r.code % 2 ^ 16 ∧
      (s.admChecked dis).dev.flag pgALM ALM.IRQ_REFUSED = true ∧ (s.admChecked dis).dev.adm = s.dev.adm ∧
      (s.admChecked dis).mem = s.mem := by
  rw [Soc.admChecked_refused h, Soc.map_dev]
  refine ⟨?_, Dev.admRefuse_code _ r, Dev.admRefuse_irq _ r, ?_, Soc.map_mem _ _⟩
  · rw [Dev.admRefuse_almState, Dev.almState, Dev.get_put_apart _ _ (by decide) (by decide), ← Dev.almState,
      Dev.almBack_almState]
  · rw [Dev.admRefuse_adm, Dev.put_adm, Dev.almBack_adm]

section
variable {s : Soc} {dis : Dev → Admitted → Check Unit} {p : Plan} (h : s.admVerify dis = .ok p)
  (hcmd : s.dev.almanac.cmd ≠ 1) (hrun : s.dev.admRunning = none)
include h hcmd hrun

/-- An ADMIT that passed waits in APPLYING while jobs run (R80, R81). -/
theorem Soc.admChecked_admit_waits (hjobs : s.dev.jobRuns = true) :
    (s.admChecked dis).dev.almState = 3 ∧ (s.admChecked dis).dev.almanac.next = some p ∧ (s.admChecked dis).mem = s.mem ∧
      ∀ x : Nat, 1 ≤ x → x < 64 → (s.admChecked dis).dev.flagAt pgCTX CTX.CCTL_RUN x = false := by
  rw [Soc.admChecked_admit h hcmd hrun, Soc.admTryFinish_waits, Soc.map_dev, Dev.admApplying_almanac]
  · exact ⟨Dev.admApplying_almState _ _ _, rfl, by rw [Soc.map_mem, Soc.map_mem],
      fun x h1 h64 => Dev.admApplying_run _ _ _ h1 h64⟩
  · rw [← hjobs]
    exact Dev.jobRuns_congr (by rw [Soc.map_dev, Dev.admApplying_clu, Soc.map_dev, Dev.put_clu])

/-- An ADMIT that passed is applied when no job and no host run of the self-test runs (R80, R449). -/
theorem Soc.admChecked_admit_applied (hjobs : s.dev.jobRuns = false) (hbist : s.dev.flag pgBIST BIST.ST_BUSY = false) :
    (s.admChecked dis).dev.almState = (if s.dev.almanac.reduced then 5 else 4) ∧
      (s.admChecked dis).dev.adm = some p.set ∧
      (s.admChecked dis).dev.get pgALM ALM.SETUP_ID = p.set.setupId % 2 ^ 32 ∧
      (s.admChecked dis).dev.flag pgALM ALM.IRQ_DONE = true := by
  have hjobs' : ((s.map (fun d => d.put pgALM ALM.ST_LAST_REFUSED 0)).map
      (Dev.admApplying s.dev.almanac p)).dev.jobRuns = false := by
    rw [← hjobs]
    exact Dev.jobRuns_congr (by rw [Soc.map_dev, Dev.admApplying_clu, Soc.map_dev, Dev.put_clu])
  have hbist' : ((s.map (fun d => d.put pgALM ALM.ST_LAST_REFUSED 0)).map
      (Dev.admApplying s.dev.almanac p)).dev.flag pgBIST BIST.ST_BUSY = false := by
    rw [Soc.map_dev, Dev.admApplying_bistBusy, ← hbist, Soc.map_dev]
    unfold Dev.flag Dev.getAt
    rw [Dev.reg_put_ne _ _ _ _ (by decide)]
  have halm : ((s.map (fun d => d.put pgALM ALM.ST_LAST_REFUSED 0)).map
      (Dev.admApplying s.dev.almanac p)).dev.almanac = { s.dev.almanac with next := some p } := by
    rw [Soc.map_dev, Dev.admApplying_almanac]
  have happlied := Soc.admFinish_applied ((s.map (fun d => d.put pgALM ALM.ST_LAST_REFUSED 0)).map
    (Dev.admApplying s.dev.almanac p)) p
  rw [Soc.admChecked_admit h hcmd hrun, Soc.admTryFinish_finishes hjobs' (.inr hbist'), halm]
  rwa [halm] at happlied

end

/-- What the copy leaves of the block that the checks read. -/
theorem Soc.copied_dev_keeps (b : Soc) :
    b.copied.dev.adm = b.dev.adm ∧ b.copied.dev.jobRuns = b.dev.jobRuns ∧ b.copied.dev.admRunning = b.dev.admRunning ∧
      b.copied.dev.almanac = { b.dev.almanac with copy := b.copied.dev.almanac.copy } ∧
      b.copied.dev.flag pgBIST BIST.ST_BUSY = b.dev.flag pgBIST BIST.ST_BUSY ∧ b.copied.mem = b.mem := by
  obtain ⟨hadm, hclu, halm, hreg⟩ := b.dev.copied_keeps b.mem
  refine ⟨hadm, Dev.jobRuns_congr hclu, Dev.admRunning_congr hadm fun a ha => hreg a ?_, halm, ?_, rfl⟩
  · simp only [pgEPH, pgALM, ALM.ST_STATE] at ha ⊢
    omega
  · exact congrArg (fun w => wordField w BIST.ST_BUSY.lo BIST.ST_BUSY.width != 0) (hreg (pgBIST + BIST.ST_BUSY.off) (by decide))

/-! ### The statement -/

/-- Settles O7: the check and the copy leave the command's timeline, the stages' enables and the jobs alone, an apply puts
the checked set in force and no later step of it changes the set or SETUP_ID, and a release ends with no set. -/
theorem almanacCommandsBeginAndEnd : Obligations.AlmanacCommandsBeginAndEnd := by
  refine ⟨fun s h => ⟨fun hidle => ⟨?_, fun hrun => ⟨?_, fun hempty => ?_, fun hset => ?_⟩, fun code hcode => ?_⟩,
    fun hbusy c code hc hcode => ?_⟩, ?_, ?_⟩
  · obtain ⟨hstate, hcmd, hprev⟩ := Dev.admCommand_copying hidle (cmd := 1) (.inl rfl) (by decide)
    exact ⟨_, exec_check h, hstate, hcmd, hprev, Soc.map_mem _ _⟩
  · obtain ⟨hstate, hcmd, hprev⟩ := Dev.admCommand_copying hidle (cmd := 2) (.inr hrun) (by decide)
    exact ⟨_, exec_admitSet h, hstate, hcmd, hprev, Soc.map_mem _ _⟩
  · obtain ⟨hdone, hstate⟩ := Dev.admRelease_empty hidle hrun hempty
    exact ⟨_, exec_release h, hdone, hstate, Soc.map_mem _ _⟩
  · obtain ⟨hstate, hcmd, hstop⟩ := Dev.admRelease_applying hidle hrun hset
    exact ⟨_, exec_release h, hstate, hcmd, Soc.map_mem _ _, hstop⟩
  · refine ⟨_, exec_admCmdReserved h hcode, ?_⟩
    rw [Soc.map_dev]
    exact Dev.admReserved_spec hidle code
  · exact ⟨_, exec_almanacCommand_busy h hbusy hc hcode, s.soc.dev.admBusyErr_spec⟩
  · intro dt s b c hb hc hstate
    subst hb hc
    obtain ⟨hadm, hjobs, hrunning, halm, hbist, hmem⟩ := (s.soc.after dt).copied_dev_keeps
    have hexec := exec_admissionComplete dt s
    rw [Soc.admissionComplete_checks hstate] at hexec
    refine ⟨fun p hok => ⟨fun hcmd => ⟨_, hexec, ?_⟩, fun hcmd hrun => ⟨fun hjob => ⟨_, hexec, ?_⟩,
      fun hjob hidle => ⟨_, hexec, ?_⟩⟩⟩, fun r herr => ⟨_, hexec, ?_⟩⟩
    · have hspec := Soc.admChecked_check_spec hok (by rw [halm]; exact hcmd)
      rwa [halm, hadm] at hspec
    · exact Soc.admChecked_admit_waits hok (by rw [halm]; exact hcmd) (hrunning.trans hrun) (hjobs.trans hjob)
    · have hspec := Soc.admChecked_admit_applied hok (by rw [halm]; exact hcmd) (hrunning.trans hrun) (hjobs.trans hjob)
        (hbist.trans hidle)
      rwa [halm] at hspec
    · have hspec := Soc.admChecked_refused_spec herr
      rwa [halm, hadm] at hspec
  · intro dt s b hb hstate hcmd hnext hjob
    subst hb
    have hexec := exec_admissionComplete dt s
    rw [Soc.admissionComplete_applying hstate, Soc.admTryFinish_finishes hjob (.inl (by rw [hcmd]; decide)), hnext] at hexec
    exact ⟨_, hexec, Soc.admFinish_released _⟩

end Sys2Proof.Machine

/-! In-operation slices (R76 to R79, R355): a rotation that a stray context undoes. -/

namespace Sys2Proof.Machine

/-! ### The obstacle: a CCFG word outside the CTX page -/

/-- A context number that no context of the device has (R257), and whose CCFG word would stand in the page of cluster 3. -/
def strayContext : Nat := 12666

/-- The CCFG word of that context is the CFG register of cluster 3. -/
theorem ccfg_strayContext :
    pgCTX + CTX.CCFG_STREAM.off + CTX.CCFG_STREAM.stride * strayContext = pgCLU 3 + CLU.CFG_MAIN.off := rfl

/-- A set with that context alone, in which h(3) is the stream P 0 (R76). -/
def strayContextSet : Admitted :=
  { setupId := 1, floorOp := 2, runOp := 2, sliceEn := true, slicePeriod := 100, stages := [], loops := [], tables := []
    order := [strayContext], hosts := [0xFF, 0xFF, 0xFF, 0], insts := [] }

/-- The state after reset with that set in force and a slice of cluster 3 due. Its CFG holds MAIN 0, CHECK 1 and
FINDER 2; the same word, read as CCFG, is that of an admitted context of the stream F 3. -/
def strayContextState : State :=
  { State.reset with soc := State.reset.soc.map (fun d =>
      { (((d.put pgBIST BIST.ST_PROG_VALID 1).put pgBOOT BOOT.ST_STEP 8).put pgLCS LCS.ST_STATE 1).put (pgCLU 3) CLU.CFG
          0x86200000 with
        sliceDue := [(3, 1000)], adm := some strayContextSet, time := 3000 }) }

/-- The block when the slice's time comes. -/
def strayContextBlock : Soc := strayContextState.soc.after 0

/-- The slice may start. -/
theorem strayContextBlock_mayStart :
    strayContextBlock.dev.sliceStart 3 = some 1000 ∧ strayContextBlock.dev.engineFree = true ∧
      1000 ≤ strayContextBlock.dev.time ∧ strayContextBlock.dev.hasFinder 3 = true ∧
      strayContextBlock.dev.pairIdle 3 = true ∧ strayContextBlock.dev.get (pgCLU 3) CLU.MODE_STAT_STATE ≠ 2 ∧
      strayContextBlock.dev.get (pgCLU 3) CLU.MODE_STAT_STATE ≠ 3 ∧
      strayContextBlock.dev.flag pgALM ALM.ST_SLICES_STOPPED = false ∧
      strayContextBlock.dev.flag (pgCLU 3) CLU.MM_INFO_LATCHED = false := by
  decide +kernel

/-- The move of the F 3 contexts to h(3) follows the rotation and overwrites the rotated roles. -/
theorem strayContextBlock_roles :
    strayContextBlock.dev.get (pgCLU (3 : Fin 4)) CLU.CFG_CHECK = 1 ∧
      (Soc.on (Dev.sliceTime0 3 false) strayContextBlock).dev.get (pgCLU (3 : Fin 4)) CLU.CFG_MAIN = 0 := by
  decide +kernel

theorem exec_strayContextState :
    exec (.sliceTime0 0 3 false) strayContextState
      = .next { strayContextState with soc := Soc.on (Dev.sliceTime0 3 false) strayContextBlock } := rfl

/-- Refutes O8 in its first clause: no hypothesis keeps the contexts that the admitted set places below 64. With one
whose CCFG word is the cluster's CFG register, the move of R86 that follows the rotation takes MAIN away from the old
CHECK copy again. -/
theorem not_inOperationSlicesRun : ¬ Obligations.InOperationSlicesRun := by
  intro h
  obtain ⟨hrotate, -⟩ := h 0 3 strayContextState strayContextBlock rfl
  obtain ⟨hdue, hfree, htime, hfinder, hidle, hnotArmed, hnotMoving, hstopped, hlatched⟩ := strayContextBlock_mayStart
  obtain ⟨u, hexec, -, -, hmain, -⟩ := hrotate 1000 hdue hfree htime hfinder hidle hnotArmed
    hnotMoving hstopped (.inl hlatched)
  simp only [exec_strayContextState, Host.Outcome.next.injEq, State.mk.injEq, true_and] at hexec
  obtain ⟨hcheck, hlost⟩ := strayContextBlock_roles
  rw [← hexec, hcheck, hlost] at hmain
  exact absurd hmain (by decide)

end Sys2Proof.Machine

/-! What operations leave alone: the hidden state on a register write, the registers below the stages' pages on the doings of
a stage, and the STATE words of the Ephemeris (R149, R510). -/

namespace Sys2Proof.Machine

/-! ### The hidden state of one estimator and one stage -/

theorem fin16_val (k : Fin 16) : fin16 k.val = k := Fin.ext (Nat.mod_eq_of_lt k.isLt)

theorem Dev.est_fin16 (d : Dev) (k : Fin 16) : d.est[fin16 k.val] = d.est[k] := by simp only [fin16_val]

theorem Dev.est_modEst (d : Dev) (k : Fin 16) (f : EstH → EstH) : (d.modEst k f).est[k] = f d.est[k] := by
  simp [Dev.modEst, vmod, fin16_val]

theorem Dev.sh_modStg (d : Dev) (k : Nat) (f : StgH → StgH) : (d.modStg k f).sh k = f (d.sh k) := by
  simp [Dev.sh, Dev.modStg, vmod]

@[simp] theorem Dev.modStg_est (d : Dev) (k : Nat) (f : StgH → StgH) : (d.modStg k f).est = d.est := by cases d; rfl

@[simp] theorem Dev.getAt_modEst (d : Dev) (j : Nat) (f : EstH → EstH) (pg : Nat) (g : Fld) (i : Nat) :
    (d.modEst j f).getAt pg g i = d.getAt pg g i := by cases d; rfl

@[simp] theorem Dev.getAt_modStg (d : Dev) (j : Nat) (f : StgH → StgH) (pg : Nat) (g : Fld) (i : Nat) :
    (d.modStg j f).getAt pg g i = d.getAt pg g i := by cases d; rfl

/-! ### Operations on the registers alone -/

theorem Dev.agreeOffRegs.refl (d : Dev) : d.agreeOffRegs d := ⟨d.regs, d.pba, rfl⟩

theorem Dev.agreeOffRegs.trans {a b c : Dev} (h : a.agreeOffRegs b) (k : b.agreeOffRegs c) : a.agreeOffRegs c := by
  obtain ⟨r, p, rfl⟩ := h
  obtain ⟨r', p', rfl⟩ := k
  exact ⟨r', p', rfl⟩

theorem Dev.agreeOffRegs.est {d e : Dev} (h : d.agreeOffRegs e) : e.est = d.est := by obtain ⟨r, p, rfl⟩ := h; rfl
theorem Dev.agreeOffRegs.time {d e : Dev} (h : d.agreeOffRegs e) : e.time = d.time := by obtain ⟨r, p, rfl⟩ := h; rfl
theorem Dev.agreeOffRegs.eph {d e : Dev} (h : d.agreeOffRegs e) : e.eph = d.eph := by obtain ⟨r, p, rfl⟩ := h; rfl

theorem Dev.putAt_agree (d : Dev) (pg : Nat) (f : Fld) (i v : Nat) : d.agreeOffRegs (d.putAt pg f i v) := ⟨_, d.pba, rfl⟩

theorem Dev.incSatAt_agree (d : Dev) (pg : Nat) (f : Fld) (i : Nat) : d.agreeOffRegs (d.incSatAt pg f i) := by
  unfold Dev.incSatAt
  dsimp only
  split
  · exact d.putAt_agree _ _ _ _
  · exact .refl d

theorem Dev.irqBits_agree (d : Dev) (pg bits : Nat) : d.agreeOffRegs (d.irqBits pg bits) := by
  obtain ⟨r, p, h⟩ := (irqBits_latchOnly d pg bits).same
  exact ⟨r, p, h⟩

theorem Dev.ev_agree (d : Dev) (j : Nat) (f : Fld) : d.agreeOffRegs (d.ev j f) :=
  (d.putAt_agree _ _ _ _).trans (Dev.irqBits_agree _ _ _)

theorem Dev.err_agree {code : Nat} (h : partnerKind code = none) (d : Dev) (pg : Nat) : d.agreeOffRegs (d.err pg code) := by
  rw [Dev.err_own h, Dev.errStore]
  split
  · exact (d.putAt_agree _ _ _ _).trans (Dev.putAt_agree _ _ _ _ _)
  · exact d.incSatAt_agree _ _ _

@[simp] theorem Dev.putAt_est (d : Dev) (pg : Nat) (f : Fld) (i v : Nat) : (d.putAt pg f i v).est = d.est :=
  (d.putAt_agree pg f i v).est

@[simp] theorem Dev.ev_est (d : Dev) (j : Nat) (f : Fld) : (d.ev j f).est = d.est := (d.ev_agree j f).est

/-! ### The registers below the pages of the stages -/

/-- Every register below the pages of the stages reads as before: the Ephemeris page and the pages before and after it. -/
def Dev.keepsBelowStages (d e : Dev) : Prop := ∀ a, a < pgSTG 0 → e.reg a = d.reg a

theorem Dev.keepsBelowStages.refl (d : Dev) : d.keepsBelowStages d := fun _ _ => rfl

theorem Dev.keepsBelowStages.trans {a b c : Dev} (h : a.keepsBelowStages b) (k : b.keepsBelowStages c) :
    a.keepsBelowStages c := fun x hx => (k x hx).trans (h x hx)

theorem Dev.keepsBelowStages.ite {p : Prop} [Decidable p] {d e f : Dev} (he : d.keepsBelowStages e)
    (hf : d.keepsBelowStages f) : d.keepsBelowStages (if p then e else f) := by
  split
  · exact he
  · exact hf

theorem Dev.setReg_keepsBelow (d : Dev) {b : Nat} (w : Word) (hb : pgSTG 0 ≤ b) : d.keepsBelowStages (d.setReg b w) :=
  fun _ ha => d.reg_setReg_ne w (by omega)

section
variable (d : Dev) (k : Nat)

theorem pgSTG_le (n : Nat) : pgSTG 0 ≤ pgSTG k + n := by
  simp only [pgSTG]
  omega

theorem Dev.putAt_keepsBelow (f : Fld) (i v : Nat) : d.keepsBelowStages (d.putAt (pgSTG k) f i v) :=
  d.setReg_keepsBelow _ (by rw [Nat.add_assoc]; exact pgSTG_le k _)

theorem Dev.incSat_keepsBelow (f : Fld) : d.keepsBelowStages (d.incSat (pgSTG k) f) :=
  .ite (d.putAt_keepsBelow k f 0 _) (.refl d)

theorem Dev.irq_keepsBelow (f : Fld) : d.keepsBelowStages (d.irq (pgSTG k) f) := fun a ha =>
  d.reg_irqBits _ _ (by have := pgSTG_le k 0x10; omega) (by simp only [pgSTG, pgPCIE, PCIE.VLATCH] at *; omega)
    (by simp only [pgSTG, pgPCIE, PCIE.VLATCH] at *; omega)

theorem Dev.err_keepsBelow {code : Nat} (h : partnerKind code = none) : d.keepsBelowStages (d.err (pgSTG k) code) := by
  intro a ha
  have := pgSTG_le k COM.ERRCODE.off
  rw [Dev.err_own h, Dev.reg_errStore _ _ _ _ (by omega)]

theorem Dev.clipCheck_keepsBelow : d.keepsBelowStages (d.clipCheck k) :=
  .ite ((d.irq_keepsBelow k _).trans (Dev.incSat_keepsBelow _ k _)) (.refl d)

theorem Dev.modStg_keepsBelow (f : StgH → StgH) : d.keepsBelowStages (d.modStg k f) := fun _ _ => rfl

/-- A latch at a zero event that is made again takes the counts and the code back, a latch counts, and both stand on the
stage's own page (R238). -/
theorem Dev.cmLatch_keepsBelow : d.keepsBelowStages (d.cmLatch k) := by
  have hback (w : Word) (n : Nat) : d.keepsBelowStages (d.setReg (pgSTG k + n) w) := d.setReg_keepsBelow w (pgSTG_le k n)
  have hcount (e : Dev) {p : Prop} [Decidable p] (f : Fld) :
      e.keepsBelowStages (if p then e.incSat (pgSTG k) f else e) := .ite (e.incSat_keepsBelow k f) (.refl e)
  have hnowin (e : Dev) {p : Prop} [Decidable p] (f : Fld) :
      e.keepsBelowStages (if p then (e.incSat (pgSTG k) f).err (pgSTG k) Err.CM_NOWIN else e) :=
    .ite ((e.incSat_keepsBelow k f).trans (Dev.err_keepsBelow _ k rfl)) (.refl e)
  unfold Dev.cmLatch
  refine .ite (.refl d) ?_
  dsimp only
  refine .trans (.trans (.trans ?back (hcount _ _)) (hnowin _ _)) (Dev.modStg_keepsBelow _ k _)
  exact .ite (.ite ((hback _ _).trans (Dev.setReg_keepsBelow _ _ (pgSTG_le k _))) (hback _ _)) (.refl d)

end

end Sys2Proof.Machine

/-! The STATE words of the Ephemeris page: what switches, level checks and a carrier's start leave of their fields (R142 to
R149). -/

namespace Sys2Proof.Machine

/-! ### Fields of STATE and of EV -/

/-- A field of the STATE word of a stage. -/
def Fld.ofState (g : Fld) : Bool := g.off == EPH.STATE.off && g.stride == EPH.STATE.stride

/-- A bit of the EV word of a stage. -/
def Fld.ofEv (f : Fld) : Bool := f.off == EPH.EV.off && f.stride == EPH.EV.stride

theorem Fld.ofState_addr {g : Fld} (hg : g.ofState = true) (k : Fin 16) :
    pgEPH + g.off + g.stride * k.val = 0x40006130 + 64 * k.val := by
  simp only [Fld.ofState, Bool.and_eq_true, beq_iff_eq] at hg
  rw [hg.1, hg.2]
  rfl

theorem Fld.ofEv_addr {f : Fld} (hf : f.ofEv = true) (j : Nat) : pgEPH + f.off + f.stride * j = 0x4000613C + 64 * j := by
  simp only [Fld.ofEv, Bool.and_eq_true, beq_iff_eq] at hf
  rw [hf.1, hf.2]
  rfl

/-- An event of a stage leaves every register below PCIE but its EV word and IRQ_RAW of the EPH page (R149). -/
theorem Dev.reg_ev (d : Dev) (j : Nat) {f : Fld} (hf : f.ofEv = true) {a : Nat} (hev : a ≠ 0x4000613C + 64 * j)
    (hirq : a ≠ pgEPH + 0x10) (ha : a < pgPCIE) : (d.ev j f).reg a = d.reg a := by
  have hbelow : a < 0x4009C000 := ha
  rw [Dev.ev, Dev.reg_irqBits _ _ _ hirq (by rintro rfl; revert hbelow; decide) (by rintro rfl; revert hbelow; decide),
    Dev.reg_putAt_ne _ _ _ _ _ (by rw [Fld.ofEv_addr hf]; exact hev)]

section
variable {g : Fld} (hg : g.ofState = true) (k : Fin 16)
include hg

theorem Dev.keepsBelowStages.getState {d e : Dev} (h : d.keepsBelowStages e) :
    e.getAt pgEPH g k = d.getAt pgEPH g k := by
  unfold Dev.getAt
  rw [Fld.ofState_addr hg, h _ (by simp only [pgSTG]; omega)]

theorem Dev.getState_putAt_ne (d : Dev) {f : Fld} {i v : Nat}
    (h : pgEPH + f.off + f.stride * i < 0x40006130 ∨ 0x40006500 ≤ pgEPH + f.off + f.stride * i) :
    (d.putAt pgEPH f i v).getAt pgEPH g k = d.getAt pgEPH g k := by
  apply Dev.getAt_putAt_ne
  rw [Fld.ofState_addr hg]
  omega

theorem Dev.getState_stRun (d : Dev) (v : Nat) : (d.put pgEPH EPH.ST_RUN v).getAt pgEPH g k = d.getAt pgEPH g k :=
  Dev.getState_putAt_ne hg k d (.inl (by decide))

theorem Dev.getState_ev (d : Dev) (j : Nat) {f : Fld} (hf : f.ofEv = true) :
    (d.ev j f).getAt pgEPH g k = d.getAt pgEPH g k := by
  unfold Dev.getAt
  rw [Fld.ofState_addr hg, Dev.reg_ev _ _ hf (by omega) (by simp only [pgEPH]; omega) (by simp only [pgPCIE]; omega)]

theorem Dev.getState_err (d : Dev) {code : Nat} (h : partnerKind code = none) :
    (d.err pgEPH code).getAt pgEPH g k = d.getAt pgEPH g k := by
  rw [Dev.err_own h, Dev.getAt_errStore _ _ _ _ (by rw [Fld.ofState_addr hg]; simp only [pgEPH, COM.ERRCODE]; omega)]

theorem Dev.getState_setErr (d : Dev) (w : Word) :
    (d.setReg (pgEPH + 0x20) w).getAt pgEPH g k = d.getAt pgEPH g k := by
  unfold Dev.getAt
  rw [Fld.ofState_addr hg, Dev.reg_setReg_ne _ _ (by simp only [pgEPH]; omega)]

/-- Checking the levels queues edges, counts and raises events (R143). -/
theorem Dev.getState_levelCheck (d : Dev) (j : Nat) (p : Nat → Bool) :
    (d.levelCheck j p).getAt pgEPH g k = d.getAt pgEPH g k := by
  unfold Dev.levelCheck
  refine foldl_keeps (fun e : Dev => e.getAt pgEPH g k) _ _ fun e n _ => ?_
  split
  · rfl
  split
  · rfl
  rw [Dev.getState_ev hg k _ _ rfl, Dev.incSatAt]
  split
  · rw [Dev.getState_putAt_ne hg k _ (.inr (by simp only [pgEPH, EPH.CNT_B_STEP_CNT]; omega)), Dev.queueEdge,
      Dev.getAt_modStg]
  · rw [Dev.queueEdge, Dev.getAt_modStg]

/-- A swap of the banks leaves the fields of STATE above the bank (R142). -/
theorem Dev.getState_swapBanks (d : Dev) (habove : EPH.STATE_ACTIVE_BANK.lo < g.lo) :
    (d.swapBanks k).getAt pgEPH g k = d.getAt pgEPH g k := by
  have hput (e : Dev) {f : Fld} (v : Nat) (hf : f.lo + f.width ≤ 26) :
      (e.putAt pgEPH f k v).getAt pgEPH g k = e.getAt pgEPH g k :=
    e.getAt_putAt_apart _ (by omega) (.inr (by simp only [EPH.STATE_ACTIVE_BANK] at habove; omega))
  unfold Dev.swapBanks
  rw [Dev.getState_ev hg k _ _ rfl, Dev.getAt_modEst, hput _ _ (by decide), hput _ _ (by decide), hput _ _ (by decide),
    hput _ _ (by decide), hput _ _ (by decide)]

theorem Dev.getState_setLocked (d : Dev) (j : Nat) (p : Int) :
    (d.setLocked j p).getAt pgEPH g k = d.getAt pgEPH g k := by
  have hput : (d.put (pgSTG j) STG.P_ACT (d.lockLimit j p).1).getAt pgEPH g k = d.getAt pgEPH g k :=
    (d.putAt_keepsBelow j _ 0 _).getState hg k
  unfold Dev.setLocked
  dsimp only
  split
  · rw [Dev.getState_ev hg k _ _ rfl, hput]
  · exact hput

end

end Sys2Proof.Machine

/-! The rows of the Ephemeris: firing, loading, the window, switches, fallback and return (R129 to R149). -/

namespace Sys2Proof.Machine

/-! ### Firing (R136, R137) -/

theorem Dev.entryFire_uncrossed {d : Dev} {k : Fin 16} (hfire : d.firing k = true) (hcross : d.crossing k = none) :
    d.entryFire k = d.fireUpTo k (d.travel k) := by
  simp [Dev.entryFire, hfire, hcross]

/-- What an entry that fires alone leaves in the estimator, with the travel dealt with up to `upto`. -/
def EstH.firedOne (upto : Nat) (e : EstH) : EstH := { e with fired := e.fired + 1, seen := some upto, carried := [] }

theorem Dev.fireUpTo_single {d : Dev} {k : Fin 16} {upto r i : Nat} (hcarried : (d.est[k]).carried = [])
    (hseen : (d.est[k]).seen = none) (hfired : (d.est[k]).fired = 0) (hpass : d.passing k upto = [(r, i)]) :
    d.fireUpTo k upto = (d.modEst k (EstH.firedOne upto)).fire k i (32 * r / d.travel k) := by
  unfold Dev.fireUpTo
  rw [Dev.est_fin16, hpass]
  dsimp only
  rw [hcarried, hseen, hfired]
  show List.foldl _ (List.foldl (fun d p => d.fire k p.1 p.2.1) (d.modEst k (EstH.firedOne upto))
    [(i, 32 * r / d.travel k, true)]) [] = _
  rw [List.foldl_nil, List.foldl_cons, List.foldl_nil]

theorem Dev.fire_edge {d : Dev} {i : Nat} (h : entryAction (d.entry i) = 1) (k tap : Nat) :
    d.fire k i tap = d.queueEdge k (entryLeg (d.entry i))
      (if d.estDir k < 0 then entryPrior (d.entry i) else entryState (d.entry i)) tap := by
  simp only [Dev.fire, h]

/-- The edge of an entry that fires alone is queued three TCLK ahead at its tap (R137). -/
theorem Dev.entryFire_edge {d : Dev} {k : Fin 16} {r i : Nat} (hfire : d.firing k = true) (hcross : d.crossing k = none)
    (hcarried : (d.est[k]).carried = []) (hseen : (d.est[k]).seen = none) (hfired : (d.est[k]).fired = 0)
    (hpass : d.passing k (d.travel k) = [(r, i)]) (hedge : entryAction (d.entry i) = 1) :
    ((d.entryFire k).sh k).edges = (d.sh k).edges ++ [(32 * (d.time + 3) + 32 * r / d.travel k, entryLeg (d.entry i),
        if d.estDir k < 0 then entryPrior (d.entry i) else entryState (d.entry i))] ∧
      ((d.entryFire k).est[k]).fired = 1 ∧ (d.entryFire k).regs = d.regs := by
  have hentry : (d.modEst k (EstH.firedOne (d.travel k))).entry i = d.entry i := by cases d; rfl
  have hdir : (d.modEst k (EstH.firedOne (d.travel k))).estDir k = d.estDir k := by cases d; rfl
  have hsh : (d.modEst k (EstH.firedOne (d.travel k))).sh k = d.sh k := by cases d; rfl
  rw [Dev.entryFire_uncrossed hfire hcross, Dev.fireUpTo_single hcarried hseen hfired hpass,
    Dev.fire_edge (hentry.symm ▸ hedge), hentry, hdir, Dev.queueEdge, Dev.sh_modStg, hsh, Dev.modStg_est, Dev.est_modEst,
    Dev.modStg_regs, Dev.modEst_regs, Dev.modEst_time]
  exact ⟨rfl, congrArg (· + 1) hfired, rfl⟩

/-! ### Loading (R135) -/

theorem Dev.startLoad_spec (d : Dev) (k : Fin 16) (c n span : Nat) :
    (d.startLoad k c n span).flagAt pgEPH EPH.STATE_LOADING k = true ∧
      ((d.startLoad k c n span).est[k]).loadChart = c ∧ ((d.startLoad k c n span).est[k]).loadCount = n ∧
      ((d.startLoad k c n span).est[k]).loadEnd = d.time + span := by
  unfold Dev.startLoad
  rw [Dev.est_modEst, Dev.flagAt, Dev.getAt_modEst, Dev.getAt_putAt _ _ _ _ _ (by decide)]
  exact ⟨rfl, rfl, rfl, rfl⟩

theorem Dev.ephLoad_legal {d : Dev} {k : Fin 16} (hidle : d.loadBusy k = false) {mem : List Host.Cell} {c : BitVec 16}
    {lib n : Nat} (hlib : lib = d.getAt pgEPH EPH.LIB_ADDR k) (hn : n = memNat mem (lib + 8 + 8 * c.toNat + 4) 2)
    (hc : c.toNat < memNat mem lib 4) (hpos : 0 < n) (hsize : n ≤ d.bankSize k) :
    d.ephLoad mem k c = d.startLoad k c.toNat n (2000 + 8 * n) := by
  subst hlib hn
  simp only [Dev.ephLoad, hidle]
  rw [if_neg Bool.false_ne_true, if_neg (by omega), if_neg (by omega)]

theorem Dev.ephValidate_legal {d : Dev} {k : Fin 16} (hidle : d.loadBusy k = false) {c : BitVec 11} (hpos : 0 < c.toNat)
    (hsize : c.toNat ≤ d.bankSize k) :
    d.ephValidate k c = d.startLoad k 0xFFFF c.toNat (2000 + 4 * c.toNat) := by
  simp only [Dev.ephValidate, hidle]
  rw [if_neg Bool.false_ne_true, if_neg (by omega)]

/-! ### The end of a validation in place (R133, R135) -/

theorem Dev.putAt_entry (d : Dev) (pg : Nat) (f : Fld) (i v j : Nat) : (d.putAt pg f i v).entry j = d.entry j := by
  cases d; rfl

/-- Whether an entry is bad by itself depends on the set and on the BIND words of the legs alone. -/
theorem Dev.entryBad_congr {d e : Dev} (hadm : e.adm = d.adm)
    (hbind : ∀ n, e.reg (pgLEG n + LEG.BIND_BOUND.off) = d.reg (pgLEG n + LEG.BIND_BOUND.off)) (k x : Nat) :
    e.entryBad k x = d.entryBad k x := by
  have hbound (n : Nat) : e.bound n = d.bound n := congrArg (fun w => wordField w _ _ != 0) (hbind n)
  have hstage (n : Nat) : e.legStage n = d.legStage n := congrArg (fun w => wordField w _ _) (hbind n)
  have hpaired (n : Nat) : e.paired n = d.paired n := congrArg (fun w => wordField w _ _ != 0) (hbind n)
  have hdecl : e.stageDecl k = d.stageDecl k := by rw [Dev.stageDecl, hadm, Dev.stageDecl]
  have hloops : e.entryLoops k = d.entryLoops k := by rw [Dev.entryLoops, hadm, Dev.entryLoops]
  simp only [Dev.entryBad, Dev.slave, hbound, hstage, hpaired, hdecl, hloops]

theorem Dev.firstBad_congr {d e : Dev} {k : Nat} (h : ∀ x, e.entryBad k x = d.entryBad k x) :
    ∀ (l : List Nat) (j : Nat) (prev : Option Nat) (before : List Nat),
      e.firstBad k j prev before l = d.firstBad k j prev before l
  | [], _, _, _ => rfl
  | x :: t, j, prev, before => by
    simp only [Dev.firstBad, h, Dev.firstBad_congr h t]

/-- Clearing LOADING changes no entry's verdict. -/
theorem Dev.firstBad_loading (d : Dev) (k : Fin 16) (v : Nat) (l : List Nat) :
    (d.putAt pgEPH EPH.STATE_LOADING k v).firstBad k 0 none [] l = d.firstBad k 0 none [] l :=
  Dev.firstBad_congr (fun x => Dev.entryBad_congr (d.putAt_adm _ _ _ _) (fun n => d.reg_putAt_ne _ _ _ _ (by
    simp only [pgLEG, pgEPH, LEG.BIND_BOUND, EPH.STATE_LOADING]
    omega)) _ x) l 0 none []

section
variable {d : Dev} {k : Fin 16} {l : List Nat} (hload : d.flagAt pgEPH EPH.STATE_LOADING k = true)
  (hchart : (d.est[k]).loadChart = 0xFFFF)
  (hl : l = (List.range (d.est[k]).loadCount).map (fun j => d.entry (d.idleBase k + j)))
include hload hchart hl

theorem Dev.loadDone_bad {j : Nat} (h : d.firstBad k 0 none [] l = some j) (mem : List Host.Cell) (bad : Nat → Bool) :
    d.loadDone mem bad k = (d.putAt pgEPH EPH.STATE_LOADING k 0).loadFail k Err.EPH_CHART_BAD j := by
  have hfirst := (d.firstBad_loading k 0 l).trans h
  unfold Dev.loadDone
  simp only [hload, Bool.not_true, Bool.false_eq_true, if_false, if_pos hchart, Dev.putAt_entry, ← hl, hfirst]

/-- A valid chart's PRIOR bits are in place, and it is the idle chart (R133, R135). -/
def Dev.chartTaken (d : Dev) (k : Fin 16) (base n : Nat) (l : List Nat) : Dev :=
  (((withPriors l).zip (List.range n)).foldl (fun (d : Dev) p => d.setEntry (base + p.2) p.1) d).modEst k
    (fun e => { e with cntI := n, chartI := e.loadChart })

theorem Dev.loadDone_good (h : d.firstBad k 0 none [] l = none) (mem : List Host.Cell) (bad : Nat → Bool) :
    d.loadDone mem bad k =
      ((((d.putAt pgEPH EPH.STATE_LOADING k 0).chartTaken k (d.idleBase k) (d.est[k]).loadCount l).putAt pgEPH
        EPH.STATE_IDLE_LOADED k 1).ev k EPH.EV_LOAD_DONE).armAgain k := by
  have hfirst := (d.firstBad_loading k 0 l).trans h
  unfold Dev.loadDone
  simp only [hload, Bool.not_true, Bool.false_eq_true, if_false, if_pos hchart, Dev.putAt_entry, ← hl, hfirst]
  rfl

end

/-- The arm that a load's end takes up again changes ARMED alone of STATE (R144). -/
theorem Dev.getState_armAgain (d : Dev) (k : Fin 16) {g : Fld} (hg : g.ofState = true)
    (hapart : g.lo + g.width ≤ EPH.STATE_ARMED.lo ∨ EPH.STATE_ARMED.lo + EPH.STATE_ARMED.width ≤ g.lo) :
    (d.armAgain k).getAt pgEPH g k = d.getAt pgEPH g k := by
  unfold Dev.armAgain
  split
  · rfl
  split
  · rfl
  dsimp only
  rw [Dev.getAt_modEst, Dev.getAt_putAt_apart _ _ (by decide) hapart]
  split
  · exact Dev.getState_setErr hg k d _
  · exact Dev.getState_putAt_ne hg k d (.inl (by decide))

theorem Dev.cntI_armAgain (d : Dev) (k : Fin 16) : ((d.armAgain k).est[k]).cntI = (d.est[k]).cntI := by
  unfold Dev.armAgain
  split
  · rfl
  split
  · rfl
  dsimp only
  rw [Dev.est_modEst, Dev.putAt_est, apply_ite Dev.est, Dev.setReg_est, Dev.put, Dev.putAt_est, ite_self]

theorem Dev.setEntry_reg (d : Dev) (i e : Nat) : (d.setEntry i e).reg = d.reg := rfl

theorem Dev.chartTaken_reg (d : Dev) (k : Fin 16) (base n : Nat) (l : List Nat) :
    (d.chartTaken k base n l).reg = d.reg := by
  rw [Dev.chartTaken, Dev.modEst_reg]
  exact foldl_keeps Dev.reg _ _ fun e _ _ => e.setEntry_reg _ _

theorem Dev.chartTaken_cntI (d : Dev) (k : Fin 16) (base n : Nat) (l : List Nat) :
    ((d.chartTaken k base n l).est[k]).cntI = n := by
  rw [Dev.chartTaken, Dev.est_modEst]

/-- A good chart ends its load loaded (R135). -/
theorem Dev.loadDone_good_spec (d : Dev) (k : Fin 16) (base n : Nat) (l : List Nat) {e : Dev}
    (he : e = ((((d.putAt pgEPH EPH.STATE_LOADING k 0).chartTaken k base n l).putAt pgEPH EPH.STATE_IDLE_LOADED k 1).ev k
      EPH.EV_LOAD_DONE).armAgain k) :
    e.flagAt pgEPH EPH.STATE_LOADING k = false ∧ e.flagAt pgEPH EPH.STATE_IDLE_LOADED k = true ∧ (e.est[k]).cntI = n := by
  subst he
  refine ⟨?_, ?_, ?_⟩
  · have hloading : ((d.putAt pgEPH EPH.STATE_LOADING k 0).chartTaken k base n l).getAt pgEPH EPH.STATE_LOADING k = 0 := by
      rw [Dev.getAt, Dev.chartTaken_reg]
      exact d.getAt_putAt pgEPH EPH.STATE_LOADING k 0 (by decide)
    rw [Dev.flagAt, Dev.getState_armAgain _ _ rfl (by decide), Dev.getState_ev rfl _ _ _ rfl,
      Dev.getAt_putAt_apart _ _ (by decide) (by decide), hloading]
    rfl
  · rw [Dev.flagAt, Dev.getState_armAgain _ _ rfl (by decide), Dev.getState_ev rfl _ _ _ rfl,
      Dev.getAt_putAt _ _ _ _ _ (by decide)]
    rfl
  · rw [Dev.cntI_armAgain, Dev.ev_est, Dev.putAt_est, Dev.chartTaken_cntI]

/-- A load that fails names its first bad entry (R135). -/
theorem Dev.loadFail_spec (d : Dev) (k : Fin 16) {code : Nat} (hcode : partnerKind code = none) (idx : Nat) :
    (d.loadFail k code idx).getAt pgEPH EPH.STATE_LOADING k = d.getAt pgEPH EPH.STATE_LOADING k ∧
      (d.loadFail k code idx).flagAt pgEPH EPH.STATE_IDLE_LOADED k = false ∧
      (d.loadFail k code idx).getAt pgEPH EPH.LOAD_ERR_CODE k = code % 2 ^ 16 ∧
      (d.loadFail k code idx).getAt pgEPH EPH.LOAD_ERR_INDEX k = idx % 2 ^ EPH.LOAD_ERR_INDEX.width := by
  have hlate {g : Fld} (hoff : pgEPH + g.off + g.stride * k.val = 0x40006510 + 32 * k.val) (e : Dev) :
      (((e.putAt pgEPH EPH.STATE_IDLE_LOADED k 0).ev k EPH.EV_LOAD_FAIL).err pgEPH code).getAt pgEPH g k
        = e.getAt pgEPH g k := by
    unfold Dev.getAt
    rw [hoff, Dev.err_own hcode, Dev.reg_errStore _ _ _ _ (by simp only [pgEPH, COM.ERRCODE]; omega),
      Dev.reg_ev _ _ rfl (by omega) (by simp only [pgEPH]; omega) (by simp only [pgPCIE]; omega),
      Dev.reg_putAt_ne _ _ _ _ _ (by simp only [pgEPH, EPH.STATE_IDLE_LOADED]; omega)]
  unfold Dev.loadFail
  dsimp only
  refine ⟨?_, ?_, ?_, ?_⟩
  · rw [Dev.getState_err rfl _ _ hcode, Dev.getState_ev rfl _ _ _ rfl, Dev.getAt_putAt_apart _ _ (by decide) (by decide),
      Dev.getState_putAt_ne rfl _ _ (.inr (by simp only [pgEPH, EPH.LOAD_ERR_INDEX]; omega)),
      Dev.getState_putAt_ne rfl _ _ (.inr (by simp only [pgEPH, EPH.LOAD_ERR_CODE]; omega))]
  · rw [Dev.flagAt, Dev.getState_err rfl _ _ hcode, Dev.getState_ev rfl _ _ _ rfl, Dev.getAt_putAt _ _ _ _ _ (by decide)]
    rfl
  · rw [hlate rfl, Dev.getAt_putAt_apart _ _ (by decide) (by decide), Dev.getAt_putAt _ _ _ _ _ (by decide)]
    rfl
  · rw [hlate rfl, Dev.getAt_putAt _ _ _ _ _ (by decide)]

/-- LOAD_DONE of an in-place validation, seen before a library that waits goes over (R133, R135). -/
theorem Dev.loadDone_inPlace {d : Dev} {k : Fin 16} {l : List Nat} (hload : d.flagAt pgEPH EPH.STATE_LOADING k = true)
    (hchart : (d.est[k]).loadChart = 0xFFFF)
    (hl : l = (List.range (d.est[k]).loadCount).map (fun j => d.entry (d.idleBase k + j)))
    (mem : List Host.Cell) (bad : Nat → Bool) :
    (d.loadDone mem bad k).flagAt pgEPH EPH.STATE_LOADING k = false ∧
      (d.firstBad k 0 none [] l = none → (d.loadDone mem bad k).flagAt pgEPH EPH.STATE_IDLE_LOADED k = true ∧
        ((d.loadDone mem bad k).est[k]).cntI = (d.est[k]).loadCount) ∧
      (∀ j, d.firstBad k 0 none [] l = some j → (d.loadDone mem bad k).flagAt pgEPH EPH.STATE_IDLE_LOADED k = false ∧
        (d.loadDone mem bad k).getAt pgEPH EPH.LOAD_ERR_CODE k = Err.EPH_CHART_BAD ∧
        (d.loadDone mem bad k).getAt pgEPH EPH.LOAD_ERR_INDEX k = j % 2 ^ EPH.LOAD_ERR_INDEX.width) := by
  cases hfirst : d.firstBad k 0 none [] l with
  | none =>
    obtain ⟨hloading, hidle, hcnt⟩ :=
      d.loadDone_good_spec k _ _ _ (Dev.loadDone_good hload hchart hl hfirst mem bad)
    exact ⟨hloading, fun _ => ⟨hidle, hcnt⟩, nofun⟩
  | some j =>
    obtain ⟨hkept, hidle, hcode, hindex⟩ :=
      (d.putAt pgEPH EPH.STATE_LOADING k 0).loadFail_spec k (code := Err.EPH_CHART_BAD) rfl j
    rw [← Dev.loadDone_bad hload hchart hl hfirst mem bad] at hkept hidle hcode hindex
    refine ⟨?_, nofun, fun i hi => ?_⟩
    · rw [Dev.flagAt, hkept, Dev.getAt_putAt _ _ _ _ _ (by decide)]
      rfl
    · cases hi
      exact ⟨hidle, hcode, hindex⟩

theorem Soc.chartLoaded_dev (k : Fin 16) (s : Soc) : (s.chartLoaded k).dev =
    (List.range 32).foldl (fun (d : Dev) r => d.promoLibrary r) (s.dev.loadDone s.mem s.bad k) := by
  rw [Soc.chartLoaded, Soc.map_dev]

theorem Soc.chartLoaded_mem (k : Fin 16) (s : Soc) : (s.chartLoaded k).mem = s.mem := by
  rw [Soc.chartLoaded, Soc.map_mem]

/-! ### The window (R130, R135) -/

/-- The host's write to a word of a region that is its own, outside the active bank and with no load or switch at work. -/
theorem Dev.ephWindowWrite_stored {d : Dev} {w : Fin 6144} {k : Nat} (v : Word)
    (hregion : d.regionOf (w.val / 2) = some k)
    (hbank : ¬ (d.activeBase k ≤ w.val / 2 ∧ w.val / 2 < d.activeBase k + d.bankSize k)) (hidle : d.loadBusy k = false)
    (hhost : d.get (pgSTG k) COM.OWNER_KIND = 1) :
    (d.ephWindowWrite w true v).eph = mapPut ephDefault d.eph w v := by
  simp [Dev.ephWindowWrite, hregion, hhost, hidle, hbank, apply_ite Dev.eph, (Dev.putAt_agree _ _ _ _ _).eph]

theorem Dev.ephWindowWrite_refused {d : Dev} {w : Fin 6144} (v : Word)
    (h : ∀ k, d.regionOf (w.val / 2) = some k → d.get (pgSTG k) COM.OWNER_KIND ≠ 1 ∨
      (d.activeBase k ≤ w.val / 2 ∧ w.val / 2 < d.activeBase k + d.bankSize k)) :
    d.ephWindowWrite w true v = d.err pgEPH Err.EPH_ACTIVE_WRITE := by
  unfold Dev.ephWindowWrite
  dsimp only
  rw [if_neg (by decide)]
  split
  · rfl
  next k hregion =>
    rw [if_pos]
    rcases h k hregion with howner | hbank
    · simp [howner]
    · simp [hbank]

/-- What a refused write to the window leaves and stores (R21, R135). -/
theorem Dev.err_activeWrite (d : Dev) :
    (d.err pgEPH Err.EPH_ACTIVE_WRITE).eph = d.eph ∧
      (d.get pgEPH COM.ERRCODE_CODE = 0 →
        (d.err pgEPH Err.EPH_ACTIVE_WRITE).get pgEPH COM.ERRCODE_CODE = Err.EPH_ACTIVE_WRITE) ∧
      d.keepsRegs (d.err pgEPH Err.EPH_ACTIVE_WRITE) [pgEPH + 0x20] := by
  refine ⟨(Dev.err_agree rfl d pgEPH).eph, fun h => ?_, fun a ha _ _ => ?_⟩
  · rw [Dev.err_own rfl, Dev.errStore_first h]
    rfl
  · rw [Dev.err_own rfl, Dev.reg_errStore _ _ _ _ (List.ne_of_not_mem_cons ha)]

/-! ### Switches (R142, R143) -/

theorem Dev.swapBanks_spec (d : Dev) (k : Fin 16) :
    (d.swapBanks k).flagAt pgEPH EPH.STATE_ARMED k = false ∧ (d.swapBanks k).flagAt pgEPH EPH.STATE_CHART_VALID k = true ∧
      ((d.swapBanks k).est[k]).cntA = (d.est[k]).cntI ∧
      (d.getAt pgEPH EPH.STATE_ACTIVE_BANK k ≤ 1 →
        (d.swapBanks k).getAt pgEPH EPH.STATE_ACTIVE_BANK k = 1 - d.getAt pgEPH EPH.STATE_ACTIVE_BANK k) := by
  unfold Dev.swapBanks Dev.flagAt
  dsimp only
  rw [Dev.getState_ev rfl _ _ _ rfl, Dev.getState_ev rfl _ _ _ rfl, Dev.getState_ev rfl _ _ _ rfl]
  rw [Dev.getAt_modEst, Dev.getAt_modEst, Dev.getAt_modEst]
  refine ⟨?_, ?_, ?_, fun hbank => ?_⟩
  · rw [Dev.getAt_putAt_apart _ _ (by decide) (by decide), Dev.getAt_putAt _ _ _ _ _ (by decide)]
    rfl
  · rw [Dev.getAt_putAt_apart _ _ (by decide) (by decide), Dev.getAt_putAt_apart _ _ (by decide) (by decide),
      Dev.getAt_putAt _ _ _ _ _ (by decide)]
    rfl
  · rw [Dev.ev_est, Dev.est_modEst]
    simp only [Dev.putAt_est]
  · rw [Dev.getAt_putAt_apart _ _ (by decide) (by decide), Dev.getAt_putAt_apart _ _ (by decide) (by decide),
      Dev.getAt_putAt_apart _ _ (by decide) (by decide), Dev.getAt_putAt_apart _ _ (by decide) (by decide),
      Dev.getAt_putAt _ _ _ _ _ (by decide)]
    exact Nat.mod_eq_of_lt (by simp only [EPH.STATE_ACTIVE_BANK]; omega)

theorem Dev.switched_crossing {d : Dev} {k : Fin 16} {r : Nat} (hfire : d.firing k = true)
    (hcross : d.crossing k = some r) :
    ∃ p, d.switched k = ((((d.fireUpTo k r).swapBanks k).levelCheck k p).fireUpTo k
      ((((d.fireUpTo k r).swapBanks k).levelCheck k p).travel k)) := by
  unfold Dev.switched
  rw [hfire, hcross]
  exact ⟨_, rfl⟩

/-! ### Fallback (R145, R146) -/

theorem Dev.fallReason_forced {d : Dev} {k : Fin 16} (hon : (d.est[k]).on = true) (hrun : d.inRun k = true)
    (hforce : d.flagAt pgEPH EPH.SCTRL_FORCE_FB k = true) : d.fallReason k = some 5 := by
  simp only [Dev.fallReason, hon, hrun, hforce]
  rfl

theorem Dev.fallReason_slow {d : Dev} {k : Fin 16} (hon : (d.est[k]).on = true) (hrun : d.inRun k = true)
    (hforce : d.flagAt pgEPH EPH.SCTRL_FORCE_FB k = false)
    (hslow : (d.est[k]).omega.natAbs < d.getAt pgEPH EPH.F_LOW k) : d.fallReason k = some 1 := by
  simp only [Dev.fallReason, hon, hrun, hforce, if_pos hslow]
  rfl

theorem Dev.fallback_takes {d : Dev} {k : Fin 16} {r : Nat} (hfrozen : d.ephFrozen = false)
    (hreason : d.fallReason k = some r) : d.fallback k = d.fallBack k r := by
  simp only [Dev.fallback, hfrozen, hreason, Bool.false_eq_true, if_false]

/-- What a fall-back stores before it forces the zero event (R146). -/
def Dev.fallen (d : Dev) (k reason : Nat) : Dev :=
  let d := (d.putAt pgEPH EPH.STATE_STATE k 1).putAt pgEPH EPH.STATE_REASON k reason
  let d := d.put pgEPH EPH.ST_RUN (setBit (d.get pgEPH EPH.ST_RUN) k false)
  ((d.ev k EPH.EV_FALLBACK).err pgEPH Err.EPH_FALLBACK).modEst k
    (fun e => { e with carried := [], reversed := false, okSince := none })

theorem Dev.fallBack_eq (d : Dev) (k reason : Nat) : d.fallBack k reason =
    if (d.fallen k reason).running k
    then (d.fallen k reason).modStg k (fun s => { s with forceZero := some ((d.fallen k reason).time + 1) })
    else d.fallen k reason := rfl

theorem Dev.fallen_time (d : Dev) (k reason : Nat) : (d.fallen k reason).time = d.time := by
  unfold Dev.fallen
  rw [Dev.modEst_time, (Dev.err_agree rfl _ _).time, (Dev.ev_agree _ _ _).time, Dev.put, (Dev.putAt_agree _ _ _ _ _).time,
    (Dev.putAt_agree _ _ _ _ _).time, (Dev.putAt_agree _ _ _ _ _).time]

theorem Dev.fallen_state (d : Dev) (k : Fin 16) (reason : Nat) :
    (d.fallen k reason).getAt pgEPH EPH.STATE_STATE k = 1 ∧
      (d.fallen k reason).getAt pgEPH EPH.STATE_REASON k = reason % 8 := by
  have hlater {g : Fld} (hg : g.ofState = true) (e : Dev) (v : Nat) :
      (((e.put pgEPH EPH.ST_RUN v).ev k EPH.EV_FALLBACK).err pgEPH Err.EPH_FALLBACK).getAt pgEPH g k
        = e.getAt pgEPH g k := by
    rw [Dev.getState_err hg _ _ rfl, Dev.getState_ev hg _ _ _ rfl, Dev.getState_stRun hg]
  unfold Dev.fallen
  dsimp only
  rw [Dev.getAt_modEst, Dev.getAt_modEst, hlater rfl, hlater rfl]
  constructor
  · rw [Dev.getAt_putAt_apart _ _ (by decide) (by decide), Dev.getAt_putAt _ _ _ _ _ (by decide)]
    rfl
  · rw [Dev.getAt_putAt _ _ _ _ _ (by decide)]
    rfl

/-- A fall-back is told on the EPH page; the stage goes on running (R146). -/
theorem Dev.fallen_running (d : Dev) (k : Fin 16) (reason : Nat) : (d.fallen k reason).running k = d.running k := by
  have haddr : pgSTG k.val + STG.ST_RUNNING.off + STG.ST_RUNNING.stride * 0 = 0x4001000C + 0x1000 * k.val := by
    simp only [pgSTG, STG.ST_RUNNING]
    omega
  have hput (e : Dev) {f : Fld} (i v : Nat) (hf : f.off + f.stride * i < 0x1000) :
      (e.putAt pgEPH f i v).reg (0x4001000C + 0x1000 * k.val) = e.reg (0x4001000C + 0x1000 * k.val) :=
    e.reg_putAt_ne _ _ _ _ (by simp only [pgEPH]; omega)
  unfold Dev.running Dev.flag Dev.getAt
  rw [haddr, Dev.fallen, Dev.modEst_reg, Dev.err_own rfl,
    Dev.reg_errStore _ _ _ _ (by simp only [pgEPH, COM.ERRCODE]; omega),
    Dev.reg_ev _ _ rfl (by omega) (by simp only [pgEPH]; omega) (by simp only [pgPCIE]; omega), Dev.put,
    hput _ _ _ (by decide), hput _ _ _ (by simp only [EPH.STATE_REASON]; omega),
    hput _ _ _ (by simp only [EPH.STATE_STATE]; omega)]

/-- A stage that has fallen back shows FALLBACK and its REASON, and a running one forces its zero event (R146). -/
theorem Dev.fallBack_spec (d : Dev) (k : Fin 16) (reason : Nat) :
    (d.fallBack k reason).getAt pgEPH EPH.STATE_STATE k = 1 ∧
      (d.fallBack k reason).getAt pgEPH EPH.STATE_REASON k = reason % 8 ∧
      (d.running k = true → ((d.fallBack k reason).sh k).forceZero = some (d.time + 1)) := by
  obtain ⟨hstate, hreason⟩ := d.fallen_state k reason
  rw [Dev.fallBack_eq, Dev.fallen_running, Dev.fallen_time]
  split
  next hrun =>
    rw [Dev.getAt_modStg, Dev.getAt_modStg, Dev.sh_modStg]
    exact ⟨hstate, hreason, fun _ => rfl⟩
  next hrun => exact ⟨hstate, hreason, fun h => absurd h hrun⟩

/-! ### Return (R147) -/

/-- What every return stores: RUN, the direction and the start of its carrier (R147). -/
def Dev.returned (k : Fin 16) (d : Dev) : Dev :=
  let e := d.est[k]
  let d := (d.putAt pgEPH EPH.STATE_STATE k 2).putAt pgEPH EPH.STATE_DIR k (b2n (decide (e.omega < 0)))
  let d := d.put pgEPH EPH.ST_RUN (setBit (d.get pgEPH EPH.ST_RUN) k true)
  let d := d.modEst k (fun x => { x with reversed := false, carried := [], seen := some turn48 })
  let d := d.modStg k (fun s => { s with x0 := d.time, forceZero := none, forcedT := d.time + 1 })
  d.ev k EPH.EV_RETURN

/-- The return to a locked carrier goes on with its period (R141, R147). -/
def Dev.returnLocked (k : Fin 16) (d : Dev) : Dev :=
  let d := ((d.put (pgSTG k) STG.ST_SET 1).setLocked k (d.lockNominal k)).clipCheck k
  if d.commitDue k then d else d.cmLatch k

/-- The return to the entries of a chart goes on with an armed switch and the level check at θ̂ (R143, R147). -/
def Dev.returnEntries (k : Fin 16) (p : Nat → Bool) (d : Dev) : Dev :=
  let d := (d.put (pgSTG k) STG.ST_SET 3).put (pgSTG k) STG.P_ACT 0
  let d := if d.flagAt pgEPH EPH.STATE_ARMED k then d.swapBanks k else d
  d.levelCheck k p

theorem Dev.returnRun_due {d : Dev} {k : Fin 16} (hdue : d.returnDue k = true) (hfrozen : d.ephFrozen = false) :
    d.returnRun k = (d.returned k).returnLocked k ∨ ∃ p, d.returnRun k = (d.returned k).returnEntries k p := by
  unfold Dev.returnRun Dev.returned Dev.returnLocked Dev.returnEntries
  simp only [hdue, hfrozen, Bool.not_true, Bool.or_self, Bool.false_eq_true, if_false]
  split
  · exact .inl rfl
  · exact .inr ⟨_, rfl⟩

theorem Dev.returned_state (d : Dev) (k : Fin 16) :
    (d.returned k).getAt pgEPH EPH.STATE_STATE k = 2 ∧
      (d.returned k).getAt pgEPH EPH.STATE_DIR k = b2n (decide ((d.est[k]).omega < 0)) := by
  unfold Dev.returned
  dsimp only
  constructor
  · rw [Dev.getState_ev rfl _ _ _ rfl, Dev.getAt_modStg, Dev.getAt_modEst, Dev.getState_stRun rfl,
      Dev.getAt_putAt_apart _ _ (by decide) (by decide), Dev.getAt_putAt _ _ _ _ _ (by decide)]
    rfl
  · rw [Dev.getState_ev rfl _ _ _ rfl, Dev.getAt_modStg, Dev.getAt_modEst, Dev.getState_stRun rfl,
      Dev.getAt_putAt _ _ _ _ _ (by decide)]
    exact Nat.mod_eq_of_lt (by unfold b2n; split <;> decide)

section
variable {g : Fld} (hg : g.ofState = true) (d : Dev) (k : Fin 16)
include hg

theorem Dev.getState_returnLocked : (d.returnLocked k).getAt pgEPH g k = d.getAt pgEPH g k := by
  have hclip : (((d.put (pgSTG k) STG.ST_SET 1).setLocked k (d.lockNominal k)).clipCheck k).getAt pgEPH g k
      = d.getAt pgEPH g k := by
    rw [(Dev.clipCheck_keepsBelow _ k).getState hg, Dev.getState_setLocked hg]
    exact (d.putAt_keepsBelow k _ 0 _).getState hg k
  unfold Dev.returnLocked
  dsimp only
  split
  · exact hclip
  · rw [(Dev.cmLatch_keepsBelow _ k).getState hg, hclip]

theorem Dev.getState_returnEntries (habove : EPH.STATE_ACTIVE_BANK.lo < g.lo) (p : Nat → Bool) :
    (d.returnEntries k p).getAt pgEPH g k = d.getAt pgEPH g k := by
  have hset : ((d.put (pgSTG k) STG.ST_SET 3).put (pgSTG k) STG.P_ACT 0).getAt pgEPH g k = d.getAt pgEPH g k :=
    ((d.putAt_keepsBelow k _ 0 _).trans (Dev.putAt_keepsBelow _ k _ 0 _)).getState hg k
  unfold Dev.returnEntries
  dsimp only
  rw [Dev.getState_levelCheck hg]
  split
  · rw [Dev.getState_swapBanks hg k _ habove, hset]
  · exact hset

end

theorem Dev.returnRun_spec {d : Dev} {k : Fin 16} (hdue : d.returnDue k = true) (hfrozen : d.ephFrozen = false) :
    (d.returnRun k).getAt pgEPH EPH.STATE_STATE k = 2 ∧
      (d.returnRun k).getAt pgEPH EPH.STATE_DIR k = b2n (decide ((d.est[k]).omega < 0)) := by
  rcases Dev.returnRun_due hdue hfrozen with h | ⟨p, h⟩
  · rw [h, Dev.getState_returnLocked rfl, Dev.getState_returnLocked rfl]
    exact d.returned_state k
  · rw [h, Dev.getState_returnEntries rfl _ _ (by decide), Dev.getState_returnEntries rfl _ _ (by decide)]
    exact d.returned_state k

/-! ### Counters (R149) -/

theorem Dev.ephCntClr_spec (d : Dev) (k : Fin 16) :
    (d.ephCntClr k).getAt pgEPH EPH.CNT_A k = 0 ∧ (d.ephCntClr k).getAt pgEPH EPH.CNT_B k = 0 ∧
      d.keepsRegs (d.ephCntClr k) [pgEPH + EPH.CNT_A.off + EPH.CNT_A.stride * k.val,
        pgEPH + EPH.CNT_B.off + EPH.CNT_B.stride * k.val] ∧ d.agreeOffRegs (d.ephCntClr k) := by
  unfold Dev.ephCntClr
  refine ⟨?_, ?_, fun a ha _ _ => ?_, (d.putAt_agree _ _ _ _).trans (Dev.putAt_agree _ _ _ _ _)⟩
  · rw [Dev.getAt_putAt_ne _ _ (by simp only [EPH.CNT_A, EPH.CNT_B]; omega), Dev.getAt_putAt _ _ _ _ _ (by decide)]
    rfl
  · rw [Dev.getAt_putAt _ _ _ _ _ (by decide)]
    rfl
  · simp only [List.mem_cons, List.not_mem_nil, or_false, not_or] at ha
    rw [Dev.reg_putAt_ne _ _ _ _ _ ha.2, Dev.reg_putAt_ne _ _ _ _ _ ha.1]

/-! ### The rows -/

theorem exec_entryFire (dt : Nat) (k : Fin 16) (s : State) :
    exec (.entryFire dt k) s = .next { s with soc := (s.soc.after dt).map (Dev.entryFire k) } := rfl

theorem exec_ephLoad {k : Fin 16} {s : State} (h : s.soc.answers (pgEPH + 0x11C + 64 * k.val) = true) (c : BitVec 16) :
    exec (.ephLoad k c) s = .next { s with soc := s.soc.map (Dev.ephLoad s.soc.mem k c) } := by
  rw [← Soc.atReg_answers h (fun x => x.map (Dev.ephLoad x.mem k c))]
  rfl

theorem exec_ephValidateInPlace {k : Fin 16} {s : State} (h : s.soc.answers (pgEPH + 0x11C + 64 * k.val) = true)
    (c : BitVec 11) :
    exec (.ephValidateInPlace k c) s = .next { s with soc := s.soc.map (Dev.ephValidate k c) } := by
  rw [← Soc.cmdReg_answers h]
  rfl

theorem exec_loadDone (dt : Nat) (k : Fin 16) (s : State) :
    exec (.loadDone dt k) s = .next { s with soc := (s.soc.after dt).chartLoaded k } := rfl

theorem exec_ephWindowWrite {s : State} (h : s.soc.answers pgEPH = true) (w : Fin 6144) (whole : Bool) (v : Word) :
    exec (.ephWindowWrite w whole v) s = .next { s with soc := s.soc.map (Dev.ephWindowWrite w whole v) } := by
  rw [← Soc.cmdReg_answers h]
  rfl

theorem exec_switched (dt : Nat) (k : Fin 16) (s : State) :
    exec (.switched dt k) s = .next { s with soc := (s.soc.after dt).map (Dev.switched k) } := rfl

theorem exec_fallback (dt : Nat) (k : Fin 16) (s : State) :
    exec (.fallback dt k) s = .next { s with soc := (s.soc.after dt).map (Dev.fallback k) } := rfl

theorem exec_returnRun (dt : Nat) (k : Fin 16) (s : State) :
    exec (.returnRun dt k) s = .next { s with soc := (s.soc.after dt).map (Dev.returnRun k) } := rfl

theorem exec_ephCntClr {k : Fin 16} {s : State} (h : s.soc.answers (pgEPH + 0x514 + 32 * k.val) = true) :
    exec (.ephCntClr k) s = .next { s with soc := s.soc.map (Dev.ephCntClr k) } := by
  rw [← Soc.cmdReg_answers h]
  rfl

/-! ### The statement -/

/-- Settles O12: each row is its operation on the device, and what its operation does after the fields it is told to write
(events, codes, level checks, the carrier's counts) stands in other registers or in other fields of the same word. -/
theorem chartsFireLoadAndSwitch : Obligations.ChartsFireLoadAndSwitch := by
  refine ⟨⟨?_, fun k s h hidle => ⟨?_, ?_⟩, ?_⟩, ?_, ?_, fun dt k s b hb => ⟨?_, fun hon hrun hfrozen => ⟨?_, ?_⟩, ?_⟩, ?_⟩
  · intro dt k s b r i hb hfire hcross hcarried hseen hfired hpass hedge
    subst hb
    exact ⟨_, exec_entryFire dt k s, rfl, Dev.entryFire_edge hfire hcross hcarried hseen hfired hpass hedge⟩
  · intro c lib n hlib hn hc hpos hsize
    refine ⟨_, exec_ephLoad h c, ?_⟩
    rw [Soc.map_dev, Dev.ephLoad_legal hidle hlib hn hc hpos hsize]
    obtain ⟨hloading, hchart, hcount, hend⟩ := s.soc.dev.startLoad_spec k c.toNat n (2000 + 8 * n)
    exact ⟨hloading, hchart, hcount, hend, rfl⟩
  · intro c hpos hsize
    refine ⟨_, exec_ephValidateInPlace h c, ?_⟩
    rw [Soc.map_dev, Dev.ephValidate_legal hidle hpos hsize]
    obtain ⟨hloading, hchart, hcount, hend⟩ := s.soc.dev.startLoad_spec k 0xFFFF c.toNat (2000 + 4 * c.toNat)
    exact ⟨hloading, hchart, hcount, hend, rfl⟩
  · intro dt k s b l hb hload hchart hl
    subst hb
    exact ⟨_, _, exec_loadDone dt k s, Soc.chartLoaded_mem _ _, Soc.chartLoaded_dev _ _,
      Dev.loadDone_inPlace hload hchart hl _ _⟩
  · intro w v k s h hregion hbank hidle hhost
    refine ⟨_, exec_ephWindowWrite h w true v, ?_⟩
    rw [Soc.map_dev, Dev.ephWindowWrite_stored v hregion hbank hidle hhost]
    exact ⟨by rw [mapGet_put, if_pos rfl], fun j hj => by rw [mapGet_put, if_neg hj], rfl⟩
  · intro w v s h hrefuse
    refine ⟨_, exec_ephWindowWrite h w true v, ?_⟩
    rw [Soc.map_dev, Dev.ephWindowWrite_refused v hrefuse]
    obtain ⟨heph, hcode, hregs⟩ := s.soc.dev.err_activeWrite
    exact ⟨heph, hcode, hregs, rfl⟩
  · intro r hfire hcross
    subst hb
    obtain ⟨harmed, hvalid, hcnt, hbank⟩ := ((s.soc.after dt).dev.fireUpTo k r).swapBanks_spec k
    exact ⟨_, _, _, exec_switched dt k s, rfl, rfl, harmed, hvalid, hcnt, hbank, Dev.switched_crossing hfire hcross, rfl⟩
  · intro hforce
    subst hb
    refine ⟨_, exec_fallback dt k s, ?_⟩
    rw [Soc.map_dev, Dev.fallback_takes hfrozen (Dev.fallReason_forced hon hrun hforce)]
    obtain ⟨hstate, hreason, -⟩ := (s.soc.after dt).dev.fallBack_spec k 5
    exact ⟨hstate, hreason, rfl⟩
  · intro hforce hslow
    subst hb
    refine ⟨_, exec_fallback dt k s, ?_⟩
    rw [Soc.map_dev, Dev.fallback_takes hfrozen (Dev.fallReason_slow hon hrun hforce hslow)]
    obtain ⟨hstate, hreason, hzero⟩ := (s.soc.after dt).dev.fallBack_spec k 1
    exact ⟨hstate, hreason, hzero, rfl⟩
  · intro hdue hfrozen
    subst hb
    obtain ⟨hstate, hdir⟩ := Dev.returnRun_spec hdue hfrozen
    exact ⟨_, exec_returnRun dt k s, hstate, hdir, rfl⟩
  · intro k s h
    obtain ⟨ha, hb, hregs, hoff⟩ := s.soc.dev.ephCntClr_spec k
    exact ⟨_, exec_ephCntClr h, ha, hb, hregs, hoff, rfl⟩

end Sys2Proof.Machine
